-- ==== Sys2Proof/Word.lean ====
section
/-! DEFINITION. The word types of the PF240 and the small index types its state is numbered by. -/

namespace Sys2Proof

/-- A character of a control port, a key link byte, or a byte of flash. -/
abbrev Byte := BitVec 8

/-- A value of the 32-bit microsecond count (R1), or of the 32-bit release sequence (R94). -/
abbrev Count := BitVec 32

/-- A module bus channel or key link channel: channel n is index n - 1. -/
abbrev Channel := Fin 16

/-- A sound module MOD1 to MOD8: module address n is index n - 1. -/
abbrev ModuleId := Fin 8

/-- A key link KL0 to KL3. -/
abbrev LinkId := Fin 4

/-- A footswitch FS1 to FS8: switch n is index n - 1. -/
abbrev SwitchId := Fin 8

/-- An expression pedal: EX1 is index 0, EX2 is index 1. -/
abbrev PedalId := Fin 2

/-- A song slot 0 to 63 (R145). -/
abbrev Slot := Fin 64

/-- A flash sector 0 to 65 (R145): 0 setup, 1 setlist, slot n at sector n + 2. -/
abbrev Sector := Fin 66

end Sys2Proof
end

