-- ==== Sys2Proof/Syntax.lean ====
section
/-! DEFINITION. The commands of the PF240: one constructor per row of spec/opcode_table.json. A request is a command of
a master: it names its port and carries its tag and its fields as they stand in the payload (Table 12-2), so that a
field out of range can be written down. An event of a line or a timer carries what the line shows. -/

namespace Sys2Proof

/-- The two control ports CP-A and CP-B (Section 11). -/
inductive Port where
  | a
  | b
  deriving DecidableEq, Repr

/-- The three click lines (R47). -/
inductive ClickLine where
  | accent
  | beat
  | sub
  deriving DecidableEq, Repr

/-- The commands that reach the PF240 from outside, and the events that come about in it by time. -/
inductive Instr where
  /-- Power is applied or RESET is released (R2). -/
  | powerOn
  /-- The crystal is seen running within the wait (R2). -/
  | crystalFound
  /-- 10 ms of the wait have passed with no running crystal (R2). -/
  | crystalWaitTimeout
  /-- A 50 µs gap with no crystal edge (R3). -/
  | crystalLoss
  /-- The tick interval countdown expires (R6). -/
  | intervalCountdownExpiry
  | start (p : Port) (tag : Byte)
  | stop (p : Port) (tag : Byte)
  | setTempo (p : Port) (tag : Byte) (tempo : BitVec 16)
  | setTempoSource (p : Port) (tag : Byte) (source : Byte)
  | mark (p : Port) (tag : Byte) (beatInBar : Byte)
  /-- The filtered REFIN level goes from LOW to HIGH (R25). -/
  | refinRisingEdge
  | holdoverTimerExpiry
  | holdoverPaceTimerExpiry
  | tap (p : Port) (tag : Byte)
  | clickPulseTimerExpiry (line : ClickLine)
  | clkoutPulseTimerExpiry
  | clickMute (p : Port) (tag : Byte) (setting : Byte)
  /-- A character arrives on a key link; `stop` is its stop bit (R55). -/
  | keyLinkCharacter (l : LinkId) (byte : Byte) (stop : Bool)
  | parserTakeByte (l : LinkId)
  | keepAliveTimerExpiry (l : LinkId)
  | layerEngineTakeEvent
  | toggleZone (p : Port) (tag : Byte) (index : Byte) (setting : Byte)
  /-- `record` is the 14 bytes of the zone record (Table 12-8). -/
  | editZone (p : Port) (tag : Byte) (bank : Byte) (index : Byte) (record : List Byte)
  | panic (p : Port) (tag : Byte)
  | endOfTransmission
  | idleTimerExpiry
  | moduleBusyAsserted (m : ModuleId)
  | moduleBusyDeasserted (m : ModuleId)
  | busyTimerExpiry (m : ModuleId)
  | pass (p : Port) (tag : Byte) (module : Byte) (kind : Byte) (channel : Byte) (value1 : BitVec 16) (value2 : Byte)
  | restart (p : Port) (tag : Byte)
  | restartSilenceEnd
  | cue (p : Port) (tag : Byte) (targetKind : Byte) (target : Byte) (boundary : Byte) (bar : BitVec 16) (firmness : Byte)
  | cancelCue (p : Port) (tag : Byte)
  | takeNow (p : Port) (tag : Byte)
  | settleTimerExpiry
  | retentionTimerExpiry
  | fetchEnd
  | readSong (p : Port) (tag : Byte) (slot : Byte)
  /-- `record` is the song record (Table 12-7). -/
  | writeSong (p : Port) (tag : Byte) (slot : Byte) (record : List Byte)
  | eraseSong (p : Port) (tag : Byte) (slot : Byte)
  | writeSetlist (p : Port) (tag : Byte) (count : Byte) (entries : List Byte)
  /-- `record` is the setup record (Table 12-9). -/
  | writeSetup (p : Port) (tag : Byte) (record : List Byte)
  | flashEraseEnd
  | recordWordsProgrammed
  /-- The read-back ends; `differs` says that the flash itself returned a word that is not the one programmed (R150). -/
  | readBackEnd (differs : Bool)
  | markerWordProgrammed
  | supplyLowAsserted
  | supplyLowDeasserted
  | setMode (p : Port) (tag : Byte) (mode : Byte)
  | setlistStep (p : Port) (tag : Byte) (direction : Byte)
  | footswitchPress (f : SwitchId)
  | footswitchRelease (f : SwitchId)
  | holdTimerExpiry (f : SwitchId)
  /-- The pending conversion ends with a raw value 0 to 1023 (R163, R164). -/
  | adcConversionEnd (raw : BitVec 10)
  | indicatorSlotStart
  | indicatorDriveEnd
  | beatFlashTimerExpiry
  | downbeatFlashTimerExpiry
  | blinkPhaseToggle
  /-- A character arrives on a control port; `stop` is its stop bit (R170). -/
  | controlPortCharacter (p : Port) (byte : Byte) (stop : Bool)
  | gapTimerExpiry (p : Port)
  /-- A request frame of any kind byte: answered UNKNOWN_KIND where Table 12-2 does not list the kind (R173, R183). -/
  | unknownKindRequest (p : Port) (tag : Byte) (kind : Byte) (payload : List Byte)
  | portFrameTransmitted (p : Port)
  | getStatus (p : Port) (tag : Byte) (group : Byte) (start : Byte)
  /-- `fields` is one byte for each of the 21 maskable notice kinds (R176). -/
  | setNoticeMask (p : Port) (tag : Byte) (fields : List Byte)
  | setPositionNotices (p : Port) (tag : Byte) (setting : Byte)
  /-- A sample of REFIN, true for HIGH (R25). -/
  | refinSample (high : Bool)
  /-- A sample of FS1 to FS8, bit n set for FS(n+1) CLOSED (R159). -/
  | footswitchSample (closed : BitVec 8)
  /-- A sample of MB1 to MB8, bit n set for module n+1 asserting BUSY (R108). -/
  | busyLineSample (asserted : BitVec 8)
  | adcConversionBegin
  | flashWordProgrammed
  deriving DecidableEq, Repr

end Sys2Proof
end

