-- ==== Sys2Proof/Config.lean ====
section
/-! DEFINITION. What the spec leaves open, as constants with no body: nothing can be proved of their values.
Each is applied to the counter `State.draws` (a fresh value at each draw) or to the operand it depends on. -/

namespace Sys2Proof.Config

/-- FREE. At a start mark the Follower's work and the grid's start may come in either order (R12, Section 2.10):
true means the Follower's tempo is set before the first interval is computed. Log entry 6. -/
opaque followerBeforeStart : Nat → Bool

/-- FREE. The order in which events due at one instant are taken ("either may be taken first"): the place the
`k`-th event takes among those before it, at draw `n`. Log entry 5. -/
opaque eventPlace : Nat → Nat → Nat

/-- FREE. The target tempo that TEMPO_FALLBACK carries when the active bank holds no song (R35). Log entry 7. -/
opaque fallbackTarget : Nat → Nat

/-- FREE. The two bytes written for a number above 65535 in a two-byte field (R182 gives no such width). Log entry 8. -/
opaque wideNumber : Nat → BitVec 16

/-- FREE. The one byte written for a number above 255 in a one-byte field (R182 gives no such width). Log entry 8. -/
opaque wideByte : Nat → BitVec 8

end Sys2Proof.Config
end

