-- ==== Sys2Proof/Machine/Arith.lean ====
section
/-! DEFINITION. Rounding, clamping, byte order and list helpers shared by every block ("Conventions" of 00_scope.md, R182). -/

namespace Sys2Proof.Machine

/-- "Rounded half up" of n / d for naturals: a quotient half way goes to the greater integer. -/
def roundHalfUp (n d : Nat) : Nat := (2 * n + d) / (2 * d)

/-- "Rounded half away from zero" of n / d: a quotient half way goes to the integer of greater magnitude. -/
def roundAway (n : Int) (d : Nat) : Int :=
  if 0 ≤ n then (roundHalfUp n.toNat d : Int) else -(roundHalfUp (-n).toNat d : Int)

/-- "Clamped to 3000..30000": the range of every tempo of the grid and the Follower (R5). -/
def clampTempo (n : Nat) : Nat := if n < 3000 then 3000 else if 30000 < n then 30000 else n

/-- A count that saturates at 65535. -/
def saturate (n : Nat) : Nat := if 65535 < n then 65535 else n

/-- Two bytes, the high byte first, as one number (R182). -/
def be16 (hi lo : Byte) : Nat := hi.toNat * 256 + lo.toNat

/-- A signed byte, as a transpose is written (R182). -/
def signedByte (b : Byte) : Int := b.toInt

/-- The bits `hi` down to `lo` of a byte, as a number. -/
def byteBits (b : Byte) (hi lo : Nat) : Nat := (b.toNat / 2 ^ lo) % 2 ^ (hi + 1 - lo)

/-- Byte `i` of a list of bytes, 0 beyond its end. -/
def byteAt (bs : List Byte) (i : Nat) : Byte := bs.getD i 0

/-- The `n` bytes from place `i` on. -/
def slice (bs : List Byte) (i n : Nat) : List Byte := (bs.drop i).take n

/-- Two consecutive bytes from place `i`, high byte first. -/
def word16At (bs : List Byte) (i : Nat) : Nat := be16 (byteAt bs i) (byteAt bs (i + 1))

/-- The numbers below `n`, as members of `Fin n`, in rising order. -/
def allFin (n : Nat) : List (Fin n) := List.finRange n

/-- What the examination of a waiting item decides for it (Table 7-6). -/
inductive Verdict where
  /-- its message is chosen -/
  | send
  /-- it keeps its place -/
  | wait
  /-- it is removed -/
  | drop
  deriving DecidableEq, Repr

/-- The result of examining a queue: what is left, the item chosen, and the items removed on the way. -/
structure Scan (α : Type) where
  rest : List α
  pick : Option α
  dropped : List α
  deriving DecidableEq, Repr

/-- Goes through a queue oldest first: items may be removed or keep their place until one is chosen; the items after it are
not examined (R112 to R115). -/
def scanQueue {α : Type} (judge : α → Verdict) : List α → Scan α
  | [] => ⟨[], none, []⟩
  | x :: xs =>
    match judge x with
    | .send => ⟨xs, some x, []⟩
    | .wait => let r := scanQueue judge xs; ⟨x :: r.rest, r.pick, r.dropped⟩
    | .drop => let r := scanQueue judge xs; ⟨r.rest, r.pick, x :: r.dropped⟩

/-- Inserts into a list in which everything `before` the new item stays ahead of it. -/
def insertBy {α : Type} (before : α → α → Bool) (x : α) : List α → List α
  | [] => [x]
  | y :: ys => if before x y then x :: y :: ys else y :: insertBy before x ys

/-- Insertion sort, keeping the order of items that neither stands before the other. -/
def sortBy {α : Type} (before : α → α → Bool) : List α → List α
  | [] => []
  | x :: xs => insertBy before x (sortBy before xs)

/-- The sum of the bytes of a list, modulo 256 (R170, R183). -/
def byteSum (bs : List Byte) : Byte := bs.foldl (· + ·) 0

end Sys2Proof.Machine
end

