-- ==== Sys2Proof/Machine/Blocks.lean ====
section
/-! DEFINITION. The state of each block of Table 0-1 as plain data, and the values its section gives it after power-on. Enumerated
types list their values in the order the spec's table gives them (R182 numbers them by that order). -/

namespace Sys2Proof.Machine

/-! ## Timers and the timebase (Section 1.1) -/

/-- A running timer: the count at its setting and the microseconds it was set for (R1). An idle timer is `none`. -/
structure Timer where
  setAt : Count
  micros : Nat
  deriving DecidableEq, Repr

/-- Table 1-1. -/
inductive Monitor where
  | crystalWait
  | crystalWatch
  | rcOnly
  deriving DecidableEq, Repr

/-- The timebase source (R1). -/
inductive Source where
  | crystal
  | rc
  deriving DecidableEq, Repr

/-- The timebase: crystal monitor, source (none yet in CRYSTAL_WAIT), microsecond count, and the microseconds of the crystal wait as
the RC oscillator times them (R2). -/
structure Timebase where
  monitor : Monitor
  source : Option Source
  count : Count
  waited : Nat
  deriving DecidableEq, Repr

/-- R2: power-on enters CRYSTAL_WAIT, the count not running. -/
def Timebase.powerOn : Timebase := ⟨.crystalWait, none, 0, 0⟩

/-! ## The tempo grid (Sections 1.2 to 1.8) -/

inductive TempoSource where
  | internal
  | follow
  | tap
  deriving DecidableEq, Repr

/-- Table 1-3. -/
inductive Transport where
  | stopped
  | startPending
  | countIn
  | running
  deriving DecidableEq, Repr

/-- The show position bar.beat.tick (R8). -/
structure Position where
  bar : Int
  beat : Nat
  tick : Nat
  deriving DecidableEq, Repr

/-- 1.1.0. -/
def Position.top : Position := ⟨1, 1, 0⟩

/-- The ramp record (R19). -/
structure Ramp where
  start : Nat
  target : Nat
  beats : Nat
  done : Nat
  deriving DecidableEq, Repr

/-- The correction record (R21). `counting` says that the interval now counting was computed after the record was made, so that
the tick that ends it counts. -/
structure Correction where
  tempo : Nat
  remaining : Nat
  counting : Bool
  deriving DecidableEq, Repr

/-- The tempo grid. `fresh` says that T_g has changed since the interval now counting was computed (R7). -/
structure Grid where
  tempo : Nat
  source : TempoSource
  remainder : Nat
  countdown : Option Timer
  fresh : Bool
  position : Position
  meter : Nat
  transport : Transport
  ramp : Option Ramp
  correction : Option Correction
  deriving DecidableEq, Repr

/-- Table 1-5. -/
def Grid.initial : Grid :=
  ⟨12000, .internal, 0, none, false, Position.top, 4, .stopped, none, none⟩

/-! ## The Follower and the tap timer (Section 2) -/

inductive FollowState where
  | off
  | seeking
  | locked
  | holdover
  | lost
  deriving DecidableEq, Repr

/-- Table 2-1. P is computed from T_f (`Follower.period`), so it is not stored. The REFIN filter holds the last sample (none before the
first) and the filtered level (none for UNKNOWN; true for HIGH). -/
structure Follower where
  state : FollowState
  tempo : Nat
  reference : Option Count
  intervals : List Nat
  outliers : Nat
  holdoverTimer : Option Timer
  holdoverBeats : Nat
  paceTimer : Option Timer
  refinSample : Option Bool
  refinLevel : Option Bool
  deriving DecidableEq, Repr

/-- Table 2-4. -/
def Follower.initial : Follower := ⟨.off, 12000, none, [], 0, none, 0, none, none, none⟩

/-- The tap sequence and the last tap tempo (R39, R40). -/
structure TapTimer where
  last : Option Count
  intervals : List Nat
  tempo : Option Nat
  deriving DecidableEq, Repr

/-- Table 2-4. -/
def TapTimer.initial : TapTimer := ⟨none, [], none⟩

/-! ## The Click Generator (Section 3) -/

inductive Accent where
  | accent
  | beat
  | silent
  deriving DecidableEq, Repr

/-- The Click Generator. A line is high while its pulse timer runs (R47, R50). -/
structure Click where
  subdivision : Nat
  accents : List Accent
  mute : Bool
  accentLine : Option Timer
  beatLine : Option Timer
  subLine : Option Timer
  clkout : Option Timer
  drops : Nat
  deriving DecidableEq, Repr

/-- The built-in pattern of R42: beat 1 ACCENT, beats 2 to 15 BEAT. -/
def Click.builtIn : List Accent := .accent :: List.replicate 14 .beat

/-- Table 3-4. -/
def Click.initial : Click := ⟨1, Click.builtIn, false, none, none, none, none, 0⟩

/-! ## The key links (Section 4) -/

/-- The channel message kinds of Table 4-2. -/
inductive ChannelKind where
  | noteOff
  | noteOn
  | keyPressure
  | controller
  | program
  | channelPressure
  | bend
  deriving DecidableEq, Repr

inductive ParseMode where
  | normal
  | waitStatus
  | exclusive
  deriving DecidableEq, Repr

inductive KeepAlive where
  | neverSeen
  | alive
  | silent
  deriving DecidableEq, Repr

/-- What a link hands to the Layer Engine (R62). -/
inductive KeyEvent where
  | strike (channel : Channel) (key velocity : Nat)
  | controller (channel : Channel) (number value : Nat)
  | bend (channel : Channel) (value : Nat)
  deriving DecidableEq, Repr

/-- A good byte in the receive FIFO, with the gap mark it carries (R56) and its arrival (R66). -/
structure FifoByte where
  byte : Byte
  gap : Bool
  arrival : Count
  deriving DecidableEq, Repr

/-- Table 4-1. `commonLeft` counts the data bytes still owed by a system common message (R58). `sustain` has bit n set when channel
n + 1 is sustained. -/
structure KeyLink where
  fifo : List FifoByte
  gap : Bool
  running : Option (ChannelKind × Channel)
  collected : Option Byte
  commonLeft : Nat
  mode : ParseMode
  event : Option KeyEvent
  keepAlive : KeepAlive
  timer : Option Timer
  sustain : BitVec 16
  footSustain : Bool
  framing : Nat
  overruns : Nat
  deriving DecidableEq, Repr

/-- Table 4-5. -/
def KeyLink.initial : KeyLink :=
  ⟨[], false, none, none, 0, .waitStatus, none, .neverSeen, none, 0, false, 0, 0⟩

/-! ## Zones, songs and scene banks (Sections 5.1, 8.1, 12.5) -/

inductive Curve where
  | linear
  | soft
  | hard
  | fixed
  deriving DecidableEq, Repr

/-- Table 5-1. A source channel of ANY, a pedal of NONE are `none`. `links` has bit n set for KLn. -/
structure Zone where
  enabled : Bool
  links : BitVec 4
  source : Option Channel
  keyLow : Nat
  keyHigh : Nat
  velLow : Nat
  velHigh : Nat
  module : ModuleId
  channel : Channel
  transpose : Int
  curve : Curve
  fixedVelocity : Nat
  level : Nat
  pedal : Option PedalId
  passControllers : Bool
  deriving DecidableEq, Repr

/-- A program entry of a song (Table 12-8). -/
structure ProgramEntry where
  module : ModuleId
  channel : Channel
  program : Nat
  preset : Option Nat
  deriving DecidableEq, Repr

/-- A song image: the header, the zones and the program list (Table 12-7). -/
structure Song where
  name : List Byte
  tempo : Nat
  source : TempoSource
  meter : Nat
  subdivision : Nat
  countIn : Nat
  rampBeats : Nat
  accents : List Accent
  zones : List Zone
  programs : List ProgramEntry
  deriving DecidableEq, Repr

inductive BankId where
  | a
  | b
  deriving DecidableEq, Repr

/-- The role of a bank (Table 8-1), computed from which bank is ACTIVE and whether the other is RETAINED. -/
inductive BankRole where
  | active
  | standby
  | retained
  deriving DecidableEq, Repr

/-- Table 8-1, apart from the role. -/
structure Bank where
  image : Option Song
  enabled : List Bool
  overflow : Nat
  source : Option Slot
  deriving DecidableEq, Repr

/-- Table 8-7: content EMPTY, source slot none, layer-overflow count 0. -/
def Bank.empty : Bank := ⟨none, [], 0, none⟩

/-- The two banks, which of them is ACTIVE, and whether the other is RETAINED rather than STANDBY (R124). -/
structure Banks where
  a : Bank
  b : Bank
  active : BankId
  retained : Bool
  deriving DecidableEq, Repr

/-- Table 8-7. -/
def Banks.initial : Banks := ⟨Bank.empty, Bank.empty, .a, false⟩

/-! ## The Layer Engine (Section 5) -/

/-- A key-on item (R74). The entry is named by the model's own serial number. -/
structure KeyOnItem where
  entry : Nat
  dest : Nat
  velocity : Nat
  deriving DecidableEq, Repr

inductive ControlId where
  | controller (number : Nat)
  | bend
  deriving DecidableEq, Repr

/-- A controller item (R76, R77). -/
structure ControlItem where
  module : ModuleId
  channel : Channel
  control : ControlId
  value : Nat
  deriving DecidableEq, Repr

/-- The Layer Engine: key-on queue, controller queue, one level slot per zone of the ACTIVE bank, drop counts, link served last. -/
structure Layer where
  keyOns : List KeyOnItem
  controls : List ControlItem
  levels : List (Option Nat)
  keyOnDrops : Nat
  controlDrops : Nat
  lastServed : LinkId
  deriving DecidableEq, Repr

/-- Table 5-3. -/
def Layer.initial : Layer := ⟨[], [], [], 0, 0, 3⟩

/-! ## The Held-Note Table (Section 6) -/

inductive KeyOnFlag where
  | queued
  | sent
  | dropped
  deriving DecidableEq, Repr

/-- Table 6-3. -/
structure Dest where
  module : ModuleId
  channel : Channel
  key : Nat
  flag : KeyOnFlag
  ended : Bool
  deriving DecidableEq, Repr

/-- Table 6-2; a RELEASING entry carries its release sequence number (R94). -/
inductive EntryState where
  | sounding
  | sustained
  | releasing (sequence : Count)
  deriving DecidableEq, Repr

/-- Table 6-1, with the model's own serial number by which key-on items name the entry. -/
structure Entry where
  serial : Nat
  link : LinkId
  channel : Channel
  key : Nat
  velocity : Nat
  bank : BankId
  strikeTime : Count
  state : EntryState
  dests : List Dest
  deriving DecidableEq, Repr

/-- The Held-Note Table: entries in the order made, the next release sequence number, the drop counts and the bar of the last
NOTE_TABLE_FULL; `nextSerial` is the model's own. -/
structure Notes where
  entries : List Entry
  nextRelease : Count
  drops : Nat
  dropsSince : Nat
  lastBar : Option Int
  nextSerial : Nat
  deriving DecidableEq, Repr

/-- Table 6-4. -/
def Notes.initial : Notes := ⟨[], 1, 0, 0, none, 0⟩

/-! ## The module bus (Section 7) -/

inductive ModuleMode where
  | disabled
  | ready
  | loading
  | stalled
  deriving DecidableEq, Repr

/-- The state of one module address: mode, busy filter (level true for ASSERTED; agreeing samples), busy timer, discard count. -/
structure ModuleState where
  mode : ModuleMode
  busy : Bool
  agreeing : Nat
  timer : Option Timer
  discards : Nat
  deriving DecidableEq, Repr

/-- Table 7-7 before setup is read; every busy filter DEASSERTED with no samples counted (R108). -/
def ModuleState.initial : ModuleState := ⟨.disabled, false, 0, none, 0⟩

/-- Table 7-2. The all-modules SILENCE is `silence` on channel 16 to address 0. -/
inductive Message where
  | keyOn (channel : Channel) (key velocity : Nat)
  | keyOff (channel : Channel) (key : Nat)
  | level (channel : Channel) (value : Nat)
  | control (channel : Channel) (number value : Nat)
  | bend (channel : Channel) (value : Nat)
  | program (channel : Channel) (program : Nat)
  | silence (channel : Channel)
  | click (channel : Channel) (strength : Nat)
  deriving DecidableEq, Repr

/-- A message for one module. -/
structure Addressed where
  module : ModuleId
  message : Message
  deriving DecidableEq, Repr

/-- An item of the REALTIME queue: the all-modules SILENCE of a panic, or a CLICK (R112). -/
inductive RealtimeItem where
  | silence
  | click (item : Addressed)
  deriving DecidableEq, Repr

inductive NextMessage where
  | program
  | level
  deriving DecidableEq, Repr

inductive PostKind where
  | take
  | resync
  deriving DecidableEq, Repr

/-- An entry of the pending program list (R117). -/
structure PendingProgram where
  module : ModuleId
  channel : Channel
  program : Nat
  preset : Option Nat
  next : NextMessage
  kind : PostKind
  deriving DecidableEq, Repr

/-- The address the modules last heard (R106). -/
inductive Selection where
  | none
  | all
  | module (m : ModuleId)
  deriving DecidableEq, Repr

/-- A transmission in progress: its address (none for address 0), whether an address character precedes the message, the message,
whether it is a message of a TAKE entry (R119), whether it is the restart's SILENCE (R122), and the time it takes. -/
structure Transmission where
  target : Option ModuleId
  addressed : Bool
  message : Message
  fromTake : Bool
  forRestart : Bool
  timer : Timer
  deriving DecidableEq, Repr

/-- Table 7-1. The program state table is one cell per module and channel. -/
structure Bus where
  modules : Vector ModuleState 8
  cells : Vector (Vector (Option Nat) 16) 8
  pending : List PendingProgram
  realtime : List RealtimeItem
  pass : List Addressed
  selection : Selection
  idleTimer : Option Timer
  transmission : Option Transmission
  deriving DecidableEq, Repr

/-- R118: at power-on and at restart every cell is none. -/
def Bus.noCells : Vector (Vector (Option Nat) 16) 8 := Vector.replicate 8 (Vector.replicate 16 none)

/-- Table 7-7 at power-on, before setup is read. -/
def Bus.initial : Bus := ⟨Vector.replicate 8 ModuleState.initial, Bus.noCells, [], [], [], .none, none, none⟩

/-! ## The Change Sequencer (Section 8) -/

inductive TargetKind where
  | setlist
  | slot
  deriving DecidableEq, Repr

/-- A boundary; AT_BAR carries its bar (Table 8-2). -/
inductive Boundary where
  | immediate
  | nextBeat
  | nextBar
  | atBar (bar : Nat)
  deriving DecidableEq, Repr

inductive Firmness where
  | soft
  | firm
  deriving DecidableEq, Repr

inductive Origin where
  | port (p : Port)
  | pedal
  | link (l : LinkId)
  deriving DecidableEq, Repr

inductive CueState where
  | waiting
  | loading
  | armed
  deriving DecidableEq, Repr

/-- Table 8-2. -/
structure Cue where
  kind : TargetKind
  target : Nat
  slot : Slot
  boundary : Boundary
  firmness : Firmness
  origin : Origin
  state : CueState
  deriving DecidableEq, Repr

inductive TakePhase where
  | none
  | switching
  deriving DecidableEq, Repr

/-- The settle timer (R139): idle, running, or expired since the take. -/
inductive SettleTimer where
  | idle
  | running (timer : Timer)
  | expired
  deriving DecidableEq, Repr

/-- The Change Sequencer: cue slot, take phase, settle timer, retention timer, take module list (bit n for module n + 1) and the count
at the take (for the time CHANGE_SETTLED carries, R140). -/
structure Sequencer where
  cue : Option Cue
  phase : TakePhase
  settle : SettleTimer
  retention : Option Timer
  takeModules : BitVec 8
  takeTime : Count
  deriving DecidableEq, Repr

/-- Table 8-7. -/
def Sequencer.initial : Sequencer := ⟨none, .none, .idle, none, 0, 0⟩

/-- Where a reset in progress stands (R142, R143, R158, R173): none; a restart waiting for the end of its SILENCE; the reading of setup;
the reading of the setlist; the fetch of the initial song. -/
inductive ResetPhase where
  | none
  | silence
  | setup
  | setlist
  | song (entry : Nat)
  deriving DecidableEq, Repr

/-! ## The Song Store (Section 9) -/

inductive PartMode where
  | prep
  | show
  deriving DecidableEq, Repr

/-- Who asked for a fetch (R146). -/
inductive FetchKind where
  | cue
  | initial
  | readSong (p : Port)
  | setup
  | setlist
  deriving DecidableEq, Repr

structure Fetch where
  kind : FetchKind
  sector : Sector
  deriving DecidableEq, Repr

inductive OpKind where
  | write
  | erase
  deriving DecidableEq, Repr

/-- The phases of R149; `words done` is PROGRAMMING with `done` words programmed, the header word being the first. -/
inductive OpPhase where
  | erasing
  | words (done : Nat)
  | verifying
  | marker
  deriving DecidableEq, Repr

/-- The store operation in progress: kind, sector, origin port, phase, the record being written, whether SUPPLY_LOW has stopped it after the
step in progress (R151), and the time of the word or the read-back in progress (R149); the time of an erase is the flash's own. -/
structure StoreOp where
  kind : OpKind
  sector : Sector
  port : Port
  phase : OpPhase
  record : List Byte
  stopping : Bool
  timer : Option Timer
  deriving DecidableEq, Repr

/-- What the flash is doing: IDLE, FETCHING, or ERASING, PROGRAMMING, VERIFYING by the operation's phase (Table 9-2). -/
inductive Activity where
  | idle
  | fetching (f : Fetch)
  | operating (op : StoreOp)
  deriving DecidableEq, Repr

/-- The states of Table 9-2. -/
inductive StoreState where
  | idle
  | fetching
  | erasing
  | programming
  | verifying
  deriving DecidableEq, Repr

/-- Table 9-1. A setlist position of OFF_LIST and an active slot of none are `none`. The SUPPLY_LOW filter holds the line's level as it was
last shown to the part (true for ASSERTED), the last sample (none before the first), the filtered level `supplyLow`, and the timer of the
next sample (R151, log entry 25). -/
structure Store where
  activity : Activity
  queue : List Fetch
  mode : PartMode
  supplyLine : Bool
  supplySample : Option Bool
  supplyLow : Bool
  supplyTimer : Option Timer
  setlist : List Slot
  position : Option Nat
  activeSlot : Option Slot
  deriving DecidableEq, Repr

/-- Table 9-4 at power-on; no sample is taken before the count starts (R151). -/
def Store.initial : Store := ⟨.idle, [], .prep, false, none, false, none, [], some 0, none⟩

/-- Table 9-4 at the instant `now` at which the count starts: the sampling of SUPPLY_LOW begins then (R151). -/
def Store.startAt (now : Count) : Store := { Store.initial with supplyTimer := some ⟨now, 0⟩ }

/-! ## The pedal board (Section 10) -/

/-- Table 10-3. -/
inductive Action where
  | none
  | startStop
  | tap
  | clickMute
  | zoneToggle (zone : Nat)
  | sustain (links : BitVec 4)
  | setlistStep (forward : Bool)
  | cueEntry (entry : Nat)
  | cancelCue
  | takeNow
  deriving DecidableEq, Repr

inductive SwitchMode where
  | up
  | down
  | held
  deriving DecidableEq, Repr

/-- One footswitch (Table 10-1). The raw sample and the debounced level are true for CLOSED; the level is none for UNKNOWN. -/
structure Switch where
  raw : Bool
  level : Option Bool
  count : Nat
  hold : Option Timer
  mode : SwitchMode
  inert : Bool
  deriving DecidableEq, Repr

/-- Table 10-8; the raw sample, the mode and the inert mark are set by the first sample, and stand at OPEN, UP and clear until then (log
entry 36). -/
def Switch.initial : Switch := ⟨false, none, 0, none, .up, false⟩

inductive PedalMode where
  | normal
  | uncalibrated
  | disconnected
  deriving DecidableEq, Repr

/-- One expression pedal (Table 10-1). -/
structure Pedal where
  raw : Option Nat
  output : Nat
  rawAtChange : Option Nat
  mode : PedalMode
  deriving DecidableEq, Repr

/-- Table 10-8 under the default calibration. -/
def Pedal.initial : Pedal := ⟨none, 127, none, .normal⟩

/-- Table 10-6. -/
inductive Indicator where
  | off
  | beat
  | downbeat
  | transport
  | countIn
  | cue
  | switching
  | retained
  | follow
  | clickMute
  | zone (index : Nat)
  | module (m : ModuleId)
  | anyStall
  | linkSilent (l : LinkId)
  | pedalFault
  | footswitch (f : SwitchId)
  | timebase
  | showMode
  | storeBusy
  deriving DecidableEq, Repr

/-- The Pedal Board Scanner (Table 10-1). `adcNext` is the pedal the next conversion takes, `adcBusy` the pending conversion's pedal;
`scanned` says that the first slot has begun; `columns` are the columns driven now; the timers `slotTimer`, `adcTimer`, `blinkTimer`
pace the 1 ms slots, the 2 ms conversions and the 250 ms blink. -/
structure Board where
  switches : Vector Switch 8
  pedals : Vector Pedal 2
  adcNext : PedalId
  adcBusy : Option PedalId
  adcTimer : Option Timer
  image : BitVec 32
  row : Nat
  scanned : Bool
  columns : BitVec 8
  slotTimer : Option Timer
  driveTimer : Option Timer
  beatFlash : Option Timer
  downbeatFlash : Option Timer
  blink : Bool
  blinkTimer : Option Timer
  deriving DecidableEq, Repr

/-- The board with its drivers off and no timer running, as in CRYSTAL_WAIT (R2). -/
def Board.off : Board :=
  ⟨Vector.replicate 8 Switch.initial, Vector.replicate 2 Pedal.initial, 0, none, none, 0, 1, false, 0, none, none, none, none, true, none⟩

/-- Table 10-8 at the instant `now`: the first slot and the first conversion begin then (R163, R166), and the blink phase is ON from
then (R167). -/
def Board.startAt (now : Count) : Board :=
  { Board.off with
    adcTimer := some ⟨now, 0⟩
    slotTimer := some ⟨now, 0⟩
    blinkTimer := some ⟨now, 250000⟩ }

/-! ## The control ports (Section 11) -/

inductive AssemblerPhase where
  | hunt
  | length
  | header
  | payload
  | check
  deriving DecidableEq, Repr

/-- A complete request frame. -/
structure Frame where
  kind : Byte
  tag : Byte
  payload : List Byte
  deriving DecidableEq, Repr

/-- The frame in assembly (Table 11-1): the first length character when taken, the length, the kind and tag when taken, the payload so
far, and the running sum. -/
structure Assembly where
  lengthHigh : Option Byte
  length : Nat
  kind : Option Byte
  tag : Option Byte
  payload : List Byte
  sum : Byte
  deriving DecidableEq, Repr

/-- No frame in assembly. -/
def Assembly.none : Assembly := ⟨.none, 0, .none, .none, [], 0⟩

inductive LossCause where
  | gap
  | check
  | length
  | framing
  | full
  deriving DecidableEq, Repr

inductive DegradedCause where
  | noCrystal
  | crystalLost
  deriving DecidableEq, Repr

inductive FaultCause where
  | verify
  | supplyLow
  deriving DecidableEq, Repr

inductive CueFailure where
  | notValid
  | held
  | noSong
  deriving DecidableEq, Repr

/-- The kind of a notice with the fields of its kind (Table 11-5), in the order of the notice codes (Table 12-3). -/
inductive NoticeBody where
  | timebaseDegraded (cause : DegradedCause)
  | followState (new prev : FollowState) (tempo : Nat) (source : TempoSource)
  | moduleState (m : ModuleId) (new prev : ModuleMode) (resyncPosts : Option Nat)
  | storeFault (cause : FaultCause) (kind : OpKind) (sector : Sector)
  | forcedRelease (bank : BankId) (moved : Nat)
  | noticesLost (count : Nat)
  | transport (state : Transport) (position : Position)
  | position (state : Transport) (tempo : Nat)
  | cueAccepted (kind : TargetKind) (target : Nat) (slot : Slot) (boundary : Boundary) (firmness : Firmness)
  | cueSuperseded (target : Nat) (slot : Slot) (origin : Origin) (state : CueState) (replaced : Bool)
  | cueFailed (cause : CueFailure) (target : Option Nat) (slot : Option Slot)
  | armed (slot : Slot) (boundary : Boundary)
  | taken (bank : BankId) (slot : Option Slot) (setlistPosition : Option Nat) (position : Position) (transport : Transport)
      (source : TempoSource) (tempo : Nat) (oldRetained : Bool)
  | changeSettled (failed : BitVec 8) (millis : Nat)
  | tempoFallback (before target : Nat)
  | barRealigned (before after : Position)
  | noteTableFull (channel : Channel) (key drops : Nat)
  | linkState (new prev : KeepAlive) (framing overruns : Nat) (moved : Option Nat)
  | pedalState (pedal : PedalId) (new prev : PedalMode) (raw output : Nat)
  | storeDone (kind : OpKind) (sector : Sector)
  | modeChanged (mode : PartMode)
  | requestLost (cause : LossCause) (kind tag : Option Byte)
  deriving DecidableEq, Repr

/-- A notice record (R178). -/
structure Notice where
  body : NoticeBody
  urgent : Bool
  position : Position
  origin : Option Origin
  deriving DecidableEq, Repr

inductive SentKind where
  | reply
  | notice
  deriving DecidableEq, Repr

/-- A frame on a port's transmit line: its sort, its characters and the time they take (R174). -/
structure PortFrame where
  sort : SentKind
  bytes : List Byte
  timer : Timer
  deriving DecidableEq, Repr

inductive PositionSetting where
  | off
  | bar
  | beat
  deriving DecidableEq, Repr

/-- Table 11-1. `inService` is the request in service, `reply` the payload of a decided reply whose transmission has not begun, `sending`
the frame being transmitted. The mask has bit c - 1 set when the kind of code c is ON. -/
structure ControlPort where
  phase : AssemblerPhase
  assembly : Assembly
  gapTimer : Option Timer
  buffer : List Frame
  inService : Option Frame
  reply : Option (List Byte)
  lastSent : Option SentKind
  notices : List Notice
  mask : BitVec 22
  positions : PositionSetting
  overflow : Bool
  lost : Nat
  sending : Option PortFrame
  deriving DecidableEq, Repr

/-- Table 11-6 at power-on. -/
def ControlPort.initial : ControlPort :=
  ⟨.hunt, Assembly.none, none, [], none, none, none, [], BitVec.allOnes 22, .off, false, 0, none⟩

/-! ## The setup record (Tables 2-2, 3-1, 4-3, 7-4, 8-6, 9-3, 10-4, 10-5, 10-7) -/

inductive FollowSource where
  | cpA
  | cpB
  | refin
  deriving DecidableEq, Repr

inductive OnLoss where
  | freewheel
  | songTempo
  deriving DecidableEq, Repr

/-- The setup fields in use. A click module address of 0 is `none`; the foot boundary is never AT_BAR. -/
structure Setup where
  followSource : FollowSource
  tolerance : Nat
  holdoverBeats : Nat
  onLoss : OnLoss
  clickModule : Option ModuleId
  clickChannel : Channel
  clkoutRate : Nat
  linkEnable : BitVec 4
  programAsCue : BitVec 4
  footBoundary : Boundary
  fastBus : Bool
  classOrder : Nat
  moduleMask : BitVec 8
  stallMillis : Nat
  retentionMillis : Nat
  debounce : Nat
  holdMillis : Nat
  switches : Vector (Action × Action) 8
  calibration : Vector (Nat × Nat) 2
  brightness : Nat
  indicators : Vector Indicator 32
  startMode : PartMode
  deriving DecidableEq, Repr

/-- Table 10-4: press and hold actions by default. -/
def Setup.defaultSwitches : Vector (Action × Action) 8 :=
  #v[(.startStop, .none), (.tap, .none), (.setlistStep false, .cancelCue), (.setlistStep true, .takeNow),
     (.clickMute, .none), (.zoneToggle 1, .none), (.zoneToggle 2, .none), (.sustain 15, .none)]

/-- Table 10-7: the indicator source table by default. -/
def Setup.defaultIndicators : Vector Indicator 32 :=
  #v[.beat, .downbeat, .transport, .cue, .follow, .clickMute, .anyStall, .timebase,
     .footswitch 0, .footswitch 1, .footswitch 2, .footswitch 3, .footswitch 4, .footswitch 5, .footswitch 6, .footswitch 7,
     .zone 0, .zone 1, .zone 2, .zone 3, .zone 4, .zone 5, .zone 6, .zone 7,
     .zone 8, .zone 9, .zone 10, .zone 11, .zone 12, .zone 13, .zone 14, .zone 15]

/-- The defaults, used while the setup record is absent or invalid (R155). -/
def Setup.default : Setup :=
  { followSource := .refin, tolerance := 4, holdoverBeats := 16, onLoss := .freewheel
    clickModule := none, clickChannel := 0, clkoutRate := 1
    linkEnable := 15, programAsCue := 0, footBoundary := .nextBar
    fastBus := false, classOrder := 0, moduleMask := 255, stallMillis := 3000, retentionMillis := 10000
    debounce := 10, holdMillis := 600, switches := Setup.defaultSwitches
    calibration := #v[(0, 1019), (0, 1019)], brightness := 6, indicators := Setup.defaultIndicators
    startMode := .prep }

end Sys2Proof.Machine
end

