-- ==== Sys2Proof/Machine/State.lean ====
section
/-! DEFINITION. The whole state of the PF240, its faults and refusals, and the state right after power-on reset. -/

namespace Sys2Proof.Machine

/-- Why a step can stop with a fault: never. Every command of the table has an effect the spec gives, so no constructor stands here. -/
inductive Fault where
  deriving DecidableEq, Repr

/-- Why a step can be refused. -/
inductive Refusal where
  /-- Raised by exec for a command that has no meaning yet; safe, since no next state is claimed. No arm raises it now. -/
  | notModelled (mnemonic : String)
  deriving DecidableEq, Repr

/-- The state of the PF240: every block of Table 0-1, the flash, the setup fields in use, where a reset in progress stands; and two
fields of the model's own: the count of free values drawn, and the commands waiting, first in, first out. -/
structure State where
  timebase : Timebase
  setup : Setup
  resetting : ResetPhase
  grid : Grid
  follower : Follower
  tap : TapTimer
  click : Click
  links : Vector KeyLink 4
  layer : Layer
  notes : Notes
  bus : Bus
  banks : Banks
  seq : Sequencer
  store : Store
  flash : List Host.Cell
  board : Board
  portA : ControlPort
  portB : ControlPort
  draws : Nat
  pending : List Instr
  deriving DecidableEq, Repr

/-- The part right after power is applied or RESET is released (R2): the crystal monitor is in CRYSTAL_WAIT and no other block has begun.
The blocks are written with the values they take when the count starts; the flash is erased (log entry 2). -/
def State.reset : State where
  timebase := Timebase.powerOn
  setup := Setup.default
  resetting := .none
  grid := Grid.initial
  follower := Follower.initial
  tap := TapTimer.initial
  click := Click.initial
  links := Vector.replicate 4 KeyLink.initial
  layer := Layer.initial
  notes := Notes.initial
  bus := Bus.initial
  banks := Banks.initial
  seq := Sequencer.initial
  store := Store.initial
  flash := []
  board := Board.off
  portA := ControlPort.initial
  portB := ControlPort.initial
  draws := 0
  pending := []

end Sys2Proof.Machine
end

