-- ==== Sys2Proof/Machine/Ops.lean ====
section
/-! DEFINITION. The named operations every block uses: timers against the microsecond count, access to the numbered parts of the state,
the flash as memory, free values, and the posting of notices. -/

namespace Sys2Proof.Machine

/-! ## Timers (R1) -/

/-- The count value at which a timer is due. -/
def Timer.due (t : Timer) : Count := t.setAt + BitVec.ofNat 32 t.micros

/-- Whether the count has advanced by the timer's time since its setting, measured modulo 2^32 (R1). -/
def Timer.elapsed (t : Timer) (now : Count) : Bool := t.micros ≤ (now - t.setAt).toNat

/-- The microseconds from a past count value to the present one, modulo 2^32 (R1). -/
def since (now past : Count) : Nat := (now - past).toNat

/-- The present count. -/
def State.now (s : State) : Count := s.timebase.count

/-- The same state with the count at `c`. -/
def State.atCount (s : State) (c : Count) : State := { s with timebase := { s.timebase with count := c } }

/-- A timer set now for `d` µs. -/
def State.timer (s : State) (d : Nat) : Timer := ⟨s.now, d⟩

/-- The work `f` of a timer's expiry: done at the count value at which the timer was due, which every interval measured from it uses
(R3). Where the count had not reached that value the expiry brings it there; where it had passed it, it stays (log entry 4). -/
def expireAt (t : Timer) (f : State → State) (s : State) : State :=
  if t.elapsed s.now then (f (s.atCount t.due)).atCount s.now else f (s.atCount t.due)

/-! ## Numbered parts of the state -/

def setAt {α : Type} {n : Nat} (v : Vector α n) (i : Fin n) (x : α) : Vector α n := v.set i.1 x i.2

def getAt {α : Type} {n : Nat} (v : Vector α n) (i : Fin n) : α := v[i.1]

def State.port (s : State) : Port → ControlPort
  | .a => s.portA
  | .b => s.portB

def State.setPort (s : State) (p : Port) (x : ControlPort) : State :=
  match p with
  | .a => { s with portA := x }
  | .b => { s with portB := x }

def State.link (s : State) (l : LinkId) : KeyLink := getAt s.links l

def State.setLink (s : State) (l : LinkId) (x : KeyLink) : State := { s with links := setAt s.links l x }

def State.module (s : State) (m : ModuleId) : ModuleState := getAt s.bus.modules m

def State.setModule (s : State) (m : ModuleId) (x : ModuleState) : State :=
  { s with bus := { s.bus with modules := setAt s.bus.modules m x } }

def State.switch (s : State) (f : SwitchId) : Switch := getAt s.board.switches f

def State.setSwitch (s : State) (f : SwitchId) (x : Switch) : State :=
  { s with board := { s.board with switches := setAt s.board.switches f x } }

def State.pedal (s : State) (p : PedalId) : Pedal := getAt s.board.pedals p

def State.setPedal (s : State) (p : PedalId) (x : Pedal) : State :=
  { s with board := { s.board with pedals := setAt s.board.pedals p x } }

/-- Adds one to a module's discard count, saturating at 65535 (R123). -/
def State.discard (s : State) (m : ModuleId) : State :=
  s.setModule m { s.module m with discards := saturate ((s.module m).discards + 1) }

def State.bank (s : State) : BankId → Bank
  | .a => s.banks.a
  | .b => s.banks.b

def State.setBank (s : State) (k : BankId) (x : Bank) : State :=
  match k with
  | .a => { s with banks := { s.banks with a := x } }
  | .b => { s with banks := { s.banks with b := x } }

/-- The cell of the program state table for a module and channel (R118). -/
def Bus.cell (b : Bus) (m : ModuleId) (c : Channel) : Option Nat := getAt (getAt b.cells m) c

/-- A cell takes a program (R118). -/
def Bus.setCell (b : Bus) (m : ModuleId) (c : Channel) (p : Nat) : Bus :=
  { b with cells := setAt b.cells m (setAt (getAt b.cells m) c (some p)) }

/-! ## Free values -/

/-- A new value of the draw counter: the free value drawn is a constant of Config applied to the old one. -/
def State.drew (s : State) : State := { s with draws := s.draws + 1 }

/-- Puts events due at one instant into an order that nothing fixes (log entry 5). A list of fewer than two has one order. -/
def permute (draw : Nat) : List Instr → List Instr
  | [] => []
  | [x] => [x]
  | x :: y :: r =>
    (x :: y :: r).foldl (fun acc i => acc.insertIdx (Config.eventPlace draw acc.length % (acc.length + 1)) i) []

/-! ## The flash as memory (R145, R186): addresses sector × 512 + byte, an unlisted address reading FF, as an erase leaves it -/

/-- The byte an address reads as. -/
def readFlash : List Host.Cell → Nat → Byte
  | [], _ => 0xFF
  | (b, v) :: r, a => if a = b then v else readFlash r a

/-- Writes one byte, keeping addresses strictly rising and no entry equal to FF. -/
def writeFlash : List Host.Cell → Nat → Byte → List Host.Cell
  | [], a, v => if v = 0xFF then [] else [(a, v)]
  | (b, w) :: r, a, v =>
    if a < b then (if v = 0xFF then (b, w) :: r else (a, v) :: (b, w) :: r)
    else if a = b then (if v = 0xFF then r else (a, v) :: r)
    else (b, w) :: writeFlash r a v

/-- The canonical form of the flash: addresses strictly rising, below 66 × 512, and no entry reading as FF. -/
def flashWf : List Host.Cell → Bool
  | [] => true
  | (a, v) :: r => decide (a < 33792) && decide (v ≠ 0xFF) && r.all (fun c => decide (a < c.1)) && flashWf r

/-- The address of a byte of a sector. -/
def sectorBase (k : Sector) : Nat := k.val * 512

/-- An erase leaves every byte of the sector FF (R186). -/
def eraseSector (mem : List Host.Cell) (k : Sector) : List Host.Cell :=
  mem.filter (fun c => decide (c.1 < sectorBase k) || decide (sectorBase k + 512 ≤ c.1))

/-- Programming only clears bits that stand set (R186). -/
def programBytes (mem : List Host.Cell) (a : Nat) : List Byte → List Host.Cell
  | [] => mem
  | v :: vs => programBytes (writeFlash mem a (readFlash mem a &&& v)) (a + 1) vs

/-- `n` bytes from an address on. -/
def readBytes (mem : List Host.Cell) (a : Nat) : Nat → List Byte
  | 0 => []
  | n + 1 => readFlash mem a :: readBytes mem (a + 1) n

/-- The song slot's sector (R145). -/
def slotSector (k : Slot) : Sector := ⟨k.val + 2, by omega⟩

/-! ## Notices (R178, R179) -/

/-- The code of a notice kind (Table 12-3). -/
def NoticeBody.code : NoticeBody → Nat
  | .timebaseDegraded .. => 1
  | .followState .. => 2
  | .moduleState .. => 3
  | .storeFault .. => 4
  | .forcedRelease .. => 5
  | .noticesLost .. => 6
  | .transport .. => 7
  | .position .. => 8
  | .cueAccepted .. => 9
  | .cueSuperseded .. => 10
  | .cueFailed .. => 11
  | .armed .. => 12
  | .taken .. => 13
  | .changeSettled .. => 14
  | .tempoFallback .. => 15
  | .barRealigned .. => 16
  | .noteTableFull .. => 17
  | .linkState .. => 18
  | .pedalState .. => 19
  | .storeDone .. => 20
  | .modeChanged .. => 21
  | .requestLost .. => 22

/-- The urgency of a notice (Table 11-5). -/
def NoticeBody.urgent : NoticeBody → Bool
  | .timebaseDegraded .. => true
  | .followState new .. => new == .lost
  | .moduleState _ new .. => new == .stalled
  | .storeFault .. => true
  | .forcedRelease .. => true
  | .noticesLost .. => true
  | _ => false

/-- Whether a port's mask lets a kind through; NOTICES_LOST cannot be masked (R176). -/
def ControlPort.admits (c : ControlPort) (b : NoticeBody) : Bool :=
  b.code == 6 || c.mask.getLsbD (b.code - 1)

/-- An URGENT notice stands after every URGENT notice and ahead of every NORMAL one; a NORMAL notice at the back (R178). -/
def placeNotice (queue : List Notice) (n : Notice) : List Notice :=
  if n.urgent then queue.takeWhile (·.urgent) ++ n :: queue.dropWhile (·.urgent) else queue ++ [n]

/-- The posting of a notice at one port: masked, placed below 32, or lost (R178, R179). -/
def ControlPort.post (c : ControlPort) (n : Notice) : ControlPort :=
  if !c.admits n.body then c
  else if c.notices.length < 32 then { c with notices := placeNotice c.notices n }
  else { c with lost := saturate (c.lost + 1), overflow := true }

/-- A notice with the show position of this instant (R178). -/
def State.notice (s : State) (b : NoticeBody) (o : Option Origin) : Notice := ⟨b, b.urgent, s.grid.position, o⟩

/-- A notice posted to one port. -/
def postTo (p : Port) (b : NoticeBody) (o : Option Origin) (s : State) : State :=
  s.setPort p ((s.port p).post (s.notice b o))

/-- A notice posted to both ports. -/
def post (b : NoticeBody) (o : Option Origin) (s : State) : State :=
  postTo .b b o (postTo .a b o s)

end Sys2Proof.Machine
end

