-- ==== Sys2Proof/Machine/Flags.lean ====
section
/-! DEFINITION. Every condition and level the spec reads off the state rather than stores: roles, counts, line levels, store states,
indicator sources. -/

namespace Sys2Proof.Machine

/-! ## Reset and timebase -/

/-- The timebase count is running: every block but the crystal monitor has begun its work (R2). -/
def State.running (s : State) : Bool := s.timebase.monitor ≠ .crystalWait

/-- A reset is in progress (R142, R173). -/
def State.inReset (s : State) : Bool := s.resetting ≠ .none

/-! ## Grid -/

/-- The grid emits ticks (R6). -/
def Transport.emits : Transport → Bool
  | .countIn => true
  | .running => true
  | _ => false

/-- The phase the grid presents to the Follower (R9). -/
def Grid.phase (g : Grid) : Nat := if g.transport.emits then g.position.tick else 0

/-- P = 6,000,000,000 / T_f, rounded half up (R26). -/
def Follower.period (f : Follower) : Nat := roundHalfUp 6000000000 f.tempo

/-! ## Banks -/

def BankId.other : BankId → BankId
  | .a => .b
  | .b => .a

/-- The role of a bank (R124). -/
def Banks.role (k : Banks) (which : BankId) : BankRole :=
  if which = k.active then .active else if k.retained then .retained else .standby

def State.activeBank (s : State) : Bank := s.bank s.banks.active

def State.standbyBank (s : State) : Bank := s.bank s.banks.active.other

/-- The zones a bank holds: none when it is EMPTY (R69). -/
def Bank.zones (b : Bank) : List Zone :=
  match b.image with
  | some song => song.zones
  | none => []

/-- The program list a bank holds. -/
def Bank.programs (b : Bank) : List ProgramEntry :=
  match b.image with
  | some song => song.programs
  | none => []

/-- The enabled state of a zone; OFF beyond the zone count. -/
def Bank.zoneOn (b : Bank) (i : Nat) : Bool := b.enabled.getD i false

/-- The active song's count-in, or 0 when the active bank holds no song (R11). -/
def Bank.countIn (b : Bank) : Nat :=
  match b.image with
  | some song => song.countIn
  | none => 0

/-! ## Key links -/

/-- A link is received (R55). -/
def State.linkOn (s : State) (l : LinkId) : Bool := s.setup.linkEnable.getLsbD l.val

/-- The effective sustain of a link and channel (R63). -/
def KeyLink.effective (k : KeyLink) (c : Channel) : Bool := k.sustain.getLsbD c.val || k.footSustain

/-! ## Held-Note Table -/

def Entry.releasing (e : Entry) : Bool :=
  match e.state with
  | .releasing _ => true
  | _ => false

/-- A bank's reference count (R88). -/
def Notes.references (n : Notes) (which : BankId) : Nat := n.entries.countP (fun e => e.bank == which)

/-- Two destinations name the same note of a module. -/
def Dest.sameNote (d e : Dest) : Bool := d.module == e.module && d.channel == e.channel && d.key == e.key

/-- A destination holds its note: its key-on was sent and it is not ended (Section 6.1). -/
def Dest.holds (d : Dest) : Bool := d.flag == .sent && !d.ended

/-! ## Song Store -/

def OpPhase.storeState : OpPhase → StoreState
  | .erasing => .erasing
  | .words _ => .programming
  | .verifying => .verifying
  | .marker => .programming

def Store.state (t : Store) : StoreState :=
  match t.activity with
  | .idle => .idle
  | .fetching _ => .fetching
  | .operating op => op.phase.storeState

/-- The store is ERASING, PROGRAMMING or VERIFYING. -/
def Store.busy (t : Store) : Bool :=
  match t.activity with
  | .operating _ => true
  | _ => false

/-! ## Click lines -/

/-- A click line is high while its pulse timer runs (R47). -/
def Click.line (c : Click) : ClickLine → Bool
  | .accent => c.accentLine.isSome
  | .beat => c.beatLine.isSome
  | .sub => c.subLine.isSome

/-! ## Modules -/

def ModuleState.stalled (m : ModuleState) : Bool := m.mode == .stalled

/-- STALLED or DISABLED: the modules a settle does not wait for (R139). -/
def ModuleMode.gone : ModuleMode → Bool
  | .stalled => true
  | .disabled => true
  | _ => false

/-! ## Indicator sources (Table 10-6) -/

def State.lit (s : State) : Indicator → Bool
  | .off => false
  | .beat => s.board.beatFlash.isSome
  | .downbeat => s.board.downbeatFlash.isSome
  | .transport =>
    match s.grid.transport with
    | .stopped => false
    | .startPending => s.board.blink
    | .countIn => true
    | .running => true
  | .countIn => s.grid.transport == .countIn
  | .cue =>
    match s.seq.cue with
    | none => false
    | some c => if c.state = .armed then true else s.board.blink
  | .switching => s.seq.phase == .switching
  | .retained => s.banks.retained
  | .follow =>
    match s.follower.state with
    | .off => false
    | .seeking => s.board.blink
    | .locked => true
    | .holdover => s.board.blink
    | .lost => false
  | .clickMute => s.click.mute
  | .zone i => s.activeBank.zoneOn i
  | .module m =>
    match (s.module m).mode with
    | .stalled => true
    | .loading => s.board.blink
    | _ => false
  | .anyStall => (allFin 8).any (fun m => (s.module m).stalled)
  | .linkSilent l => (s.link l).keepAlive == .silent
  | .pedalFault => (allFin 2).any (fun p => (s.pedal p).mode == .disconnected)
  | .footswitch f => (s.switch f).mode != .up
  | .timebase => s.timebase.source == some .rc
  | .showMode => s.store.mode == .show
  | .storeBusy => s.store.busy

end Sys2Proof.Machine
end

