-- ==== Sys2Proof/Machine/Operands.lean ====
section
/-! DEFINITION. The operand forms: how each request payload and each stored record is read and checked, field by field, the first field
that fails being named by its number (R82, R120, R127, R152 to R155, R182 to R186). -/

namespace Sys2Proof.Machine

/-- The outcome of a check: the value, or the number of the first field that fails (the BAD_FIELD number). -/
abbrev Checked (α : Type) := Except Nat α

/-- A field passes its check or is named. -/
def field (n : Nat) (ok : Bool) : Checked Unit := if ok then .ok () else .error n

/-- A field has one of its values or is named. -/
def pick {α : Type} (n : Nat) : Option α → Checked α
  | some x => .ok x
  | none => .error n

/-! ## Values -/

def finOf (n v : Nat) : Option (Fin n) := if h : v < n then some ⟨v, h⟩ else none

/-- ON is 1 and OFF is 0 (R182). -/
def onOff (b : Byte) : Option Bool := if b = 0 then some false else if b = 1 then some true else none

/-- OFF 0, ON 1, TOGGLE 2 (R182), against the present value. -/
def onOffToggle (b : Byte) (present : Bool) : Option Bool :=
  if b = 0 then some false else if b = 1 then some true else if b = 2 then some (!present) else none

/-- A channel written 1 to 16. -/
def channelOf (v : Nat) : Option Channel := if v = 0 then none else finOf 16 (v - 1)

/-- A module address 1 to 8. -/
def moduleOf (v : Nat) : Option ModuleId := if v = 0 then none else finOf 8 (v - 1)

/-- A zone's source channel: 0 is ANY. -/
def sourceChannelOf (v : Nat) : Option (Option Channel) := if v = 0 then some none else (channelOf v).map some

def tempoSourceOf (v : Nat) : Option TempoSource :=
  match v with
  | 0 => some .internal
  | 1 => some .follow
  | 2 => some .tap
  | _ => none

def curveOf (v : Nat) : Option Curve :=
  match v with
  | 0 => some .linear
  | 1 => some .soft
  | 2 => some .hard
  | 3 => some .fixed
  | _ => none

/-- A zone's pedal: NONE 0, EX1 1, EX2 2. -/
def pedalOf (v : Nat) : Option (Option PedalId) :=
  match v with
  | 0 => some none
  | 1 => some (some 0)
  | 2 => some (some 1)
  | _ => none

/-- The two bits of an accent entry of a song record (Table 12-7). -/
def accentOf (v : Nat) : Option Accent :=
  match v with
  | 0 => some .silent
  | 1 => some .beat
  | 2 => some .accent
  | _ => none

def subdivisionOf (v : Nat) : Option Nat :=
  if v = 1 ∨ v = 2 ∨ v = 3 ∨ v = 4 ∨ v = 6 then some v else none

/-- A boundary without AT_BAR (Table 4-3). -/
def footBoundaryOf (v : Nat) : Option Boundary :=
  match v with
  | 0 => some .immediate
  | 1 => some .nextBeat
  | 2 => some .nextBar
  | _ => none

def inRange (v lo hi : Nat) : Bool := decide (lo ≤ v) && decide (v ≤ hi)

/-! ## The zone record (Tables 5-1 and 12-8) -/

/-- Zone fields 1 to 15, field k carrying the number `base + k`. -/
def parseZone (base : Nat) (r : List Byte) : Checked Zone := do
  let n (i : Nat) : Nat := (byteAt r i).toNat
  let enabled ← pick (base + 1) (onOff (byteAt r 0))
  field (base + 2) (inRange (n 1) 1 15)
  let source ← pick (base + 3) (sourceChannelOf (n 2))
  field (base + 4) (inRange (n 3) 0 127)
  field (base + 5) (inRange (n 4) (n 3) 127)
  field (base + 6) (inRange (n 5) 1 127)
  field (base + 7) (inRange (n 6) (n 5) 127)
  let module ← pick (base + 8) (moduleOf (n 7))
  let channel ← pick (base + 9) (channelOf (n 8))
  let transpose := signedByte (byteAt r 9)
  field (base + 10) (decide (-48 ≤ transpose) && decide (transpose ≤ 48))
  let curve ← pick (base + 11) (curveOf (n 10))
  field (base + 12) (inRange (n 11) 1 127)
  field (base + 13) (inRange (n 12) 0 127)
  let pedal ← pick (base + 14) (pedalOf (byteBits (byteAt r 13) 1 0))
  field (base + 15) (byteBits (byteAt r 13) 6 2 == 0)
  return { enabled, links := BitVec.ofNat 4 (n 1), source, keyLow := n 3, keyHigh := n 4, velLow := n 5, velHigh := n 6, module, channel,
           transpose, curve, fixedVelocity := n 11, level := n 12, pedal, passControllers := (byteAt r 13).getLsbD 7 }

/-- `count` zone records of 14 bytes each, in index order, the first carrying field numbers from `base + 1`. -/
def parseZones (base : Nat) : Nat → List Byte → Checked (List Zone)
  | 0, _ => .ok []
  | k + 1, r => do
    let z ← parseZone base (r.take 14)
    let zs ← parseZones (base + 15) k (r.drop 14)
    return z :: zs

/-! ## Program entries (Table 12-8, R152) -/

/-- A program entry after the `earlier` ones of its record; item j carries the number `base + j`. -/
def parseProgram (base : Nat) (earlier : List ProgramEntry) (r : List Byte) : Checked ProgramEntry := do
  let module ← pick (base + 1) (moduleOf (byteBits (byteAt r 0) 7 4))
  let channel ← pick (base + 2) (finOf 16 (byteBits (byteAt r 0) 3 0))
  field (base + 2) (earlier.all (fun e => !(e.module == module && e.channel == channel)))
  field (base + 3) (byteBits (byteAt r 1) 6 2 == 0)
  let present := (byteAt r 1).getLsbD 7
  field (base + 4) (!present || inRange (byteAt r 3).toNat 0 127)
  return { module, channel, program := byteBits (byteAt r 1) 1 0 * 256 + (byteAt r 2).toNat
           preset := if present then some (byteAt r 3).toNat else none }

/-- `count` program entries of 4 bytes each, in list order. -/
def parsePrograms (base : Nat) (earlier : List ProgramEntry) : Nat → List Byte → Checked (List ProgramEntry)
  | 0, _ => .ok earlier
  | k + 1, r => do
    let e ← parseProgram base earlier (r.take 4)
    parsePrograms (base + 4) (earlier ++ [e]) k (r.drop 4)

/-! ## The song record (Table 12-7, R152) -/

/-- A name is printable characters, then 00 to the end. -/
def nameOk (bs : List Byte) : Bool :=
  (bs.dropWhile (fun b => decide (32 ≤ b.toNat) && decide (b.toNat ≤ 126))).all (· == 0)

/-- The two bits of beat `i + 1`, beat 1 in bits 7-6 of byte 23. -/
def accentBits (r : List Byte) (i : Nat) : Nat :=
  byteBits (byteAt r (23 + i / 4)) (7 - 2 * (i % 4)) (6 - 2 * (i % 4))

/-- The accent entries of `k` beats from beat `i + 1` on, fields 10 to 24. -/
def parseAccents (r : List Byte) (i : Nat) : Nat → Checked (List Accent)
  | 0 => .ok []
  | k + 1 => do
    let a ← pick (10 + i) (accentOf (accentBits r i))
    let as ← parseAccents r (i + 1) k
    return a :: as

/-- A song record: fields 2 on, in field order. -/
def parseSong (r : List Byte) : Checked Song := do
  let zoneCount := (byteAt r 27).toNat
  let programCount := (byteAt r 28).toNat
  field 2 (r.length == 32 + 14 * zoneCount + 4 * programCount)
  field 3 (nameOk (r.take 16))
  let tempo := word16At r 16
  field 4 (inRange tempo 3000 30000)
  let source ← pick 5 (tempoSourceOf (byteAt r 18).toNat)
  let meter := (byteAt r 19).toNat
  field 6 (inRange meter 1 15)
  let subdivision ← pick 7 (subdivisionOf (byteAt r 20).toNat)
  let countIn := (byteAt r 21).toNat
  field 8 (inRange countIn 0 4)
  let rampBeats := (byteAt r 22).toNat
  field 9 (inRange rampBeats 0 64)
  let accents ← parseAccents r 0 15
  field 24 (byteBits (byteAt r 26) 1 0 == 0)
  field 25 (inRange zoneCount 1 16)
  field 26 (inRange programCount 0 16)
  field 27 ((slice r 29 3).all (· == 0))
  let zones ← parseZones 27 zoneCount (r.drop 32)
  let programs ← parsePrograms (27 + 15 * zoneCount) [] programCount (r.drop (32 + 14 * zoneCount))
  return { name := r.take 16, tempo, source, meter, subdivision, countIn, rampBeats, accents, zones, programs }

/-! ## The setup record (Table 12-9, R155, R162) -/

/-- A press or hold action with its argument, fields `n` and `n + 1`; SUSTAIN is a press action alone (R162). -/
def parseAction (n : Nat) (press : Bool) (action argument : Byte) : Checked Action := do
  let a := argument.toNat
  match action.toNat with
  | 0 => field (n + 1) (a == 0); return .none
  | 1 => field (n + 1) (a == 0); return .startStop
  | 2 => field (n + 1) (a == 0); return .tap
  | 3 => field (n + 1) (a == 0); return .clickMute
  | 4 => field (n + 1) (inRange a 0 15); return .zoneToggle a
  | 5 => field n press; field (n + 1) (inRange a 1 15); return .sustain (BitVec.ofNat 4 a)
  | 6 => field (n + 1) (a == 1 || a == 255); return .setlistStep (a == 1)
  | 7 => field (n + 1) (inRange a 0 63); return .cueEntry a
  | 8 => field (n + 1) (a == 0); return .cancelCue
  | 9 => field (n + 1) (a == 0); return .takeNow
  | _ => .error n

def Action.isSustain : Action → Bool
  | .sustain _ => true
  | _ => false

/-- One switch: press action, press argument, hold action, hold argument, fields `n` to `n + 3`. A hold action other than NONE beside a
press action SUSTAIN fails the hold action's field. -/
def parseSwitch (n : Nat) (r : List Byte) : Checked (Action × Action) := do
  let press ← parseAction n true (byteAt r 0) (byteAt r 1)
  field (n + 2) (!press.isSustain || byteAt r 2 == 0)
  let hold ← parseAction (n + 2) false (byteAt r 2) (byteAt r 3)
  return (press, hold)

def parseSwitches (n : Nat) : Nat → List Byte → Checked (List (Action × Action))
  | 0, _ => .ok []
  | k + 1, r => do
    let s ← parseSwitch n (r.take 4)
    let ss ← parseSwitches (n + 4) k (r.drop 4)
    return s :: ss

/-- An indicator's source and argument, fields `n` and `n + 1` (Table 10-6). -/
def parseIndicator (n : Nat) (source argument : Byte) : Checked Indicator := do
  let a := argument.toNat
  let plain (i : Indicator) : Checked Indicator := do field (n + 1) (a == 0); return i
  match source.toNat with
  | 0 => plain .off
  | 1 => plain .beat
  | 2 => plain .downbeat
  | 3 => plain .transport
  | 4 => plain .countIn
  | 5 => plain .cue
  | 6 => plain .switching
  | 7 => plain .retained
  | 8 => plain .follow
  | 9 => plain .clickMute
  | 10 => field (n + 1) (inRange a 0 15); return .zone a
  | 11 => let m ← pick (n + 1) (moduleOf a); return .module m
  | 12 => plain .anyStall
  | 13 => let l ← pick (n + 1) (finOf 4 a); return .linkSilent l
  | 14 => plain .pedalFault
  | 15 => let f ← pick (n + 1) (moduleOf a); return .footswitch f
  | 16 => plain .timebase
  | 17 => plain .showMode
  | 18 => plain .storeBusy
  | _ => .error n

def parseIndicators (n : Nat) : Nat → List Byte → Checked (List Indicator)
  | 0, _ => .ok []
  | k + 1, r => do
    let i ← parseIndicator n (byteAt r 0) (byteAt r 1)
    let is ← parseIndicators (n + 2) k (r.drop 2)
    return i :: is

/-- A calibration: minimum and maximum 0 to 1019, the maximum not below the minimum, fields `n` and `n + 1`. -/
def parseCalibration (n : Nat) (r : List Byte) : Checked (Nat × Nat) := do
  let lo := word16At r 0
  let hi := word16At r 2
  field n (inRange lo 0 1019)
  field (n + 1) (inRange hi lo 1019)
  return (lo, hi)

def followSourceOf (v : Nat) : Option FollowSource :=
  match v with
  | 0 => some .cpA
  | 1 => some .cpB
  | 2 => some .refin
  | _ => none

def onLossOf (v : Nat) : Option OnLoss :=
  match v with
  | 0 => some .freewheel
  | 1 => some .songTempo
  | _ => none

def partModeOf (v : Nat) : Option PartMode :=
  match v with
  | 0 => some .prep
  | 1 => some .show
  | _ => none

/-- A full setup record of 126 bytes: fields 1 to 119, in field order. -/
def parseSetup (r : List Byte) : Checked Setup := do
  let n (i : Nat) : Nat := (byteAt r i).toNat
  let followSource ← pick 1 (followSourceOf (n 0))
  field 2 (inRange (n 1) 1 8)
  field 3 (inRange (n 2) 1 64)
  let onLoss ← pick 4 (onLossOf (n 3))
  field 5 (inRange (n 4) 0 8)
  let clickChannel ← pick 6 (channelOf (n 5))
  field 7 (n 6 == 1 || n 6 == 2 || n 6 == 4 || n 6 == 8 || n 6 == 16)
  field 8 (inRange (n 7) 0 15)
  field 9 (inRange (n 8) 0 15)
  let footBoundary ← pick 10 (footBoundaryOf (n 9))
  let fastBus ← pick 11 (onOff (byteAt r 10))
  field 12 (inRange (n 11) 0 5)
  field 14 (inRange (word16At r 13) 500 10000)
  field 15 (inRange (word16At r 15) 2000 60000)
  field 16 (inRange (n 17) 5 40)
  field 17 (inRange (word16At r 18) 300 2000)
  let switches ← parseSwitches 18 8 (r.drop 20)
  let ex1 ← parseCalibration 50 (r.drop 52)
  let ex2 ← parseCalibration 52 (r.drop 56)
  field 54 (inRange (n 60) 1 8)
  let indicators ← parseIndicators 55 32 (r.drop 61)
  let startMode ← pick 119 (partModeOf (n 125))
  return { followSource, tolerance := n 1, holdoverBeats := n 2, onLoss
           clickModule := moduleOf (n 4), clickChannel, clkoutRate := n 6
           linkEnable := BitVec.ofNat 4 (n 7), programAsCue := BitVec.ofNat 4 (n 8), footBoundary
           fastBus, classOrder := n 11, moduleMask := byteAt r 12
           stallMillis := word16At r 13, retentionMillis := word16At r 15
           debounce := n 17, holdMillis := word16At r 18
           switches := Vector.ofFn (fun i => switches.getD i.val (.none, .none))
           calibration := #v[ex1, ex2], brightness := n 60
           indicators := Vector.ofFn (fun i => indicators.getD i.val .off), startMode }

/-! ## Stored records (R145, R186) -/

/-- A VALID song record as a song image. -/
def decodeSong (r : List Byte) : Option Song := (parseSong r).toOption

/-- A VALID setup record; one of another length or with a field out of range is absent as a whole (R155, R186). -/
def decodeSetup (r : List Byte) : Option Setup := if r.length = 126 then (parseSetup r).toOption else none

/-- A VALID setlist record: a count byte and one slot byte per entry (R186). Of a record whose count byte is above 64 or is not its length
minus 1, which the spec gives no reading, as many slot bytes as the count and the record hold are taken, and a slot byte above 63 is left out
(DESIGN CHOICE, log entry 27). -/
def decodeSetlist (r : List Byte) : List Slot :=
  (slice r 1 (byteAt r 0).toNat).filterMap (fun b => finOf 64 b.toNat)

/-! ## Request kinds (Table 12-2, R183) -/

inductive RequestKind where
  | start
  | stop
  | setTempo
  | setTempoSource
  | tap
  | mark
  | clickMute
  | cue
  | cancelCue
  | takeNow
  | setlistStep
  | editZone
  | toggleZone
  | panic
  | pass
  | writeSong
  | eraseSong
  | readSong
  | writeSetlist
  | writeSetup
  | setMode
  | getStatus
  | setNoticeMask
  | setPositionNotices
  | restart
  deriving DecidableEq, Repr

/-- The kind byte of a request. -/
def RequestKind.code : RequestKind → Byte
  | .start => 0x01
  | .stop => 0x02
  | .setTempo => 0x03
  | .setTempoSource => 0x04
  | .tap => 0x05
  | .mark => 0x06
  | .clickMute => 0x07
  | .cue => 0x10
  | .cancelCue => 0x11
  | .takeNow => 0x12
  | .setlistStep => 0x13
  | .editZone => 0x20
  | .toggleZone => 0x21
  | .panic => 0x22
  | .pass => 0x23
  | .writeSong => 0x30
  | .eraseSong => 0x31
  | .readSong => 0x32
  | .writeSetlist => 0x33
  | .writeSetup => 0x34
  | .setMode => 0x35
  | .getStatus => 0x40
  | .setNoticeMask => 0x41
  | .setPositionNotices => 0x42
  | .restart => 0x43

/-- Every request kind, in the order of Table 12-2. -/
def RequestKind.all : List RequestKind :=
  [.start, .stop, .setTempo, .setTempoSource, .tap, .mark, .clickMute, .cue, .cancelCue, .takeNow, .setlistStep, .editZone,
   .toggleZone, .panic, .pass, .writeSong, .eraseSong, .readSong, .writeSetlist, .writeSetup, .setMode, .getStatus,
   .setNoticeMask, .setPositionNotices, .restart]

/-- The request a kind byte names, if any. -/
def RequestKind.ofByte (b : Byte) : Option RequestKind := RequestKind.all.find? (fun k => k.code == b)

/-- The payload lengths a kind allows. -/
def RequestKind.lengthOk (k : RequestKind) (n : Nat) : Bool :=
  match k with
  | .start => n == 0
  | .stop => n == 0
  | .setTempo => n == 2
  | .setTempoSource => n == 1
  | .tap => n == 0
  | .mark => n == 1
  | .clickMute => n == 1
  | .cue => n == 6
  | .cancelCue => n == 0
  | .takeNow => n == 0
  | .setlistStep => n == 1
  | .editZone => n == 16
  | .toggleZone => n == 2
  | .panic => n == 0
  | .pass => n == 6
  | .writeSong => inRange n 33 321
  | .eraseSong => n == 1
  | .readSong => n == 1
  | .writeSetlist => inRange n 1 65
  | .writeSetup => n == 126
  | .setMode => n == 1
  | .getStatus => n == 2
  | .setNoticeMask => n == 21
  | .setPositionNotices => n == 1
  | .restart => n == 0

end Sys2Proof.Machine
end

