-- ==== Sys2Proof/Machine/Wire.lean ====
section
/-! DEFINITION. How values are written on the wire (R182 to R184): numbers, enumerated values by their place in the list their table gives,
presence bytes, notice payloads, reply payloads, control-port frames, module bus characters. -/

namespace Sys2Proof.Machine

/-! ## Numbers and lists (R182) -/

/-- A number in one byte. -/
def num1 (n : Nat) : List Byte := if n < 256 then [BitVec.ofNat 8 n] else [Config.wideByte n]

/-- A 16-bit word, high byte first. -/
def word2 (w : BitVec 16) : List Byte := [(w >>> 8).setWidth 8, w.setWidth 8]

/-- A number in two bytes, high byte first. -/
def num2 (n : Nat) : List Byte := if n < 65536 then word2 (BitVec.ofNat 16 n) else word2 (Config.wideNumber n)

/-- A count in four bytes, high byte first. -/
def num4 (c : Count) : List Byte :=
  [(c >>> 24).setWidth 8, (c >>> 16).setWidth 8, (c >>> 8).setWidth 8, c.setWidth 8]

/-- ON and OFF as 1 and 0. -/
def onOffByte (b : Bool) : List Byte := [if b then 1 else 0]

/-- A two-valued field whose table lists `true`'s value first ("running or idle", "set or clear", "yes or no", "ASSERTED or
DEASSERTED"): 0 for the first, 1 for the second. -/
def firstSecond (b : Bool) : List Byte := [if b then 0 else 1]

/-- A presence byte followed by the value, or by zeros of its width. -/
def optional {α : Type} (width : Nat) (write : α → List Byte) : Option α → List Byte
  | some x => 1 :: write x
  | none => List.replicate (width + 1) 0

/-- A show position: the bar as a signed two-byte number, the beat, the tick. -/
def positionBytes (p : Position) : List Byte := word2 (BitVec.ofInt 16 p.bar) ++ num1 p.beat ++ num1 p.tick

/-! ## Enumerated values -/

def TempoSource.number : TempoSource → Nat
  | .internal => 0
  | .follow => 1
  | .tap => 2

def Transport.number : Transport → Nat
  | .stopped => 0
  | .startPending => 1
  | .countIn => 2
  | .running => 3

def FollowState.number : FollowState → Nat
  | .off => 0
  | .seeking => 1
  | .locked => 2
  | .holdover => 3
  | .lost => 4

def FollowSource.number : FollowSource → Nat
  | .cpA => 0
  | .cpB => 1
  | .refin => 2

/-- The order of the two oscillators in Table 1-1, without its "none yet" (log entry 18). -/
def Source.number : Source → Nat
  | .crystal => 0
  | .rc => 1

/-- The order of R42 in the CLICK group of GET_STATUS; a song record has the other order of Table 12-7 (log entry 18). -/
def Accent.number : Accent → Nat
  | .accent => 0
  | .beat => 1
  | .silent => 2

def KeepAlive.number : KeepAlive → Nat
  | .neverSeen => 0
  | .alive => 1
  | .silent => 2

def ModuleMode.number : ModuleMode → Nat
  | .disabled => 0
  | .ready => 1
  | .loading => 2
  | .stalled => 3

def KeyOnFlag.number : KeyOnFlag → Nat
  | .queued => 0
  | .sent => 1
  | .dropped => 2

def EntryState.number : EntryState → Nat
  | .sounding => 0
  | .sustained => 1
  | .releasing _ => 2

def NextMessage.number : NextMessage → Nat
  | .program => 0
  | .level => 1

def PostKind.number : PostKind → Nat
  | .take => 0
  | .resync => 1

def BankId.number : BankId → Nat
  | .a => 0
  | .b => 1

/-- The place of a role in Table 8-1 (log entry 18). -/
def BankRole.number : BankRole → Nat
  | .active => 0
  | .standby => 1
  | .retained => 2

def TargetKind.number : TargetKind → Nat
  | .setlist => 0
  | .slot => 1

def Boundary.number : Boundary → Nat
  | .immediate => 0
  | .nextBeat => 1
  | .nextBar => 2
  | .atBar _ => 3

/-- The bar of an AT_BAR boundary. -/
def Boundary.bar : Boundary → Option Nat
  | .atBar n => some n
  | _ => none

def Firmness.number : Firmness → Nat
  | .soft => 0
  | .firm => 1

def CueState.number : CueState → Nat
  | .waiting => 0
  | .loading => 1
  | .armed => 2

def TakePhase.number : TakePhase → Nat
  | .none => 0
  | .switching => 1

def StoreState.number : StoreState → Nat
  | .idle => 0
  | .fetching => 1
  | .erasing => 2
  | .programming => 3
  | .verifying => 4

def OpKind.number : OpKind → Nat
  | .write => 0
  | .erase => 1

/-- The place of a phase among the four of R149. The fourth, of the marker word, has the name of the second, PROGRAMMING, and a number of its
own, which is the model's choice (log entry 18). -/
def OpPhase.number : OpPhase → Nat
  | .erasing => 0
  | .words _ => 1
  | .verifying => 2
  | .marker => 3

def PartMode.number : PartMode → Nat
  | .prep => 0
  | .show => 1

def SwitchMode.number : SwitchMode → Nat
  | .up => 0
  | .down => 1
  | .held => 2

def PedalMode.number : PedalMode → Nat
  | .normal => 0
  | .uncalibrated => 1
  | .disconnected => 2

def LossCause.number : LossCause → Nat
  | .gap => 0
  | .check => 1
  | .length => 2
  | .framing => 3
  | .full => 4

def DegradedCause.number : DegradedCause → Nat
  | .noCrystal => 0
  | .crystalLost => 1

/-- VERIFY 0 and SUPPLY_LOW 1, in the order of R150 and R151; no rule lists the two values together (log entry 18). -/
def FaultCause.number : FaultCause → Nat
  | .verify => 0
  | .supplyLow => 1

def CueFailure.number : CueFailure → Nat
  | .notValid => 0
  | .held => 1
  | .noSong => 2

def PositionSetting.number : PositionSetting → Nat
  | .off => 0
  | .bar => 1
  | .beat => 2

def portNumber : Port → Nat
  | .a => 0
  | .b => 1

/-- CP_A 0, CP_B 1, PEDAL 2, LINK0 to LINK3 3 to 6 (R182). -/
def Origin.number : Origin → Nat
  | .port p => portNumber p
  | .pedal => 2
  | .link l => 3 + l.val

/-- An origin, FF hex when absent. -/
def originByte : Option Origin → List Byte
  | some o => num1 o.number
  | none => [0xFF]

/-- A module address 1 to 8. -/
def moduleByte (m : ModuleId) : List Byte := num1 (m.val + 1)

/-- A channel 1 to 16. -/
def channelByte (c : Channel) : List Byte := num1 (c.val + 1)

/-- A boundary and its bar, present for AT_BAR alone. -/
def boundaryBytes (b : Boundary) : List Byte := num1 b.number ++ optional 2 num2 b.bar

/-! ## Notices (R183, Table 11-5, Table 8-8) -/

/-- The fields of a kind. Log entry 18: the last field of TAKEN, "RETAINED or STANDBY", is written as the role's place in Table 8-1; the sector
of STORE_DONE and STORE_FAULT by its number in the flash, 0 for setup, 1 for the setlist, slot + 2 for a song; the pedal of PEDAL_STATE as EX1 0
and EX2 1, the order of R163, not the place in Table 5-1, whose list begins with NONE. -/
def NoticeBody.fields : NoticeBody → List Byte
  | .timebaseDegraded cause => num1 cause.number
  | .followState new prev tempo source => num1 new.number ++ num1 prev.number ++ num2 tempo ++ num1 source.number
  | .moduleState m new prev posts => moduleByte m ++ num1 new.number ++ num1 prev.number ++ optional 1 num1 posts
  | .storeFault cause kind sector => num1 cause.number ++ num1 kind.number ++ num1 sector.val
  | .forcedRelease bank moved => num1 bank.number ++ num1 moved
  | .noticesLost count => num2 count
  | .transport st pos => num1 st.number ++ positionBytes pos
  | .position st tempo => num1 st.number ++ num2 tempo
  | .cueAccepted kind target slot boundary firmness =>
    num1 kind.number ++ num1 target ++ num1 slot.val ++ boundaryBytes boundary ++ num1 firmness.number
  | .cueSuperseded target slot origin st replaced =>
    num1 target ++ num1 slot.val ++ num1 origin.number ++ num1 st.number ++ firstSecond replaced
  | .cueFailed cause target slot => num1 cause.number ++ optional 1 num1 target ++ optional 1 (fun k : Slot => num1 k.val) slot
  | .armed slot boundary => num1 slot.val ++ boundaryBytes boundary
  | .taken bank slot place pos st source tempo oldRetained =>
    num1 bank.number ++ optional 1 (fun k : Slot => num1 k.val) slot ++ optional 1 num1 place ++ positionBytes pos ++ num1 st.number ++
      num1 source.number ++ num2 tempo ++ num1 (if oldRetained then BankRole.retained.number else BankRole.standby.number)
  | .changeSettled failed millis => [failed] ++ num2 millis
  | .tempoFallback before target => num2 before ++ num2 target
  | .barRealigned before after => positionBytes before ++ positionBytes after
  | .noteTableFull channel key drops => channelByte channel ++ num1 key ++ num2 drops
  | .linkState new prev framing overruns moved =>
    num1 new.number ++ num1 prev.number ++ num2 framing ++ num2 overruns ++ optional 1 num1 moved
  | .pedalState pedal new prev raw output =>
    num1 pedal.val ++ num1 new.number ++ num1 prev.number ++ num2 raw ++ num1 output
  | .storeDone kind sector => num1 kind.number ++ num1 sector.val
  | .modeChanged mode => num1 mode.number
  | .requestLost cause kind tag => num1 cause.number ++ optional 1 (fun b : Byte => [b]) kind ++ optional 1 (fun b : Byte => [b]) tag

/-- A notice payload: the header (kind code, urgency, show position, origin) and the kind's fields. -/
def Notice.bytes (n : Notice) : List Byte :=
  num1 n.body.code ++ onOffByte n.urgent ++ positionBytes n.position ++ originByte n.origin ++ n.body.fields

/-! ## Replies (Table 11-2, R183) -/

inductive Reply where
  | ok
  | okData (data : List Byte)
  | accepted
  | appliedClamped (tempo : Nat)
  | busy
  | locked
  | badField (n : Nat)
  | wrongSource
  | emptySlot
  | cueHeld
  | queueFull
  | endOfList
  | lowSupply
  | unknownKind
  deriving DecidableEq, Repr

/-- A reply payload: the code, and what the code carries. -/
def Reply.bytes : Reply → List Byte
  | .ok => [0]
  | .okData data => 0 :: data
  | .accepted => [1]
  | .appliedClamped tempo => 2 :: num2 tempo
  | .busy => [3]
  | .locked => [4]
  | .badField n => 5 :: num1 n
  | .wrongSource => [6]
  | .emptySlot => [7]
  | .cueHeld => [8]
  | .queueFull => [9]
  | .endOfList => [10]
  | .lowSupply => [11]
  | .unknownKind => [12]

/-! ## Control-port frames (Table 12-1, R183) -/

/-- The characters of a frame: 7E hex, length, kind, tag, payload, and the check that makes the sum of bytes 1 on zero. -/
def frameBytes (kind tag : Byte) (payload : List Byte) : List Byte :=
  let body := num2 payload.length ++ kind :: tag :: payload
  0x7E :: body ++ [-(byteSum body)]

/-- A frame of payload length n takes (6 + n) × 10 µs (R174). -/
def frameMicros (payload : List Byte) : Nat := (6 + payload.length) * 10

/-! ## Module bus characters (R105, R184, Tables 12-4 and 12-5) -/

/-- The message kind code and the channel of a message. -/
def Message.kindChannel : Message → Nat × Channel
  | .keyOn c _ _ => (1, c)
  | .keyOff c _ => (2, c)
  | .level c _ => (3, c)
  | .control c _ _ => (4, c)
  | .bend c _ => (5, c)
  | .program c _ => (6, c)
  | .silence c => (7, c)
  | .click c _ => (8, c)

/-- The values after the first character (Table 7-2). -/
def Message.values : Message → List Nat
  | .keyOn _ key velocity => [key, velocity]
  | .keyOff _ key => [key]
  | .level _ value => [value]
  | .control _ number value => [number, value]
  | .bend _ value => [value % 128, value / 128]
  | .program _ p => [p / 256, p % 256]
  | .silence _ => []
  | .click _ strength => [strength]

/-- The data characters of a message, the ninth bit clear. -/
def Message.characters (m : Message) : List (BitVec 9) :=
  BitVec.ofNat 9 (m.kindChannel.1 * 16 + m.kindChannel.2.val) :: m.values.map (BitVec.ofNat 9)

/-- The address character of a module, or of address 0: the ninth bit set. -/
def addressCharacter : Option ModuleId → BitVec 9
  | some m => BitVec.ofNat 9 (256 + m.val + 1)
  | none => 256

/-- The characters of a transmission, in order (R104, R106). -/
def Transmission.characters (t : Transmission) : List (BitVec 9) :=
  (if t.addressed then [addressCharacter t.target] else []) ++ t.message.characters

/-- A character takes 44 µs at 250,000 bit/s and 22 µs at 500,000 bit/s (R104). -/
def Setup.characterMicros (u : Setup) : Nat := if u.fastBus then 22 else 44

/-- The eleven bits of a character in the order MBTX sends them (R104, R184): the start bit, the data bits from the least significant on with
the ninth bit last, the stop bit. `true` is the stop level (log entry 34). -/
def characterBits (c : BitVec 9) : List Bool := false :: (List.range 9).map (fun i => c.getLsbD i) ++ [true]

/-- The bits of a transmission: its characters follow one another with no gap (R104). -/
def Transmission.bits (t : Transmission) : List Bool := t.characters.flatMap characterBits

/-- The microseconds of a bit of a transmission: those of the rate it began at (R104), also where the reading of setup changes the rate while
it is on the line, which the spec leaves open (log entry 34). -/
def Transmission.bitMicros (t : Transmission) : Nat := t.timer.micros / (11 * t.characters.length)

/-- The level of MBTX: the bit that stands on the line at this instant; the stop level between transmissions (R104, R184). -/
def State.mbtx (s : State) : Bool :=
  match s.bus.transmission with
  | some t => t.bits.getD (since s.now t.timer.setAt / t.bitMicros) true
  | none => true

end Sys2Proof.Machine
end

