-- ==== Sys2Proof/Machine/Store.lean ====
section
/-! DEFINITION. The Song Store's fetches (Section 9.2), and the loading and settling of cues that hang on them (Sections 8.2, 8.3, 8.6). -/

namespace Sys2Proof.Machine

/-! ## Fetches (R146) -/

/-- A fetch begins at once when the store is IDLE; otherwise it joins the back of the fetch queue. -/
def requestFetch (f : Fetch) (s : State) : State :=
  match s.store.activity with
  | .idle => { s with store := { s.store with activity := .fetching f } }
  | _ => { s with store := { s.store with queue := s.store.queue ++ [f] } }

/-- When a fetch or a store operation ends, the store begins the fetch at the front of the queue, or enters IDLE. -/
def storeNext (s : State) : State :=
  match s.store.queue with
  | [] => { s with store := { s.store with activity := .idle } }
  | f :: fs => { s with store := { s.store with activity := .fetching f, queue := fs } }

def Fetch.forCue (f : Fetch) : Bool := f.kind == .cue

/-- A cue fetch is abandoned: one in progress is stopped and the store goes on, one waiting is removed from the queue. -/
def abandonCueFetch (s : State) : State :=
  match s.store.activity with
  | .fetching f =>
    if f.forCue then storeNext s
    else { s with store := { s.store with queue := s.store.queue.filter (fun g => !g.forCue) } }
  | _ => { s with store := { s.store with queue := s.store.queue.filter (fun g => !g.forCue) } }

/-- The marker of a sector reads VALID: 3F hex (R186). -/
def sectorValid (mem : List Host.Cell) (k : Sector) : Bool := readFlash mem (sectorBase k) == 0x3F

/-- The record of a sector: as many bytes as its header word says, from byte 4 on (R145, R186). A length above the 508 bytes behind the header
word, which the spec gives no reading, reads on into the sectors that follow (DESIGN CHOICE, log entry 27). -/
def sectorRecord (mem : List Host.Cell) (k : Sector) : List Byte :=
  readBytes mem (sectorBase k + 4) (be16 (readFlash mem (sectorBase k + 1)) (readFlash mem (sectorBase k + 2)))

/-! ## Loading (R131) -/

/-- A bank marked EMPTY holds no header, zones or programs, and its source slot is none (R124). -/
def Bank.emptied (b : Bank) : Bank := { b with image := none, enabled := [], source := none }

/-- The standby bank is marked EMPTY. -/
def emptyStandby (s : State) : State := s.setBank s.banks.active.other s.standbyBank.emptied

/-- The conditions for loading (R131). -/
def State.mayLoad (s : State) : Bool := s.seq.phase == .none && !s.banks.retained && !s.store.busy && !s.inReset

/-- The conditions of a WAITING cue are examined: where they hold it enters LOADING, the standby bank is marked EMPTY and a fetch of its
slot is requested (R131). -/
def examineLoad (s : State) : State :=
  match s.seq.cue with
  | some c =>
    if c.state = .waiting ∧ s.mayLoad = true then
      requestFetch ⟨.cue, slotSector c.slot⟩
        { emptyStandby s with seq := { s.seq with cue := some { c with state := .loading } } }
    else s
  | none => s

/-- A copied song image fills a bank (R132): enabled states from the records, layer-overflow count 0, source slot. -/
def Bank.load (song : Song) (slot : Slot) : Bank := ⟨some song, song.zones.map (·.enabled), 0, some slot⟩

/-! ## The bank-free report (R88, R125) -/

/-- The bank that is not ACTIVE, being RETAINED, has lost the last entry that named it: it becomes STANDBY, the retention timer stops, and
a WAITING cue's conditions are examined. `before` is the number of entries that named it before the work that is reported. -/
def bankFree (before : Nat) (s : State) : State :=
  if s.banks.retained = true ∧ before ≠ 0 ∧ s.notes.references s.banks.active.other = 0 then
    examineLoad { s with banks := { s.banks with retained := false }, seq := { s.seq with retention := none } }
  else s

/-- The entries that name the bank that is not ACTIVE. -/
def State.otherReferences (s : State) : Nat := s.notes.references s.banks.active.other

/-! ## Settling (R139, R140) -/

/-- The conditions for a settle. -/
def State.settled (s : State) : Bool :=
  s.seq.phase == .switching && s.seq.settle == .expired &&
  s.bus.pending.all (fun e => e.kind == .resync || (s.module e.module).mode.gone) &&
  (allFin 8).all (fun m => !(s.seq.takeModules.getLsbD m.val && (s.module m).mode == .loading))

/-- The modules of the take module list that are STALLED or DISABLED (R140). -/
def State.failedModules (s : State) : BitVec 8 :=
  (allFin 8).foldl (fun acc m => if (s.module m).mode.gone then acc ||| (1 <<< m.val) else acc) 0 &&& s.seq.takeModules

/-- The settle: failed TAKE entries leave the list, the take phase becomes NONE, CHANGE_SETTLED is posted, the take module list is emptied,
and a WAITING cue's conditions are examined (R140). -/
def settle (s : State) : State :=
  let kept := s.bus.pending.filter (fun e => !(e.kind == .take && (s.module e.module).mode.gone))
  let s1 := { s with bus := { s.bus with pending := kept }, seq := { s.seq with phase := .none, settle := .idle } }
  let s2 := post (.changeSettled s.failedModules (since s.now s.seq.takeTime / 1000)) none s1
  examineLoad { s2 with seq := { s2.seq with takeModules := 0 } }

/-- The settle conditions are examined (R139). -/
def examineSettle (s : State) : State := if s.settled then settle s else s

/-! ## The cue slot (R128 to R130) -/

/-- The firmness rule of R128: whether an offer or a cancel of this origin may displace the held cue. -/
def Cue.yieldsTo (c : Cue) (o : Origin) : Bool := c.firmness == .soft || c.origin == o || o == .pedal

/-- A held cue leaves the slot (R129), replaced or cancelled by `o`. -/
def displaceCue (c : Cue) (o : Origin) (replaced : Bool) (s : State) : State :=
  let s1 := { s with seq := { s.seq with cue := none } }
  let s2 :=
    match c.state with
    | .waiting => s1
    | .loading => abandonCueFetch s1
    | .armed => emptyStandby s1
  post (.cueSuperseded c.target c.slot c.origin c.state replaced) (some o) s2

/-- A cue enters the empty slot as WAITING, CUE_ACCEPTED is posted, and its conditions for loading are examined at once (R128). -/
def acceptCue (c : Cue) (s : State) : State :=
  examineLoad
    (post (.cueAccepted c.kind c.target c.slot c.boundary c.firmness) (some c.origin)
      { s with seq := { s.seq with cue := some { c with state := .waiting } } })

/-- A cue is offered to the slot (R128): the state after, and whether it was accepted. -/
def offerCue (c : Cue) (s : State) : State × Bool :=
  match s.seq.cue with
  | none => (acceptCue c s, true)
  | some held =>
    if held.yieldsTo c.origin then (acceptCue c (displaceCue held c.origin true s), true)
    else
      match c.origin with
      | .link _ => (post (.cueFailed .held (some c.target) (some c.slot)) (some c.origin) s, false)
      | _ => (s, false)

/-- The held cue is cancelled when the firmness rule allows it (R130): the state after, and whether it was refused. -/
def cancelCue (o : Origin) (s : State) : State × Bool :=
  match s.seq.cue with
  | none => (s, false)
  | some held => if held.yieldsTo o then (displaceCue held o false s, false) else (s, true)

/-- A cue of a setlist entry, SOFT, with the setup's foot boundary (R65, R127, R157, R161); none beyond the setlist's end. -/
def State.entryCue (s : State) (entry : Nat) (o : Origin) : Option Cue :=
  match s.store.setlist[entry]? with
  | some slot => some ⟨.setlist, entry, slot, s.setup.footBoundary, .soft, o, .waiting⟩
  | none => none

/-- The target entry of a setlist step (R157): from the held cue's entry when it has a SETLIST target, else from the setlist position;
from OFF_LIST +1 gives entry 0 and -1 the last entry. -/
def State.stepTarget (s : State) (forward : Bool) : Option Nat :=
  let fromPosition : Option Nat := s.store.position
  let base : Option Nat :=
    match s.seq.cue with
    | some c => if c.kind = .setlist then some c.target else fromPosition
    | none => fromPosition
  match base with
  | some b => if forward then some (b + 1) else if b = 0 then none else some (b - 1)
  | none => if forward then some 0 else if s.store.setlist.length = 0 then none else some (s.store.setlist.length - 1)

/-- The cue of a setlist step; none when its target lies outside the setlist (R157). -/
def State.stepCue (s : State) (forward : Bool) (o : Origin) : Option Cue :=
  match s.stepTarget forward with
  | some t => s.entryCue t o
  | none => none

end Sys2Proof.Machine
end

