-- ==== Sys2Proof/Machine/Notes.lean ====
section
/-! DEFINITION. The Held-Note Table: making, releasing and ending of held-note entries (Section 6). -/

namespace Sys2Proof.Machine

/-! ## Release (R94, R98) -/

/-- At the entry's release a DROPPED destination is ended at once, a QUEUED or SENT one is not (R94). -/
def Dest.released (d : Dest) : Dest := { d with ended := d.flag == .dropped }

/-- An entry moved to RELEASING with its release sequence number (R94). -/
def Entry.release (n : Count) (e : Entry) : Entry := { e with state := .releasing n, dests := e.dests.map Dest.released }

/-- Every destination of the entry is ended (R98). -/
def Entry.allEnded (e : Entry) : Bool := e.dests.all (·.ended)

/-- The result of moving entries to RELEASING: the table after, the next sequence number, and how many were moved. -/
structure Released where
  entries : List Entry
  next : Count
  moved : Nat
  deriving DecidableEq, Repr

/-- Moves every SOUNDING or SUSTAINED entry that `which` names to RELEASING, in table order; an entry whose destinations are then all
ended leaves at once (R94, R98). -/
def releaseScan (which : Entry → Bool) (n : Count) : List Entry → Released
  | [] => ⟨[], n, 0⟩
  | e :: es =>
    if !e.releasing && which e then
      let r := releaseScan which (n + 1) es
      let e' := e.release n
      if e'.allEnded then { r with moved := r.moved + 1 } else { r with entries := e' :: r.entries, moved := r.moved + 1 }
    else
      let r := releaseScan which n es
      { r with entries := e :: r.entries }

/-- The work of one event that releases entries: the state after, and the number moved (R94, R98, R88). -/
def releaseEntries (which : Entry → Bool) (s : State) : State × Nat :=
  let r := releaseScan which s.notes.nextRelease s.notes.entries
  (bankFree s.otherReferences { s with notes := { s.notes with entries := r.entries, nextRelease := r.next } }, r.moved)

/-- The same source link, channel and key. -/
def Entry.isFrom (e : Entry) (l : LinkId) (c : Channel) (key : Nat) : Bool := e.link == l && e.channel == c && e.key == key

/-- A release from a link, with the effective sustain of that instant (R92). -/
def noteRelease (l : LinkId) (c : Channel) (key : Nat) (sustained : Bool) (s : State) : State :=
  if sustained then
    { s with notes := { s.notes with entries := s.notes.entries.map (fun e =>
        if e.isFrom l c key && e.state == .sounding then { e with state := .sustained } else e) } }
  else (releaseEntries (fun e => e.isFrom l c key) s).1

/-- A sustain lift of a link and channel: its SUSTAINED entries are released (R93). -/
def sustainLift (l : LinkId) (c : Channel) (s : State) : State :=
  (releaseEntries (fun e => e.link == l && e.channel == c && e.state == .sustained) s).1

/-- A forced release of a bank (R99). -/
def forcedRelease (bank : BankId) (s : State) : State :=
  let r := releaseEntries (fun e => e.bank == bank) s
  if r.2 = 0 then r.1 else post (.forcedRelease bank r.2) none r.1

/-- A link silence: every SOUNDING or SUSTAINED entry of the link is released; the number moved is returned (R100). -/
def linkSilence (l : LinkId) (s : State) : State × Nat := releaseEntries (fun e => e.link == l) s

/-- A panic removes every entry without key-offs, and frees a RETAINED bank (R101). -/
def panicNotes (s : State) : State :=
  let s1 := { s with notes := { s.notes with entries := [] } }
  if s.banks.retained then
    examineLoad { s1 with banks := { s1.banks with retained := false }, seq := { s1.seq with retention := none } }
  else s1

/-! ## Destinations (R75, R96 to R98) -/

/-- Changes one destination of the entry with a serial number. -/
def updateDest (serial i : Nat) (f : Dest → Dest) (entries : List Entry) : List Entry :=
  entries.map (fun e => if e.serial == serial then { e with dests := e.dests.modify i f } else e)

/-- The destination a serial number and index name. -/
def findDest (serial i : Nat) (entries : List Entry) : Option Dest :=
  match entries.find? (fun e => e.serial == serial) with
  | some e => e.dests[i]?
  | none => none

/-- A destination's flag is set (R75). -/
def flagDest (serial i : Nat) (flag : KeyOnFlag) (s : State) : State :=
  { s with notes := { s.notes with entries := updateDest serial i (fun d => { d with flag }) s.notes.entries } }

/-- A destination is marked ended, and its entry leaves the table when that was its last one (R98, R88). -/
def endDest (serial i : Nat) (s : State) : State :=
  let es := updateDest serial i (fun d => { d with ended := true }) s.notes.entries
  bankFree s.otherReferences
    { s with notes := { s.notes with entries := es.filter (fun e => !(e.serial == serial && e.releasing && e.allEnded)) } }

/-! ## Key-off candidates (R95) -/

/-- A candidate: an entry by serial number, a destination by index. -/
structure Candidate where
  serial : Nat
  dest : Nat
  deriving DecidableEq, Repr

/-- Of two release sequence numbers, the earlier is the one the other exceeds by less than 2^31 (R94). -/
def earlier (a b : Count) : Bool := a != b && (b - a).toNat < 2147483648

def Entry.releasedBefore (e f : Entry) : Bool :=
  match e.state, f.state with
  | .releasing a, .releasing b => earlier a b
  | _, _ => false

/-- The destinations of an entry that are not ended, in destination order. -/
def Entry.candidates (e : Entry) : List Candidate :=
  (List.range e.dests.length).filterMap (fun i =>
    match e.dests[i]? with
    | some d => if d.ended then none else some ⟨e.serial, i⟩
    | none => none)

/-- The key-off candidates, oldest release first (R95). -/
def Notes.candidates (n : Notes) : List Candidate :=
  (sortBy Entry.releasedBefore (n.entries.filter Entry.releasing)).flatMap Entry.candidates

/-- Another entry has a QUEUED destination for the same note (R97 step 1). -/
def Notes.twinQueued (n : Notes) (serial : Nat) (d : Dest) : Bool :=
  n.entries.any (fun e => e.serial != serial && e.dests.any (fun x => x.sameNote d && x.flag == .queued))

/-- Another entry holds the same note (R97 step 2). -/
def Notes.stillHeld (n : Notes) (serial : Nat) (d : Dest) : Bool :=
  n.entries.any (fun e => e.serial != serial && e.dests.any (fun x => x.sameNote d && x.holds))

/-! ## Making entries (R89 to R91) -/

/-- A strike with its destination list, as the Layer Engine hands it on (R74): each destination with its velocity. -/
structure Strike where
  link : LinkId
  channel : Channel
  key : Nat
  velocity : Nat
  dests : List (Dest × Nat)
  deriving DecidableEq, Repr

/-- The new entry of a strike: SOUNDING, in the ACTIVE bank, at this instant (R89). -/
def State.newEntry (s : State) (k : Strike) : Entry :=
  ⟨s.notes.nextSerial, k.link, k.channel, k.key, k.velocity, s.banks.active, s.now, .sounding, k.dests.map (·.1)⟩

/-- The entry joins the end of the table; an older SOUNDING or SUSTAINED entry for the same source is then released (R89, R90). -/
def makeEntry (k : Strike) (s : State) : State :=
  let e := s.newEntry k
  let s1 := { s with notes := { s.notes with entries := s.notes.entries ++ [e], nextSerial := s.notes.nextSerial + 1 } }
  (releaseEntries (fun f => f.serial != e.serial && f.isFrom k.link k.channel k.key) s1).1

/-- A strike that finds 128 entries is dropped and counted; NOTE_TABLE_FULL is posted at most once per bar (R91). -/
def dropStrike (k : Strike) (s : State) : State :=
  let since := s.notes.dropsSince + 1
  let bar := s.grid.position.bar
  let s1 := { s with notes := { s.notes with drops := saturate (s.notes.drops + 1), dropsSince := since } }
  if s.notes.lastBar = some bar then s1
  else
    let s2 := post (.noteTableFull k.channel k.key since) (some (.link k.link)) s1
    { s2 with notes := { s2.notes with lastBar := some bar, dropsSince := 0 } }

end Sys2Proof.Machine
end

