-- ==== Sys2Proof/Machine/Bus.lean ====
section
/-! DEFINITION. The module bus: the arbiter and its four classes, transmissions, module states, and the posting of programs (Section 7). -/

namespace Sys2Proof.Machine

/-! ## Beginning a transmission (R104, R106, R111) -/

/-- The message a choice has yielded: its address (none for address 0), whether it is a message of a TAKE entry, and whether a TAKE entry
has left the list with it. -/
structure Choice where
  target : Option ModuleId
  message : Message
  fromTake : Bool
  takeLeft : Bool
  deriving DecidableEq, Repr

/-- The selection a message's address makes (R106). -/
def selectionOf : Option ModuleId → Selection
  | some m => .module m
  | none => .all

/-- The transmission of a message begins: with an address character where the address is not the selection; the selection becomes the
address; the idle timer stops (R106). -/
def beginTransmission (target : Option ModuleId) (message : Message) (fromTake forRestart : Bool) (s : State) : State :=
  let t : Transmission := ⟨target, s.bus.selection != selectionOf target, message, fromTake, forRestart, s.timer 0⟩
  let micros := t.characters.length * s.setup.characterMicros
  { s with bus := { s.bus with selection := selectionOf target, idleTimer := none
                               transmission := some { t with timer := s.timer micros } } }

/-! ## Service by module state (Table 7-6) -/

/-- An item that waits for a LOADING module and is removed for a STALLED or DISABLED one. -/
def ModuleMode.waitVerdict : ModuleMode → Verdict
  | .ready => .send
  | .loading => .wait
  | .stalled => .drop
  | .disabled => .drop

/-- A key-on item: dropped unless the module is READY. -/
def ModuleMode.keyOnVerdict : ModuleMode → Verdict
  | .ready => .send
  | _ => .drop

/-- A pending program entry: it keeps its place unless the module is READY. -/
def ModuleMode.programVerdict : ModuleMode → Verdict
  | .ready => .send
  | _ => .wait

/-- Adds one to the discard count of each module named. -/
def discardAll (ms : List ModuleId) (s : State) : State := ms.foldl State.discard s

/-! ## REALTIME (R112) -/

def RealtimeItem.verdict (s : State) : RealtimeItem → Verdict
  | .silence => .send
  | .click it => (s.module it.module).mode.waitVerdict

/-- The module of a CLICK. -/
def RealtimeItem.module? : RealtimeItem → Option ModuleId
  | .silence => none
  | .click it => some it.module

def serveRealtime (s : State) : State × Option Choice :=
  let r := scanQueue (RealtimeItem.verdict s) s.bus.realtime
  let s1 := discardAll (r.dropped.filterMap RealtimeItem.module?) { s with bus := { s.bus with realtime := r.rest } }
  match r.pick with
  | none => (s1, none)
  | some .silence => (s1, some ⟨none, .silence 15, false, false⟩)
  | some (.click it) => (s1, some ⟨some it.module, it.message, false, false⟩)

/-! ## LIVE (R95 to R97, R113) -/

/-- A candidate with flag QUEUED is ended: its key-on item leaves the queue and the flag becomes DROPPED (R96). -/
def cancelKeyOn (c : Candidate) (s : State) : State :=
  endDest c.serial c.dest
    (flagDest c.serial c.dest .dropped
      { s with layer := { s.layer with keyOns := s.layer.keyOns.filter (fun k => !(k.entry == c.serial && k.dest == c.dest)) } })

/-- The decision on one candidate (R95 to R97): the state after, and its KEY_OFF where that is chosen. -/
def decideCandidate (c : Candidate) (s : State) : State × Option Choice :=
  match findDest c.serial c.dest s.notes.entries with
  | none => (s, none)
  | some d =>
    match d.flag with
    | .dropped => (s, none)
    | .queued => (cancelKeyOn c s, none)
    | .sent =>
      if s.notes.twinQueued c.serial d then (s, none)
      else if s.notes.stillHeld c.serial d then (endDest c.serial c.dest s, none)
      else
        match (s.module d.module).mode with
        | .loading => (s, none)
        | .stalled => (endDest c.serial c.dest s, none)
        | .disabled => (endDest c.serial c.dest s, none)
        | .ready => (endDest c.serial c.dest s, some ⟨some d.module, .keyOff d.channel d.key, false, false⟩)

/-- Goes through the key-off candidates until one yields its KEY_OFF (R95). -/
def serveKeyOffs : List Candidate → State → State × Option Choice
  | [], s => (s, none)
  | c :: cs, s =>
    match decideCandidate c s with
    | (s', some k) => (s', some k)
    | (s', none) => serveKeyOffs cs s'

/-- The destination of a key-on item. -/
def State.itemDest (s : State) (k : KeyOnItem) : Option Dest := findDest k.entry k.dest s.notes.entries

def KeyOnItem.verdict (s : State) (k : KeyOnItem) : Verdict :=
  match s.itemDest k with
  | some d => (s.module d.module).mode.keyOnVerdict
  | none => .drop

/-- A key-on item dropped at service: its flag becomes DROPPED and its module's discard count rises (R113). -/
def dropKeyOn (s : State) (k : KeyOnItem) : State :=
  match s.itemDest k with
  | some d => (flagDest k.entry k.dest .dropped s).discard d.module
  | none => s

def serveKeyOns (s : State) : State × Option Choice :=
  let r := scanQueue (KeyOnItem.verdict s) s.layer.keyOns
  let s1 := r.dropped.foldl dropKeyOn { s with layer := { s.layer with keyOns := r.rest } }
  match r.pick with
  | none => (s1, none)
  | some k =>
    match s.itemDest k with
    | some d => (flagDest k.entry k.dest .sent s1, some ⟨some d.module, .keyOn d.channel d.key k.velocity, false, false⟩)
    | none => (s1, none)

/-- The message of a controller item. -/
def ControlItem.message (c : ControlItem) : Message :=
  match c.control with
  | .controller n => .control c.channel n c.value
  | .bend => .bend c.channel c.value

def serveControls (s : State) : State × Option Choice :=
  let r := scanQueue (fun c : ControlItem => (s.module c.module).mode.waitVerdict) s.layer.controls
  let s1 := discardAll (r.dropped.map (·.module)) { s with layer := { s.layer with controls := r.rest } }
  match r.pick with
  | none => (s1, none)
  | some c => (s1, some ⟨some c.module, c.message, false, false⟩)

/-- The result of examining the level slots: the slots after, the zone and level chosen, the modules whose slots were emptied. -/
structure LevelScan where
  levels : List (Option Nat)
  pick : Option (Zone × Nat)
  dropped : List ModuleId
  deriving DecidableEq, Repr

/-- The level slots in zone index order (R113 part 4). -/
def scanLevels (mode : ModuleId → ModuleMode) : List Zone → List (Option Nat) → LevelScan
  | z :: zs, some v :: ls =>
    match (mode z.module).waitVerdict with
    | .send => ⟨none :: ls, some (z, v), []⟩
    | .wait => let r := scanLevels mode zs ls; { r with levels := some v :: r.levels }
    | .drop => let r := scanLevels mode zs ls; { r with levels := none :: r.levels, dropped := z.module :: r.dropped }
  | _ :: zs, none :: ls => let r := scanLevels mode zs ls; { r with levels := none :: r.levels }
  | _, ls => ⟨ls, none, []⟩

def serveLevels (s : State) : State × Option Choice :=
  let r := scanLevels (fun m => (s.module m).mode) s.activeBank.zones s.layer.levels
  let s1 := discardAll r.dropped { s with layer := { s.layer with levels := r.levels } }
  match r.pick with
  | none => (s1, none)
  | some (z, v) => (s1, some ⟨some z.module, .level z.channel v, false, false⟩)

/-- Tries one collection and, where it yields no message, goes on to the next. -/
def orElseServe (first : State × Option Choice) (next : State → State × Option Choice) : State × Option Choice :=
  match first with
  | (s, some c) => (s, some c)
  | (s, none) => next s

/-- LIVE: key-off candidates, key-on queue, controller queue, level slots, in turn (R113). -/
def serveLive (s : State) : State × Option Choice :=
  orElseServe (serveKeyOffs s.notes.candidates s) fun s1 =>
  orElseServe (serveKeyOns s1) fun s2 =>
  orElseServe (serveControls s2) serveLevels

/-! ## CHANGE (R114, R117, R118) -/

/-- The entry's next message: its PROGRAM, or its preset LEVEL once the PROGRAM has begun. -/
def PendingProgram.message (e : PendingProgram) : Message :=
  match e.next, e.preset with
  | .level, some v => .level e.channel v
  | _, _ => .program e.channel e.program

/-- What the list keeps of an entry whose message begins: nothing after its last message, the LEVEL next after a PROGRAM with a preset. -/
def PendingProgram.left (e : PendingProgram) : List PendingProgram :=
  match e.next, e.preset with
  | .program, some _ => [{ e with next := .level }]
  | _, _ => []

/-- The list in posting order: the first entry whose module is READY yields its message; the others keep their places. -/
def scanPending (mode : ModuleId → ModuleMode) : List PendingProgram → List PendingProgram × Option PendingProgram
  | [] => ([], none)
  | e :: es =>
    if mode e.module = .ready then (e.left ++ es, some e)
    else let r := scanPending mode es; (e :: r.1, r.2)

/-- The program state table records a PROGRAM that begins (R118). -/
def recordProgram (m : ModuleId) (msg : Message) (s : State) : State :=
  match msg with
  | .program c p => { s with bus := s.bus.setCell m c p }
  | _ => s

def serveChange (s : State) : State × Option Choice :=
  let r := scanPending (fun m => (s.module m).mode) s.bus.pending
  match r.2 with
  | none => (s, none)
  | some e =>
    (recordProgram e.module e.message { s with bus := { s.bus with pending := r.1 } },
     some ⟨some e.module, e.message, e.kind == .take, e.kind == .take && e.left.isEmpty⟩)

/-! ## PASS (R115) -/

def servePass (s : State) : State × Option Choice :=
  let r := scanQueue (fun i : Addressed => (s.module i.module).mode.waitVerdict) s.bus.pass
  let s1 := discardAll (r.dropped.map (·.module)) { s with bus := { s.bus with pass := r.rest } }
  match r.pick with
  | none => (s1, none)
  | some i => (recordProgram i.module i.message s1, some ⟨some i.module, i.message, false, false⟩)

/-! ## The arbiter (R111, Table 7-5) -/

/-- One choice: REALTIME first, then LIVE, CHANGE and PASS in the class order; the first class that yields a message supplies it. -/
def choose (s : State) : State × Option Choice :=
  orElseServe (serveRealtime s) fun s1 =>
  match s.setup.classOrder with
  | 1 => orElseServe (serveLive s1) fun s2 => orElseServe (servePass s2) serveChange
  | 2 => orElseServe (serveChange s1) fun s2 => orElseServe (serveLive s2) servePass
  | 3 => orElseServe (serveChange s1) fun s2 => orElseServe (servePass s2) serveLive
  | 4 => orElseServe (servePass s1) fun s2 => orElseServe (serveLive s2) serveChange
  | 5 => orElseServe (servePass s1) fun s2 => orElseServe (serveChange s2) serveLive
  | _ => orElseServe (serveLive s1) fun s2 => orElseServe (serveChange s2) servePass

/-- How much the arbiter still has to serve: a choice that changes a collection lowers it. -/
def State.busWork (s : State) : Nat :=
  s.notes.candidates.length + s.layer.keyOns.length + s.layer.controls.length + s.layer.levels.countP (·.isSome) +
    s.bus.realtime.length + s.bus.pass.length

/-- Choices on an idle bus: a choice that yields a message begins it; one that yields none but has changed a collection is followed by
another (R111), at most `fuel` times. -/
def choices : Nat → State → State
  | 0, s => s
  | fuel + 1, s =>
    match choose s with
    | (s', some c) =>
      let t := beginTransmission c.target c.message c.fromTake false s'
      if c.takeLeft then examineSettle t else t
    | (s', none) => if s'.busWork < s.busWork then choices fuel s' else s'

/-- The arbiter's work when a collection or a module's state has changed, or a transmission has ended: nothing while a message is being
transmitted, nor from the taking of a restart to the end of its SILENCE (R111, R122). -/
def arbitrate (s : State) : State :=
  if s.bus.transmission.isSome || s.resetting == .silence then s else choices (s.busWork + 1) s

/-! ## Module states (R107 to R110) -/

/-- A post to the pending program list: an entry for the same module and channel takes it in place, otherwise it joins the back (R117). -/
def postProgram (e : PendingProgram) (list : List PendingProgram) : List PendingProgram :=
  if list.any (fun x => x.module == e.module && x.channel == e.channel) then
    list.map (fun x => if x.module == e.module && x.channel == e.channel then e else x)
  else list ++ [e]

/-- The resync posts of a module returning from STALLED: for each program entry of the ACTIVE bank's song that names it, the program its
cell holds, where the list holds no entry for that channel (R110). -/
def resyncPosts (m : ModuleId) (b : Bus) (programs : List ProgramEntry) : List PendingProgram :=
  (programs.filter (fun e => e.module == m)).filterMap (fun e =>
    match b.cell m e.channel with
    | some p =>
      if b.pending.any (fun x => x.module == m && x.channel == e.channel) then none
      else some ⟨m, e.channel, p, none, .program, .resync⟩
    | none => none)

/-- A module enters a state, and MODULE_STATE is posted (R108). -/
def enterMode (m : ModuleId) (new : ModuleMode) (timer : Option Timer) (posts : Option Nat) (s : State) : State :=
  post (.moduleState m new (s.module m).mode posts) none (s.setModule m { s.module m with mode := new, timer })

/-- A READY module whose BUSY is accepted enters LOADING with its busy timer running for the stall limit (R108). -/
def enterLoading (m : ModuleId) (s : State) : State :=
  enterMode m .loading (some (s.timer (s.setup.stallMillis * 1000))) none s

/-- A module's filtered BUSY becomes ASSERTED (R108). -/
def busyAsserted (m : ModuleId) (s : State) : State :=
  let s1 := s.setModule m { s.module m with busy := true, agreeing := 0 }
  match (s.module m).mode with
  | .ready => arbitrate (examineSettle (enterLoading m s1))
  | _ => s1

/-- A module's filtered BUSY becomes DEASSERTED; one returning from STALLED is resynchronized (R108, R110). -/
def busyDeasserted (m : ModuleId) (s : State) : State :=
  let s1 := s.setModule m { s.module m with busy := false, agreeing := 0 }
  match (s.module m).mode with
  | .loading => arbitrate (examineSettle (enterMode m .ready none none s1))
  | .stalled =>
    let posts := resyncPosts m s1.bus s1.activeBank.programs
    let s2 := { s1 with bus := { s1.bus with pending := posts.foldl (fun l e => postProgram e l) s1.bus.pending } }
    arbitrate (examineSettle (enterMode m .ready none (some posts.length) s2))
  | _ => s1

/-- The busy timer of a LOADING module expires: it enters STALLED and its PASS items are removed, each counted (R109). -/
def enterStalled (m : ModuleId) (s : State) : State :=
  let gone := s.bus.pass.filter (fun i => i.module == m)
  let s1 := discardAll (gone.map (·.module)) { s with bus := { s.bus with pass := s.bus.pass.filter (fun i => i.module != m) } }
  arbitrate (examineSettle (enterMode m .stalled none none s1))

/-- At a reading of setup: modules in the mask READY, the others DISABLED, busy timers idle, no notice (R107); an enabled module whose
filtered level is ASSERTED then enters LOADING, with a notice (R122). -/
def setupModule (s : State) (m : ModuleId) : State :=
  let on := s.setup.moduleMask.getLsbD m.val
  let s1 := s.setModule m { s.module m with mode := if on then .ready else .disabled, timer := none }
  if on && (s.module m).busy then enterLoading m s1 else s1

/-! ## Transmissions (R106, R111, R119, R122) -/

/-- A transmission has ended: the idle timer starts, and the end of a TAKE entry's message restarts the settle timer (R106, R139). -/
def endOfMessage (t : Transmission) (s : State) : State :=
  let s1 := { s with bus := { s.bus with transmission := none, idleTimer := some (s.timer 100000) } }
  if t.fromTake && !s.inReset then { s1 with seq := { s1.seq with settle := .running (s1.timer 20000) } } else s1

/-- The restart's all-modules SILENCE begins (R122). -/
def beginRestartSilence (s : State) : State := beginTransmission none (.silence 15) false true s

/-- A panic's SILENCE joins the head of the REALTIME queue unless one waits there; from a full queue the item at the back is removed and
counted as a dropped click (R112). -/
def placeSilence (s : State) : State :=
  if s.bus.realtime.contains .silence then s
  else if s.bus.realtime.length < 8 then { s with bus := { s.bus with realtime := .silence :: s.bus.realtime } }
  else
    { s with bus := { s.bus with realtime := .silence :: s.bus.realtime.dropLast }
             click := { s.click with drops := saturate (s.click.drops + 1) } }

end Sys2Proof.Machine
end

