-- ==== Sys2Proof/Machine/Layers.lean ====
section
/-! DEFINITION. The Layer Engine: matching strikes against zones, velocities, controllers, level slots, zone toggles and edits (Section 5). -/

namespace Sys2Proof.Machine

/-! ## Matching (R71, R72) -/

/-- The zone takes events of this link and channel while its enabled state is ON. -/
def Zone.takes (z : Zone) (on : Bool) (l : LinkId) (c : Channel) : Bool :=
  on && z.links.getLsbD l.val && (z.source == none || z.source == some c)

/-- A zone matches a strike (R71). -/
def Zone.matchesStrike (z : Zone) (on : Bool) (l : LinkId) (c : Channel) (key velocity : Nat) : Bool :=
  z.takes on l c && inRange key z.keyLow z.keyHigh && inRange velocity z.velLow z.velHigh

/-- The zones of a bank with their enabled states, in index order. -/
def Bank.zonesOn (b : Bank) : List (Zone × Bool) := b.zones.zipIdx.map (fun zi => (zi.1, b.zoneOn zi.2))

/-- The matching zones of a strike, in index order. -/
def Bank.matching (b : Bank) (l : LinkId) (c : Channel) (key velocity : Nat) : List Zone :=
  (b.zonesOn.filter (fun zo => zo.1.matchesStrike zo.2 l c key velocity)).map (·.1)

/-- The zone's curve applied to the struck velocity (Table 5-2). -/
def Zone.curved (z : Zone) (v : Nat) : Nat :=
  match z.curve with
  | .linear => v
  | .soft => v * (381 - v) / 254
  | .hard => max 1 (v * v / 127)
  | .fixed => z.fixedVelocity

/-- The velocity sent: the greater of 1 and floor(v' × L / 127) (R73). -/
def Zone.velocity (z : Zone) (v : Nat) : Nat := max 1 (z.curved v * z.level / 127)

/-- The destination key: the strike's key plus the zone's transpose; none outside 0 to 127 (R72). -/
def Zone.destKey (z : Zone) (key : Nat) : Option Nat :=
  let k := (key : Int) + z.transpose
  if 0 ≤ k ∧ k ≤ 127 then some k.toNat else none

/-- Turns candidates into destinations in order; a candidate with its key out of range, its level 0, or a destination already formed is
skipped (R72). -/
def formDests (key velocity : Nat) : List (Dest × Nat) → List Zone → List (Dest × Nat)
  | formed, [] => formed
  | formed, z :: zs =>
    match z.destKey key with
    | none => formDests key velocity formed zs
    | some k =>
      let d : Dest := ⟨z.module, z.channel, k, .queued, false⟩
      if z.level = 0 ∨ formed.any (fun x => x.1.sameNote d) = true then formDests key velocity formed zs
      else formDests key velocity (formed ++ [(d, z.velocity velocity)]) zs

/-! ## Strikes (R71, R74, R75) -/

/-- Places one key-on item: QUEUED below 32 items; otherwise DROPPED and counted (R74, R75). -/
def placeKeyOn (serial i velocity : Nat) (s : State) : State :=
  if s.layer.keyOns.length < 32 then
    flagDest serial i .queued { s with layer := { s.layer with keyOns := s.layer.keyOns ++ [⟨serial, i, velocity⟩] } }
  else flagDest serial i .dropped { s with layer := { s.layer with keyOnDrops := saturate (s.layer.keyOnDrops + 1) } }

/-- Places the key-on items of an entry from destination `i` on. -/
def placeKeyOns (serial : Nat) : Nat → List Nat → State → State
  | _, [], s => s
  | i, v :: vs, s => placeKeyOns serial (i + 1) vs (placeKeyOn serial i v s)

/-- Each matching zone after the fourth adds one to the ACTIVE bank's layer-overflow count (R71). -/
def countOverflow (n : Nat) (s : State) : State :=
  s.setBank s.banks.active { s.activeBank with overflow := saturate (s.activeBank.overflow + n) }

/-- The whole work of a strike (R71 to R75, R89 to R91). -/
def takeStrike (l : LinkId) (c : Channel) (key velocity : Nat) (s : State) : State :=
  let zones := s.activeBank.matching l c key velocity
  let s1 := if zones.length ≤ 4 then s else countOverflow (zones.length - 4) s
  let dests := formDests key velocity [] (zones.take 4)
  if dests.isEmpty then s1
  else
    let k : Strike := ⟨l, c, key, velocity, dests⟩
    if s1.notes.entries.length < 128 then placeKeyOns s1.notes.nextSerial 0 (dests.map (·.2)) (makeEntry k s1)
    else dropStrike k s1

/-! ## Controllers and bend (R76, R77) -/

def ControlItem.same (a b : ControlItem) : Bool := a.module == b.module && a.channel == b.channel && a.control == b.control

/-- A controller item is offered to the queue: it replaces the value of one of its identity, joins the back below 16, or is dropped and
counted (R77). -/
def offerControl (c : ControlItem) (s : State) : State :=
  if s.layer.controls.any (fun x => x.same c) then
    { s with layer := { s.layer with controls := s.layer.controls.map (fun x => if x.same c then { x with value := c.value } else x) } }
  else if s.layer.controls.length < 16 then { s with layer := { s.layer with controls := s.layer.controls ++ [c] } }
  else { s with layer := { s.layer with controlDrops := saturate (s.layer.controlDrops + 1) } }

/-- A controller or bend event is offered for every enabled, pass-controlling zone that takes it, in index order (R76). -/
def takeControl (l : LinkId) (c : Channel) (control : ControlId) (value : Nat) (s : State) : State :=
  let zones := s.activeBank.zonesOn.filter (fun zo => zo.1.takes zo.2 l c && zo.1.passControllers)
  zones.foldl (fun t zo => offerControl ⟨zo.1.module, zo.1.channel, control, value⟩ t) s

/-- The whole work of one event (R70). -/
def takeEvent (l : LinkId) (e : KeyEvent) (s : State) : State :=
  match e with
  | .strike c key velocity => takeStrike l c key velocity s
  | .controller c number value => takeControl l c (.controller number) value s
  | .bend c value => takeControl l c .bend value s

/-- The engine can take a pending event: a strike not while the table holds 128 entries of which one is RELEASING (R70). -/
def State.canTake (s : State) : KeyEvent → Bool
  | .strike .. => !(decide (128 ≤ s.notes.entries.length) && s.notes.entries.any Entry.releasing)
  | _ => true

/-- The links in the order the engine serves them: from the one after the link served last, wrapping (R70). -/
def serviceOrder (last : LinkId) : List LinkId := [last + 1, last + 2, last + 3, last]

/-- The first link in service order with an event the engine can take. -/
def State.nextServed (s : State) : Option (LinkId × KeyEvent) :=
  (serviceOrder s.layer.lastServed).findSome? (fun l =>
    match (s.link l).event with
    | some e => if s.canTake e then some (l, e) else none
    | none => none)

/-! ## Level slots (R78 to R80, R84) -/

/-- The level a pedal output gives a zone: floor(x × L / 127) (R79). -/
def Zone.levelFor (z : Zone) (x : Nat) : Nat := x * z.level / 127

/-- Fills or empties one level slot. -/
def setLevel (i : Nat) (v : Option Nat) (s : State) : State :=
  { s with layer := { s.layer with levels := s.layer.levels.set i v } }

/-- A pedal's new output fills the slot of every enabled zone of the ACTIVE bank that names it (R79). -/
def fillFromPedal (p : PedalId) (s : State) : State :=
  let x := (s.pedal p).output
  let zones := s.activeBank.zonesOn
  { s with layer := { s.layer with levels := s.layer.levels.zipIdx.map (fun li =>
      match zones[li.2]? with
      | some (z, on) => if on && z.pedal == some p then some (z.levelFor x) else li.1
      | none => li.1) } }

/-- What a zone's slot takes when the zone comes in: the level of its pedal's present output, or nothing to fill it with (R80). -/
def State.entryLevel (s : State) (z : Zone) : Option Nat :=
  match z.pedal with
  | some p => some (z.levelFor (s.pedal p).output)
  | none => none

/-- The level slots of a bank's zones as a take forms them: empty, then filled for every enabled zone with a pedal (R84). -/
def State.formedLevels (s : State) (b : Bank) : List (Option Nat) :=
  b.zonesOn.map (fun zo => if zo.2 then s.entryLevel zo.1 else none)

/-- At a take the level slots are re-formed for the new ACTIVE bank (R84). -/
def reformLevels (s : State) : State :=
  { s with layer := { s.layer with levels := s.formedLevels s.activeBank } }

/-! ## Zone toggles and edits (R80 to R83) -/

/-- A zone's enabled state in the ACTIVE bank is set; a change empties or fills its level slot (R80). -/
def setZoneOn (i : Nat) (on : Bool) (s : State) : State :=
  if s.activeBank.zoneOn i = on then s
  else
    let s1 := s.setBank s.banks.active { s.activeBank with enabled := s.activeBank.enabled.set i on }
    if on then
      match s.activeBank.zones[i]? with
      | some z =>
        match s.entryLevel z with
        | some v => setLevel i (some v) s1
        | none => s1
      | none => s1
    else setLevel i none s1

/-- Replaces the element at a place, or appends at the end. -/
def putAt {α : Type} (i : Nat) (x : α) (l : List α) : List α := if i < l.length then l.set i x else l ++ [x]

/-- A zone record enters a bank, its enabled state taken from the record (R69, R83). -/
def Bank.putZone (b : Bank) (i : Nat) (z : Zone) : Bank :=
  match b.image with
  | some song => { b with image := some { song with zones := putAt i z song.zones }, enabled := putAt i z.enabled b.enabled }
  | none => b

/-- An edit of the ACTIVE bank: the record enters, and the zone's slot is emptied and filled from its pedal when it is enabled (R83). -/
def editActive (i : Nat) (z : Zone) (s : State) : State :=
  let s1 := s.setBank s.banks.active (s.activeBank.putZone i z)
  { s1 with layer := { s1.layer with levels := putAt i (if z.enabled then s.entryLevel z else none) s1.layer.levels } }

/-- An edit of the STANDBY bank (R83). -/
def editStandby (i : Nat) (z : Zone) (s : State) : State := s.setBank s.banks.active.other (s.standbyBank.putZone i z)

/-! ## Panic (R64, R85, R101, R121) -/

def KeyEvent.isStrike : KeyEvent → Bool
  | .strike .. => true
  | _ => false

/-- A link at a panic: its sustain states are cleared without lifts and a pending strike is discarded (R64, R85). -/
def KeyLink.atPanic (k : KeyLink) : KeyLink :=
  { k with sustain := 0, footSustain := false
           event := match k.event with
             | some e => if e.isStrike then none else some e
             | none => none }

/-- The panic, at the instant it is taken: SILENCE at the head of REALTIME, queues and slots emptied, entries removed, sustains cleared. -/
def panicAll (s : State) : State :=
  let s1 := placeSilence s
  let s2 := { s1 with layer := { s1.layer with keyOns := [], controls := [], levels := s1.layer.levels.map (fun _ => none) }
                      links := s1.links.map KeyLink.atPanic }
  arbitrate (panicNotes s2)

end Sys2Proof.Machine
end

