-- ==== Sys2Proof/Machine/Clicks.lean ====
section
/-! DEFINITION. The Click Generator: which click falls on which tick, the click lines, the CLICK messages, CLKOUT, and the beat flashes
(Section 3, R167). -/

namespace Sys2Proof.Machine

/-! ## Which click (R42, R44, R45) -/

/-- The accent entry of a beat (R42). -/
def Click.entry (c : Click) (beat : Nat) : Accent := c.accents.getD (beat - 1) .silent

/-- The click a tick makes by its beat and tick number, named by the line it drives (R44, R45). -/
def Click.at (c : Click) (p : Position) : Option ClickLine :=
  if p.tick = 0 then
    match c.entry p.beat with
    | .accent => some .accent
    | .beat => some .beat
    | .silent => none
  else if p.tick % (240 / c.subdivision) = 0 then
    match c.entry p.beat with
    | .accent => some .sub
    | .beat => some .sub
    | .silent => none
  else none

/-- The click a tick makes, the mute silencing the ticks emitted in RUNNING (R49). -/
def State.tickClick (s : State) : Option ClickLine :=
  match s.grid.transport with
  | .countIn => s.click.at s.grid.position
  | .running => if s.click.mute then none else s.click.at s.grid.position
  | _ => none

/-! ## Lines and messages (R47, R48) -/

/-- A click's line goes high, its pulse timer set for 10,000 µs (R47). -/
def pulseLine (k : ClickLine) (s : State) : State :=
  let t := some (s.timer 10000)
  match k with
  | .accent => { s with click := { s.click with accentLine := t } }
  | .beat => { s with click := { s.click with beatLine := t } }
  | .sub => { s with click := { s.click with subLine := t } }

/-- The strength of a CLICK message (R48). -/
def clickStrength : ClickLine → Nat
  | .accent => 2
  | .beat => 1
  | .sub => 0

/-- A click offers a CLICK message to the REALTIME queue of 8, or is counted as dropped; address 0 makes no message (R48). -/
def offerClick (k : ClickLine) (s : State) : State :=
  match s.setup.clickModule with
  | none => s
  | some m =>
    if s.bus.realtime.length < 8 then
      { s with bus := { s.bus with realtime := s.bus.realtime ++ [.click ⟨m, .click s.setup.clickChannel (clickStrength k)⟩] } }
    else { s with click := { s.click with drops := saturate (s.click.drops + 1) } }

/-- The click of a tick (R44 to R49). -/
def clickTick (s : State) : State :=
  match s.tickClick with
  | some k => offerClick k (pulseLine k s)
  | none => s

/-! ## CLKOUT (R50) -/

/-- The pulse width: the smaller of 5000 µs and half the nominal pulse period at this T_g. -/
def clkoutWidth (rate tempo : Nat) : Nat := min 5000 (3000000000 / (rate * tempo))

/-- A CLKOUT tick drives CLKOUT high and sets its pulse timer. -/
def clkoutTick (s : State) : State :=
  if s.grid.position.tick % (240 / s.setup.clkoutRate) = 0 then
    { s with click := { s.click with clkout := some (s.timer (clkoutWidth s.setup.clkoutRate s.grid.tempo)) } }
  else s

/-! ## Beat flashes (R167) -/

/-- The beat flash timer starts at each beat boundary, the downbeat flash timer at each downbeat. -/
def flashTick (s : State) : State :=
  if s.grid.position.tick = 0 then
    { s with board := { s.board with
        beatFlash := some (s.timer 100000)
        downbeatFlash := if s.grid.position.beat = 1 then some (s.timer 100000) else s.board.downbeatFlash } }
  else s

/-! ## Mute (R49) -/

def setMute (on : Bool) (s : State) : State := { s with click := { s.click with mute := on } }

end Sys2Proof.Machine
end

