-- ==== Sys2Proof/Machine/Grid.lean ====
section
/-! DEFINITION. The tempo grid: the show position, tempo changes, intervals, ticks and their receivers, START and STOP, the tempo records,
and the changes of tempo source (Section 1, R36, R37). -/

namespace Sys2Proof.Machine

/-! ## The show position (R8) -/

/-- The position one tick on. -/
def Position.next (p : Position) (meter : Nat) : Position :=
  if p.tick + 1 < 240 then { p with tick := p.tick + 1 }
  else if p.beat + 1 ≤ meter then { p with beat := p.beat + 1, tick := 0 }
  else ⟨if p.bar = 9999 then 9999 else p.bar + 1, 1, 0⟩

/-- Tick 0 of the following beat (R12). -/
def Position.followingBeat (p : Position) (meter : Nat) : Position := Position.next { p with tick := 239 } meter

/-- Tick 0 of any beat. -/
def Position.isBeat (p : Position) : Bool := p.tick == 0

/-- Tick 0 of beat 1. -/
def Position.isDownbeat (p : Position) : Bool := p.tick == 0 && p.beat == 1

/-! ## Tempo and intervals (R6, R7) -/

/-- T_g is set. A value that differs waits for the next interval computed, before which r is set to 0 (R7). -/
def setTempo (t : Nat) (s : State) : State :=
  if t = s.grid.tempo then s else { s with grid := { s.grid with tempo := t, fresh := true } }

/-- The next interval is computed and the countdown loaded (R6, R7). -/
def Grid.interval (g : Grid) (now : Count) : Grid :=
  let r := if g.fresh then 0 else g.remainder
  let q := (25000000 + r) / g.tempo
  { g with remainder := 25000000 + r - q * g.tempo, countdown := some ⟨now, q⟩, fresh := false }

def nextInterval (s : State) : State := { s with grid := s.grid.interval s.now }

/-! ## The tick's receivers (R9) -/

/-- The tempo a ramp gives at its k-th beat (R19). -/
def Ramp.at (r : Ramp) (k : Nat) : Nat :=
  ((r.start : Int) + roundAway (((r.target : Int) - r.start) * k) r.beats).toNat

/-- A ramp step at a beat boundary (R19). -/
def rampStep (s : State) : State :=
  match s.grid.ramp with
  | some r =>
    if s.grid.position.isBeat then
      let k := r.done + 1
      let s1 := setTempo (r.at k) s
      { s1 with grid := { s1.grid with ramp := if r.beats ≤ k then none else some { r with done := k } } }
    else s
  | none => s

/-- A tick that ends an interval counts for the correction record when that interval was computed after the record was made; at 0 the
tempo returns to T_f (R21). -/
def correctionTick (s : State) : State :=
  match s.grid.correction with
  | some c =>
    if c.counting then
      if c.remaining ≤ 1 then setTempo s.follower.tempo { s with grid := { s.grid with correction := none } }
      else { s with grid := { s.grid with correction := some { c with remaining := c.remaining - 1 } } }
    else { s with grid := { s.grid with correction := some { c with counting := true } } }
  | none => s

/-- Whether a port's position-notice setting calls for a notice at this position (R9). -/
def PositionSetting.calls (x : PositionSetting) (p : Position) : Bool :=
  match x with
  | .off => false
  | .bar => p.isDownbeat
  | .beat => p.isBeat

/-- A port's POSITION notice (R9, R176). -/
def positionNotice (p : Port) (s : State) : State :=
  if (s.port p).positions.calls s.grid.position then postTo p (.position s.grid.transport s.grid.tempo) none s else s

/-- The work of a tick at its receivers, apart from the Follower's holdover count: clicks and CLKOUT, the ramp step (not at a take's own
tick), the correction count, the flashes, the POSITION notices (R9). -/
def tickReceivers (ofTake endsInterval : Bool) (s : State) : State :=
  let s1 := clkoutTick (clickTick s)
  let s2 := if ofTake then s1 else rampStep s1
  let s3 := if endsInterval then correctionTick s2 else s2
  positionNotice .b (positionNotice .a (flashTick s3))

/-! ## Follow states and the tempo source (R17, R36 to R38) -/

/-- FOLLOW_STATE is posted for a change from `prev` to the present state (R38). -/
def followNotice (prev : FollowState) (s : State) : State :=
  post (.followState s.follower.state prev s.follower.tempo s.grid.source) none s

/-- SEEKING from OFF: T_f takes T_g, everything else begins afresh (R36). -/
def Follower.seekFrom (f : Follower) (tempo : Nat) : Follower :=
  { f with state := .seeking, tempo := tempo, reference := none, intervals := [], outliers := 0
           holdoverTimer := none, holdoverBeats := 0, paceTimer := none }

/-- OFF: T_f is kept, everything else is cleared (R37). -/
def Follower.turnOff (f : Follower) : Follower :=
  { f with state := .off, reference := none, intervals := [], outliers := 0
           holdoverTimer := none, holdoverBeats := 0, paceTimer := none }

/-- The tempo source becomes a different one, without the Follower's notice: both tempo records are removed, T_g is kept, T_f takes T_g on
entry to TAP, the Follower enters SEEKING or OFF (R17, R36, R37). -/
def switchSource (new : TempoSource) (s : State) : State :=
  let f :=
    match new with
    | .follow => s.follower.seekFrom s.grid.tempo
    | .tap => (if s.grid.source = .follow then s.follower.turnOff else s.follower)
    | .internal => (if s.grid.source = .follow then s.follower.turnOff else s.follower)
  { s with grid := { s.grid with source := new, ramp := none, correction := none }
           follower := if new = .tap then { f with tempo := s.grid.tempo } else f }

/-- The tempo source becomes a different one, with the Follower's notice where its state changes (R17). -/
def changeSource (new : TempoSource) (s : State) : State :=
  let t := switchSource new s
  if t.follower.state = s.follower.state then t else followNotice s.follower.state t

/-! ## The transport (R11 to R15) -/

/-- The transport takes a state, and TRANSPORT is posted (R15). Where a tick is emitted in the same work (START, a start mark, the end of a
count-in), this stands ahead of the tick and so ahead of its POSITION notice, an order the spec leaves open (log entry 19). -/
def enterTransport (new : Transport) (o : Option Origin) (s : State) : State :=
  post (.transport new s.grid.position) o { s with grid := { s.grid with transport := new } }

/-- The position is set. -/
def setPosition (p : Position) (s : State) : State := { s with grid := { s.grid with position := p } }

/-- The first tick of a start, at this instant: the pace timer becomes idle, the tick goes to its receivers, and the interval after it is
computed with r = 0 (R6, R34). The Follower is then OFF or LOCKED, so no holdover beat is counted. -/
def firstTick (ofTake : Bool) (s : State) : State :=
  let s1 := { s with follower := { s.follower with paceTimer := none }, grid := { s.grid with remainder := 0 } }
  nextInterval (tickReceivers ofTake false s1)

/-- A start into COUNT_IN or RUNNING: the position, the notice, the first tick (R11). That TRANSPORT is posted ahead of the POSITION of this
first tick is the model's choice (log entry 19). -/
def startAt (new : Transport) (p : Position) (o : Option Origin) (s : State) : State :=
  firstTick false (enterTransport new o (setPosition p s))

/-- START (R11). -/
def start (o : Origin) (s : State) : State :=
  match s.grid.transport with
  | .stopped =>
    if s.grid.source = .follow then enterTransport .startPending (some o) s
    else
      let n := s.activeBank.countIn
      if 1 ≤ n ∧ n ≤ 4 ∧ s.grid.position = Position.top then startAt .countIn ⟨1 - (n : Int), 1, 0⟩ (some o) s
      else startAt .running s.grid.position (some o) s
  | _ => s

/-- The position a STOP leaves (R13). -/
def Grid.stopPosition (g : Grid) : Position :=
  match g.transport with
  | .stopped => Position.top
  | .startPending => g.position
  | .countIn => Position.top
  | .running => g.position.next g.meter

/-- T_g after a STOP ends the tempo records: the ramp's target, or T_f (R13). -/
def State.stopTempo (s : State) : Nat :=
  match s.grid.ramp, s.grid.correction with
  | some r, _ => r.target
  | none, some _ => s.follower.tempo
  | none, none => s.grid.tempo

/-- The pace timer starts for P µs when the transport enters STOPPED in HOLDOVER (R34). -/
def Follower.atStop (f : Follower) (now : Count) : Follower :=
  if f.state = .holdover then { f with paceTimer := some ⟨now, f.period⟩ } else f

/-- STOP's own work (R13); a take that falls due after it is the Change Sequencer's. -/
def stopGrid (o : Origin) (s : State) : State :=
  let p := s.grid.stopPosition
  match s.grid.transport with
  | .stopped => enterTransport .stopped (some o) (setPosition p s)
  | _ =>
    enterTransport .stopped (some o)
      { s with
        grid := { s.grid with tempo := s.stopTempo, remainder := 0, countdown := none, fresh := false, position := p
                              ramp := none, correction := none }
        follower := s.follower.atStop s.now }

/-- START_PENDING ended by the tempo source leaving FOLLOW: RUNNING at the held position, the tick still to come (R12). -/
def endPending (o : Option Origin) (s : State) : State :=
  if s.grid.transport = .startPending ∧ s.grid.source ≠ .follow then enterTransport .running o s else s

/-- SET_TEMPO_SOURCE naming a different source (R17): the tick of a transport that leaves START_PENDING closes the work. -/
def setSource (new : TempoSource) (o : Origin) (s : State) : State :=
  if new = s.grid.source then s
  else
    let t := endPending (some o) (changeSource new s)
    if s.grid.transport = .startPending ∧ new ≠ .follow then firstTick false t else t

/-! ## SET_TEMPO (R16) -/

/-- SET_TEMPO under INTERNAL or TAP: the clamped value, no ramp, and under TAP T_f with it and no correction. -/
def applyTempo (value : Nat) (s : State) : State :=
  let t := clampTempo value
  let s1 := setTempo t { s with grid := { s.grid with ramp := none } }
  if s.grid.source = .tap then
    { s1 with follower := { s1.follower with tempo := t }, grid := { s1.grid with correction := none } }
  else s1

end Sys2Proof.Machine
end

