-- ==== Sys2Proof/Machine/Follow.lean ====
section
/-! DEFINITION. The Follower and the tap timer: marks, lock, filter, phase correction, realignment, holdover and loss, taps (Section 2);
and the emission of a tick with the holdover beat it counts (R9, R34). -/

namespace Sys2Proof.Machine

/-! ## Intervals (R26) -/

/-- In window: 200,000 to 2,000,000 µs. -/
def inWindow (i : Nat) : Bool := decide (200000 ≤ i) && decide (i ≤ 2000000)

/-- T_meas = 6,000,000,000 / I, rounded half up. -/
def measured (i : Nat) : Nat := roundHalfUp 6000000000 i

/-- The difference of two numbers of microseconds. -/
def apart (a b : Nat) : Nat := if a ≤ b then b - a else a - b

/-- Within tolerance of a reference interval: 100 × |I − X| ≤ tol × X (R27, R29). -/
def withinTolerance (tol i x : Nat) : Bool := decide (100 * apart i x ≤ tol * x)

/-! ## Phase correction (R31) -/

/-- The phase error of a phase. -/
def phaseError (p : Nat) : Int := if p < 120 then (p : Int) else (p : Int) - 240

/-- Clamped to −24..+24. -/
def clampError (e : Int) : Int := if e < -24 then -24 else if 24 < e then 24 else e

/-- The corrected tempo T_f × (240 − e) / 240, rounded half away from zero and clamped. -/
def correctedTempo (tempo : Nat) (e : Int) : Nat := clampTempo (roundAway ((tempo : Int) * (240 - e)) 240).toNat

/-- Phase correction with an error (R31). -/
def correctPhase (e : Int) (s : State) : State :=
  let c := clampError e
  if c = 0 then setTempo s.follower.tempo { s with grid := { s.grid with correction := none } }
  else
    let t := correctedTempo s.follower.tempo c
    let s1 := setTempo t s
    { s1 with grid := { s1.grid with correction := some ⟨t, (240 - c).toNat, false⟩ } }

/-! ## Beat realignment (R32) -/

/-- The beat the grid will be in once the correction has done its work. -/
def correctedBeat (e : Int) (beat meter : Nat) : Nat :=
  if 0 ≤ e then beat else if beat + 1 ≤ meter then beat + 1 else 1

/-- The rewritten beat number. -/
def rewrittenBeat (e : Int) (b meter : Nat) : Nat := if 0 ≤ e then b else if b = 1 then meter else b - 1

/-- Beat realignment by a mark's beat-in-bar, the error taken before clamping (R32). -/
def realign (e : Int) (b : Nat) (o : Option Origin) (s : State) : State :=
  let p := s.grid.position
  if b ≠ 0 ∧ b ≤ s.grid.meter ∧ s.grid.transport.emits = true ∧ correctedBeat e p.beat s.grid.meter ≠ b then
    let after := { p with beat := rewrittenBeat e b s.grid.meter }
    post (.barRealigned p after) o (setPosition after s)
  else s

/-! ## Accepted marks (R12, R28, R29, R34) -/

/-- The grid's start at a start mark: RUNNING, with the held position or tick 0 of the following beat (R12). -/
def startAtMark (s : State) : State :=
  let p := s.grid.position
  startAt .running (if p.tick = 0 then p else p.followingBeat s.grid.meter) none s

/-- What the grid owes at an accepted mark: phase correction, the start of a transport in START_PENDING, realignment. The error of a start
mark is 0, and its correction and the start come in either order (R12, log entry 6). -/
def markWork (e : Int) (b : Nat) (o : Option Origin) (s : State) : State :=
  if s.grid.transport = .startPending then
    if Config.followerBeforeStart s.draws then realign 0 b o (startAtMark (correctPhase 0 s.drew))
    else realign 0 b o (correctPhase 0 (startAtMark s.drew))
  else realign e b o (correctPhase e s)

/-- The reference time becomes the mark's and the holdover timer runs for 2 × P µs from it (R28, R29, R34). -/
def Follower.heldFrom (f : Follower) (now : Count) : Follower :=
  { f with reference := some now, holdoverTimer := some ⟨now, 2 * f.period⟩ }

/-- The follower is replaced. -/
def setFollower (f : Follower) (s : State) : State := { s with follower := f }

/-- The mark that achieves lock (R28). -/
def lock (intervals : List Nat) (b : Nat) (o : Option Origin) (s : State) : State :=
  let tempo := clampTempo (roundHalfUp 18000000000 intervals.sum)
  let f := { s.follower with state := .locked, tempo := tempo, outliers := 0, intervals := [], reference := some s.now }
  let s1 := markWork (phaseError s.grid.phase) b o (setFollower f s)
  followNotice .seeking (setFollower (s1.follower.heldFrom s.now) s1)

/-- The lock count restarts from this mark (R27). -/
def Follower.restartLock (f : Follower) (now : Count) : Follower := { f with reference := some now, intervals := [] }

/-- A mark in SEEKING (R27). -/
def markSeeking (b : Nat) (o : Option Origin) (s : State) : State :=
  let f := s.follower
  match f.reference with
  | none => setFollower (f.restartLock s.now) s
  | some ref =>
    let i := since s.now ref
    if !inWindow i then setFollower (f.restartLock s.now) s
    else
      match f.intervals.getLast? with
      | none => setFollower { f with reference := some s.now, intervals := [i] } s
      | some previous =>
        if !withinTolerance s.setup.tolerance i previous then setFollower (f.restartLock s.now) s
        else if f.intervals.length + 1 < 3 then
          setFollower { f with reference := some s.now, intervals := f.intervals ++ [i] } s
        else lock (f.intervals ++ [i]) b o s

/-- T_f after the follow filter (R30). -/
def filtered (tempo i : Nat) : Nat :=
  clampTempo ((tempo : Int) + roundAway ((measured i : Int) - tempo) 4).toNat

/-- SEEKING entered at a mark from another state: the lock count starts from the mark (R29, R34, R35). -/
def seekFromMark (prev : FollowState) (s : State) : State :=
  followNotice prev
    (setFollower { s.follower.restartLock s.now with state := .seeking, outliers := 0, holdoverTimer := none, paceTimer := none } s)

/-- An outlier in LOCKED (R29). -/
def markOutlier (s : State) : State :=
  if s.follower.outliers = 0 then setFollower { s.follower with outliers := 1 } s else seekFromMark .locked s

/-- A mark accepted in LOCKED (R29, R30). -/
def markAccepted (i : Nat) (e : Int) (b : Nat) (o : Option Origin) (s : State) : State :=
  let s1 := markWork e b o (setFollower { s.follower with outliers := 0, tempo := filtered s.follower.tempo i } s)
  setFollower (s1.follower.heldFrom s.now) s1

/-- A mark in LOCKED (R29). -/
def markLocked (b : Nat) (o : Option Origin) (s : State) : State :=
  match s.follower.reference with
  | none => markOutlier s
  | some ref =>
    let i := since s.now ref
    let e := phaseError s.grid.phase
    if inWindow i && withinTolerance s.setup.tolerance i s.follower.period && decide (-48 ≤ e) && decide (e ≤ 48) then
      markAccepted i e b o s
    else markOutlier s

/-- A mark in HOLDOVER (R34). -/
def markHoldover (b : Nat) (o : Option Origin) (s : State) : State :=
  let e := phaseError s.grid.phase
  if -24 ≤ e ∧ e ≤ 24 then
    let s1 := markWork e b o (setFollower { s.follower with state := .locked, outliers := 0, paceTimer := none } s)
    followNotice .holdover (setFollower (s1.follower.heldFrom s.now) s1)
  else seekFromMark .holdover s

/-- A mark handed to the Follower, at this instant, with its beat-in-bar (0 for none) and the marking port (R26 to R35). In OFF no mark is
handed on (R37). -/
def takeMark (b : Nat) (o : Option Origin) (s : State) : State :=
  match s.follower.state with
  | .off => s
  | .seeking => markSeeking b o s
  | .locked => markLocked b o s
  | .holdover => markHoldover b o s
  | .lost => seekFromMark .lost s

/-! ## Holdover and loss (R33 to R35) -/

/-- HOLDOVER is entered from LOCKED (R33). -/
def enterHoldover (s : State) : State :=
  let s1 := setTempo s.follower.tempo { s with grid := { s.grid with correction := none } }
  followNotice .locked
    (setFollower { s.follower with
        state := .holdover, outliers := 0, holdoverBeats := 0, holdoverTimer := none
        paceTimer := if s.grid.transport.emits then none else some (s.timer s.follower.period) } s1)

/-- The ramp of the SONG_TEMPO fallback, or its tempo at once where the grid emits no ticks (R19, R35). -/
def fallbackTempo (tempo : Nat) (s : State) : State :=
  if s.grid.transport.emits then { s with grid := { s.grid with ramp := some ⟨s.grid.tempo, tempo, 4, 0⟩ } }
  else setTempo tempo s

/-- The SONG_TEMPO fallback (R35): the source leaves FOLLOW, a pending transport starts, the ramp is made, TEMPO_FALLBACK and then the
FOLLOW_STATE for OFF are posted. An ACTIVE bank with no song keeps T_g, and the target posted is open (log entry 7). -/
def songFallback (s : State) : State :=
  let pending := s.grid.transport = .startPending
  let s1 := endPending none (switchSource .internal s)
  let s2 := if pending then firstTick false s1 else s1
  let s3 :=
    match s.activeBank.image with
    | some song => post (.tempoFallback s.grid.tempo song.tempo) none (fallbackTempo song.tempo s2)
    | none => post (.tempoFallback s.grid.tempo (Config.fallbackTarget s.draws)) none s2.drew
  followNotice .lost s3

/-- LOST is entered: the pace timer becomes idle, the URGENT FOLLOW_STATE is posted, the on-loss action is applied (R35). -/
def enterLost (s : State) : State :=
  let s1 := followNotice .holdover (setFollower { s.follower with state := .lost, paceTimer := none } s)
  match s.setup.onLoss with
  | .freewheel => s1
  | .songTempo => songFallback s1

/-- A holdover beat is counted; the H-th enters LOST (R34). -/
def countHoldover (s : State) : State :=
  let n := s.follower.holdoverBeats + 1
  let s1 := setFollower { s.follower with holdoverBeats := n } s
  if s.setup.holdoverBeats ≤ n then enterLost s1 else s1

/-- A beat boundary emitted in HOLDOVER counts (R34). -/
def holdoverTick (s : State) : State :=
  if s.follower.state = .holdover ∧ s.grid.position.isBeat = true then countHoldover s else s

/-- A tick after the first is emitted, carrying the position the grid holds: its receivers, the holdover beat, the next interval
(R6, R9, R34). -/
def emitTick (ofTake : Bool) (s : State) : State := nextInterval (holdoverTick (tickReceivers ofTake true s))

/-- The pace timer expires: a holdover beat is counted and, in HOLDOVER still, the timer runs for P µs again (R34). -/
def paceExpiry (s : State) : State :=
  countHoldover (setFollower { s.follower with paceTimer := some (s.timer s.follower.period) } s)

/-! ## The tap timer (R39, R40) -/

/-- A tap tempo from two to four intervals. -/
def tapTempo (intervals : List Nat) : Nat := roundHalfUp (6000000000 * intervals.length) intervals.sum

/-- A tap tempo is recorded, and under TAP T_f and then T_g are set to it; in RUNNING phase correction follows, whose corrected tempo
supersedes it, and elsewhere any correction record is removed (R40, R7). -/
def applyTap (t : Nat) (s : State) : State :=
  let s1 := { s with tap := { s.tap with tempo := some t } }
  if s.grid.source = .tap then
    let s2 := setTempo t (setFollower { s1.follower with tempo := t } s1)
    if s.grid.transport = .running then correctPhase (phaseError s.grid.phase) s2
    else { s2 with grid := { s2.grid with correction := none } }
  else s1

/-- The last four of the intervals held and the new one. -/
def appendInterval (intervals : List Nat) (t : Nat) : List Nat :=
  let all := intervals ++ [t]
  if 4 < all.length then all.drop 1 else all

/-- A tap at this instant (R39). -/
def takeTap (s : State) : State :=
  let fresh : State := { s with tap := { s.tap with last := some s.now, intervals := [] } }
  match s.tap.last with
  | none => fresh
  | some last =>
    let t := since s.now last
    if 2000000 < t then fresh
    else if t < 200000 then s
    else
      let intervals := appendInterval s.tap.intervals t
      let s1 := { s with tap := { s.tap with last := some s.now, intervals } }
      if 2 ≤ intervals.length then applyTap (tapTempo intervals) s1 else s1

/-! ## The REFIN line (R25) -/

/-- A rising edge of the filtered level: a mark without beat number under FOLLOW with source REFIN, otherwise ignored (R25). -/
def refinEdge (s : State) : State :=
  let s1 := setFollower { s.follower with refinLevel := some true } s
  if s.grid.source = .follow ∧ s.setup.followSource = .refin then takeMark 0 none s1 else s1

/-- A sample of REFIN: two consecutive samples that agree and differ from the filtered level change it; LOW to HIGH is a rising edge
(R25). -/
def refinSampled (high : Bool) (s : State) : State :=
  let s1 := setFollower { s.follower with refinSample := some high } s
  if s.follower.refinSample = some high ∧ s.follower.refinLevel ≠ some high then
    if s.follower.refinLevel = some false then refinEdge s1
    else setFollower { s1.follower with refinLevel := some high } s1
  else s1

end Sys2Proof.Machine
end

