-- ==== Sys2Proof/Machine/Take.lean ====
section
/-! DEFINITION. The take: boundaries, the take's ordered work, the takes at a tick and between ticks, TAKE_NOW, the initial take, and the
operations that may bring a take about (Sections 8.4, 8.5, 8.8, R10, R13, R18). -/

namespace Sys2Proof.Machine

/-! ## Boundaries (R133, Table 8-4) -/

/-- Whether an ARMED cue's boundary is met at an offered position. -/
def Boundary.metAt (b : Boundary) (p : Position) : Bool :=
  match b with
  | .immediate => false
  | .nextBeat => p.isBeat
  | .nextBar => p.isDownbeat
  | .atBar n => p.isDownbeat && decide ((n : Int) ≤ p.bar)

/-- The ARMED cue that falls due at an offered position. -/
def State.dueAt (s : State) (p : Position) : Option Cue :=
  match s.seq.cue with
  | some c => if c.state = .armed ∧ c.boundary.metAt p = true then some c else none
  | none => none

/-- The ARMED cue. -/
def State.armedCue (s : State) : Option Cue :=
  match s.seq.cue with
  | some c => if c.state = .armed then some c else none
  | none => none

/-! ## The steps of a take (R135 to R138) -/

/-- The modules named by a program list, as a set. -/
def moduleSet (programs : List ProgramEntry) : BitVec 8 :=
  programs.foldl (fun acc e => acc ||| (1 <<< e.module.val)) 0

/-- Steps 1 and 2: the slot is emptied, SWITCHING is set, the banks change roles, the take module list is set (R135). -/
def changeRoles (song : Song) (s : State) : State :=
  let kept := s.notes.references s.banks.active ≠ 0
  { s with
    banks := { s.banks with active := s.banks.active.other, retained := kept }
    seq := { s.seq with cue := none, phase := .switching, takeModules := moduleSet song.programs, takeTime := s.now
                        retention := if kept then some (s.timer (s.setup.retentionMillis * 1000)) else none } }

/-- The position and the transport a take gives, by the transport it is judged by (R136). -/
def takePosition (judged : Transport) (song : Song) : Position :=
  if judged = .countIn ∧ 1 ≤ song.countIn then ⟨1 - (song.countIn : Int), 1, 0⟩ else Position.top

def takeTransport (judged : Transport) (song : Song) : Transport :=
  match judged with
  | .countIn => if 1 ≤ song.countIn then .countIn else .running
  | t => t

/-- Step 3: meter, position, transport; a count-in that the take ends posts TRANSPORT (R136, R14). -/
def takeGrid (judged : Transport) (song : Song) (s : State) : State :=
  let new := takeTransport judged song
  let s1 := { s with grid := { s.grid with meter := song.meter, position := takePosition judged song } }
  if new = s.grid.transport then s1 else enterTransport new none s1

/-- Step 4: the click pattern is copied and the level slots are re-formed (R52, R84). -/
def takePattern (song : Song) (s : State) : State :=
  reformLevels { s with click := { s.click with subdivision := song.subdivision, accents := song.accents } }

/-- The row of R18 for the new song's source. -/
def takeTempo (judged : Transport) (song : Song) (s : State) : State :=
  match song.source with
  | .internal =>
    if judged.emits = true ∧ 1 ≤ song.rampBeats then
      { s with grid := { s.grid with ramp := some ⟨s.grid.tempo, song.tempo, song.rampBeats, 0⟩ } }
    else setTempo song.tempo s
  | .tap =>
    let s1 := setTempo song.tempo { s with grid := { s.grid with correction := none } }
    setFollower { s1.follower with tempo := song.tempo } s1
  | .follow => s

/-- Step 5: the ramp record is removed, the source is changed where it differs, and the row of R18 is applied (R137). -/
def takeSource (judged : Transport) (song : Song) (s : State) : State :=
  let s1 := { s with grid := { s.grid with ramp := none } }
  let s2 := if song.source = s1.grid.source then s1 else endPending none (changeSource song.source s1)
  takeTempo judged song s2

/-- A program entry's post at a take (R138). -/
def ProgramEntry.takePost (e : ProgramEntry) : PendingProgram :=
  ⟨e.module, e.channel, e.program, e.preset, .program, .take⟩

/-- Step 6: the programs are posted, the settle timer is started, the store's position is set, TAKEN is posted (R138). At the initial take no bank
changes role and the spec does not say what TAKEN's last field carries; no bank being RETAINED, the model writes STANDBY (DESIGN CHOICE, log
entry 40). -/
def takePosts (song : Song) (place : Option Nat) (o : Option Origin) (s : State) : State :=
  let source := s.activeBank.source
  let s1 := { s with
    bus := { s.bus with pending := song.programs.foldl (fun l e => postProgram e.takePost l) s.bus.pending }
    seq := { s.seq with settle := .running (s.timer 20000) }
    store := { s.store with activeSlot := source, position := place } }
  post (.taken s1.banks.active source place s1.grid.position s1.grid.transport s1.grid.source s1.grid.tempo s1.banks.retained) o s1

/-- Steps 3 to 6. -/
def takeSteps (judged : Transport) (song : Song) (place : Option Nat) (o : Option Origin) (s : State) : State :=
  takePosts song place o (takeSource judged song (takePattern song (takeGrid judged song s)))

/-- The setlist position a cue's take gives (R138). -/
def Cue.place (c : Cue) : Option Nat := if c.kind = .setlist then some c.target else none

/-- The work of a take of an ARMED cue, judged by a transport state (R135). The standby bank of an ARMED cue holds its song. -/
def takeWork (judged : Transport) (c : Cue) (s : State) : State :=
  match s.standbyBank.image with
  | some song => takeSteps judged song c.place (some c.origin) (changeRoles song s)
  | none => s

/-! ## Takes between ticks and in a stopped grid (R10, R133) -/

/-- A take at this instant, not at a tick: where the grid emits ticks the counting interval is abandoned, r becomes 0 and a tick carrying
the take's position is emitted; a START_PENDING transport that the take starts emits its first tick (R10, R12). -/
def takeNowAt (c : Cue) (s : State) : State :=
  let was := s.grid.transport
  let s1 := takeWork was c s
  if was.emits then emitTick true { s1 with grid := { s1.grid with remainder := 0 } }
  else if s1.grid.transport.emits then firstTick true s1
  else s1

/-- The cue, once ARMED, is taken at once when it is IMMEDIATE or the grid emits no ticks (R133). -/
def takeIfDue (s : State) : State :=
  match s.armedCue with
  | some c => if !s.grid.transport.emits || c.boundary == .immediate then takeNowAt c s else s
  | none => s

/-! ## The tick (R6, R10, R14) -/

/-- The interval countdown expires: the next position is offered to the boundary check, a take that falls due is made, and the tick is
emitted. The tick into bar 1 from a count-in is a RUNNING tick. -/
def tickExpiry (s : State) : State :=
  let p := s.grid.position.next s.grid.meter
  let ends := s.grid.transport = .countIn ∧ p = Position.top
  match s.dueAt p with
  | some c => emitTick true (takeWork (if ends then .running else s.grid.transport) c s)
  | none =>
    if ends then emitTick false (enterTransport .running none (setPosition p s)) else emitTick false (setPosition p s)

/-! ## STOP, TAKE_NOW (R13, R134) -/

/-- STOP, with the take of an ARMED cue after its own work (R13, R133). -/
def stop (o : Origin) (s : State) : State := takeIfDue (stopGrid o s)

/-- TAKE_NOW (R134): an ARMED cue is taken, another becomes IMMEDIATE. -/
def takeNow (s : State) : State :=
  match s.seq.cue with
  | none => s
  | some c =>
    if c.state = .armed then takeNowAt c s else { s with seq := { s.seq with cue := some { c with boundary := .immediate } } }

/-! ## The initial take (R143) -/

/-- CUE_FAILED with cause NO_SONG; the initial take counts as made, and the grid is left as it stands (R143; a transport that a footswitch has
started goes on, log entry 17). -/
def noSong (target : Option Nat) (slot : Option Slot) (s : State) : State :=
  post (.cueFailed .noSong target slot) none { s with resetting := .none }

/-- The initial take of a VALID record: into bank A, STOPPED, the tempo at once, TAKEN with no origin (R143). A transport that a footswitch
has started in the meantime stops: its counting interval is abandoned and no correction is left (log entry 17). -/
def initialTake (song : Song) (slot : Slot) (entry : Nat) (s : State) : State :=
  let s1 := s.setBank .a (Bank.load song slot)
  let s2 := { s1 with
    grid := { s1.grid with countdown := none, remainder := 0, correction := none }
    seq := { s1.seq with phase := .switching, takeModules := moduleSet song.programs, takeTime := s1.now }
    resetting := .none }
  takeSteps .stopped song (some entry) none s2

end Sys2Proof.Machine
end

