-- ==== Sys2Proof/Machine/KeyLinks.lean ====
section
/-! DEFINITION. The key link receivers: reception, the FIFO, the parser, sustain, programs as cues, keep-alive (Section 4, R185). -/

namespace Sys2Proof.Machine

/-! ## Status bytes (Table 12-6) -/

/-- The sort of a byte taken from a link (R185, Table 12-6). -/
inductive LinkByte where
  | data
  | channel (kind : ChannelKind) (channel : Channel)
  | exclusiveStart
  | exclusiveEnd
  | common (dataBytes : Nat)
  | keepAlive
  | realTime
  deriving DecidableEq, Repr

/-- The channel kind of a status byte's high digit. -/
def channelKindOf (high : Nat) : ChannelKind :=
  match high with
  | 8 => .noteOff
  | 9 => .noteOn
  | 10 => .keyPressure
  | 11 => .controller
  | 12 => .program
  | 13 => .channelPressure
  | _ => .bend

/-- The system bytes F0 to FF hex. -/
def systemByte (low : Nat) : LinkByte :=
  match low with
  | 0 => .exclusiveStart
  | 1 => .common 1
  | 2 => .common 2
  | 3 => .common 1
  | 4 => .common 0
  | 5 => .common 0
  | 6 => .common 0
  | 7 => .exclusiveEnd
  | 14 => .keepAlive
  | _ => .realTime

def linkByte (b : Byte) : LinkByte :=
  if b.toNat < 128 then .data
  else if b.toNat < 240 then .channel (channelKindOf (b.toNat / 16)) ((b.extractLsb' 0 4).toFin)
  else systemByte (b.toNat % 16)

/-- A kind whose message is complete with its first data byte. -/
def ChannelKind.single : ChannelKind → Bool
  | .program => true
  | .channelPressure => true
  | _ => false

/-! ## Keep-alive (R66, R67) -/

/-- A keep-alive state is entered, and LINK_STATE is posted (R67). -/
def enterKeepAlive (l : LinkId) (new : KeepAlive) (timer : Option Timer) (moved : Option Nat) (s : State) : State :=
  let k := s.link l
  post (.linkState new k.keepAlive k.framing k.overruns moved) (some (.link l))
    (s.setLink l { k with keepAlive := new, timer })

/-- A good byte at its arrival (R66). -/
def goodByte (l : LinkId) (s : State) : State :=
  match (s.link l).keepAlive with
  | .neverSeen => s
  | .alive => s.setLink l { s.link l with timer := some (s.timer 330000) }
  | .silent => enterKeepAlive l .alive (some (s.timer 330000)) none s

/-! ## Reception (R55, R56) -/

/-- A good byte offered to the FIFO of 16 (R56): the gap mark attaches to the next byte that enters. -/
def KeyLink.offer (k : KeyLink) (b : Byte) (now : Count) : KeyLink :=
  if k.fifo.length < 16 then { k with fifo := k.fifo ++ [⟨b, k.gap, now⟩], gap := false }
  else { k with overruns := saturate (k.overruns + 1), gap := true }

/-- A framing error (R55). -/
def KeyLink.misframed (k : KeyLink) : KeyLink := { k with framing := saturate (k.framing + 1), gap := true }

/-- A character on a link; a link whose enable is OFF is not received (R55). -/
def linkCharacter (l : LinkId) (b : Byte) (stop : Bool) (s : State) : State :=
  if !s.linkOn l then s
  else if !stop then s.setLink l (s.link l).misframed
  else
    let s1 := goodByte l s
    s1.setLink l ((s1.link l).offer b s.now)

/-! ## The parser (R57 to R61) -/

/-- The parser before the handling of a byte that carries the gap mark (R61). -/
def KeyLink.atGap (k : KeyLink) : KeyLink :=
  { k with collected := none, running := none, commonLeft := 0, mode := .waitStatus }

/-- A status byte other than a real-time one, in any parse mode: the mode becomes NORMAL, or EXCLUSIVE at EXCLUSIVE_START (R57, R59). -/
def KeyLink.status (k : KeyLink) : LinkByte → KeyLink
  | .channel kind c => { k with running := some (kind, c), collected := none, commonLeft := 0, mode := .normal }
  | .exclusiveStart => { k with running := none, collected := none, commonLeft := 0, mode := .exclusive }
  | .exclusiveEnd => { k with running := none, collected := none, commonLeft := 0, mode := .normal }
  | .common n => { k with running := none, collected := none, commonLeft := n, mode := .normal }
  | _ => k

/-- A completed channel message: its kind, channel and data values. -/
structure LinkMessage where
  kind : ChannelKind
  channel : Channel
  first : Nat
  second : Nat
  deriving DecidableEq, Repr

/-- A data byte in NORMAL: it completes a message, is collected, or is discarded (R58). -/
def KeyLink.data (k : KeyLink) (b : Byte) : KeyLink × Option LinkMessage :=
  if k.commonLeft ≠ 0 then ({ k with commonLeft := k.commonLeft - 1 }, none)
  else
    match k.running with
    | none => (k, none)
    | some (kind, c) =>
      if kind.single then (k, some ⟨kind, c, b.toNat, 0⟩)
      else
        match k.collected with
        | none => ({ k with collected := some b }, none)
        | some a => ({ k with collected := none }, some ⟨kind, c, a.toNat, b.toNat⟩)

/-! ## Completed messages (R62 to R65) -/

/-- The link's pending event (R62). -/
def pend (l : LinkId) (e : KeyEvent) (s : State) : State := s.setLink l { s.link l with event := some e }

/-- Controller 64 sets the channel sustain, and an effective sustain that goes OFF is lifted (R63). -/
def setSustain (l : LinkId) (c : Channel) (on : Bool) (s : State) : State :=
  let k := s.link l
  let k' := { k with sustain := if on then k.sustain ||| (1 <<< c.val) else k.sustain &&& ~~~((1 : BitVec 16) <<< c.val) }
  let s1 := s.setLink l k'
  if k.effective c && !k'.effective c then sustainLift l c s1 else s1

/-- A PROGRAM of a link with program-as-cue ON offers a cue of that setlist entry; ignored while a reset is in progress (R65, R142). -/
def programAsCue (l : LinkId) (n : Nat) (s : State) : State :=
  if s.setup.programAsCue.getLsbD l.val && !s.inReset then
    match s.entryCue n (.link l) with
    | some c => (offerCue c s).1
    | none => s
  else s

/-- What a completed message does (Table 4-2). -/
def linkMessage (l : LinkId) (m : LinkMessage) (s : State) : State :=
  match m.kind with
  | .noteOff => noteRelease l m.channel m.first ((s.link l).effective m.channel) s
  | .noteOn =>
    if m.second = 0 then noteRelease l m.channel m.first ((s.link l).effective m.channel) s
    else pend l (.strike m.channel m.first m.second) s
  | .keyPressure => s
  | .controller =>
    if m.first = 64 then setSustain l m.channel (decide (64 ≤ m.second)) s else pend l (.controller m.channel m.first m.second) s
  | .program => programAsCue l m.first s
  | .channelPressure => s
  | .bend => pend l (.bend m.channel (m.second * 128 + m.first)) s

/-- A byte handled by the parser (R57 to R60). -/
def parseByte (l : LinkId) (b : Byte) (arrival : Count) (s : State) : State :=
  let k := s.link l
  match linkByte b with
  | .realTime => s
  | .keepAlive =>
    match k.keepAlive with
    | .neverSeen => enterKeepAlive l .alive (some ⟨arrival, 330000⟩) none s
    | _ => s
  | .data =>
    match k.mode with
    | .normal =>
      let r := k.data b
      let s1 := s.setLink l r.1
      match r.2 with
      | some m => linkMessage l m s1
      | none => s1
    | _ => s
  | sort => s.setLink l (k.status sort)

/-- The parser takes the front byte of the FIFO, none while an event is pending (R57, R61). -/
def takeByte (l : LinkId) (s : State) : State :=
  let k := s.link l
  match k.event, k.fifo with
  | none, f :: fs =>
    let k1 := { k with fifo := fs }
    parseByte l f.byte f.arrival (s.setLink l (if f.gap then k1.atGap else k1))
  | _, _ => s

/-! ## Silence of a link (R66, R100) -/

/-- A link that has gone SILENT, before its notes are released (R66 steps 1 and 2). -/
def KeyLink.silenced (k : KeyLink) : KeyLink :=
  { k with fifo := [], event := none, running := none, collected := none, commonLeft := 0, mode := .waitStatus, sustain := 0 }

/-- The keep-alive timer of an ALIVE link expires (R66). -/
def linkSilent (l : LinkId) (s : State) : State :=
  let r := linkSilence l (s.setLink l (s.link l).silenced)
  enterKeepAlive l .silent none (some r.2) r.1

/-! ## Footswitch sustain (R64) -/

/-- A SUSTAIN switch's press half: the flags of the links named are set. -/
def footSustainOn (links : BitVec 4) (s : State) : State :=
  (allFin 4).foldl (fun t l => if links.getLsbD l.val then t.setLink l { t.link l with footSustain := true } else t) s

/-- Another switch assigned SUSTAIN that names the link is DOWN, or HELD with its inert mark clear. -/
def State.otherSustain (s : State) (f : SwitchId) (l : LinkId) : Bool :=
  (allFin 8).any (fun g => g != f &&
    (match (getAt s.setup.switches g).1 with
     | .sustain links => links.getLsbD l.val
     | _ => false) &&
    (match (s.switch g).mode with
     | .down => true
     | .held => !(s.switch g).inert
     | .up => false))

/-- A link's flag is cleared, with a lift for every channel whose channel sustain is OFF; a flag that is clear makes no lift (R64). The
lifts come by rising channel (log entry 37). -/
def clearFoot (s : State) (l : LinkId) : State :=
  if (s.link l).footSustain then
    (allFin 16).foldl (fun t c => if (s.link l).sustain.getLsbD c.val then t else sustainLift l c t)
      (s.setLink l { s.link l with footSustain := false })
  else s

/-- A SUSTAIN switch's release half (R64), the links by rising number (log entry 37). -/
def footSustainOff (f : SwitchId) (links : BitVec 4) (s : State) : State :=
  (allFin 4).foldl (fun t l => if links.getLsbD l.val && !s.otherSustain f l then clearFoot t l else t) s

/-! ## Restart (R55) -/

/-- A link that the reading of setup finds disabled: its FIFO, event and parser are put in their reset state, and its keep-alive state is
NEVER_SEEN (R55). Its gap mark, of which R55 says nothing there, is cleared with the FIFO (DESIGN CHOICE, log entry 14). No LINK_STATE is posted
for it, also where bytes received since the reset had made the link ALIVE: R66 posts each change of keep-alive state, R55 names no notice, and
the model takes the reading as part of the reset (log entry 14). -/
def dropDisabled (s : State) : State :=
  (allFin 4).foldl (fun t l => if t.linkOn l then t else
    t.setLink l { (t.link l).atGap with fifo := [], gap := false, event := none, keepAlive := .neverSeen, timer := none }) s

end Sys2Proof.Machine
end

