-- ==== Sys2Proof/Machine/Programming.lean ====
section
/-! DEFINITION. Store operations by their phases, SUPPLY_LOW, and the end of a fetch with what each requester does with it
(Sections 9.2 to 9.6, R186). -/

namespace Sys2Proof.Machine

/-! ## The words of a write (R149, R186) -/

/-- The header word with a marker. -/
def headerWord (marker : Byte) (record : List Byte) : List Byte := marker :: num2 record.length ++ [0]

/-- The words a record fills: ceil(length / 4). -/
def recordWords (record : List Byte) : Nat := (record.length + 3) / 4

/-- The record with its last word padded with 00. -/
def paddedRecord (record : List Byte) : List Byte :=
  record ++ List.replicate (4 * recordWords record - record.length) 0

/-- The k-th word of the second phase: the header word with marker WRITING, then the record's words. -/
def programmedWord (record : List Byte) (k : Nat) : List Byte :=
  if k = 0 then headerWord 0x7F record else slice (paddedRecord record) (4 * (k - 1)) 4

/-- The k-th word is programmed. -/
def programWord (op : StoreOp) (k : Nat) (s : State) : State :=
  { s with flash := programBytes s.flash (sectorBase op.sector + 4 * k) (programmedWord op.record k) }

/-- The words from `k` on are programmed, `n` of them. -/
def programWords (op : StoreOp) (k : Nat) : Nat → State → State
  | 0, s => s
  | n + 1, s => programWords op (k + 1) n (programWord op k s)

/-- The words of the second phase. -/
def StoreOp.words (op : StoreOp) : Nat := 1 + recordWords op.record

/-- Every word reads back as it was to be written (R149). -/
def readsBack (op : StoreOp) (mem : List Host.Cell) : Bool :=
  readBytes mem (sectorBase op.sector) (4 * op.words) == headerWord 0x7F op.record ++ paddedRecord op.record

/-! ## The end of an operation (R149 to R151, R154) -/

/-- The operation takes a phase. -/
def setOp (op : StoreOp) (s : State) : State := { s with store := { s.store with activity := .operating op } }

/-- A store operation begins with the erase (R148, R149). -/
def beginOp (kind : OpKind) (sector : Sector) (p : Port) (record : List Byte) (s : State) : State :=
  setOp ⟨kind, sector, p, .erasing, record, false, none⟩ s

/-- The store goes on to the fetch queue, and a WAITING cue's conditions are examined (R146, R149). -/
def endOp (s : State) : State := examineLoad (storeNext s)

/-- A completed setlist write: the image takes the new entries, and the position is kept only where the new entry there names the active
slot (R154). -/
def updateSetlist (entries : List Slot) (s : State) : State :=
  let keep : Option Nat :=
    match s.store.position with
    | some p => if entries[p]? ≠ none ∧ entries[p]? = s.store.activeSlot then some p else none
    | none => none
  { s with store := { s.store with setlist := entries, position := keep } }

/-- The operation completes with STORE_DONE (R149, R153, R154). -/
def opDone (op : StoreOp) (s : State) : State :=
  let s1 := if op.kind = .write ∧ op.sector = 1 then updateSetlist (decodeSetlist op.record) s else s
  endOp (post (.storeDone op.kind op.sector) (some (.port op.port)) s1)

/-- The operation ends with STORE_FAULT (R150, R151). -/
def opFault (cause : FaultCause) (op : StoreOp) (s : State) : State :=
  endOp (post (.storeFault cause op.kind op.sector) (some (.port op.port)) s)

/-! ## The phases (R149 to R151) -/

/-- The operation in progress, when it stands in a phase. -/
def State.op? (s : State) : Option StoreOp :=
  match s.store.activity with
  | .operating op => some op
  | _ => none

/-- The erase ends (R149, R151, R153). -/
def eraseEnd (op : StoreOp) (s : State) : State :=
  let s1 := { s with flash := eraseSector s.flash op.sector }
  if op.stopping then opFault .supplyLow op s1
  else
    match op.kind with
    | .erase => opDone op s1
    | .write => setOp { op with phase := .words 0, timer := some (s.timer 60) } s1

/-- A header or record word is programmed: a stopped operation ends there, the last word leads to VERIFYING (R149, R151). -/
def wordEnd (op : StoreOp) (k : Nat) (s : State) : State :=
  let s1 := programWord op k s
  if op.stopping then opFault .supplyLow op s1
  else if k + 1 < op.words then setOp { op with phase := .words (k + 1), timer := some (s.timer 60) } s1
  else setOp { op with phase := .verifying, timer := some (s.timer (2 * op.words)) } s1

/-- All the words still to come are programmed and the store enters VERIFYING; a stopped operation completes the word in progress alone
(R149, R151). -/
def wordsEnd (op : StoreOp) (k : Nat) (s : State) : State :=
  if op.stopping then wordEnd op k s
  else
    setOp { op with phase := .verifying, timer := some (s.timer (2 * op.words)) } (programWords op k (op.words - k) s)

/-- The read-back ends: a match leads to the marker word, a mismatch ends the operation (R149, R150). -/
def verifyEnd (op : StoreOp) (differs : Bool) (s : State) : State :=
  if readsBack op s.flash && !differs then setOp { op with phase := .marker, timer := some (s.timer 60) } s else opFault .verify op s

/-- The marker word is programmed VALID and the operation completes (R149, R151, R186). -/
def markerEnd (op : StoreOp) (s : State) : State :=
  opDone op { s with flash := programBytes s.flash (sectorBase op.sector) (headerWord 0x3F op.record) }

/-- SUPPLY_LOW becomes ASSERTED: an operation in VERIFYING ends at once, another after its step in progress (R151). -/
def supplyAsserted (s : State) : State :=
  let s1 := { s with store := { s.store with supplyLow := true } }
  match s.op? with
  | some op =>
    match op.phase with
    | .verifying => opFault .supplyLow op s1
    | _ => setOp { op with stopping := true } s1
  | none => s1

/-! ## The end of a fetch (R132, R143, R146, R155) -/

/-- The record a fetch finds under a VALID marker. -/
def State.fetched (s : State) (k : Sector) : Option (List Byte) :=
  if sectorValid s.flash k then some (sectorRecord s.flash k) else none

/-- The song a fetch finds. -/
def State.fetchedSong (s : State) (k : Sector) : Option Song :=
  match s.fetched k with
  | some r => decodeSong r
  | none => none

/-- The end of a cue's fetch (R132): ARMED, with the take that falls due at once (R133), or CUE_FAILED. -/
def cueFetched (k : Sector) (s : State) : State :=
  match s.seq.cue with
  | none => s
  | some c =>
    match s.fetchedSong k with
    | some song =>
      let s1 := s.setBank s.banks.active.other (Bank.load song c.slot)
      takeIfDue (post (.armed c.slot c.boundary) (some c.origin)
        { s1 with seq := { s1.seq with cue := some { c with state := .armed } } })
    | none =>
      post (.cueFailed .notValid (some c.target) (some c.slot)) (some c.origin) { s with seq := { s.seq with cue := none } }

/-- The end of the initial song's fetch (R143). -/
def initialFetched (k : Sector) (s : State) : State :=
  match s.resetting with
  | .song entry =>
    match finOf 64 (k.val - 2), s.fetchedSong k with
    | some slot, some song => initialTake song slot entry s
    | slot, _ => noSong (some entry) slot s
  | _ => s

/-- A pedal's state by its calibration (R164 step 2, Table 10-8). -/
def calibratedMode (c : Nat × Nat) : PedalMode := if c.2 - c.1 < 64 then .uncalibrated else .normal

/-- A reading of setup gives a pedal its state by the calibration; one that so leaves DISCONNECTED has its raw at last change set to none
(R164, R165; log entry 38). Its output stands until its next raw value, also where the reading makes it UNCALIBRATED: R164 settles the output at
each raw value, Section 10.4 has such a calibration fix it at 127 and does not say when (DESIGN CHOICE, log entry 38). -/
def Pedal.calibrated (p : Pedal) (c : Nat × Nat) : Pedal :=
  { p with mode := calibratedMode c, rawAtChange := if p.mode = .disconnected then none else p.rawAtChange }

/-- The fields of setup come into use: the module states in address order (log entry 37), the links a setup disables, the pedals' states, the
part mode (R107, R122, R55, R165, R158). -/
def applySetup (u : Setup) (s : State) : State :=
  let s1 := { s with setup := u, store := { s.store with mode := u.startMode } }
  let s2 := dropDisabled ((allFin 8).foldl setupModule s1)
  { s2 with board := { s2.board with
      pedals := Vector.ofFn (fun p => (getAt s2.board.pedals p).calibrated (getAt u.calibration p)) } }

/-- The end of the reading of setup: a VALID record that passes its checks, or the defaults; the reading of the setlist is requested
(R155, R158). -/
def setupFetched (k : Sector) (s : State) : State :=
  let u :=
    match s.fetched k with
    | some r => (decodeSetup r).getD Setup.default
    | none => Setup.default
  requestFetch ⟨.setlist, 1⟩ { applySetup u s with resetting := .setlist }

/-- The setlist entry of the initial take: the position kept, or entry 0 (R143). -/
def initialEntry (position : Option Nat) (length : Nat) : Nat :=
  match position with
  | some p => if p < length then p else 0
  | none => 0

/-- The end of the reading of the setlist: the initial take's entry is chosen and its slot fetched; with an empty setlist the reset ends
without a song (R143, R155). -/
def setlistFetched (k : Sector) (s : State) : State :=
  let entries :=
    match s.fetched k with
    | some r => decodeSetlist r
    | none => []
  let entry := initialEntry s.store.position entries.length
  let s1 := { s with store := { s.store with setlist := entries } }
  match entries[entry]? with
  | none => noSong none none { s1 with store := { s1.store with position := none } }
  | some slot =>
    requestFetch ⟨.initial, slotSector slot⟩
      { s1 with store := { s1.store with position := some entry }, resetting := .song entry }

/-- The reply of a READ_SONG: the record exactly as stored, or EMPTY_SLOT (R147). -/
def State.readReply (s : State) (k : Sector) : Reply :=
  match s.fetched k with
  | some r => .okData r
  | none => .emptySlot

/-- A decided reply waits for the transmitter (R173). -/
def decideReply (p : Port) (r : Reply) (s : State) : State := s.setPort p { s.port p with reply := some r.bytes }

/-- A fetch ends: the store goes on, and what it read is handed to the requester (R146). -/
def fetchEnded (f : Fetch) (s : State) : State :=
  let s1 := storeNext s
  match f.kind with
  | .cue => cueFetched f.sector s1
  | .initial => initialFetched f.sector s1
  | .readSong p => decideReply p (s1.readReply f.sector) s1
  | .setup => setupFetched f.sector s1
  | .setlist => setlistFetched f.sector s1

end Sys2Proof.Machine
end

