-- ==== Sys2Proof/Machine/PedalBoard.lean ====
section
/-! DEFINITION. The pedal board: footswitches and their actions, expression pedals, the indicator matrix (Section 10); and the sampling of
the footswitch and BUSY lines, which accepts the changes of several lines in an order that nothing fixes. -/

namespace Sys2Proof.Machine

/-! ## Events at one instant -/

/-- Events that one instant brings are taken in a free order (log entry 5). -/
def runFree (perform : Instr → State → State) (events : List Instr) (s : State) : State :=
  if events.length < 2 then events.foldl (fun t e => perform e t) s
  else (permute s.draws events).foldl (fun t e => perform e t) s.drew

/-! ## Footswitch actions (R161, Table 10-3) -/

/-- A cue made by a footswitch is offered with origin PEDAL, which always replaces (R128). -/
def offerPedalCue (c : Option Cue) (s : State) : State :=
  match c with
  | some x => (offerCue x s).1
  | none => s

/-- An action at its instant; the cue actions are ignored while a reset is in progress (R142). SUSTAIN stands for its press half. -/
def perform (a : Action) (s : State) : State :=
  match a with
  | .none => s
  | .startStop => if s.grid.transport = .stopped then start .pedal s else stop .pedal s
  | .tap => takeTap s
  | .clickMute => setMute (!s.click.mute) s
  | .zoneToggle i => if i < s.activeBank.zones.length then setZoneOn i (!s.activeBank.zoneOn i) s else s
  | .sustain links => footSustainOn links s
  | .setlistStep forward => if s.inReset then s else offerPedalCue (s.stepCue forward .pedal) s
  | .cueEntry entry => if s.inReset then s else offerPedalCue (s.entryCue entry .pedal) s
  | .cancelCue => if s.inReset then s else (cancelCue .pedal s).1
  | .takeNow => if s.inReset then s else takeNow s

/-! ## Presses and releases (R159, R160, Table 10-2) -/

/-- A press is accepted: DOWN, the hold timer started, and the press action where there is no hold action. -/
def pressAccepted (f : SwitchId) (s : State) : State :=
  let actions := getAt s.setup.switches f
  let s1 := s.setSwitch f { s.switch f with
    raw := true, level := some true, count := 0, mode := .down, hold := some (s.timer (s.setup.holdMillis * 1000)) }
  if actions.2 = .none then perform actions.1 s1 else s1

/-- The release half of a SUSTAIN press action (R64). -/
def releaseHalf (f : SwitchId) (a : Action) (s : State) : State :=
  match a with
  | .sustain links => footSustainOff f links s
  | _ => s

/-- A release is accepted: UP, the timer idle, the inert mark clear; a switch with a hold action performs its press action from DOWN (R160). The
assignments are those in use at the release, also where setup has been read since the press, which the spec leaves open (DESIGN CHOICE, log
entry 42). -/
def releaseAccepted (f : SwitchId) (s : State) : State :=
  let x := s.switch f
  let actions := getAt s.setup.switches f
  let s1 := s.setSwitch f { x with raw := false, level := some false, count := 0, mode := .up, hold := none, inert := false }
  if x.inert then s1
  else if actions.2 = .none then releaseHalf f actions.1 s1
  else
    match x.mode with
    | .down => perform actions.1 s1
    | _ => s1

/-- The hold timer expires in DOWN: HELD, and the hold action, by the assignments in use at the expiry (R160; DESIGN CHOICE, log entry 42). -/
def holdExpired (f : SwitchId) (s : State) : State :=
  perform (getAt s.setup.switches f).2 (s.setSwitch f { s.switch f with mode := .held, hold := none })

/-! ## Samples (R159) -/

/-- The first sample after a reset sets the level directly. -/
def Switch.first (closed : Bool) (x : Switch) : Switch :=
  { x with raw := closed, level := some closed, count := 0, hold := none
           mode := if closed then .held else .up, inert := closed }

/-- A sample brings the debounce count to the debounce time (R159). Where a reading of setup has lowered the debounce time to the count already
reached or below it, which the spec leaves open, the next differing sample is accepted (DESIGN CHOICE, log entry 41). -/
def Switch.accepts (x : Switch) (debounce : Nat) (closed : Bool) : Bool :=
  match x.level with
  | none => false
  | some l => l != closed && decide (debounce ≤ x.count + 1)

/-- A sample that accepts no change. -/
def Switch.sampled (x : Switch) (closed : Bool) : Switch :=
  match x.level with
  | none => x.first closed
  | some l => { x with raw := closed, count := if l = closed then 0 else x.count + 1 }

/-- One sample of all eight switches. -/
def switchSample (closed : BitVec 8) (s : State) : State :=
  let accepted := (allFin 8).filter (fun f => (s.switch f).accepts s.setup.debounce (closed.getLsbD f.val))
  let s1 := { s with board := { s.board with
    switches := Vector.ofFn (fun f =>
      let x := s.switch f
      if x.accepts s.setup.debounce (closed.getLsbD f.val) then x else x.sampled (closed.getLsbD f.val)) } }
  runFree
    (fun e t =>
      match e with
      | .footswitchPress f => pressAccepted f t
      | .footswitchRelease f => releaseAccepted f t
      | _ => t)
    (accepted.map (fun f => if closed.getLsbD f.val then .footswitchPress f else .footswitchRelease f)) s1

/-- A sample brings the count of agreeing samples that differ from the filtered BUSY level to three (R108). -/
def ModuleState.accepts (x : ModuleState) (asserted : Bool) : Bool := x.busy != asserted && decide (3 ≤ x.agreeing + 1)

/-- A BUSY sample that changes no filtered level (R108). -/
def ModuleState.sampled (x : ModuleState) (asserted : Bool) : ModuleState :=
  { x with agreeing := if x.busy = asserted then 0 else x.agreeing + 1 }

/-- One sample of all eight BUSY lines (R108). -/
def busySampleAll (asserted : BitVec 8) (s : State) : State :=
  let accepted := (allFin 8).filter (fun m => (s.module m).accepts (asserted.getLsbD m.val))
  let s1 := { s with bus := { s.bus with
    modules := Vector.ofFn (fun m =>
      let x := s.module m
      if x.accepts (asserted.getLsbD m.val) then x else x.sampled (asserted.getLsbD m.val)) } }
  runFree
    (fun e t =>
      match e with
      | .moduleBusyAsserted m => busyAsserted m t
      | .moduleBusyDeasserted m => busyDeasserted m t
      | _ => t)
    (accepted.map (fun m => if asserted.getLsbD m.val then .moduleBusyAsserted m else .moduleBusyDeasserted m)) s1

/-! ## Expression pedals (R163 to R165) -/

/-- The candidate output of a raw value under a calibration: rounded half up and clamped to 0..127. -/
def pedalCandidate (c : Nat × Nat) (raw : Nat) : Nat :=
  if raw ≤ c.1 then 0 else min 127 (roundHalfUp ((raw - c.1) * 127) (c.2 - c.1))

/-- The raw value has moved far enough from the raw at last change. -/
def movedEnough (raw : Nat) : Option Nat → Bool
  | none => true
  | some last => decide (3 ≤ apart raw last)

/-- A pedal settled at a raw value under its calibration (R164). -/
def Pedal.settle (p : Pedal) (c : Nat × Nat) (raw : Nat) : Pedal :=
  if 1020 ≤ raw then { p with raw := some raw, mode := .disconnected }
  else
    let p1 := if p.mode = .disconnected then { p with rawAtChange := none } else p
    if c.2 - c.1 < 64 then { p1 with raw := some raw, mode := .uncalibrated, output := 127 }
    else
      let out := pedalCandidate c raw
      if out ≠ p1.output ∧ movedEnough raw p1.rawAtChange = true then
        { p1 with raw := some raw, mode := .normal, output := out, rawAtChange := some raw }
      else { p1 with raw := some raw, mode := .normal }

/-- A conversion yields a raw value for its pedal: the new output is reported to the Layer Engine, a change of state is posted. -/
def pedalReading (p : PedalId) (raw : Nat) (s : State) : State :=
  let old := s.pedal p
  let new := old.settle (getAt s.setup.calibration p) raw
  let s1 := s.setPedal p new
  let s2 := if new.output = old.output then s1 else fillFromPedal p s1
  if new.mode = old.mode then s2 else post (.pedalState p new.mode old.mode raw new.output) (some .pedal) s2

/-- A conversion begins: the next pedal becomes pending, and the other one is next (R163). -/
def beginConversion (s : State) : State :=
  { s with board := { s.board with
      adcBusy := some s.board.adcNext, adcNext := s.board.adcNext + 1, adcTimer := some (s.timer 2000) } }

/-! ## The indicator matrix (R166, R167) -/

/-- The columns lit in a row, bit c for column c + 1. -/
def State.rowLit (s : State) (row : Nat) : BitVec 8 :=
  (allFin 8).foldl (fun acc c =>
    if s.lit (s.setup.indicators.toList.getD (8 * (row - 1) + c.val) .off) then acc ||| (1 <<< c.val) else acc) 0

/-- The image with a row's eight lit states written in. -/
def writeRow (image : BitVec 32) (row : Nat) (lit : BitVec 8) : BitVec 32 :=
  (image &&& ~~~((0xFF : BitVec 32) <<< (8 * (row - 1)))) ||| (lit.setWidth 32 <<< (8 * (row - 1)))

/-- A slot starts: the row advances, or is row 1 at the first slot; its indicators are settled from their sources and driven for
brightness × 125 µs, at brightness 8 for the whole slot. The brightness is the one in use at the slot's start, also where a reading of setup
changes it within the slot, of which R166 says nothing (DESIGN CHOICE, log entry 44). -/
def slotStart (s : State) : State :=
  let row := if s.board.scanned then (if s.board.row = 4 then 1 else s.board.row + 1) else 1
  let lit := s.rowLit row
  { s with board := { s.board with
      row := row, scanned := true, image := writeRow s.board.image row lit, columns := lit
      slotTimer := some (s.timer 1000)
      driveTimer := if s.setup.brightness < 8 then some (s.timer (s.setup.brightness * 125)) else none } }

/-- All columns are driven off for the rest of the slot. -/
def driveEnd (s : State) : State := { s with board := { s.board with columns := 0, driveTimer := none } }

/-- The blink phase toggles and its 250,000 µs run again. -/
def blinkToggle (s : State) : State :=
  { s with board := { s.board with blink := !s.board.blink, blinkTimer := some (s.timer 250000) } }

end Sys2Proof.Machine
end

