-- ==== Sys2Proof/Machine/Status.lean ====
section
/-! DEFINITION. What GET_STATUS reports: the thirteen groups of Table 11-4, each item in the order its rule lists it and written by R182
(R175, R183; log entry 18 lists the layout choices). -/

namespace Sys2Proof.Machine

/-! ## Collections (R175, R183) -/

/-- How many items of a width fit in a payload of 336 bytes behind the code, the group byte and `before` further bytes. -/
def fitting (before width : Nat) : Nat := (336 - 2 - before) / width

/-- A collection: its total count, then the items from the start index, as many as fit. -/
def collection {α : Type} (start room : Nat) (write : α → List Byte) (items : List α) : List Byte :=
  num1 items.length ++ ((items.drop start).take room).flatMap write

/-- RUNNING or idle. -/
def timerByte (running : Bool) : List Byte := firstSecond running

/-! ## GRID, FOLLOWER, CLICK -/

def statusGrid (s : State) : List Byte :=
  num1 (match s.timebase.source with | some x => x.number | none => 0) ++ num2 s.grid.tempo ++ num1 s.grid.source.number ++
  num1 s.grid.transport.number ++ positionBytes s.grid.position ++ num1 s.grid.meter ++
  optional 4 (fun r : Ramp => num2 r.target ++ num1 r.beats ++ num1 r.done) s.grid.ramp ++
  optional 4 (fun c : Correction => num2 c.tempo ++ num2 c.remaining) s.grid.correction

def statusFollower (s : State) : List Byte :=
  num1 s.setup.followSource.number ++ num1 s.follower.state.number ++ num2 s.follower.tempo ++
  num4 (BitVec.ofNat 32 s.follower.period) ++ num1 s.follower.outliers ++ num1 s.follower.holdoverBeats ++
  num1 s.follower.intervals.length ++ num1 s.tap.intervals.length ++ optional 2 num2 s.tap.tempo

/-- A click module address, 0 for none. -/
def clickModuleByte : Option ModuleId → List Byte
  | some m => moduleByte m
  | none => [0]

def statusClick (s : State) : List Byte :=
  num1 s.click.subdivision ++ collection 0 15 (fun a : Accent => num1 a.number) (s.click.accents.take s.grid.meter) ++
  onOffByte s.click.mute ++ num1 s.setup.clkoutRate ++ clickModuleByte s.setup.clickModule ++
  channelByte s.setup.clickChannel ++ num2 s.click.drops

/-! ## LINKS, LAYERS -/

def statusLink (s : State) (l : LinkId) : List Byte :=
  let k := s.link l
  onOffByte (s.linkOn l) ++ onOffByte (s.setup.programAsCue.getLsbD l.val) ++ num1 k.keepAlive.number ++
  num2 k.framing ++ num2 k.overruns ++ (allFin 16).flatMap (fun c => onOffByte (k.sustain.getLsbD c.val)) ++
  firstSecond k.footSustain ++ num1 k.fifo.length

def statusLinks (s : State) : List Byte := (allFin 4).flatMap (statusLink s)

/-- LAYERS (R86). One count, that of the ACTIVE bank's zones, stands before the enabled states and then the level slots; the slots carry no
count of their own (log entry 18). -/
def statusLayers (s : State) : List Byte :=
  num1 s.layer.keyOns.length ++ num1 s.layer.controls.length ++ num2 s.layer.keyOnDrops ++ num2 s.layer.controlDrops ++
  num1 s.activeBank.zones.length ++ s.activeBank.zonesOn.flatMap (fun zo => onOffByte zo.2) ++
  s.layer.levels.flatMap (optional 1 num1) ++ num2 s.banks.a.overflow ++ num2 s.banks.b.overflow

/-! ## NOTES (R103) -/

def destBytes (e : Entry) (d : Dest) : List Byte :=
  moduleByte d.module ++ channelByte d.channel ++ num1 d.key ++ num1 d.flag.number ++
  optional 1 firstSecond (if e.releasing then some d.ended else none)

/-- The release sequence number of a RELEASING entry. -/
def Entry.sequence (e : Entry) : Option Count :=
  match e.state with
  | .releasing n => some n
  | _ => none

def entryBytes (e : Entry) : List Byte :=
  num1 e.link.val ++ channelByte e.channel ++ num1 e.key ++ num1 e.velocity ++ num1 e.bank.number ++ num4 e.strikeTime ++
  num1 e.state.number ++ optional 4 num4 e.sequence ++ collection 0 4 (destBytes e) e.dests

/-- A candidate that waits on a queued twin (R97 step 1). -/
def State.waitsOnTwin (s : State) (c : Candidate) : Bool :=
  match findDest c.serial c.dest s.notes.entries with
  | some d => d.flag == .sent && s.notes.twinQueued c.serial d
  | none => false

/-- A candidate that waits on a LOADING module (R97 step 3). -/
def State.waitsOnModule (s : State) (c : Candidate) : Bool :=
  match findDest c.serial c.dest s.notes.entries with
  | some d => d.flag == .sent && !s.notes.twinQueued c.serial d && !s.notes.stillHeld c.serial d && (s.module d.module).mode == .loading
  | none => false

/-- How many entries are in a state, by its number. -/
def Notes.inState (n : Notes) (k : Nat) : Nat := n.entries.countP (fun e => e.state.number == k)

def statusNotes (s : State) : List Byte :=
  let cs := s.notes.candidates
  num1 s.notes.entries.length ++ num1 (s.notes.inState 0) ++ num1 (s.notes.inState 1) ++ num1 (s.notes.inState 2) ++
  num1 (s.notes.references .a) ++ num1 (s.notes.references .b) ++
  num2 cs.length ++ num2 (cs.countP s.waitsOnModule) ++ num2 (cs.countP s.waitsOnTwin) ++ num2 s.notes.drops ++
  optional 16 entryBytes s.notes.entries.head?

/-! ## MODULES, PROGRAMS, PROGRAM_CELLS (R123) -/

/-- The ms a LOADING module's busy timer has run. -/
def State.busyMillis (s : State) (m : ModuleId) : Option Nat :=
  match (s.module m).mode, (s.module m).timer with
  | .loading, some t => some (since s.now t.setAt / 1000)
  | _, _ => none

def statusModule (s : State) (m : ModuleId) : List Byte :=
  let x := s.module m
  num1 x.mode.number ++ firstSecond x.busy ++ optional 2 num2 (s.busyMillis m) ++ num2 x.discards

/-- A selection: presence 0 for NONE; 0 for ALL; the module. -/
def Selection.bytes : Selection → List Byte
  | .none => [0, 0]
  | .all => [1, 0]
  | .module m => 1 :: moduleByte m

def statusModules (s : State) : List Byte :=
  num1 (if s.setup.fastBus then 1 else 0) ++ num1 s.setup.classOrder ++ [s.setup.moduleMask] ++ num2 s.setup.stallMillis ++
  (allFin 8).flatMap (statusModule s) ++ num1 s.bus.realtime.length ++ num1 s.bus.pass.length ++ s.bus.selection.bytes

def programItem (e : PendingProgram) : List Byte :=
  moduleByte e.module ++ channelByte e.channel ++ num2 e.program ++ optional 1 num1 e.preset ++ num1 e.next.number ++ num1 e.kind.number

def statusPrograms (start : Nat) (s : State) : List Byte := collection start (fitting 1 8) programItem s.bus.pending

/-- The cells that hold a program (R118, R123), by rising module and then rising channel, an order the spec does not name (DESIGN CHOICE, log
entry 43). -/
def Bus.held (b : Bus) : List (ModuleId × Channel × Nat) :=
  (allFin 8).flatMap (fun m => (allFin 16).filterMap (fun c => (b.cell m c).map (fun p => (m, c, p))))

def statusCells (start : Nat) (s : State) : List Byte :=
  collection start (fitting 1 4) (fun x : ModuleId × Channel × Nat => moduleByte x.1 ++ channelByte x.2.1 ++ num2 x.2.2) s.bus.held

/-! ## CHANGE, STORE (R126, R158) -/

def cueBytes (c : Cue) : List Byte :=
  num1 c.kind.number ++ num1 c.target ++ num1 c.slot.val ++ boundaryBytes c.boundary ++ num1 c.firmness.number ++
  num1 c.origin.number ++ num1 c.state.number

def slotByte (k : Slot) : List Byte := num1 k.val

/-- A settle timer that has expired counts as idle (log entry 18). -/
def SettleTimer.isRunning : SettleTimer → Bool
  | .running _ => true
  | _ => false

/-- The take module list is written as one set of modules (R182's sets), not as a list with its count, which R126 and Table 11-4 leave
open (log entry 18). -/
def statusChange (s : State) : List Byte :=
  optional 10 cueBytes s.seq.cue ++ num1 s.seq.phase.number ++
  num1 (s.banks.role .a).number ++ num1 (s.banks.role .b).number ++
  firstSecond s.banks.a.image.isSome ++ firstSecond s.banks.b.image.isSome ++
  optional 1 slotByte s.banks.a.source ++ optional 1 slotByte s.banks.b.source ++
  timerByte s.seq.settle.isRunning ++ timerByte s.seq.retention.isSome ++ [s.seq.takeModules]

/-- The sector is written by its number in the flash, 0 for setup, 1 for the setlist, slot + 2 for a song; the phase by its
place among R149's four (log entry 18). -/
def opBytes (op : StoreOp) : List Byte := num1 op.kind.number ++ num1 op.sector.val ++ num1 op.phase.number

def statusStore (start : Nat) (s : State) : List Byte :=
  num1 s.store.state.number ++ optional 3 opBytes s.op? ++ num1 s.store.queue.length ++ num1 s.store.mode.number ++
  firstSecond s.store.supplyLow ++ collection start 64 slotByte s.store.setlist ++
  optional 1 num1 s.store.position ++ optional 1 slotByte s.store.activeSlot

/-! ## PEDALS, PORTS (R169, Table 11-4) -/

/-- OPEN 0, CLOSED 1, UNKNOWN 2. -/
def levelByte : Option Bool → List Byte
  | some false => [0]
  | some true => [1]
  | none => [2]

def statusSwitch (s : State) (f : SwitchId) : List Byte :=
  let x := s.switch f
  levelByte x.level ++ num1 x.mode.number ++ firstSecond x.inert

def statusPedal (s : State) (p : PedalId) : List Byte :=
  let x := s.pedal p
  let c := getAt s.setup.calibration p
  optional 2 num2 x.raw ++ num1 x.output ++ num1 x.mode.number ++ num2 c.1 ++ num2 c.2

def statusPedals (s : State) : List Byte :=
  (allFin 8).flatMap (statusSwitch s) ++ (allFin 2).flatMap (statusPedal s) ++
  (allFin 32).flatMap (fun i => onOffByte (s.board.image.getLsbD i.val)) ++ num1 s.setup.brightness

/-- The mask in code order, NOTICES_LOST omitted (R176). -/
def maskBytes (mask : BitVec 22) : List Byte :=
  ((List.range 22).filter (fun k => k != 5)).flatMap (fun k => onOffByte (mask.getLsbD k))

def statusPort (c : ControlPort) : List Byte :=
  num1 c.buffer.length ++ num1 (c.notices.countP (·.urgent)) ++ num1 (c.notices.countP (fun n => !n.urgent)) ++
  firstSecond c.overflow ++ num2 c.lost ++ maskBytes c.mask ++ num1 c.positions.number

def statusPorts (s : State) : List Byte := statusPort s.portA ++ statusPort s.portB

/-! ## The reply (R175, R183) -/

/-- A group's state, by its position in Table 11-4; none for any other value. -/
def status (group start : Nat) (s : State) : Option (List Byte) :=
  match group with
  | 0 => some (statusGrid s)
  | 1 => some (statusFollower s)
  | 2 => some (statusClick s)
  | 3 => some (statusLinks s)
  | 4 => some (statusLayers s)
  | 5 => some (statusNotes s)
  | 6 => some (statusModules s)
  | 7 => some (statusPrograms start s)
  | 8 => some (statusChange s)
  | 9 => some (statusStore start s)
  | 10 => some (statusPedals s)
  | 11 => some (statusPorts s)
  | 12 => some (statusCells start s)
  | _ => none

/-- GET_STATUS (R175). -/
def statusReply (group start : Byte) (s : State) : Reply :=
  match status group.toNat start.toNat s with
  | none => .badField 1
  | some bytes => if 127 < start.toNat then .badField 2 else .okData (group :: bytes)

end Sys2Proof.Machine
end

