-- ==== Sys2Proof/Machine/Requests.lean ====
section
/-! DEFINITION. What each request does when its port takes it: its checks in field order, its effects, its reply (Table 11-3). -/

namespace Sys2Proof.Machine

/-- The outcome of a request: the state after, and its reply; none for a READ_SONG whose fetch is under way. -/
abbrev Served := State × Option Reply

/-- A request that changes nothing. -/
def refuse (s : State) (r : Reply) : Served := (s, some r)

/-- A request that is done. -/
def done (s : State) : Served := (s, some .ok)

/-- A checked request: the first field that fails is named, and nothing is changed. -/
def checked {α : Type} (c : Checked α) (s : State) (f : α → Served) : Served :=
  match c with
  | .error n => refuse s (.badField n)
  | .ok x => f x

/-! ## Grid, Follower, click -/

def requestStart (p : Port) (s : State) : Served := done (arbitrate (start (.port p) s))

def requestStop (p : Port) (s : State) : Served := done (arbitrate (stop (.port p) s))

/-- SET_TEMPO (R16). -/
def requestSetTempo (value : Nat) (s : State) : Served :=
  if s.grid.source = .follow then refuse s .wrongSource
  else (applyTempo value s, some (if clampTempo value = value then .ok else .appliedClamped (clampTempo value)))

/-- SET_TEMPO_SOURCE (R17). -/
def requestSetSource (p : Port) (value : Byte) (s : State) : Served :=
  checked (pick 1 (tempoSourceOf value.toNat)) s fun new => done (arbitrate (setSource new (.port p) s))

def requestTap (s : State) : Served := done (takeTap s)

/-- The port is the follow source (R24). -/
def FollowSource.isPort (f : FollowSource) : Port → Bool
  | .a => f == .cpA
  | .b => f == .cpB

/-- MARK (R24). -/
def requestMark (p : Port) (beat : Byte) (s : State) : Served :=
  if 15 < beat.toNat then refuse s (.badField 1)
  else if s.grid.source ≠ .follow then refuse s .wrongSource
  else if s.setup.followSource.isPort p then done (arbitrate (takeMark beat.toNat (some (.port p)) s))
  else refuse s .wrongSource

/-- CLICK_MUTE (R49). -/
def requestMute (value : Byte) (s : State) : Served :=
  checked (pick 1 (onOffToggle value s.click.mute)) s fun on => done (setMute on s)

/-! ## Cues (R127, R130, R134, R157) -/

def boundaryOf (value bar : Nat) : Checked Boundary :=
  match value with
  | 0 => .ok .immediate
  | 1 => .ok .nextBeat
  | 2 => .ok .nextBar
  | 3 => if inRange bar 1 9999 then .ok (.atBar bar) else .error 4
  | _ => .error 3

def targetKindOf (value : Nat) : Option TargetKind :=
  match value with
  | 0 => some .setlist
  | 1 => some .slot
  | _ => none

def firmnessOf (value : Nat) : Option Firmness :=
  match value with
  | 0 => some .soft
  | 1 => some .firm
  | _ => none

/-- The slot a target resolves to (R127). -/
def State.resolve (s : State) (kind : TargetKind) (target : Nat) : Option Slot :=
  match kind with
  | .setlist => s.store.setlist[target]?
  | .slot => finOf 64 target

/-- The fields of a CUE in order (R127). -/
def State.cueFields (s : State) (p : Port) (kind target boundary : Byte) (bar : Nat) (firmness : Byte) : Checked Cue := do
  let k ← pick 1 (targetKindOf kind.toNat)
  let slot ← pick 2 (s.resolve k target.toNat)
  let b ← boundaryOf boundary.toNat bar
  let f ← pick 5 (firmnessOf firmness.toNat)
  return ⟨k, target.toNat, slot, b, f, .port p, .waiting⟩

/-- The reply to an offered cue (R127, R157). -/
def offered (r : State × Bool) : Served := (r.1, some (if r.2 then .ok else .cueHeld))

def requestCue (p : Port) (kind target boundary : Byte) (bar : Nat) (firmness : Byte) (s : State) : Served :=
  checked (s.cueFields p kind target boundary bar firmness) s fun c => offered (offerCue c s)

/-- CANCEL_CUE (R130). -/
def requestCancel (p : Port) (s : State) : Served :=
  let r := cancelCue (.port p) s
  (r.1, some (if r.2 then .cueHeld else .ok))

def requestTakeNow (s : State) : Served := done (arbitrate (takeNow s))

def directionOf (b : Byte) : Option Bool := if b = 1 then some true else if b = 0xFF then some false else none

/-- SETLIST_STEP (R157). -/
def requestStep (p : Port) (direction : Byte) (s : State) : Served :=
  checked (pick 1 (directionOf direction)) s fun forward =>
    match s.stepCue forward (.port p) with
    | none => refuse s .endOfList
    | some c => offered (offerCue c s)

/-! ## Zones, panic, PASS (R81 to R83, R121, R120) -/

/-- EDIT_ZONE's bank field: true for ACTIVE. -/
def editBankOf (b : Byte) : Option Bool := if b = 0 then some true else if b = 1 then some false else none

/-- The fields of an EDIT_ZONE in order (R82): ACTIVE or not, the index, the zone. STANDBY names the bank that is not ACTIVE, so while that
bank is RETAINED the index is checked against its zone count before R83 refuses BUSY, which R82 leaves open (log entry 39). -/
def State.editFields (s : State) (bank index : Byte) (record : List Byte) : Checked (Bool × Nat × Zone) := do
  let active ← pick 1 (editBankOf bank)
  let zones := (if active then s.activeBank else s.standbyBank).zones.length
  field 2 (decide (index.toNat ≤ 15) && decide (index.toNat ≤ zones))
  let z ← parseZone 2 record
  return (active, index.toNat, z)

/-- The cue slot holds a LOADING or ARMED cue. -/
def State.loadingOrArmed (s : State) : Bool :=
  match s.seq.cue with
  | some c => c.state != .waiting
  | none => false

/-- EDIT_ZONE (R83). -/
def requestEdit (bank index : Byte) (record : List Byte) (s : State) : Served :=
  checked (s.editFields bank index record) s fun (active, i, z) =>
    if active then
      if s.activeBank.image.isNone then refuse s .emptySlot else done (arbitrate (editActive i z s))
    else if s.loadingOrArmed || s.banks.retained then refuse s .busy
    else if s.standbyBank.image.isNone then refuse s .emptySlot
    else done (editStandby i z s)

/-- TOGGLE_ZONE (R81). -/
def requestToggle (index setting : Byte) (s : State) : Served :=
  if s.activeBank.zones.length ≤ index.toNat then refuse s (.badField 1)
  else
    checked (pick 2 (onOffToggle setting (s.activeBank.zoneOn index.toNat))) s fun on =>
      done (arbitrate (setZoneOn index.toNat on s))

def requestPanic (s : State) : Served := done (panicAll s)

/-- The message of a PASS by its kind code and values (R120): the kind, then the channel, then the values are checked. -/
def passMessage (kind channel v1 v2 : Nat) : Checked Message := do
  field 2 (inRange kind 3 8)
  let c ← pick 3 (channelOf channel)
  match kind with
  | 3 => field 4 (inRange v1 0 127); return .level c v1
  | 4 => field 4 (inRange v1 0 127 && v1 != 64); field 5 (inRange v2 0 127); return .control c v1 v2
  | 5 => field 4 (inRange v1 0 16383); return .bend c v1
  | 6 => field 4 (inRange v1 0 1023); return .program c v1
  | 7 => return .silence c
  | _ => field 4 (inRange v1 0 2); return .click c v1

/-- The fields of a PASS in order (R120). -/
def passFields (module kind channel : Byte) (v1 : Nat) (v2 : Byte) : Checked Addressed := do
  let m ← pick 1 (moduleOf module.toNat)
  let msg ← passMessage kind.toNat channel.toNat v1 v2.toNat
  return ⟨m, msg⟩

/-- PASS (R120): the PASS queue holds 16. -/
def requestPass (module kind channel : Byte) (v1 : Nat) (v2 : Byte) (s : State) : Served :=
  checked (passFields module kind channel v1 v2) s fun item =>
    if s.bus.pass.length < 16 then done (arbitrate { s with bus := { s.bus with pass := s.bus.pass ++ [item] } })
    else refuse s .queueFull

/-! ## The Song Store (R147, R148, R152 to R156) -/

/-- A store request: SHOW, a store that is not IDLE, a low supply, then its fields; accepted, its operation begins at once (R148). -/
def storeRequest (kind : OpKind) (p : Port) (fields : Checked (Sector × List Byte)) (s : State) : Served :=
  if s.store.mode = .show then refuse s .locked
  else if s.store.activity ≠ .idle then refuse s .busy
  else if s.store.supplyLow then refuse s .lowSupply
  else checked fields s fun (sector, record) => (beginOp kind sector p record s, some .accepted)

/-- A song slot's sector, field 1. -/
def slotField (slot : Byte) : Checked Sector := do
  let k ← pick 1 (finOf 64 slot.toNat)
  return slotSector k

def songFields (slot : Byte) (record : List Byte) : Checked (Sector × List Byte) := do
  let k ← slotField slot
  let _ ← parseSong record
  return (k, record)

/-- Setlist entries, entry k as field k + 2 (R154). -/
def entryFields (n : Nat) : List Byte → Checked Unit
  | [] => .ok ()
  | b :: bs => do
    field n (decide (b.toNat < 64))
    entryFields (n + 1) bs

def setlistFields (count : Byte) (entries : List Byte) : Checked (Sector × List Byte) := do
  field 1 (decide (count.toNat ≤ 64) && count.toNat == entries.length)
  entryFields 2 entries
  return (1, count :: entries)

def setupFields (record : List Byte) : Checked (Sector × List Byte) := do
  let _ ← parseSetup record
  return (0, record)

/-- READ_SONG (R147): the fetch is requested, and the reply waits for its end. -/
def requestRead (p : Port) (slot : Byte) (s : State) : Served :=
  checked (slotField slot) s fun k => (requestFetch ⟨.readSong p, k⟩ s, none)

/-- SET_MODE (R156). -/
def requestMode (p : Port) (mode : Byte) (s : State) : Served :=
  checked (pick 1 (partModeOf mode.toNat)) s fun new =>
    if new = .show ∧ s.store.busy = true then refuse s .busy
    else if new = s.store.mode then done s
    else done (post (.modeChanged new) (some (.port p)) { s with store := { s.store with mode := new } })

/-! ## The ports' own requests (R176, R177) -/

/-- The mask bytes, field k for the k-th maskable kind. -/
def maskFields (n : Nat) : List Byte → Checked (List Bool)
  | [] => .ok []
  | b :: bs => do
    let x ← pick n (onOff b)
    let xs ← maskFields (n + 1) bs
    return x :: xs

/-- The mask of 21 fields: field k sets code k up to 5 and code k + 1 from 6 on (R183); NOTICES_LOST stays ON. -/
def maskOf (fields : List Bool) : BitVec 22 :=
  (allFin 22).foldl (fun acc c =>
    let on := if c.val = 5 then true else fields.getD (if c.val < 5 then c.val else c.val - 1) true
    if on then acc ||| (1 <<< c.val) else acc) 0

/-- SET_NOTICE_MASK (R176). -/
def requestMask (p : Port) (fields : List Byte) (s : State) : Served :=
  checked (maskFields 1 fields) s fun xs => done (s.setPort p { s.port p with mask := maskOf xs })

def positionSettingOf (v : Nat) : Option PositionSetting :=
  match v with
  | 0 => some .off
  | 1 => some .bar
  | 2 => some .beat
  | _ => none

/-- SET_POSITION_NOTICES (R176). -/
def requestPositions (p : Port) (setting : Byte) (s : State) : Served :=
  checked (pick 1 (positionSettingOf setting.toNat)) s fun x => done (s.setPort p { s.port p with positions := x })

/-- The taking of a RESTART (R142, R122): the slot is emptied without a notice, the sequencer's timers become idle, and the SILENCE begins
at once on an idle bus. -/
def beginRestart (s : State) : State :=
  let s1 :=
    match s.seq.cue with
    | some c => if c.state = CueState.loading then abandonCueFetch s else s
    | none => s
  let s2 := { s1 with seq := { s1.seq with cue := none, settle := .idle, retention := none }, resetting := .silence }
  if s2.bus.transmission.isNone then beginRestartSilence s2 else s2

/-- RESTART (R177). -/
def requestRestart (s : State) : Served :=
  if s.store.mode = .show then refuse s .locked else done (beginRestart s)

/-! ## A request by its kind (R173, Table 12-2) -/

/-- The rule that owns a request, its fields taken from the payload. -/
def handle (k : RequestKind) (p : Port) (d : List Byte) (s : State) : Served :=
  match k with
  | .start => requestStart p s
  | .stop => requestStop p s
  | .setTempo => requestSetTempo (word16At d 0) s
  | .setTempoSource => requestSetSource p (byteAt d 0) s
  | .tap => requestTap s
  | .mark => requestMark p (byteAt d 0) s
  | .clickMute => requestMute (byteAt d 0) s
  | .cue => requestCue p (byteAt d 0) (byteAt d 1) (byteAt d 2) (word16At d 3) (byteAt d 5) s
  | .cancelCue => requestCancel p s
  | .takeNow => requestTakeNow s
  | .setlistStep => requestStep p (byteAt d 0) s
  | .editZone => requestEdit (byteAt d 0) (byteAt d 1) (d.drop 2) s
  | .toggleZone => requestToggle (byteAt d 0) (byteAt d 1) s
  | .panic => requestPanic s
  | .pass => requestPass (byteAt d 0) (byteAt d 1) (byteAt d 2) (word16At d 3) (byteAt d 5) s
  | .writeSong => storeRequest .write p (songFields (byteAt d 0) (d.drop 1)) s
  | .eraseSong => storeRequest .erase p (do let k ← slotField (byteAt d 0); return (k, [])) s
  | .readSong => requestRead p (byteAt d 0) s
  | .writeSetlist => storeRequest .write p (setlistFields (byteAt d 0) (d.drop 1)) s
  | .writeSetup => storeRequest .write p (setupFields d) s
  | .setMode => requestMode p (byteAt d 0) s
  | .getStatus => refuse s (statusReply (byteAt d 0) (byteAt d 1) s)
  | .setNoticeMask => requestMask p d s
  | .setPositionNotices => requestPositions p (byteAt d 0) s
  | .restart => requestRestart s

/-- The decision on a request taken for service (R173). -/
def decideRequest (p : Port) (f : Frame) (s : State) : Served :=
  match RequestKind.ofByte f.kind with
  | none => refuse s .unknownKind
  | some k =>
    if k.lengthOk f.payload.length then
      if s.inReset && k != .getStatus then refuse s .busy else handle k p f.payload s
    else refuse s (.badField 0)

end Sys2Proof.Machine
end

