-- ==== Sys2Proof/Machine/ControlPorts.lean ====
section
/-! DEFINITION. The control ports: frame assembly, the request buffer, service, the transmitter (Sections 11.1, 11.2, 11.4). -/

namespace Sys2Proof.Machine

/-! ## The transmitter (R174, R179) -/

/-- A frame begins on the transmit line. -/
def ControlPort.begin (c : ControlPort) (sort : SentKind) (kind tag : Byte) (payload : List Byte) (now : Count) : ControlPort :=
  { c with sending := some ⟨sort, frameBytes kind tag payload, ⟨now, frameMicros payload⟩⟩, lastSent := some sort }

/-- After a notice has left a queue whose overflow flag is set, NOTICES_LOST is placed in that same work (R179). -/
def ControlPort.reportLost (c : ControlPort) (position : Position) : ControlPort :=
  if c.overflow then
    { c with notices := placeNotice c.notices ⟨.noticesLost c.lost, true, position, none⟩, lost := 0, overflow := false }
  else c

/-- The front notice leaves its queue and begins (R174). -/
def ControlPort.sendNotice (c : ControlPort) (n : Notice) (rest : List Notice) (position : Position) (now : Count) : ControlPort :=
  (({ c with notices := rest }).begin .notice 0x81 0 n.bytes now).reportLost position

/-- A decided reply begins, with the tag of the request in service (R173, R174). -/
def ControlPort.sendReply (c : ControlPort) (payload : List Byte) (now : Count) : ControlPort :=
  let tag : Byte := match c.inService with | some f => f.tag | none => 0
  ({ c with reply := none }).begin .reply 0x80 tag payload now

/-- The transmitter's choice when it is free (R174). -/
def ControlPort.transmit (c : ControlPort) (position : Position) (now : Count) : ControlPort :=
  match c.sending with
  | some _ => c
  | none =>
    match c.reply, c.notices with
    | some r, n :: rest => if c.lastSent = some .reply then c.sendNotice n rest position now else c.sendReply r now
    | some r, [] => c.sendReply r now
    | none, n :: rest => c.sendNotice n rest position now
    | none, [] => c

def transmitOn (p : Port) (s : State) : State := s.setPort p ((s.port p).transmit s.grid.position s.now)

/-- Both transmitters choose: the close of every event that may post a notice or decide a reply (log entry 10). -/
def transmitAll (s : State) : State := transmitOn .b (transmitOn .a s)

/-! ## Service (R172, R173) -/

/-- A port with no request in service takes the front frame of its buffer and decides it. -/
def serve (p : Port) (s : State) : State :=
  let c := s.port p
  match c.inService, c.buffer with
  | none, f :: rest =>
    let r := decideRequest p f (s.setPort p { c with inService := some f, buffer := rest })
    match r.2 with
    | some reply => decideReply p reply r.1
    | none => r.1
  | _, _ => s

/-- A lost request is told to its port alone (R171). -/
def requestLost (p : Port) (cause : LossCause) (kind tag : Option Byte) (s : State) : State :=
  postTo p (.requestLost cause kind tag) (some (.port p)) s

/-- A complete frame is offered to the buffer of four, or discarded FULL (R172); a port that serves nothing takes it at once (R173). -/
def offerFrame (p : Port) (f : Frame) (s : State) : State :=
  let c := s.port p
  if c.buffer.length < 4 then serve p (s.setPort p { c with buffer := c.buffer ++ [f] })
  else requestLost p .full (some f.kind) (some f.tag) s

/-- A whole request frame arrives at a port: it is offered, and the transmitters choose. A payload above 336 is discarded at its length
characters, before kind and tag are taken (R170); in CRYSTAL_WAIT nothing is received (R180). -/
def arrive (p : Port) (kind tag : Byte) (payload : List Byte) (s : State) : State :=
  if !s.running then s
  else if 336 < payload.length then transmitAll (requestLost p .length none none s)
  else transmitAll (offerFrame p ⟨kind, tag, payload⟩ s)

/-! ## Frame assembly (R170, R171) -/

/-- The assembler in HUNT with nothing assembled. -/
def ControlPort.hunting (c : ControlPort) : ControlPort := { c with phase := .hunt, assembly := Assembly.none, gapTimer := none }

/-- The frame in assembly is discarded (R171). -/
def discardFrame (p : Port) (cause : LossCause) (s : State) : State :=
  let c := s.port p
  requestLost p cause c.assembly.kind c.assembly.tag (s.setPort p c.hunting)

/-- The assembler in a phase with an assembly, the gap timer restarted (R170). -/
def ControlPort.assembling (c : ControlPort) (phase : AssemblerPhase) (a : Assembly) (now : Count) : ControlPort :=
  { c with phase := phase, assembly := a, gapTimer := some ⟨now, 2000⟩ }

/-- The phase after the header or a payload character. -/
def Assembly.after (a : Assembly) : AssemblerPhase := if a.payload.length < a.length then .payload else .check

/-- A good character at the assembler (R170). -/
def assemble (p : Port) (b : Byte) (s : State) : State :=
  let c := s.port p
  let a : Assembly := { c.assembly with sum := c.assembly.sum + b }
  match c.phase with
  | .hunt => if b = 0x7E then s.setPort p (c.assembling .length Assembly.none s.now) else s
  | .length =>
    match a.lengthHigh with
    | none => s.setPort p (c.assembling .length { a with lengthHigh := some b } s.now)
    | some hi =>
      if 336 < be16 hi b then discardFrame p .length s
      else s.setPort p (c.assembling .header { a with length := be16 hi b } s.now)
  | .header =>
    match a.kind with
    | none => s.setPort p (c.assembling .header { a with kind := some b } s.now)
    | some _ =>
      let a' := { a with tag := some b }
      s.setPort p (c.assembling a'.after a' s.now)
  | .payload =>
    let a' := { a with payload := a.payload ++ [b] }
    s.setPort p (c.assembling a'.after a' s.now)
  | .check =>
    if a.sum = 0 then
      match a.kind, a.tag with
      | some k, some t => offerFrame p ⟨k, t, a.payload⟩ (s.setPort p c.hunting)
      | _, _ => s.setPort p c.hunting
    else discardFrame p .check s

/-- A character at a port: a framing error is ignored in HUNT and discards the frame in any other phase (R170). -/
def portCharacter (p : Port) (b : Byte) (stop : Bool) (s : State) : State :=
  if stop then assemble p b s
  else if (s.port p).phase = .hunt then s
  else discardFrame p .framing s

/-! ## The end of a frame (R173, R174) -/

/-- A frame has been transmitted: the request of a reply leaves service and the next one is taken; the transmitters then choose. -/
def frameSent (p : Port) (fr : PortFrame) (s : State) : State :=
  let c := { s.port p with sending := none }
  match fr.sort with
  | .reply => transmitAll (serve p (s.setPort p { c with inService := none }))
  | .notice => transmitAll (s.setPort p c)

end Sys2Proof.Machine
end

