-- ==== Sys2Proof/Machine/Events.lean ====
section
/-! DEFINITION. The events that come about in the part by time, each as one operation on the state; the resets; crystal loss; and which
events are due at an instant. -/

namespace Sys2Proof.Machine

/-! ## Timed events

Each is the whole work of one expiry, at the count value at which it was due, with the arbiter's and the transmitters' choices at its end.
A timer that is idle does not expire: the state is then unchanged. -/

/-- The close of an event that may have changed what the arbiter serves or posted notices. -/
def close (s : State) : State := transmitAll (arbitrate s)

def onCountdown (s : State) : State :=
  match s.grid.countdown with
  | some t => expireAt t (fun x => close (tickExpiry x)) s
  | none => s

def onHoldoverTimer (s : State) : State :=
  match s.follower.holdoverTimer with
  | some t => expireAt t (fun x => close (enterHoldover x)) s
  | none => s

def onPaceTimer (s : State) : State :=
  match s.follower.paceTimer with
  | some t => expireAt t (fun x => close (paceExpiry x)) s
  | none => s

/-- A click line's pulse timer. -/
def Click.timer (c : Click) : ClickLine → Option Timer
  | .accent => c.accentLine
  | .beat => c.beatLine
  | .sub => c.subLine

/-- The line returns low. -/
def Click.lower (c : Click) : ClickLine → Click
  | .accent => { c with accentLine := none }
  | .beat => { c with beatLine := none }
  | .sub => { c with subLine := none }

def onClickTimer (line : ClickLine) (s : State) : State :=
  match s.click.timer line with
  | some t => expireAt t (fun x => { x with click := x.click.lower line }) s
  | none => s

def onClkoutTimer (s : State) : State :=
  match s.click.clkout with
  | some t => expireAt t (fun x => { x with click := { x.click with clkout := none } }) s
  | none => s

def onKeepAliveTimer (l : LinkId) (s : State) : State :=
  match (s.link l).timer with
  | some t => expireAt t (fun x => close (linkSilent l x)) s
  | none => s

def onIdleTimer (s : State) : State :=
  match s.bus.idleTimer with
  | some t => expireAt t (fun x => { x with bus := { x.bus with idleTimer := none, selection := .none } }) s
  | none => s

def onBusyTimer (m : ModuleId) (s : State) : State :=
  match (s.module m).timer with
  | some t => expireAt t (fun x => transmitAll (enterStalled m x)) s
  | none => s

/-- The settle timer expires, and the settle conditions are examined (R139). -/
def onSettleTimer (s : State) : State :=
  match s.seq.settle with
  | .running t =>
    expireAt t (fun x => close (examineSettle { x with seq := { x.seq with settle := .expired } })) s
  | _ => s

/-- The retention timer expires: a bank still RETAINED is handed to the table for a forced release (R141, R99). -/
def retentionExpired (s : State) : State :=
  let s1 := { s with seq := { s.seq with retention := none } }
  if s.banks.retained then forcedRelease s.banks.active.other s1 else s1

def onRetentionTimer (s : State) : State :=
  match s.seq.retention with
  | some t => expireAt t (fun x => close (retentionExpired x)) s
  | none => s

def onHoldTimer (f : SwitchId) (s : State) : State :=
  match (s.switch f).mode, (s.switch f).hold with
  | .down, some t => expireAt t (fun x => close (holdExpired f x)) s
  | _, _ => s

def onAdcTimer (s : State) : State :=
  match s.board.adcTimer with
  | some t => expireAt t beginConversion s
  | none => s

def onSlotTimer (s : State) : State :=
  match s.board.slotTimer with
  | some t => expireAt t slotStart s
  | none => s

def onDriveTimer (s : State) : State :=
  match s.board.driveTimer with
  | some t => expireAt t driveEnd s
  | none => s

def onBeatFlash (s : State) : State :=
  match s.board.beatFlash with
  | some t => expireAt t (fun x => { x with board := { x.board with beatFlash := none } }) s
  | none => s

def onDownbeatFlash (s : State) : State :=
  match s.board.downbeatFlash with
  | some t => expireAt t (fun x => { x with board := { x.board with downbeatFlash := none } }) s
  | none => s

def onBlinkTimer (s : State) : State :=
  match s.board.blinkTimer with
  | some t => expireAt t blinkToggle s
  | none => s

def onGapTimer (p : Port) (s : State) : State :=
  match (s.port p).gapTimer with
  | some t => expireAt t (fun x => transmitAll (discardFrame p .gap x)) s
  | none => s

def onFrameTimer (p : Port) (s : State) : State :=
  match (s.port p).sending with
  | some fr => expireAt fr.timer (frameSent p fr) s
  | none => s

/-! ## Flash words (R149 to R151) -/

/-- The work `f` at the end of a word or of the read-back, by the store operation's timer. -/
def opExpiry (op : StoreOp) (f : State → State) (s : State) : State :=
  match op.timer with
  | some t => expireAt t (fun x => close (f x)) s
  | none => close (f s)

def onWord (s : State) : State :=
  match s.op? with
  | some op =>
    match op.phase with
    | .words k => opExpiry op (wordEnd op k) s
    | _ => s
  | none => s

/-- The words still to come follow one another, 60 µs each. -/
def StoreOp.lastWord (op : StoreOp) (k : Nat) : StoreOp :=
  match op.timer with
  | some t => { op with timer := some { t with micros := if op.stopping then t.micros else t.micros + 60 * (op.words - (k + 1)) } }
  | none => op

def onWords (s : State) : State :=
  match s.op? with
  | some op =>
    match op.phase with
    | .words k => opExpiry (op.lastWord k) (wordsEnd op k) s
    | _ => s
  | none => s

def onMarker (s : State) : State :=
  match s.op? with
  | some op =>
    match op.phase with
    | .marker => opExpiry op (markerEnd op) s
    | _ => s
  | none => s

/-! ## The SUPPLY_LOW line (R151) -/

/-- A sample of SUPPLY_LOW: two consecutive samples that agree and differ from the filtered level change it, at the second of them. -/
def supplySampled (low : Bool) (s : State) : State :=
  let s1 := { s with store := { s.store with supplySample := some low } }
  if s.store.supplySample = some low ∧ s.store.supplyLow ≠ low then
    if low then close (supplyAsserted s1) else { s1 with store := { s1.store with supplyLow := false } }
  else s1

/-- The line shows a level, which two consecutive samples accept: the event of an edge command (log entry 25). -/
def supplyAccepted (low : Bool) (s : State) : State :=
  supplySampled low (supplySampled low { s with store := { s.store with supplyLine := low } })

/-- The line is sampled at the timer's due value, and again 100 µs later. -/
def sampleSupply (t : Timer) (s : State) : State :=
  expireAt t (fun x => supplySampled x.store.supplyLine { x with store := { x.store with supplyTimer := some (x.timer 100) } }) s

/-- The sample of SUPPLY_LOW that is due: the sampling starts with the count. -/
def State.supplyDue (s : State) : Option Timer :=
  match s.store.supplyTimer with
  | some t => if s.running && t.elapsed s.now then some t else none
  | none => none

/-! ## Resets (R2, R22, R41, R53, R68, R85, R102, R122, R142, R158, R168, R180, R181) -/

/-- A write interrupted by power-on leaves a sector that reads as empty: an erase in progress counts as done (R145, log entry 9). -/
def State.interrupted (s : State) : List Host.Cell :=
  match s.op? with
  | some op =>
    match op.phase with
    | .erasing => eraseSector s.flash op.sector
    | _ => s.flash
  | none => s.flash

/-- Power-on: the crystal monitor waits and no other block has begun; the flash, the waiting commands and the count of free values stay. -/
def powerUp (s : State) : State := { State.reset with flash := s.interrupted, draws := s.draws, pending := s.pending }

/-- The timebase count starts at 0 on a source: every block takes its power-on values, and setup is read (R2, R142, R158). -/
def countStart (monitor : Monitor) (source : Source) (s : State) : State :=
  let s1 := { State.reset with
    flash := s.flash, draws := s.draws, pending := s.pending
    timebase := ⟨monitor, some source, 0, 0⟩, board := Board.startAt 0, store := Store.startAt 0, resetting := .setup }
  requestFetch ⟨.setup, 0⟩ s1

/-- A module at the end of the restart's SILENCE: its busy filter keeps its level and its count, its timer and discard count are cleared;
its state stands until setup is read (R122, Table 7-7). -/
def ModuleState.restarted (x : ModuleState) : ModuleState := { x with timer := none, discards := 0 }

/-- The store at restart: the operation, the queue, the SUPPLY_LOW filter and its sampling, the position and the image stand until setup and
setlist are read (R151, R158). -/
def Store.restarted (t : Store) : Store := { t with mode := .prep, activeSlot := none }

/-- The board at restart begins its samples, slots and conversions anew (R168). -/
def restartedBoard (s : State) : Board :=
  { Board.startAt s.now with
    pedals := Vector.ofFn (fun p => { Pedal.initial with mode := calibratedMode (getAt s.setup.calibration p) }) }

/-- A port at restart (R181, Table 11-6). -/
def ControlPort.restarted (c : ControlPort) : ControlPort :=
  { c with notices := [], mask := BitVec.allOnes 22, positions := .off, overflow := false, lost := 0 }

/-- The end of the restart's SILENCE: the table and the queues are emptied, every block takes its reset values, setup is read (R142). -/
def restartReset (s : State) : State :=
  requestFetch ⟨.setup, 0⟩
    { s with
      resetting := .setup
      grid := Grid.initial, follower := Follower.initial, tap := TapTimer.initial, click := Click.initial
      links := Vector.replicate 4 KeyLink.initial, layer := Layer.initial, notes := Notes.initial
      bus := { Bus.initial with modules := s.bus.modules.map ModuleState.restarted }
      banks := Banks.initial, seq := Sequencer.initial, store := s.store.restarted, board := restartedBoard s
      portA := s.portA.restarted, portB := s.portB.restarted }

/-! ## The end of a transmission (R106, R111, R122) -/

/-- The end of the restart's SILENCE is reported. -/
def silenceEnd (t : Transmission) (s : State) : State := expireAt t.timer (fun x => transmitAll (restartReset x)) s

/-- The end of an ordinary transmission: the arbiter's choice, or the restart's SILENCE where a restart waits for it. -/
def messageEnd (t : Transmission) (s : State) : State :=
  let s1 := endOfMessage t s
  if s1.resetting = .silence then beginRestartSilence s1 else close s1

def onTransmission (s : State) : State :=
  match s.bus.transmission with
  | some t => if t.forRestart then silenceEnd t s else expireAt t.timer (messageEnd t) s
  | none => s

/-! ## What is due (log entries 1 and 5) -/

/-- A running timer with the event of its expiry. -/
def timed (t : Option Timer) (e : Instr) : List (Timer × Instr) :=
  match t with
  | some x => [(x, e)]
  | none => []

/-- The store operation's own event, where its time is stated: a word, the marker word. -/
def State.opEvents (s : State) : List (Timer × Instr) :=
  match s.op? with
  | some op =>
    match op.phase with
    | .words _ => timed op.timer .flashWordProgrammed
    | .marker => timed op.timer .markerWordProgrammed
    | _ => []
  | none => []

/-- The transmission's end. -/
def State.busEvents (s : State) : List (Timer × Instr) :=
  match s.bus.transmission with
  | some t => [(t.timer, if t.forRestart then .restartSilenceEnd else .endOfTransmission)]
  | none => []

/-- The settle timer. -/
def State.settleEvents (s : State) : List (Timer × Instr) :=
  match s.seq.settle with
  | .running t => [(t, .settleTimerExpiry)]
  | _ => []

/-- A port's timers. -/
def portEvents (p : Port) (c : ControlPort) : List (Timer × Instr) :=
  timed c.gapTimer (.gapTimerExpiry p) ++ timed (c.sending.map (·.timer)) (.portFrameTransmitted p)

/-- A switch's hold timer, while DOWN. -/
def holdEvents (f : SwitchId) (x : Switch) : List (Timer × Instr) :=
  match x.mode with
  | .down => timed x.hold (.holdTimerExpiry f)
  | _ => []

/-- Every timer that runs, with its event. -/
def State.timers (s : State) : List (Timer × Instr) :=
  timed s.grid.countdown .intervalCountdownExpiry ++
  timed s.follower.holdoverTimer .holdoverTimerExpiry ++ timed s.follower.paceTimer .holdoverPaceTimerExpiry ++
  timed s.click.accentLine (.clickPulseTimerExpiry .accent) ++ timed s.click.beatLine (.clickPulseTimerExpiry .beat) ++
  timed s.click.subLine (.clickPulseTimerExpiry .sub) ++ timed s.click.clkout .clkoutPulseTimerExpiry ++
  (allFin 4).flatMap (fun l => timed (s.link l).timer (.keepAliveTimerExpiry l)) ++
  timed s.bus.idleTimer .idleTimerExpiry ++ s.busEvents ++
  (allFin 8).flatMap (fun m => timed (s.module m).timer (.busyTimerExpiry m)) ++
  s.settleEvents ++ timed s.seq.retention .retentionTimerExpiry ++ s.opEvents ++
  (allFin 8).flatMap (fun f => holdEvents f (s.switch f)) ++
  timed s.board.adcTimer .adcConversionBegin ++ timed s.board.slotTimer .indicatorSlotStart ++
  timed s.board.driveTimer .indicatorDriveEnd ++ timed s.board.beatFlash .beatFlashTimerExpiry ++
  timed s.board.downbeatFlash .downbeatFlashTimerExpiry ++ timed s.board.blinkTimer .blinkPhaseToggle ++
  portEvents .a s.portA ++ portEvents .b s.portB

/-- The timers due at this instant. -/
def State.dueTimers (s : State) : List (Timer × Instr) := s.timers.filter (fun te => te.1.elapsed s.now)

/-- The parsers that can take a byte, and the Layer Engine when it can take an event: work that waits for no timer (R57, R70). -/
def State.readyWork (s : State) : List Instr :=
  (allFin 4).filterMap (fun l =>
    if (s.link l).event.isNone && !(s.link l).fifo.isEmpty then some (.parserTakeByte l) else none) ++
  (if s.nextServed.isSome then [.layerEngineTakeEvent] else [])

/-- One of several events, in an order nothing fixes; the only one, where there is one (log entry 5). -/
def pickFree (draw : Nat) : List Instr → Option Instr
  | [] => none
  | [x] => some x
  | x :: y :: r => (x :: y :: r)[Config.eventPlace draw r.length % (r.length + 2)]?

/-! ## Crystal loss (R3) -/

/-- The whole work of a timer's expiry, by its event. -/
def runTimer (e : Instr) (s : State) : State :=
  match e with
  | .intervalCountdownExpiry => onCountdown s
  | .holdoverTimerExpiry => onHoldoverTimer s
  | .holdoverPaceTimerExpiry => onPaceTimer s
  | .clickPulseTimerExpiry line => onClickTimer line s
  | .clkoutPulseTimerExpiry => onClkoutTimer s
  | .keepAliveTimerExpiry l => onKeepAliveTimer l s
  | .idleTimerExpiry => onIdleTimer s
  | .busyTimerExpiry m => onBusyTimer m s
  | .endOfTransmission => onTransmission s
  | .restartSilenceEnd => onTransmission s
  | .settleTimerExpiry => onSettleTimer s
  | .retentionTimerExpiry => onRetentionTimer s
  | .flashWordProgrammed => onWord s
  | .markerWordProgrammed => onMarker s
  | .holdTimerExpiry f => onHoldTimer f s
  | .adcConversionBegin => onAdcTimer s
  | .indicatorSlotStart => onSlotTimer s
  | .indicatorDriveEnd => onDriveTimer s
  | .beatFlashTimerExpiry => onBeatFlash s
  | .downbeatFlashTimerExpiry => onDownbeatFlash s
  | .blinkPhaseToggle => onBlinkTimer s
  | .gapTimerExpiry p => onGapTimer p s
  | .portFrameTransmitted p => onFrameTimer p s
  | _ => s

/-- How long ago a timer was due. -/
def Timer.late (t : Timer) (now : Count) : Nat := since now t.due

/-- The events due the longest. -/
def State.earliestDue (s : State) : List Instr :=
  let due := s.dueTimers
  let most := due.foldl (fun m te => max m (te.1.late s.now)) 0
  (due.filter (fun te => te.1.late s.now == most)).map (·.2)

/-- The overdue timers expire one after another, the one due first being first, at most `fuel` of them. -/
def runOverdue : Nat → State → State
  | 0, s => s
  | fuel + 1, s =>
    match s.earliestDue with
    | [] => s
    | [e] => runOverdue fuel (runTimer e s)
    | e :: f :: r =>
      match pickFree s.draws (e :: f :: r) with
      | some g => runOverdue fuel (runTimer g s.drew)
      | none => s

/-- A crystal loss: the source becomes RC, the count takes in the 50 µs of the gap, the timers that fell due in it expire,
TIMEBASE_DEGRADED is posted (R3). -/
def loseCrystal (s : State) : State :=
  let s1 := { s with timebase := ⟨.rcOnly, some .rc, s.timebase.count + 50, s.timebase.waited⟩ }
  transmitAll (post (.timebaseDegraded .crystalLost) none (runOverdue (64 + s.timers.length) s1))

/-! ## Time passing (R1, R2; log entry 1) -/

/-- A microsecond passes: of the crystal wait, as the RC oscillator times it, or of the count. -/
def tickMicrosecond (s : State) : State :=
  if s.running then s.atCount (s.timebase.count + 1)
  else { s with timebase := { s.timebase with waited := s.timebase.waited + 1 } }

/-- The events that have come about at this instant: the end of the crystal wait after 10 ms; the timers due, the ready work. -/
def State.happening (s : State) : List Instr :=
  if s.running then s.earliestDue ++ s.readyWork
  else if 10000 ≤ s.timebase.waited then [.crystalWaitTimeout] else []

/-- What an idle block does: the sample of SUPPLY_LOW that is due is taken, which no command of the table stands for (log entry 25); else one
of the events that have come about joins the queue, or a microsecond passes. -/
def passTime (s : State) : State :=
  match s.supplyDue, s.happening with
  | some t, _ => sampleSupply t s
  | none, [] => tickMicrosecond s
  | none, [e] => { s with pending := s.pending ++ [e] }
  | none, e :: f :: r =>
    match pickFree s.draws (e :: f :: r) with
    | some g => { s.drew with pending := s.pending ++ [g] }
    | none => s

end Sys2Proof.Machine
end

