-- ==== Sys2Proof/Machine/GridCommands.lean ====
section
/-! DEFINITION. The commands of the timebase, the grid and the transport (Section 1). -/

namespace Sys2Proof.Machine

/-- The outcome of a command: every command of the table has a next state. -/
abbrev Outcome := Host.Outcome State Fault Refusal

/-- The work of an event of a block that has begun: during CRYSTAL_WAIT no other block takes part (R2). -/
def whileRunning (f : State → State) (s : State) : State := if s.running then f s else s

/-- POWER_ON (R2). -/
def execPowerOn (s : State) : Outcome := .next (powerUp s)

/-- CRYSTAL_FOUND (R2): within the wait the source becomes CRYSTAL and the count starts; outside it nothing watches for it. -/
def execCrystalFound (s : State) : Outcome :=
  .next (if s.running then s else countStart .crystalWatch .crystal s)

/-- CRYSTAL_WAIT_TIMEOUT (R2, R180): the source becomes RC, the count starts, and TIMEBASE_DEGRADED is the first notice. -/
def execCrystalWaitTimeout (s : State) : Outcome :=
  .next (if s.running then s else transmitAll (post (.timebaseDegraded .noCrystal) none (countStart .rcOnly .rc s)))

/-- CRYSTAL_LOSS (R3): acted on in CRYSTAL_WATCH alone. -/
def execCrystalLoss (s : State) : Outcome :=
  .next (if s.timebase.monitor = .crystalWatch then loseCrystal s else s)

/-- INTERVAL_COUNTDOWN_EXPIRY (R6, R9, R10, R14). -/
def execIntervalCountdownExpiry (s : State) : Outcome := .next (onCountdown s)

/-- START (R11). -/
def execStart (p : Port) (tag : Byte) (s : State) : Outcome := .next (arrive p RequestKind.start.code tag [] s)

/-- STOP (R13). -/
def execStop (p : Port) (tag : Byte) (s : State) : Outcome := .next (arrive p RequestKind.stop.code tag [] s)

/-- SET_TEMPO (R16). -/
def execSetTempo (p : Port) (tag : Byte) (tempo : BitVec 16) (s : State) : Outcome :=
  .next (arrive p RequestKind.setTempo.code tag (word2 tempo) s)

/-- SET_TEMPO_SOURCE (R17). -/
def execSetTempoSource (p : Port) (tag source : Byte) (s : State) : Outcome :=
  .next (arrive p RequestKind.setTempoSource.code tag [source] s)

end Sys2Proof.Machine
end

