-- ==== Sys2Proof/Machine/FollowCommands.lean ====
section
/-! DEFINITION. The commands of the Follower, the tap timer and the REFIN line (Section 2). -/

namespace Sys2Proof.Machine

/-- MARK (R24). -/
def execMark (p : Port) (tag beatInBar : Byte) (s : State) : Outcome := .next (arrive p RequestKind.mark.code tag [beatInBar] s)

/-- REFIN_RISING_EDGE (R25): the filtered level goes from LOW to HIGH. A level still UNKNOWN was LOW for the edge to come (log entry 16); a
level that is HIGH has no rising edge. -/
def execRefinRisingEdge (s : State) : Outcome :=
  .next (whileRunning (fun x =>
    if x.follower.refinLevel ≠ some true then close (refinEdge (setFollower { x.follower with refinSample := some true } x)) else x) s)

/-- REFIN_SAMPLE (R25). -/
def execRefinSample (high : Bool) (s : State) : Outcome := .next (whileRunning (fun x => close (refinSampled high x)) s)

/-- HOLDOVER_TIMER_EXPIRY (R33). -/
def execHoldoverTimerExpiry (s : State) : Outcome := .next (onHoldoverTimer s)

/-- HOLDOVER_PACE_TIMER_EXPIRY (R34). -/
def execHoldoverPaceTimerExpiry (s : State) : Outcome := .next (onPaceTimer s)

/-- TAP (R39). -/
def execTap (p : Port) (tag : Byte) (s : State) : Outcome := .next (arrive p RequestKind.tap.code tag [] s)

end Sys2Proof.Machine
end

