-- ==== Sys2Proof/Machine/ClickCommands.lean ====
section
/-! DEFINITION. The commands of the Click Generator (Section 3). -/

namespace Sys2Proof.Machine

/-- CLICK_PULSE_TIMER_EXPIRY (R47). -/
def execClickPulseTimerExpiry (line : ClickLine) (s : State) : Outcome := .next (onClickTimer line s)

/-- CLKOUT_PULSE_TIMER_EXPIRY (R50). -/
def execClkoutPulseTimerExpiry (s : State) : Outcome := .next (onClkoutTimer s)

/-- CLICK_MUTE (R49). -/
def execClickMute (p : Port) (tag setting : Byte) (s : State) : Outcome :=
  .next (arrive p RequestKind.clickMute.code tag [setting] s)

end Sys2Proof.Machine
end

