-- ==== Sys2Proof/Machine/LinkCommands.lean ====
section
/-! DEFINITION. The commands of the key links and the Layer Engine (Sections 4 and 5). -/

namespace Sys2Proof.Machine

/-- KEY_LINK_CHARACTER (R55, R56, R66). -/
def execKeyLinkCharacter (l : LinkId) (byte : Byte) (stop : Bool) (s : State) : Outcome :=
  .next (whileRunning (fun x => transmitAll (linkCharacter l byte stop x)) s)

/-- PARSER_TAKE_BYTE (R57). -/
def execParserTakeByte (l : LinkId) (s : State) : Outcome := .next (close (takeByte l s))

/-- KEEP_ALIVE_TIMER_EXPIRY (R66). -/
def execKeepAliveTimerExpiry (l : LinkId) (s : State) : Outcome := .next (onKeepAliveTimer l s)

/-- The Layer Engine takes the next link's pending event and does its whole work (R70). -/
def serveLink (s : State) : State :=
  match s.nextServed with
  | some (l, e) =>
    let s1 := s.setLink l { s.link l with event := none }
    close (takeEvent l e { s1 with layer := { s1.layer with lastServed := l } })
  | none => s

/-- LAYER_ENGINE_TAKE_EVENT (R70). -/
def execLayerEngineTakeEvent (s : State) : Outcome := .next (serveLink s)

/-- TOGGLE_ZONE (R81). -/
def execToggleZone (p : Port) (tag index setting : Byte) (s : State) : Outcome :=
  .next (arrive p RequestKind.toggleZone.code tag [index, setting] s)

/-- EDIT_ZONE (R82, R83). -/
def execEditZone (p : Port) (tag bank index : Byte) (record : List Byte) (s : State) : Outcome :=
  .next (arrive p RequestKind.editZone.code tag (bank :: index :: record) s)

/-- PANIC (R121, R85, R101, R64). -/
def execPanic (p : Port) (tag : Byte) (s : State) : Outcome := .next (arrive p RequestKind.panic.code tag [] s)

end Sys2Proof.Machine
end

