-- ==== Sys2Proof/Machine/BusCommands.lean ====
section
/-! DEFINITION. The commands of the module bus (Section 7). -/

namespace Sys2Proof.Machine

/-- END_OF_TRANSMISSION (R106, R111, R119, R122). -/
def execEndOfTransmission (s : State) : Outcome := .next (onTransmission s)

/-- IDLE_TIMER_EXPIRY (R106). -/
def execIdleTimerExpiry (s : State) : Outcome := .next (onIdleTimer s)

/-- MODULE_BUSY_ASSERTED (R108): the filtered level was DEASSERTED. -/
def execModuleBusyAsserted (m : ModuleId) (s : State) : Outcome :=
  .next (whileRunning (fun x => if (x.module m).busy then x else transmitAll (busyAsserted m x)) s)

/-- MODULE_BUSY_DEASSERTED (R108, R110): the filtered level was ASSERTED. -/
def execModuleBusyDeasserted (m : ModuleId) (s : State) : Outcome :=
  .next (whileRunning (fun x => if (x.module m).busy then transmitAll (busyDeasserted m x) else x) s)

/-- BUSY_LINE_SAMPLE (R108). -/
def execBusyLineSample (asserted : BitVec 8) (s : State) : Outcome :=
  .next (whileRunning (fun x => transmitAll (busySampleAll asserted x)) s)

/-- BUSY_TIMER_EXPIRY (R108, R109). -/
def execBusyTimerExpiry (m : ModuleId) (s : State) : Outcome := .next (onBusyTimer m s)

/-- PASS (R120). -/
def execPass (p : Port) (tag module kind channel : Byte) (value1 : BitVec 16) (value2 : Byte) (s : State) : Outcome :=
  .next (arrive p RequestKind.pass.code tag ([module, kind, channel] ++ word2 value1 ++ [value2]) s)

end Sys2Proof.Machine
end

