-- ==== Sys2Proof/Machine/ChangeCommands.lean ====
section
/-! DEFINITION. The commands of the Change Sequencer (Section 8). -/

namespace Sys2Proof.Machine

/-- RESTART (R177, R142). -/
def execRestart (p : Port) (tag : Byte) (s : State) : Outcome := .next (arrive p RequestKind.restart.code tag [] s)

/-- RESTART_SILENCE_END (R142, R122). -/
def execRestartSilenceEnd (s : State) : Outcome :=
  .next (match s.bus.transmission with
    | some t => if t.forRestart then silenceEnd t s else s
    | none => s)

/-- CUE (R127). -/
def execCue (p : Port) (tag targetKind target boundary : Byte) (bar : BitVec 16) (firmness : Byte) (s : State) : Outcome :=
  .next (arrive p RequestKind.cue.code tag ([targetKind, target, boundary] ++ word2 bar ++ [firmness]) s)

/-- CANCEL_CUE (R130). -/
def execCancelCue (p : Port) (tag : Byte) (s : State) : Outcome := .next (arrive p RequestKind.cancelCue.code tag [] s)

/-- TAKE_NOW (R134). -/
def execTakeNow (p : Port) (tag : Byte) (s : State) : Outcome := .next (arrive p RequestKind.takeNow.code tag [] s)

/-- SETLIST_STEP (R157). -/
def execSetlistStep (p : Port) (tag direction : Byte) (s : State) : Outcome :=
  .next (arrive p RequestKind.setlistStep.code tag [direction] s)

/-- SETTLE_TIMER_EXPIRY (R139, R140). -/
def execSettleTimerExpiry (s : State) : Outcome := .next (onSettleTimer s)

/-- RETENTION_TIMER_EXPIRY (R141, R99). -/
def execRetentionTimerExpiry (s : State) : Outcome := .next (onRetentionTimer s)

end Sys2Proof.Machine
end

