-- ==== Sys2Proof/Machine/StoreCommands.lean ====
section
/-! DEFINITION. The commands of the Song Store (Section 9). -/

namespace Sys2Proof.Machine

/-- FETCH_END (R146): the fetch in progress ends. -/
def execFetchEnd (s : State) : Outcome :=
  .next (match s.store.activity with
    | .fetching f => close (fetchEnded f s)
    | _ => s)

/-- READ_SONG (R147). -/
def execReadSong (p : Port) (tag slot : Byte) (s : State) : Outcome := .next (arrive p RequestKind.readSong.code tag [slot] s)

/-- WRITE_SONG (R148, R152). -/
def execWriteSong (p : Port) (tag slot : Byte) (record : List Byte) (s : State) : Outcome :=
  .next (arrive p RequestKind.writeSong.code tag (slot :: record) s)

/-- ERASE_SONG (R148, R153). -/
def execEraseSong (p : Port) (tag slot : Byte) (s : State) : Outcome := .next (arrive p RequestKind.eraseSong.code tag [slot] s)

/-- WRITE_SETLIST (R148, R154). -/
def execWriteSetlist (p : Port) (tag count : Byte) (entries : List Byte) (s : State) : Outcome :=
  .next (arrive p RequestKind.writeSetlist.code tag (count :: entries) s)

/-- WRITE_SETUP (R148, R155). -/
def execWriteSetup (p : Port) (tag : Byte) (record : List Byte) (s : State) : Outcome :=
  .next (arrive p RequestKind.writeSetup.code tag record s)

/-- FLASH_ERASE_END (R149, R151, R153). -/
def execFlashEraseEnd (s : State) : Outcome :=
  .next (match s.op? with
    | some op => if op.phase = .erasing then close (eraseEnd op s) else s
    | none => s)

/-- FLASH_WORD_PROGRAMMED (R149, R151). -/
def execFlashWordProgrammed (s : State) : Outcome := .next (onWord s)

/-- RECORD_WORDS_PROGRAMMED (R149). -/
def execRecordWordsProgrammed (s : State) : Outcome := .next (onWords s)

/-- READ_BACK_END (R149, R150). -/
def execReadBackEnd (differs : Bool) (s : State) : Outcome :=
  .next (match s.op? with
    | some op => if op.phase = .verifying then opExpiry op (verifyEnd op differs) s else s
    | none => s)

/-- MARKER_WORD_PROGRAMMED (R149). -/
def execMarkerWordProgrammed (s : State) : Outcome := .next (onMarker s)

/-- SUPPLY_LOW_ASSERTED (R151): the filtered level was DEASSERTED; the second of two samples of an ASSERTED line changes it. -/
def execSupplyLowAsserted (s : State) : Outcome :=
  .next (whileRunning (fun x => if x.store.supplyLow then x else supplyAccepted true x) s)

/-- SUPPLY_LOW_DEASSERTED (R151): the filtered level was ASSERTED; the second of two samples of a DEASSERTED line changes it. -/
def execSupplyLowDeasserted (s : State) : Outcome :=
  .next (whileRunning (fun x => if x.store.supplyLow then supplyAccepted false x else x) s)

/-- SET_MODE (R156). -/
def execSetMode (p : Port) (tag mode : Byte) (s : State) : Outcome := .next (arrive p RequestKind.setMode.code tag [mode] s)

end Sys2Proof.Machine
end

