-- ==== Sys2Proof/Machine/BoardCommands.lean ====
section
/-! DEFINITION. The commands of the pedal board (Section 10). -/

namespace Sys2Proof.Machine

/-- FOOTSWITCH_PRESS (R159, R160): the debounced level was OPEN. A level still UNKNOWN was OPEN for the press to be accepted (log entry 16);
a switch that is CLOSED has no press. -/
def execFootswitchPress (f : SwitchId) (s : State) : Outcome :=
  .next (whileRunning (fun x => if (x.switch f).level ≠ some true then close (pressAccepted f x) else x) s)

/-- FOOTSWITCH_RELEASE (R159, R160): the debounced level was CLOSED. -/
def execFootswitchRelease (f : SwitchId) (s : State) : Outcome :=
  .next (whileRunning (fun x => if (x.switch f).level = some true then close (releaseAccepted f x) else x) s)

/-- FOOTSWITCH_SAMPLE (R159). -/
def execFootswitchSample (closed : BitVec 8) (s : State) : Outcome :=
  .next (whileRunning (fun x => close (switchSample closed x)) s)

/-- HOLD_TIMER_EXPIRY (R160). -/
def execHoldTimerExpiry (f : SwitchId) (s : State) : Outcome := .next (onHoldTimer f s)

/-- ADC_CONVERSION_BEGIN (R163). -/
def execAdcConversionBegin (s : State) : Outcome := .next (onAdcTimer s)

/-- ADC_CONVERSION_END (R163 to R165): the pending conversion ends. -/
def execAdcConversionEnd (raw : BitVec 10) (s : State) : Outcome :=
  .next (match s.board.adcBusy with
    | some p => close (pedalReading p raw.toNat { s with board := { s.board with adcBusy := none } })
    | none => s)

/-- INDICATOR_SLOT_START (R166). -/
def execIndicatorSlotStart (s : State) : Outcome := .next (onSlotTimer s)

/-- INDICATOR_DRIVE_END (R166). -/
def execIndicatorDriveEnd (s : State) : Outcome := .next (onDriveTimer s)

/-- BEAT_FLASH_TIMER_EXPIRY (R167). -/
def execBeatFlashTimerExpiry (s : State) : Outcome := .next (onBeatFlash s)

/-- DOWNBEAT_FLASH_TIMER_EXPIRY (R167). -/
def execDownbeatFlashTimerExpiry (s : State) : Outcome := .next (onDownbeatFlash s)

/-- BLINK_PHASE_TOGGLE (R167). -/
def execBlinkPhaseToggle (s : State) : Outcome := .next (onBlinkTimer s)

end Sys2Proof.Machine
end

