-- ==== Sys2Proof/Machine/PortCommands.lean ====
section
/-! DEFINITION. The commands of the control ports (Section 11). -/

namespace Sys2Proof.Machine

/-- CONTROL_PORT_CHARACTER (R170). -/
def execControlPortCharacter (p : Port) (byte : Byte) (stop : Bool) (s : State) : Outcome :=
  .next (whileRunning (fun x => transmitAll (portCharacter p byte stop x)) s)

/-- GAP_TIMER_EXPIRY (R170, R171). -/
def execGapTimerExpiry (p : Port) (s : State) : Outcome := .next (onGapTimer p s)

/-- UNKNOWN_KIND_REQUEST (R173, R183). -/
def execUnknownKindRequest (p : Port) (tag kind : Byte) (payload : List Byte) (s : State) : Outcome :=
  .next (arrive p kind tag payload s)

/-- PORT_FRAME_TRANSMITTED (R173, R174). -/
def execPortFrameTransmitted (p : Port) (s : State) : Outcome := .next (onFrameTimer p s)

/-- GET_STATUS (R175). -/
def execGetStatus (p : Port) (tag group start : Byte) (s : State) : Outcome :=
  .next (arrive p RequestKind.getStatus.code tag [group, start] s)

/-- SET_NOTICE_MASK (R176). -/
def execSetNoticeMask (p : Port) (tag : Byte) (fields : List Byte) (s : State) : Outcome :=
  .next (arrive p RequestKind.setNoticeMask.code tag fields s)

/-- SET_POSITION_NOTICES (R176). -/
def execSetPositionNotices (p : Port) (tag setting : Byte) (s : State) : Outcome :=
  .next (arrive p RequestKind.setPositionNotices.code tag [setting] s)

end Sys2Proof.Machine
end

