-- ==== Sys2Proof/Machine/Dispatch.lean ====
section
/-! DEFINITION. The effect of a command on the block: one arm for each command. -/

namespace Sys2Proof.Machine

def exec (i : Instr) (s : State) : Host.Outcome State Fault Refusal :=
  match i with
  | .powerOn => Sys2Proof.Machine.execPowerOn s
  | .crystalFound => Sys2Proof.Machine.execCrystalFound s
  | .crystalWaitTimeout => Sys2Proof.Machine.execCrystalWaitTimeout s
  | .crystalLoss => Sys2Proof.Machine.execCrystalLoss s
  | .intervalCountdownExpiry => Sys2Proof.Machine.execIntervalCountdownExpiry s
  | .start p tag => Sys2Proof.Machine.execStart p tag s
  | .stop p tag => Sys2Proof.Machine.execStop p tag s
  | .setTempo p tag tempo => Sys2Proof.Machine.execSetTempo p tag tempo s
  | .setTempoSource p tag source => Sys2Proof.Machine.execSetTempoSource p tag source s
  | .mark p tag beatInBar => Sys2Proof.Machine.execMark p tag beatInBar s
  | .refinRisingEdge => Sys2Proof.Machine.execRefinRisingEdge s
  | .holdoverTimerExpiry => Sys2Proof.Machine.execHoldoverTimerExpiry s
  | .holdoverPaceTimerExpiry => Sys2Proof.Machine.execHoldoverPaceTimerExpiry s
  | .tap p tag => Sys2Proof.Machine.execTap p tag s
  | .clickPulseTimerExpiry line => Sys2Proof.Machine.execClickPulseTimerExpiry line s
  | .clkoutPulseTimerExpiry => Sys2Proof.Machine.execClkoutPulseTimerExpiry s
  | .clickMute p tag setting => Sys2Proof.Machine.execClickMute p tag setting s
  | .keyLinkCharacter l byte stop => Sys2Proof.Machine.execKeyLinkCharacter l byte stop s
  | .parserTakeByte l => Sys2Proof.Machine.execParserTakeByte l s
  | .keepAliveTimerExpiry l => Sys2Proof.Machine.execKeepAliveTimerExpiry l s
  | .layerEngineTakeEvent => Sys2Proof.Machine.execLayerEngineTakeEvent s
  | .toggleZone p tag index setting => Sys2Proof.Machine.execToggleZone p tag index setting s
  | .editZone p tag bank index record => Sys2Proof.Machine.execEditZone p tag bank index record s
  | .panic p tag => Sys2Proof.Machine.execPanic p tag s
  | .endOfTransmission => Sys2Proof.Machine.execEndOfTransmission s
  | .idleTimerExpiry => Sys2Proof.Machine.execIdleTimerExpiry s
  | .moduleBusyAsserted m => Sys2Proof.Machine.execModuleBusyAsserted m s
  | .moduleBusyDeasserted m => Sys2Proof.Machine.execModuleBusyDeasserted m s
  | .busyTimerExpiry m => Sys2Proof.Machine.execBusyTimerExpiry m s
  | .pass p tag module kind channel value1 value2 => Sys2Proof.Machine.execPass p tag module kind channel value1 value2 s
  | .restart p tag => Sys2Proof.Machine.execRestart p tag s
  | .restartSilenceEnd => Sys2Proof.Machine.execRestartSilenceEnd s
  | .cue p tag targetKind target boundary bar firmness => Sys2Proof.Machine.execCue p tag targetKind target boundary bar firmness s
  | .cancelCue p tag => Sys2Proof.Machine.execCancelCue p tag s
  | .takeNow p tag => Sys2Proof.Machine.execTakeNow p tag s
  | .settleTimerExpiry => Sys2Proof.Machine.execSettleTimerExpiry s
  | .retentionTimerExpiry => Sys2Proof.Machine.execRetentionTimerExpiry s
  | .fetchEnd => Sys2Proof.Machine.execFetchEnd s
  | .readSong p tag slot => Sys2Proof.Machine.execReadSong p tag slot s
  | .writeSong p tag slot record => Sys2Proof.Machine.execWriteSong p tag slot record s
  | .eraseSong p tag slot => Sys2Proof.Machine.execEraseSong p tag slot s
  | .writeSetlist p tag count entries => Sys2Proof.Machine.execWriteSetlist p tag count entries s
  | .writeSetup p tag record => Sys2Proof.Machine.execWriteSetup p tag record s
  | .flashEraseEnd => Sys2Proof.Machine.execFlashEraseEnd s
  | .recordWordsProgrammed => Sys2Proof.Machine.execRecordWordsProgrammed s
  | .readBackEnd differs => Sys2Proof.Machine.execReadBackEnd differs s
  | .markerWordProgrammed => Sys2Proof.Machine.execMarkerWordProgrammed s
  | .supplyLowAsserted => Sys2Proof.Machine.execSupplyLowAsserted s
  | .supplyLowDeasserted => Sys2Proof.Machine.execSupplyLowDeasserted s
  | .setMode p tag mode => Sys2Proof.Machine.execSetMode p tag mode s
  | .setlistStep p tag direction => Sys2Proof.Machine.execSetlistStep p tag direction s
  | .footswitchPress f => Sys2Proof.Machine.execFootswitchPress f s
  | .footswitchRelease f => Sys2Proof.Machine.execFootswitchRelease f s
  | .holdTimerExpiry f => Sys2Proof.Machine.execHoldTimerExpiry f s
  | .adcConversionEnd raw => Sys2Proof.Machine.execAdcConversionEnd raw s
  | .indicatorSlotStart => Sys2Proof.Machine.execIndicatorSlotStart s
  | .indicatorDriveEnd => Sys2Proof.Machine.execIndicatorDriveEnd s
  | .beatFlashTimerExpiry => Sys2Proof.Machine.execBeatFlashTimerExpiry s
  | .downbeatFlashTimerExpiry => Sys2Proof.Machine.execDownbeatFlashTimerExpiry s
  | .blinkPhaseToggle => Sys2Proof.Machine.execBlinkPhaseToggle s
  | .controlPortCharacter p byte stop => Sys2Proof.Machine.execControlPortCharacter p byte stop s
  | .gapTimerExpiry p => Sys2Proof.Machine.execGapTimerExpiry p s
  | .unknownKindRequest p tag kind payload => Sys2Proof.Machine.execUnknownKindRequest p tag kind payload s
  | .portFrameTransmitted p => Sys2Proof.Machine.execPortFrameTransmitted p s
  | .getStatus p tag group start => Sys2Proof.Machine.execGetStatus p tag group start s
  | .setNoticeMask p tag fields => Sys2Proof.Machine.execSetNoticeMask p tag fields s
  | .setPositionNotices p tag setting => Sys2Proof.Machine.execSetPositionNotices p tag setting s
  | .refinSample high => Sys2Proof.Machine.execRefinSample high s
  | .footswitchSample closed => Sys2Proof.Machine.execFootswitchSample closed s
  | .busyLineSample asserted => Sys2Proof.Machine.execBusyLineSample asserted s
  | .adcConversionBegin => Sys2Proof.Machine.execAdcConversionBegin s
  | .flashWordProgrammed => Sys2Proof.Machine.execFlashWordProgrammed s

end Sys2Proof.Machine
end

