-- ==== Sys2Proof/Safety.lean ====
section
/-! DEFINITION. The terms in which claims speak of the PF240: which parts of the state a command leaves alone, a request served by an idle
port, a posted notice, what a work does whoever asks for it, the field checks of Section 12, and the invariants a step keeps. -/

namespace Sys2Proof.Machine

/-! ## Frames -/

/-- A port's receiving side with its settings: frame assembly, buffer, request in service, notice mask, position-notice setting. -/
def ControlPort.service (c : ControlPort) :
    AssemblerPhase × Assembly × Option Timer × List Frame × Option Frame × BitVec 22 × PositionSetting :=
  (c.phase, c.assembly, c.gapTimer, c.buffer, c.inService, c.mask, c.positions)

/-- A port's notices: the queue, the overflow flag, the count of lost notices. -/
def ControlPort.queue (c : ControlPort) : List Notice × Bool × Nat := (c.notices, c.overflow, c.lost)

/-- A port's transmitting side: the decided reply, what was sent last, the frame on the line. -/
def ControlPort.outgoing (c : ControlPort) : Option (List Byte) × Option SentKind × Option PortFrame := (c.reply, c.lastSent, c.sending)

/-- The parts of the state: one for each field of State, the ports in three parts each. -/
inductive Part where
  | timebase
  | setup
  | resetting
  | grid
  | follower
  | tap
  | click
  | links
  | layer
  | notes
  | bus
  | banks
  | seq
  | store
  | flash
  | board
  | serviceA
  | noticesA
  | sendA
  | serviceB
  | noticesB
  | sendB
  | draws
  | pending
  deriving DecidableEq, Repr

/-- Two states agree in a part. -/
def Part.Same (q : Part) (s t : State) : Prop :=
  match q with
  | .timebase => t.timebase = s.timebase
  | .setup => t.setup = s.setup
  | .resetting => t.resetting = s.resetting
  | .grid => t.grid = s.grid
  | .follower => t.follower = s.follower
  | .tap => t.tap = s.tap
  | .click => t.click = s.click
  | .links => t.links = s.links
  | .layer => t.layer = s.layer
  | .notes => t.notes = s.notes
  | .bus => t.bus = s.bus
  | .banks => t.banks = s.banks
  | .seq => t.seq = s.seq
  | .store => t.store = s.store
  | .flash => t.flash = s.flash
  | .board => t.board = s.board
  | .serviceA => t.portA.service = s.portA.service
  | .noticesA => t.portA.queue = s.portA.queue
  | .sendA => t.portA.outgoing = s.portA.outgoing
  | .serviceB => t.portB.service = s.portB.service
  | .noticesB => t.portB.queue = s.portB.queue
  | .sendB => t.portB.outgoing = s.portB.outgoing
  | .draws => t.draws = s.draws
  | .pending => t.pending = s.pending

/-- From `s` to `t` nothing has changed outside the parts listed. Where the flash is not listed, every byte reads as before. -/
structure SameBut (changed : List Part) (s t : State) : Prop where
  same : ∀ q : Part, q ∉ changed → q.Same s t

/-- The notice queues, which any event may post to. -/
abbrev noticeParts : List Part := [.noticesA, .noticesB]

/-- The notice queues and the transmitters, which every event that may post leaves to their choice (R174). -/
abbrev lineParts : List Part := [.noticesA, .noticesB, .sendA, .sendB]

/-- Everything of the two ports. -/
abbrev portParts : List Part := [.serviceA, .noticesA, .sendA, .serviceB, .noticesB, .sendB]

/-- The parts the arbiter may change when it looks at the collections (R111): those it serves, and those a settle or a freed bank changes. -/
abbrev arbiterParts : List Part := [.layer, .notes, .bus, .banks, .seq, .store]

/-- The frame of an event that closes with the arbiter's look at the collections: outside `changed` only the arbiter's parts and the ports'
lines change, and while a message is being transmitted the arbiter chooses nothing, so that only the lines do (R111). -/
structure Closed (changed : List Part) (s t : State) : Prop where
  frame : SameBut (changed ++ arbiterParts ++ lineParts) s t
  busy : s.bus.transmission.isSome = true → SameBut (changed ++ lineParts) s t

/-! ## Timers -/

/-- The state at the instant a timer expires: the count stands at the timer's due value, or where it has already passed it (R1, R3). -/
def State.expired (s : State) (tm : Timer) : State := if tm.elapsed s.now then s else s.atCount tm.due

/-! ## Requests (R172, R173) -/

/-- The port takes a request at its arrival: the count runs, no reset is in progress, nothing is in service or waits. -/
def State.serves (s : State) (p : Port) : Prop :=
  s.running = true ∧ s.resetting = .none ∧ (s.port p).inService = none ∧ (s.port p).buffer = []

/-- The request is in service at `t` with its reply decided: the reply waits for the transmitter or is being transmitted (R173). -/
structure Replied (p : Port) (f : Frame) (r : Reply) (s t : State) : Prop where
  service : (t.port p).inService = some f
  reply : (t.port p).reply = some r.bytes ∨
    (t.port p).sending = some ⟨.reply, frameBytes 0x80 f.tag r.bytes, ⟨s.now, frameMicros r.bytes⟩⟩

/-- Each port's receiving side and settings are as they were, but for the request in service at the port served. -/
def ReceivingSame (p : Port) (s t : State) : Prop :=
  ∀ q : Port, { t.port q with inService := if q = p then (s.port p).inService else (t.port q).inService }.service = (s.port q).service

/-- A request has been carried out and answered: its reply is decided, and only the parts listed and the ports' lines have changed. -/
structure Completed (p : Port) (f : Frame) (r : Reply) (changed : List Part) (s t : State) : Prop where
  replied : Replied p f r s t
  receiving : ReceivingSame p s t
  frame : SameBut (changed ++ portParts) s t

/-- The same for a request that closes with the arbiter's look at the collections: it chooses nothing while a message is being transmitted. -/
structure ClosedRequest (p : Port) (f : Frame) (r : Reply) (changed : List Part) (s t : State) : Prop where
  completed : Completed p f r (changed ++ arbiterParts) s t
  busy : s.bus.transmission.isSome = true → SameBut (changed ++ portParts) s t

/-! ## Notices -/

/-- The notice waits in the port's queue or is being transmitted. -/
def Told (q : Port) (n : Notice) (t : State) : Prop :=
  n ∈ (t.port q).notices ∨ ∃ tm, (t.port q).sending = some ⟨.notice, frameBytes 0x81 0 n.bytes, tm⟩

/-- Each port whose mask lets the notice's kind through, and whose queue had room, tells it (R178). -/
def Tells (n : Notice) (s t : State) : Prop :=
  ∀ q : Port, (s.port q).admits n.body = true → (s.port q).notices.length < 24 → Told q n t

/-! ## Requests as frames (Table 12-2) -/

/-- The request kinds with their shortest and longest payloads. -/
def requestLengths : List (Nat × Nat × Nat) :=
  [(0x01, 0, 0), (0x02, 0, 0), (0x03, 2, 2), (0x04, 1, 1), (0x05, 0, 0), (0x06, 1, 1), (0x07, 1, 1), (0x10, 6, 6), (0x11, 0, 0), (0x12, 0, 0),
   (0x13, 1, 1), (0x20, 16, 16), (0x21, 2, 2), (0x22, 0, 0), (0x23, 6, 6), (0x30, 33, 321), (0x31, 1, 1), (0x32, 1, 1), (0x33, 1, 65),
   (0x34, 126, 126), (0x35, 1, 1), (0x40, 2, 2), (0x41, 21, 21), (0x42, 1, 1), (0x43, 0, 0)]

/-- The port, tag, kind and payload of the frame that a request of the table stands for; none for every other command. -/
def requestFrame : Instr → Option (Port × Byte × Byte × List Byte)
  | .start p tag => some (p, tag, 0x01, [])
  | .stop p tag => some (p, tag, 0x02, [])
  | .setTempo p tag v => some (p, tag, 0x03, word2 v)
  | .setTempoSource p tag x => some (p, tag, 0x04, [x])
  | .tap p tag => some (p, tag, 0x05, [])
  | .mark p tag b => some (p, tag, 0x06, [b])
  | .clickMute p tag x => some (p, tag, 0x07, [x])
  | .cue p tag kind target boundary bar firm => some (p, tag, 0x10, [kind, target, boundary] ++ word2 bar ++ [firm])
  | .cancelCue p tag => some (p, tag, 0x11, [])
  | .takeNow p tag => some (p, tag, 0x12, [])
  | .setlistStep p tag x => some (p, tag, 0x13, [x])
  | .editZone p tag bank i r => some (p, tag, 0x20, bank :: i :: r)
  | .toggleZone p tag i x => some (p, tag, 0x21, [i, x])
  | .panic p tag => some (p, tag, 0x22, [])
  | .pass p tag m k c v1 v2 => some (p, tag, 0x23, [m, k, c] ++ word2 v1 ++ [v2])
  | .writeSong p tag x r => some (p, tag, 0x30, x :: r)
  | .eraseSong p tag x => some (p, tag, 0x31, [x])
  | .readSong p tag x => some (p, tag, 0x32, [x])
  | .writeSetlist p tag n es => some (p, tag, 0x33, n :: es)
  | .writeSetup p tag r => some (p, tag, 0x34, r)
  | .setMode p tag x => some (p, tag, 0x35, [x])
  | .getStatus p tag g x => some (p, tag, 0x40, [g, x])
  | .setNoticeMask p tag d => some (p, tag, 0x41, d)
  | .setPositionNotices p tag x => some (p, tag, 0x42, [x])
  | .restart p tag => some (p, tag, 0x43, [])
  | _ => none

/-! ## The microseconds of consecutive intervals (R7) -/

/-- The interval a grid has just computed. -/
def Grid.span (g : Grid) : Nat :=
  match g.countdown with
  | some t => t.micros
  | none => 0

/-- The sum of the next `n` intervals a grid computes. -/
def Grid.spans : Nat → Grid → Nat
  | 0, _ => 0
  | n + 1, g => (g.interval 0).span + Grid.spans n (g.interval 0)

/-! ## Marks and taps (R24, R27, R31, R32, R39) -/

/-- The follow source that names a port. -/
def ofPort : Port → FollowSource
  | .a => .cpA
  | .b => .cpB

/-- A MARK on a port reaches the Follower (R24). -/
def State.hears (s : State) (p : Port) (beat : Byte) : Prop :=
  s.serves p ∧ beat.toNat ≤ 15 ∧ s.grid.source = .follow ∧ s.setup.followSource = ofPort p

/-- The interval list that a mark at `now` leaves in SEEKING (R27). -/
def Follower.listAfter (f : Follower) (tol : Nat) (now : Count) : List Nat :=
  match f.reference with
  | none => []
  | some ref =>
    if 200000 ≤ since now ref ∧ since now ref ≤ 2000000 then
      match f.intervals.getLast? with
      | none => [since now ref]
      | some last => if 100 * apart (since now ref) last ≤ tol * last then f.intervals ++ [since now ref] else []
    else []

/-- The grid after T_g is set to `tempo`: a value that differs waits for the next interval, before which r is set to 0 (R7). -/
def Grid.retuned (g : Grid) (tempo : Nat) : Grid :=
  { g with tempo := tempo, fresh := if tempo = g.tempo then g.fresh else true }

/-- The grid after phase correction with T_f = `tempo` and phase error `e`, and beat realignment by the beat-in-bar `b` (R31, R32). -/
def Grid.steered (g : Grid) (tempo : Nat) (e : Int) (b : Nat) : Grid :=
  let c : Int := if e < -24 then -24 else if 24 < e then 24 else e
  let x : Nat := (roundAway ((tempo : Int) * (240 - c)) 240).toNat
  let new : Nat := if c = 0 then tempo else if x < 3000 then 3000 else if 30000 < x then 30000 else x
  let corrected : Nat := if 0 ≤ e then g.position.beat else if g.position.beat < g.meter then g.position.beat + 1 else 1
  { g with
    tempo := new
    fresh := if new = g.tempo then g.fresh else true
    correction := if c = 0 then none else some ⟨new, (240 - c).toNat, false⟩
    position :=
      if b ≠ 0 ∧ b ≤ g.meter ∧ g.transport.emits = true ∧ corrected ≠ b then
        { g.position with beat := if 0 ≤ e then b else if b = 1 then g.meter else b - 1 }
      else g.position }

/-- The last four of the intervals held and the new one (R39). -/
def TapTimer.lastFour (x : TapTimer) (t : Nat) : List Nat := (x.intervals ++ [t]).drop ((x.intervals ++ [t]).length - 4)

/-! ## What a work does, whoever asks for it

A request, a footswitch, a link's PROGRAM and a REFIN edge share their effects. `within` names the frame of the one that asks: the parts
listed, and what its own close adds. `now` is the instant of the work, which a late expiry dates back to the timer's due value (R3). -/

/-- T_g and the ramp record after a tick at position `q` (R19): the record takes its next step at tick 0 of a beat and is removed after its
last; elsewhere, and without a record, both stand. -/
def Grid.ramped (g : Grid) (q : Position) : Nat × Option Ramp :=
  match g.ramp with
  | none => (g.tempo, none)
  | some r =>
    if q.tick = 0 then
      (((r.start : Int) + roundAway (((r.target : Int) - r.start) * (r.done + 1 : Nat)) r.beats).toNat,
        if r.beats ≤ r.done + 1 then none else some { r with done := r.done + 1 })
    else (g.tempo, some r)

/-- T_g and the correction record after a tick that finds them at `tempo` and `c` (R21): the record counts a tick that ends an interval computed
after it was made, and at its end T_g returns to T_f. -/
def countedCorrection (c : Option Correction) (tempo target : Nat) : Nat × Option Correction :=
  match c with
  | none => (tempo, none)
  | some x =>
    if x.counting = true then
      if x.remaining ≤ 1 then (target, none) else (tempo, some { x with remaining := x.remaining - 1 })
    else (tempo, some { x with counting := true })

/-- The grid after a tick at `q` that leaves T_g and its records alone: the position, the end of a count-in, the next interval (R6, R7, R14). -/
def Grid.ticked (g : Grid) (q : Position) (now : Count) : Grid :=
  let r := if g.fresh = true then 0 else g.remainder
  { g with
    position := q
    transport := if g.transport = .countIn ∧ q = ⟨1, 1, 0⟩ then .running else g.transport
    remainder := 25000000 + r - (25000000 + r) / g.tempo * g.tempo
    countdown := some ⟨now, (25000000 + r) / g.tempo⟩
    fresh := false }

/-- The Follower after a tick at `q` (R34, R35): a beat boundary in HOLDOVER counts, and the H-th enters LOST, the count standing (log entry
31). -/
def State.tickedFollower (s : State) (q : Position) : Follower :=
  if s.follower.state = .holdover ∧ q.tick = 0 then
    if s.setup.holdoverBeats ≤ s.follower.holdoverBeats + 1 then
      { s.follower with state := .lost, holdoverBeats := s.follower.holdoverBeats + 1, paceTimer := none }
    else { s.follower with holdoverBeats := s.follower.holdoverBeats + 1 }
  else s.follower

/-- A tick at `q` is the H-th holdover beat and the on-loss action is SONG_TEMPO (R35). -/
abbrev State.FallsBack (s : State) (q : Position) : Prop :=
  s.follower.state = .holdover ∧ q.tick = 0 ∧ s.setup.holdoverBeats ≤ s.follower.holdoverBeats + 1 ∧ s.setup.onLoss = .songTempo

/-- The place a START begins from (R11): bar −(N−1) where the active song has a count-in and the position is 1.1.0, else the held position. -/
def State.startPlace (s : State) : Transport × Position :=
  if 1 ≤ s.activeBank.countIn ∧ s.activeBank.countIn ≤ 4 ∧ s.grid.position = ⟨1, 1, 0⟩ then
    (.countIn, ⟨1 - (s.activeBank.countIn : Int), 1, 0⟩)
  else (.running, s.grid.position)

/-- START (R11, R6, R15): START_PENDING under FOLLOW; otherwise COUNT_IN at bar −(N−1) where the active song has a count-in and the position
is 1.1.0, or RUNNING from the held position, the first tick emitted and the first interval computed at once, under the tempo that tick leaves;
TRANSPORT told; elsewhere no change. -/
def StartDone (within : List Part → Prop) (o : Origin) (now : Count) (s t : State) : Prop :=
  within [.grid, .follower, .click, .bus, .board] ∧
  (s.grid.transport = .stopped → s.grid.source = .follow →
    t.grid = { s.grid with transport := .startPending } ∧ t.follower = s.follower ∧ t.click = s.click ∧ t.board = s.board) ∧
  (s.grid.transport = .stopped → s.grid.source ≠ .follow →
    t.follower = { s.follower with paceTimer := none } ∧
    ∃ m r, (m, r) = s.grid.ramped s.startPlace.2 ∧ t.grid = { s.grid with
      transport := s.startPlace.1, position := s.startPlace.2, tempo := m, ramp := r
      remainder := 25000000 - 25000000 / m * m, countdown := some ⟨now, 25000000 / m⟩, fresh := false }) ∧
  (s.grid.transport = .stopped → Tells ⟨.transport t.grid.transport t.grid.position, false, t.grid.position, some o⟩ s t) ∧
  (s.grid.transport ≠ .stopped → t.grid = s.grid ∧ t.follower = s.follower ∧ t.click = s.click ∧ t.board = s.board)

/-- The T_g a take leaves where it finds `tempo` (R18): a FOLLOW song keeps it, and so does an INTERNAL one that ramps from it, in a grid that
emits ticks; any other song sets its own. -/
def Song.takenTempo (x : Song) (emits : Bool) (tempo : Nat) : Nat :=
  if x.source = .follow ∨ x.source = .internal ∧ 1 ≤ x.rampBeats ∧ emits = true then tempo else x.tempo

/-- The take of the song `x` changes the source from FOLLOW or to it (R36, R37, R137). -/
abbrev State.TurnsFollower (s : State) (x : Song) : Prop := x.source ≠ s.grid.source ∧ (x.source = .follow ∨ s.grid.source = .follow)

/-- The Follower that a take of the song `x` turns on or off where it finds T_g at `tempo` (R18, R36, R37): SEEKING with T_f = T_g, or OFF with T_f
kept, or set to the tempo of a TAP song. -/
def State.turnedFollower (s : State) (x : Song) (tempo : Nat) : Follower :=
  { s.follower with
    state := if x.source = .follow then .seeking else .off
    reference := none, intervals := [], outliers := 0, holdoverTimer := none, holdoverBeats := 0, paceTimer := none
    tempo := match x.source with
      | .internal => s.follower.tempo
      | .follow => tempo
      | .tap => x.tempo }

/-- The song `x` of bank `b` is taken at `now` (R135 to R138, R18, R36, R37, R52, R84): the take's own timers and lists, the grid's meter and
source, the click pattern, the store's position; while a message is being transmitted its program posts and the level slots; the Follower turned
on or off, or kept but for the T_f of a TAP song and the pace timer; a change of transport, FOLLOW_STATE and TAKEN are told. `kept` says that the
old bank is RETAINED, `tempo` is the T_g the take finds, and `f` what a Follower becomes that is kept. -/
structure SongTaken (x : Song) (place : Option Nat) (o : Option Origin) (b : Bank) (kept : Bool) (now : Count) (tempo : Nat) (f : Follower)
    (s t : State) : Prop where
  phase : t.seq.phase = .switching
  settle : t.seq.settle = .running ⟨now, 20000⟩
  modules : ∀ m : ModuleId, t.seq.takeModules.getLsbD m.val = x.programs.any (fun e => e.module == m)
  meter : t.grid.meter = x.meter
  source : t.grid.source = x.source
  pattern : t.click.subdivision = x.subdivision ∧ t.click.accents = x.accents
  store : t.store.activeSlot = b.source ∧ t.store.position = place
  posts : s.bus.transmission.isSome = true →
    t.bus.pending = x.programs.foldl (fun l e => postProgram ⟨e.module, e.channel, e.program, e.preset, .program, .take⟩ l) s.bus.pending
  layer : s.bus.transmission.isSome = true → t.layer = { s.layer with levels := t.layer.levels } ∧
    t.layer.levels.length = b.zones.length ∧ ∀ (i : Nat) (z : Zone), b.zones[i]? = some z → t.layer.levels[i]? = some (
      match z.pedal with
      | some q => if b.zoneOn i then some ((s.pedal q).output * z.level / 127) else none
      | none => none)
  transport : t.grid.transport ≠ s.grid.transport → t.grid.transport ≠ .stopped →
    Tells ⟨.transport t.grid.transport t.grid.position, false, t.grid.position, none⟩ s t
  turned : s.TurnsFollower x → t.follower = s.turnedFollower x tempo
  turnTold : s.TurnsFollower x → t.follower.state ≠ s.follower.state → Tells ⟨.followState t.follower.state s.follower.state
    (if x.source = .internal then s.follower.tempo else tempo) x.source, false, t.grid.position, none⟩ s t
  follower : ¬ s.TurnsFollower x →
    { t.follower with paceTimer := none } = { f with paceTimer := none, tempo := if x.source = .tap then x.tempo else f.tempo }
  taken : Tells
    ⟨.taken t.banks.active b.source place t.grid.position t.grid.transport x.source
      (x.takenTempo (s.grid.transport.emits && t.grid.transport.emits) tempo) kept, false, t.grid.position, o⟩ s t

/-- A cue of origin `o` for the song `x` in the bank that is not ACTIVE is taken at `now`: the roles, the empty slot, the song's take, and
while a message is being transmitted the RETAINED role with its retention timer (R135 to R138, R141). -/
structure TookOver (x : Song) (place : Option Nat) (o : Origin) (now : Count) (tempo : Nat) (f : Follower) (s t : State) : Prop where
  roles : t.banks.active = s.banks.active.other
  bank : t.activeBank = s.standbyBank
  slot : t.seq.cue = none
  song : SongTaken x place (some o) s.standbyBank (decide (s.notes.references s.banks.active ≠ 0)) now tempo f s t
  retained : s.bus.transmission.isSome = true → t.banks.retained = decide (s.notes.references s.banks.active ≠ 0) ∧
    t.seq.retention = if s.notes.references s.banks.active ≠ 0 then some ⟨now, s.setup.retentionMillis * 1000⟩ else none

/-- The parts a take changes. -/
abbrev tookOverParts : List Part := [.banks, .seq, .grid, .click, .layer, .follower, .bus, .store]

/-- The setlist position a cue's take gives (R138). -/
def Cue.takenPlace (c : Cue) : Option Nat := if c.kind = .setlist then some c.target else none

/-- T_g once STOP has ended the ramp record or the correction record (R13, R19, R21); in STOPPED both stand. -/
def State.stoppedTempo (s : State) : Nat :=
  if s.grid.transport = .stopped then s.grid.tempo
  else match s.grid.ramp, s.grid.correction with
    | some r, _ => r.target
    | none, some _ => s.follower.tempo
    | none, none => s.grid.tempo

/-- STOP (R13, R15, R34, R133): the position, T_g with the records ended, r and the countdown, TRANSPORT told; an ARMED cue is then taken in
the stopped grid, with the new song's tempo at once, or for FOLLOW the T_g that the STOP left (R18, R137). -/
def StopDone (within : List Part → Prop) (o : Origin) (now : Count) (s t : State) : Prop :=
  (∃ q, q = (match s.grid.transport with
      | .stopped => ⟨1, 1, 0⟩
      | .countIn => ⟨1, 1, 0⟩
      | .running => s.grid.position.next s.grid.meter
      | .startPending => s.grid.position) ∧
    Tells ⟨.transport .stopped q, false, q, some o⟩ s t ∧
    (s.armedCue = none → within [.grid, .follower] ∧
      (s.grid.transport = .stopped → t.grid = { s.grid with position := q } ∧ t.follower = s.follower) ∧
      (s.grid.transport ≠ .stopped →
        t.grid = { s.grid with
          transport := .stopped, countdown := none, remainder := 0, fresh := false, ramp := none, correction := none
          tempo := s.stoppedTempo
          position := q } ∧
        t.follower = { s.follower with
          paceTimer := if s.follower.state = .holdover then some ⟨now, s.follower.period⟩ else s.follower.paceTimer }))) ∧
  ∀ (c : Cue) (x : Song), s.armedCue = some c → s.standbyBank.image = some x →
    within tookOverParts ∧ TookOver x c.takenPlace c.origin now s.stoppedTempo s.follower s t ∧ t.grid.transport = .stopped ∧ t.grid.position = ⟨1, 1, 0⟩ ∧
    t.grid.tempo = (if x.source = .follow then s.stoppedTempo else x.tempo) ∧ t.grid.ramp = none ∧
    (s.grid.transport = .stopped → t.grid.countdown = s.grid.countdown ∧ t.grid.remainder = s.grid.remainder) ∧
    (s.grid.transport ≠ .stopped → t.grid.countdown = none ∧ t.grid.remainder = 0 ∧ t.grid.correction = none)

/-- What a Follower that a take keeps becomes: in a grid that emits ticks the take's tick, at tick 0 of a beat, may count a holdover beat (R10,
R34). -/
def State.keptFollower (s : State) : Follower := if s.grid.transport.emits = true then s.tickedFollower Position.top else s.follower

/-- A take of the song `x` whose tick is the H-th holdover beat falls back at once (R35). -/
abbrev State.TakeFallsBack (s : State) (x : Song) : Prop := s.grid.transport.emits = true ∧ s.FallsBack Position.top ∧ ¬ s.TurnsFollower x

/-- T_g and the correction record after the tick of a take of the song `x` (R18, R21, R36): the take's T_g; a correction record is removed by a
change of source and by a TAP song, and otherwise goes on and counts. -/
def State.takenTick (s : State) (x : Song) : Nat × Option Correction :=
  countedCorrection (if x.source = s.grid.source ∧ x.source ≠ .tap then s.grid.correction else none)
    (x.takenTempo true s.grid.tempo) s.follower.tempo

/-- TAKE_NOW (R134, R10, R12, R18, R135 to R138): an empty slot changes nothing, a cue that is not ARMED takes the boundary IMMEDIATE, an
ARMED one is taken: in a grid that emits no ticks without a tick, where ticks are emitted with a tick at this instant; a pending transport
starts where the new song's source is not FOLLOW. -/
def TakeNowDone (within : List Part → Prop) (now : Count) (s t : State) : Prop :=
  (s.seq.cue = none → within []) ∧
  (∀ c, s.seq.cue = some c → c.state ≠ .armed → within [.seq] ∧
    (s.bus.transmission.isSome = true → t.seq = { s.seq with cue := some { c with boundary := .immediate } })) ∧
  ∀ c x, s.seq.cue = some c → c.state = .armed → s.standbyBank.image = some x →
    ¬ s.TakeFallsBack x →
    within (.board :: tookOverParts) ∧ TookOver x c.takenPlace c.origin now s.grid.tempo s.keptFollower s t ∧
    (s.grid.transport = .stopped ∨ s.grid.transport = .startPending ∧ x.source = .follow →
      t.grid.transport = s.grid.transport ∧ t.grid.position = ⟨1, 1, 0⟩ ∧ t.grid.countdown = s.grid.countdown ∧ t.grid.ramp = none ∧
      (x.source ≠ .follow → t.grid.tempo = x.tempo) ∧ (x.source = .follow → t.grid.tempo = s.grid.tempo)) ∧
    (s.grid.transport = .startPending → s.grid.source = .follow → x.source ≠ .follow →
      t.grid.transport = .running ∧ t.grid.position = ⟨1, 1, 0⟩ ∧ t.grid.tempo = x.tempo ∧ t.grid.ramp = none ∧
      t.grid.countdown = some ⟨now, 25000000 / x.tempo⟩) ∧
    (s.grid.transport.emits = true →
      (if s.grid.transport = .countIn ∧ 1 ≤ x.countIn then
        t.grid.transport = .countIn ∧ t.grid.position = ⟨1 - (x.countIn : Int), 1, 0⟩
      else t.grid.transport = .running ∧ t.grid.position = ⟨1, 1, 0⟩) ∧
      (t.grid.tempo, t.grid.correction) = s.takenTick x ∧
      t.grid.ramp = (if x.source = .internal ∧ 1 ≤ x.rampBeats then some ⟨s.grid.tempo, x.tempo, x.rampBeats, 0⟩ else none) ∧
      t.grid.countdown = some ⟨now, 25000000 / t.grid.tempo⟩)

/-- A tap (R39, R40): the tap sequence by the interval from the last tap; from two intervals on a tap tempo, which under TAP becomes T_f and
T_g, followed in RUNNING by phase correction and elsewhere by the end of any correction record. -/
def TapDone (within : List Part → Prop) (now : Count) (s t : State) : Prop :=
  within [.tap, .grid, .follower] ∧
  ((∀ last, s.tap.last = some last → 2000000 < since now last) →
    t.tap = { s.tap with last := some now, intervals := [] } ∧ t.grid = s.grid ∧ t.follower = s.follower) ∧
  ∀ last, s.tap.last = some last →
    (since now last < 200000 → t.tap = s.tap ∧ t.grid = s.grid ∧ t.follower = s.follower) ∧
    (200000 ≤ since now last → since now last ≤ 2000000 → ∃ l, l = s.tap.lastFour (since now last) ∧
      (l.length < 2 → t.tap = { s.tap with last := some now, intervals := l } ∧ t.grid = s.grid ∧ t.follower = s.follower) ∧
      (2 ≤ l.length → ∃ v, v = roundHalfUp (6000000000 * l.length) l.sum ∧
        t.tap = ⟨some now, l, some v⟩ ∧
        (s.grid.source ≠ .tap → t.grid = s.grid ∧ t.follower = s.follower) ∧
        (s.grid.source = .tap →
          t.follower = { s.follower with tempo := v } ∧
          t.grid =
            if s.grid.transport = .running then (s.grid.retuned v).steered v (phaseError s.grid.phase) 0
            else { s.grid.retuned v with correction := none })))

/-- Zone `i` of the ACTIVE bank takes the enabled state `on` (R80, R81): the other zones' states stand; while a message is being transmitted,
its level slot is filled from its pedal or emptied where the state has changed. -/
def ZoneSet (within : List Part → Prop) (i : Nat) (on : Bool) (s t : State) : Prop :=
  within [.banks, .layer] ∧ t.activeBank.image = s.activeBank.image ∧
  t.activeBank.zoneOn i = on ∧ (∀ j, j ≠ i → t.activeBank.zoneOn j = s.activeBank.zoneOn j) ∧
  (s.bus.transmission.isSome = true → ∀ z, s.activeBank.zones[i]? = some z →
    t.layer = { s.layer with levels :=
      if on = s.activeBank.zoneOn i then s.layer.levels
      else if on = false then s.layer.levels.set i none
      else match z.pedal with
        | some q => s.layer.levels.set i (some ((s.pedal q).output * z.level / 127))
        | none => s.layer.levels })

/-! ## Marks (R27 to R32, R34, R35) -/

/-- BAR_REALIGNED is told where the mark has rewritten the beat (R32). -/
def RealignTold (o : Option Origin) (s t : State) : Prop :=
  t.grid.position ≠ s.grid.position → Tells ⟨.barRealigned s.grid.position t.grid.position, false, t.grid.position, o⟩ s t

/-- A mark in SEEKING (R27, R28): the interval list and the reference time; the mark that makes the third interval locks, with T_f from the
three, phase correction and realignment, the holdover timer at 2 × P, FOLLOW_STATE told. -/
def SeekingMark (within : List Part → Prop) (o : Option Origin) (b : Nat) (s t : State) : Prop :=
  ((s.follower.listAfter s.setup.tolerance s.now).length < 3 →
    within [.follower] ∧
    t.follower = { s.follower with reference := some s.now, intervals := s.follower.listAfter s.setup.tolerance s.now }) ∧
  ∀ i1 i2 i3, s.follower.listAfter s.setup.tolerance s.now = [i1, i2, i3] → s.grid.transport ≠ .startPending →
    ∃ f, f = clampTempo (roundHalfUp 18000000000 (i1 + i2 + i3)) ∧
      within [.grid, .follower] ∧ t.grid = s.grid.steered f (phaseError s.grid.phase) b ∧ RealignTold o s t ∧
      t.follower = { s.follower with
        state := .locked, tempo := f, outliers := 0, intervals := [], reference := some s.now
        holdoverTimer := some ⟨s.now, 2 * roundHalfUp 6000000000 f⟩ } ∧
      Tells ⟨.followState .locked .seeking f .follow, false, t.grid.position, none⟩ s t

/-- SEEKING is entered from this mark, and the grid is left alone (R29, R34, R35). -/
def SeeksAfresh (within : List Part → Prop) (s t : State) : Prop :=
  within [.follower] ∧
  t.follower = { s.follower with
    state := .seeking, reference := some s.now, intervals := [], outliers := 0, holdoverTimer := none, paceTimer := none } ∧
  Tells ⟨.followState .seeking s.follower.state s.follower.tempo .follow, false, s.grid.position, none⟩ s t

/-- The tests of R29 on the interval of a mark in LOCKED. -/
abbrev InTolerance (s : State) (i : Nat) : Prop :=
  200000 ≤ i ∧ i ≤ 2000000 ∧ 100 * apart i s.follower.period ≤ s.setup.tolerance * s.follower.period

/-- T_f after the follow filter takes the interval `i` (R30). -/
def State.filteredTempo (s : State) (i : Nat) : Nat :=
  clampTempo ((s.follower.tempo : Int) + roundAway ((roundHalfUp 6000000000 i : Int) - s.follower.tempo) 4).toNat

/-- A mark in LOCKED with the reference time `ref` (R29, R30): accepted, it moves T_f a quarter of the way, corrects the phase, realigns, and
restarts the holdover timer; a first outlier is counted and changes nothing else; the second enters SEEKING from this mark. -/
def LockedMark (within : List Part → Prop) (o : Option Origin) (b : Nat) (ref : Count) (s t : State) : Prop :=
  ∀ (i : Nat) (e : Int), i = since s.now ref → e = phaseError s.grid.phase →
    if InTolerance s i ∧ -48 ≤ e ∧ e ≤ 48 then
      s.grid.transport ≠ .startPending → ∃ f, f = s.filteredTempo i ∧
        within [.grid, .follower] ∧ t.grid = s.grid.steered f e b ∧ RealignTold o s t ∧
        t.follower = { s.follower with
          tempo := f, outliers := 0, reference := some s.now, holdoverTimer := some ⟨s.now, 2 * roundHalfUp 6000000000 f⟩ }
    else
      (s.follower.outliers = 0 → within [.follower] ∧ t.follower = { s.follower with outliers := 1 }) ∧
      (s.follower.outliers ≠ 0 → SeeksAfresh within s t)

/-- A mark in HOLDOVER within 24 ticks locks again with T_f unchanged; any other, and every mark in LOST, enters SEEKING (R34, R35). -/
def ReturningMark (within : List Part → Prop) (o : Option Origin) (b : Nat) (s t : State) : Prop :=
  (s.follower.state = .holdover → -24 ≤ phaseError s.grid.phase → phaseError s.grid.phase ≤ 24 → s.grid.transport ≠ .startPending →
    within [.grid, .follower] ∧
    t.grid = s.grid.steered s.follower.tempo (phaseError s.grid.phase) b ∧ RealignTold o s t ∧
    t.follower = { s.follower with
      state := .locked, outliers := 0, paceTimer := none, reference := some s.now
      holdoverTimer := some ⟨s.now, 2 * s.follower.period⟩ } ∧
    Tells ⟨.followState .locked .holdover s.follower.tempo .follow, false, t.grid.position, none⟩ s t) ∧
  (s.follower.state = .lost ∨ s.follower.state = .holdover ∧ (phaseError s.grid.phase < -24 ∨ 24 < phaseError s.grid.phase) →
    SeeksAfresh within s t)

/-- The mark at this instant is a start mark that leaves T_f = `f`: the locking mark, a mark accepted in LOCKED, or the mark that returns
HOLDOVER to LOCKED, the phase being 0 in START_PENDING (R12). -/
def IsStartMark (s : State) (f : Nat) : Prop :=
  match s.follower.state with
  | .seeking => ∃ l, l = s.follower.listAfter s.setup.tolerance s.now ∧ l.length = 3 ∧ f = clampTempo (roundHalfUp 18000000000 l.sum)
  | .locked => ∃ ref, s.follower.reference = some ref ∧ InTolerance s (since s.now ref) ∧ f = s.filteredTempo (since s.now ref)
  | .holdover => f = s.follower.tempo
  | _ => False

/-- A start mark starts a transport in START_PENDING (R12, R15): RUNNING at the held position, or at tick 0 of the following beat, with the
beat realigned; T_g becomes T_f with no correction; the first interval is computed under T_f or under the T_g before, the order of the two
being open (log entry 6); the Follower is LOCKED; TRANSPORT, BAR_REALIGNED and FOLLOW_STATE told where they change. -/
def StartsPending (within : List Part → Prop) (o : Option Origin) (b : Nat) (s t : State) : Prop :=
  s.grid.transport = .startPending → s.grid.ramp = none → ∀ f, IsStartMark s f →
    within [.grid, .follower, .click, .bus, .board, .draws] ∧
    t.grid.transport = .running ∧ t.grid.tempo = f ∧ t.grid.correction = none ∧ t.grid.meter = s.grid.meter ∧
    (∃ q, q = (if s.grid.position.tick = 0 then s.grid.position else { s.grid.position with tick := 239 }.next s.grid.meter) ∧
      t.grid.position = (if b ≠ 0 ∧ b ≤ s.grid.meter then { q with beat := b } else q) ∧
      Tells ⟨.transport .running q, false, q, none⟩ s t ∧
      (t.grid.position ≠ q → Tells ⟨.barRealigned q t.grid.position, false, t.grid.position, o⟩ s t)) ∧
    (t.grid.countdown = some ⟨s.now, 25000000 / f⟩ ∨ t.grid.countdown = some ⟨s.now, 25000000 / s.grid.tempo⟩) ∧
    t.follower = { s.follower with
      state := .locked, tempo := f, outliers := 0, reference := some s.now
      intervals := if s.follower.state = .seeking then [] else s.follower.intervals
      holdoverTimer := some ⟨s.now, 2 * roundHalfUp 6000000000 f⟩, paceTimer := none } ∧
    (s.follower.state ≠ .locked →
      Tells ⟨.followState .locked s.follower.state f .follow, false, t.grid.position, none⟩ s t)

/-- A mark with beat-in-bar `b` (0 for none) from the port `o` is taken by the Follower, in every state it can have under FOLLOW. -/
def MarkTaken (within : List Part → Prop) (o : Option Origin) (b : Nat) (s t : State) : Prop :=
  (s.follower.state = .seeking → SeekingMark within o b s t) ∧
  (s.follower.state = .locked → ∀ ref, s.follower.reference = some ref → LockedMark within o b ref s t) ∧
  ReturningMark within o b s t ∧ StartsPending within o b s t

/-! ## The cue slot (R128 to R131, R157) -/

/-- The fetches the store holds: the one in progress, then those that wait (R146). -/
def State.fetches (s : State) : List Fetch :=
  match s.store.activity with
  | .fetching f => f :: s.store.queue
  | _ => s.store.queue

/-- How many fetches of a kind the store holds. -/
def State.fetchCount (s : State) (k : FetchKind) : Nat := s.fetches.countP (fun f => f.kind == k)

/-- The cue slot holds a cue in this state. -/
def State.cueIs (s : State) (x : CueState) : Bool :=
  match s.seq.cue with
  | some c => c.state == x
  | none => false

/-- Whether a held cue yields to an offer or a cancel of origin `o` (R128). -/
def Yields (h : Cue) (o : Origin) : Prop := h.firmness = .soft ∨ h.origin = o ∨ o = .pedal

/-- The fetches that are not a cue's. -/
def State.otherFetches (s : State) : List Fetch := s.fetches.filter (fun f => f.kind != .cue)

/-- A held cue leaves the slot, replaced or cancelled by `o` (R129): the bank of an ARMED one is EMPTY, and CUE_SUPERSEDED is told. -/
def CueLeaves (h : Cue) (o : Origin) (replaced : Bool) (s t : State) : Prop :=
  (h.state = .armed → t.standbyBank.image = none) ∧
  Tells ⟨.cueSuperseded h.target h.slot h.origin h.state replaced, false, s.grid.position, some o⟩ s t

/-- The WAITING cue `c` begins to load (R131): it is LOADING, the bank that is not ACTIVE is EMPTY, and a fetch of its sector is requested. -/
structure BeginsToLoad (c : Cue) (t : State) : Prop where
  cue : t.seq.cue = some { c with state := .loading }
  bank : t.standbyBank.image = none ∧ t.standbyBank.source = none
  fetch : ⟨.cue, slotSector c.slot⟩ ∈ t.fetches

/-- The cue `c` enters the slot, a held one giving way (R128, R129, R131): WAITING, or LOADING at once where its bank and the store allow it, the
bank that is not ACTIVE then EMPTY and a fetch of its sector requested; the fetch of a held LOADING cue is abandoned, the other fetches
stand; CUE_ACCEPTED and CUE_SUPERSEDED told. -/
def CueEnters (within : List Part → Prop) (c : Cue) (s t : State) : Prop :=
  within [.banks, .seq, .store] ∧ t.activeBank = s.activeBank ∧ t.otherFetches = s.otherFetches ∧
  (s.fetchCount .cue = (s.cueIs .loading).toNat → t.fetchCount .cue = s.mayLoad.toNat) ∧
  (s.mayLoad = false → t.seq = { s.seq with cue := some c } ∧ (s.cueIs .armed = false → t.banks = s.banks) ∧
    (s.cueIs .loading = false → t.store = s.store)) ∧
  (s.mayLoad = true → t.seq = { s.seq with cue := some { c with state := .loading } } ∧ t.standbyBank.image = none ∧
    ⟨.cue, slotSector c.slot⟩ ∈ t.fetches) ∧
  Tells ⟨.cueAccepted c.kind c.target c.slot c.boundary c.firmness, false, s.grid.position, some c.origin⟩ s t ∧
  ∀ h, s.seq.cue = some h → CueLeaves h c.origin true s t

/-- The held cue `h` is cancelled by `o` (R130): the slot is empty, and a LOADING cue's fetch is abandoned. -/
def CueCancelled (within : List Part → Prop) (o : Origin) (h : Cue) (s t : State) : Prop :=
  within [.banks, .seq, .store] ∧ t.seq = { s.seq with cue := none } ∧ t.activeBank = s.activeBank ∧ t.otherFetches = s.otherFetches ∧
  (s.fetchCount .cue = (s.cueIs .loading).toNat → t.fetchCount .cue = 0) ∧
  (h.state ≠ .armed → t.banks = s.banks) ∧ (h.state ≠ .loading → t.store = s.store) ∧ CueLeaves h o false s t

/-- The setlist entry a step leads to: from the held cue's entry where it has a SETLIST target, else from the setlist position; from OFF_LIST
a step forward gives entry 0, a step back the last entry (R157). -/
def State.stepEntry (s : State) (forward : Bool) : Int :=
  match (match s.seq.cue with
    | some c => if c.kind = .setlist then some c.target else s.store.position
    | none => s.store.position) with
  | some e => if forward then (e : Int) + 1 else (e : Int) - 1
  | none => if forward then 0 else (s.store.setlist.length : Int) - 1

/-- The conditions of R139 other than the timer's do not hold: a TAKE entry waits for a module that is neither STALLED nor DISABLED, or a module
of the take module list is LOADING. -/
def State.Owes (s : State) : Prop :=
  (∃ e ∈ s.bus.pending, e.kind = .take ∧ ((s.module e.module).mode = .ready ∨ (s.module e.module).mode = .loading)) ∨
    ∃ m : ModuleId, s.seq.takeModules.getLsbD m.val = true ∧ (s.module m).mode = .loading

/-- The take settles at `now`, the pending program list being `l` (R140): the TAKE entries leave it, the take phase is NONE, CHANGE_SETTLED is
told, and a WAITING cue begins to load where its bank and the store allow it. -/
structure SettleDone (now : Count) (l : List PendingProgram) (s t : State) : Prop where
  phase : t.seq.phase = .none ∧ t.seq.settle = .idle ∧ t.seq.takeModules = 0
  cue : ∀ c, s.seq.cue = some c → if c.state = .waiting ∧ s.banks.retained = false ∧ s.store.busy = false ∧ s.resetting = .none
    then BeginsToLoad c t else t.seq.cue = some c ∧ t.banks = s.banks ∧ t.store = s.store
  noCue : s.seq.cue = none → t.seq.cue = none ∧ t.banks = s.banks ∧ t.store = s.store
  list : t.bus.pending = l.filter (fun e => e.kind == .resync)
  told : Tells ⟨.changeSettled s.failedModules (since now s.seq.takeTime / 1000), false, s.grid.position, none⟩ s t

/-- The settle conditions are examined at `now` with the settle timer expired, the state being `s` and the list `l` (R139, log entry 15). -/
def SettleExamined (now : Count) (l : List PendingProgram) (s t : State) : Prop :=
  (s.Owes → t.seq = s.seq ∧ t.bus.pending = l) ∧ (¬ s.Owes → SettleDone now l s t)

/-- The resync posts of module `m`, in the order of the ACTIVE bank's program list (R110). -/
def State.resyncs (s : State) (m : ModuleId) : List PendingProgram :=
  s.activeBank.programs.filterMap (fun e =>
    if e.module = m ∧ s.bus.pending.all (fun x => !(x.module == m && x.channel == e.channel)) = true then
      (s.bus.cell m e.channel).map (fun v => ⟨m, e.channel, v, none, .program, .resync⟩)
    else none)

/-- The SOFT cue of a setlist entry with the setup's foot boundary (R65, R157, R161). -/
def State.softCue (s : State) (entry : Nat) (slot : Slot) (o : Origin) : Cue :=
  ⟨.setlist, entry, slot, s.setup.footBoundary, .soft, o, .waiting⟩

/-! ## Footswitch actions (R64, R161) -/

/-- The arbiter finds nothing to do at a close: a message is being transmitted, or nothing waits for the bus and no change waits to settle
(R111, R140). -/
def State.Quiet (s : State) : Prop :=
  s.bus.transmission.isSome = true ∨ (s.notes.candidates = [] ∧ s.layer.keyOns = [] ∧ s.layer.controls = [] ∧
    (∀ v ∈ s.layer.levels, v = none) ∧ s.bus.realtime = [] ∧ s.bus.pending = [] ∧ s.bus.pass = [] ∧ s.seq.settle ≠ .expired)

/-- An action performed at `now` on the state `s`, which holds the switch's own change; the cue actions are ignored while a reset is in
progress (R142), and what they do is stated where the arbiter has nothing to do at the close. SUSTAIN is its press half. -/
def Performs (now : Count) (a : Action) (s t : State) : Prop :=
  match a with
  | .none => Closed [] s t
  | .startStop =>
    (s.grid.transport = .stopped → StartDone (fun l => Closed l s t) .pedal now s t) ∧
    (s.grid.transport ≠ .stopped → StopDone (fun l => Closed l s t) .pedal now s t)
  | .tap => s.tap.intervals.length ≤ 4 → TapDone (fun l => Closed l s t) now s t
  | .clickMute => Closed [.click] s t ∧ t.click = { s.click with mute := !s.click.mute }
  | .zoneToggle i =>
    (s.activeBank.zones.length ≤ i → Closed [] s t) ∧
    (i < s.activeBank.zones.length → s.activeBank.enabled.length = s.activeBank.zones.length →
      ZoneSet (fun l => Closed l s t) i (!s.activeBank.zoneOn i) s t)
  | .sustain links =>
    Closed [.links] s t ∧ ∀ l, t.link l = { s.link l with footSustain := links.getLsbD l.val || (s.link l).footSustain }
  | .setlistStep forward =>
    (s.resetting ≠ .none → Closed [] s t) ∧
    (s.resetting = .none → ∀ n, n = s.stepEntry forward →
      (n < 0 ∨ (s.store.setlist.length : Int) ≤ n → Closed [] s t) ∧
      ∀ k, 0 ≤ n → s.store.setlist[n.toNat]? = some k →
        Closed [.banks, .seq, .store] s t ∧ (s.Quiet → CueEnters (fun l => Closed l s t) (s.softCue n.toNat k .pedal) s t))
  | .cueEntry entry =>
    (s.resetting ≠ .none ∨ s.store.setlist.length ≤ entry → Closed [] s t) ∧
    (s.resetting = .none → ∀ k, s.store.setlist[entry]? = some k →
        Closed [.banks, .seq, .store] s t ∧ (s.Quiet → CueEnters (fun l => Closed l s t) (s.softCue entry k .pedal) s t))
  | .cancelCue =>
    (s.resetting ≠ .none ∨ s.seq.cue = none → Closed [] s t) ∧
    (s.resetting = .none → ∀ h, s.seq.cue = some h → Closed [.banks, .seq, .store] s t ∧
      (s.Quiet → CueCancelled (fun l => Closed l s t) .pedal h s t))
  | .takeNow =>
    (s.resetting ≠ .none → Closed [] s t) ∧ (s.resetting = .none → TakeNowDone (fun l => Closed l s t) now s t)

/-- Another switch than `f` assigned SUSTAIN holds the link: it is DOWN, or HELD with its inert mark clear (R64). -/
def FootHeld (f : SwitchId) (l : LinkId) (s : State) : Prop :=
  ∃ g, g ≠ f ∧ (∃ links, (getAt s.setup.switches g).1 = .sustain links ∧ links.getLsbD l.val = true) ∧
    ((s.switch g).mode = .down ∨ (s.switch g).mode = .held ∧ (s.switch g).inert = false)

/-- The release half of SUSTAIN (R64, R93): the flag of each link named that no other switch holds is cleared; while a message is being
transmitted, where the flag was set the SUSTAINED entries of the link's channels whose own sustain is OFF are released, and every other
entry stands. -/
def FootLifts (f : SwitchId) (links : BitVec 4) (s t : State) : Prop :=
  Closed [.links, .notes, .banks, .seq, .store] s t ∧
  (∀ l, (links.getLsbD l.val = true ∧ ¬ FootHeld f l s → t.link l = { s.link l with footSustain := false }) ∧
    (links.getLsbD l.val = false ∨ FootHeld f l s → t.link l = s.link l)) ∧
  (s.bus.transmission.isSome = true →
    (∀ e ∈ t.notes.entries, links.getLsbD e.link.val = true → ¬ FootHeld f e.link s → (s.link e.link).footSustain = true →
      (s.link e.link).sustain.getLsbD e.channel.val = false → e.state ≠ .sustained) ∧
    ∀ e ∈ s.notes.entries, (e.state ≠ .sustained ∨ links.getLsbD e.link.val = false ∨ FootHeld f e.link s ∨
      (s.link e.link).footSustain = false ∨ (s.link e.link).sustain.getLsbD e.channel.val = true) → e ∈ t.notes.entries)

/-- A switch after a sample that accepts no change (R159): the first sets the level, a CLOSED switch being HELD and inert; a later one clears the
debounce count where it agrees with the level and adds to it where it differs. -/
def Switch.counted (x : Switch) (closed : Bool) : Switch :=
  match x.level with
  | none => { x with
      raw := closed, level := some closed, count := 0, hold := none, mode := if closed then .held else .up, inert := closed }
  | some l => { x with raw := closed, count := if l = closed then 0 else x.count + 1 }

/-! ## The indicator sources (R167) -/

/-- What Table 10-6 asks of each source for its indicator to be lit. -/
def State.Shows (s : State) (x : Indicator) : Prop :=
  match x with
  | .off => False
  | .beat => s.board.beatFlash.isSome = true
  | .downbeat => s.board.downbeatFlash.isSome = true
  | .transport => s.grid.transport = .running ∨ s.grid.transport = .countIn ∨ s.grid.transport = .startPending ∧ s.board.blink = true
  | .countIn => s.grid.transport = .countIn
  | .cue => s.cueIs .armed = true ∨ (s.cueIs .waiting = true ∨ s.cueIs .loading = true) ∧ s.board.blink = true
  | .switching => s.seq.phase = .switching
  | .retained => s.banks.retained = true
  | .follow => s.follower.state = .locked ∨ (s.follower.state = .seeking ∨ s.follower.state = .holdover) ∧ s.board.blink = true
  | .clickMute => s.click.mute = true
  | .zone i => i < s.activeBank.zones.length ∧ s.activeBank.enabled[i]? = some true
  | .module m => (s.module m).mode = .stalled ∨ (s.module m).mode = .loading ∧ s.board.blink = true
  | .anyStall => ∃ m, (s.module m).mode = .stalled
  | .linkSilent l => (s.link l).keepAlive = .silent
  | .pedalFault => ∃ p, (s.pedal p).mode = .disconnected
  | .footswitch f => (s.switch f).mode = .down ∨ (s.switch f).mode = .held
  | .timebase => s.timebase.source = some .rc
  | .showMode => s.store.mode = .show
  | .storeBusy => s.store.state = .erasing ∨ s.store.state = .programming ∨ s.store.state = .verifying

/-! ## The setlist image and the controller queue (R77, R154) -/

/-- A completed setlist write: the image takes the entries; the position is kept where the new entry there names the active slot, and is OFF_LIST
otherwise (R154). -/
def SetlistWritten (es : List Slot) (s t : State) : Prop :=
  t.store.setlist = es ∧ ∀ q, t.store.position = some q ↔
    s.store.position = some q ∧ ∃ n, es[q]? = some n ∧ s.store.activeSlot = some n

/-- A controller item is offered to the controller queue (R77): it replaces the value of a waiting item of its identity, joins the back below
16, and is dropped and counted at 16. -/
def Layer.offered (y : Layer) (i : ControlItem) : Layer :=
  if y.controls.any (fun x => x.module == i.module && x.channel == i.channel && x.control == i.control) then
    { y with controls := y.controls.map (fun x =>
        if x.module = i.module ∧ x.channel = i.channel ∧ x.control = i.control then { x with value := i.value } else x) }
  else if y.controls.length < 16 then { y with controls := y.controls ++ [i] }
  else { y with controlDrops := min 65535 (y.controlDrops + 1) }

/-- REALTIME and the click-drop count after a panic's SILENCE is placed (R112). -/
def State.silencePlaced (s : State) : List RealtimeItem × Nat :=
  if RealtimeItem.silence ∈ s.bus.realtime then (s.bus.realtime, s.click.drops)
  else if s.bus.realtime.length < 8 then (.silence :: s.bus.realtime, s.click.drops)
  else (.silence :: s.bus.realtime.dropLast, min 65535 (s.click.drops + 1))

/-! ## Strikes, controllers and bend at the zones (R70 to R73, R76) -/

/-- The Layer Engine can take the link's event: any, but a strike only while the table holds fewer than 128 entries or none RELEASING (R70). -/
def State.Takeable (s : State) (l : LinkId) : Prop :=
  match (s.link l).event with
  | none => False
  | some (.strike _ _ _) => s.notes.entries.length < 128 ∨ ∀ e ∈ s.notes.entries, e.releasing = false
  | some _ => True

/-- How far a link stands from the one after the link served last, KL0 following KL3 (R70). -/
def State.turn (s : State) (l : LinkId) : Nat := (l.val + 3 - s.layer.lastServed.val) % 4

/-- The Layer Engine's next link (R70): the first it can take an event of, from the link after the one served last on. -/
def State.TakesNext (s : State) (l : LinkId) : Prop := s.Takeable l ∧ ∀ k, s.Takeable k → s.turn l ≤ s.turn k

/-- Zone `i` of the bank, being `z`, is ON and hears this link and channel (R71, R76). -/
abbrev Bank.Hears (b : Bank) (l : LinkId) (c : Channel) (z : Zone) (i : Nat) : Prop :=
  b.enabled[i]? = some true ∧ z.links.getLsbD l.val = true ∧ (z.source = none ∨ z.source = some c)

/-- The zones a strike matches, in index order (R71). -/
def Bank.struck (b : Bank) (l : LinkId) (c : Channel) (key v : Nat) : List Zone :=
  (b.zones.zipIdx.filter (fun x => b.Hears l c x.1 x.2 ∧ x.1.keyLow ≤ key ∧ key ≤ x.1.keyHigh ∧ x.1.velLow ≤ v ∧ v ≤ x.1.velHigh)).map (·.1)

/-- The zones a controller or bend is offered for, in index order (R76). -/
def Bank.passing (b : Bank) (l : LinkId) (c : Channel) : List Zone :=
  (b.zones.zipIdx.filter (fun x => b.Hears l c x.1 x.2 ∧ x.1.passControllers = true)).map (·.1)

/-- The velocity a zone sends for a struck velocity: v′ by its curve (Table 5-2), then its level (R73). -/
def Zone.sends (z : Zone) (v : Nat) : Nat :=
  max 1 ((match z.curve with
    | .linear => v
    | .soft => v * (381 - v) / 254
    | .hard => max 1 (v * v / 127)
    | .fixed => z.fixedVelocity) * z.level / 127)

/-- A candidate is not skipped for its key or its level (R72). -/
abbrev Zone.Sounds (z : Zone) (key : Nat) : Prop := 0 ≤ (key : Int) + z.transpose ∧ (key : Int) + z.transpose ≤ 127 ∧ z.level ≠ 0

/-- The destinations, each with its velocity, that a strike's candidates form (R72, R73): of every candidate that sounds and whose module, channel
and key no earlier candidate that sounds has. -/
def destinations (key v : Nat) (zs : List Zone) : List (Dest × Nat) :=
  (zs.zipIdx.filter (fun x => x.1.Sounds key ∧ ∀ y ∈ zs.take x.2, y.Sounds key →
    ¬ (y.module = x.1.module ∧ y.channel = x.1.channel ∧ y.transpose = x.1.transpose))).map
    (fun x => (⟨x.1.module, x.1.channel, ((key : Int) + x.1.transpose).toNat, .queued, false⟩, x.1.sends v))

/-! ## The restart (R168, Table 10-8) -/

/-- The pedal board at the restart's reset (Table 10-8): the levels UNKNOWN, counts 0 and hold timers idle, the outputs 127 with no raw value, the
pedals' states by the calibration in use, no conversion pending and EX1 next, the image OFF with the drivers off, row 1 for the first slot, the
flash timers idle, the blink phase ON; the first slot and conversion begin at `now`, and the blink phase toggles 250,000 µs later. -/
structure BoardRestarted (now : Count) (s t : State) : Prop where
  switches : ∀ x : SwitchId, (getAt t.board.switches x).level = none ∧ (getAt t.board.switches x).count = 0 ∧
    (getAt t.board.switches x).hold = none
  pedals : ∀ (q : PedalId) (lo hi : Nat), getAt s.setup.calibration q = (lo, hi) →
    t.pedal q = ⟨none, 127, none, if hi - lo < 64 then .uncalibrated else .normal⟩
  conversions : t.board.adcNext = 0 ∧ t.board.adcBusy = none ∧ t.board.adcTimer = some ⟨now, 0⟩
  matrix : t.board.image = 0 ∧ t.board.columns = 0 ∧ t.board.row = 1 ∧ t.board.scanned = false ∧ t.board.slotTimer = some ⟨now, 0⟩ ∧
    t.board.driveTimer = none
  flashes : t.board.beatFlash = none ∧ t.board.downbeatFlash = none
  blink : t.board.blink = true ∧ t.board.blinkTimer = some ⟨now, 250000⟩

/-! ## The arbiter's choice (R95 to R97, R106, R111 to R115) -/

/-- A message begins at `now`: to the module named, or to all of them, with an address character where the address was not the selection,
44 µs a character or 22 µs on the fast bus (R104, R106). -/
def Begins (target : Option ModuleId) (message : Message) (now : Count) (s t : State) : Prop :=
  t.bus.selection = (match target with | some m => .module m | none => .all) ∧
  ∃ y, t.bus.transmission = some y ∧ y.target = target ∧ y.message = message ∧
    y.addressed = (s.bus.selection != match target with | some m => .module m | none => .all) ∧
    y.timer = ⟨now, y.characters.length * if s.setup.fastBus then 22 else 44⟩

/-- The entries after a change `f` of destination `i` of the entry with a serial number: a RELEASING entry whose destinations are then all
ended has left (R98). -/
def changedDest (serial i : Nat) (f : Dest → Dest) (entries : List Entry) : List Entry :=
  (entries.map (fun e => if e.serial = serial then { e with dests := e.dests.modify i f } else e)).filter
    (fun e => !(e.serial == serial && e.releasing && e.dests.all (·.ended)))

/-- Another entry than the candidate's has a QUEUED destination for the same note (R97 step 1). -/
def TwinQueued (s : State) (k : Candidate) (d : Dest) : Prop :=
  ∃ e ∈ s.notes.entries, e.serial ≠ k.serial ∧ ∃ y ∈ e.dests, y.sameNote d = true ∧ y.flag = .queued

/-- Another entry than the candidate's holds the same note: its key-on was sent and it is not ended (R97 step 2). -/
def StillHeld (s : State) (k : Candidate) (d : Dest) : Prop :=
  ∃ e ∈ s.notes.entries, e.serial ≠ k.serial ∧ ∃ y ∈ e.dests, y.sameNote d = true ∧ y.flag = .sent ∧ y.ended = false

/-- Nothing of CHANGE or PASS stands ahead of LIVE: the class order puts LIVE first, or nothing waits in the two (Table 7-5). -/
def State.LiveNext (s : State) : Prop :=
  s.bus.realtime = [] ∧ (s.setup.classOrder = 0 ∨ s.setup.classOrder = 1 ∨ s.bus.pending = [] ∧ s.bus.pass = [])

/-- What LIVE sends at `now`, in the order of R113: the KEY_OFF of the first candidate that is due, else the first key-on item, the first
controller item, the first filled level slot, each where its module is READY. -/
def LiveServes (now : Count) (s t : State) : Prop :=
  (∀ k ks d, s.notes.candidates = k :: ks → findDest k.serial k.dest s.notes.entries = some d → d.flag = .sent → ¬ TwinQueued s k d →
    ¬ StillHeld s k d → (s.module d.module).mode = .ready →
    Begins (some d.module) (.keyOff d.channel d.key) now s t ∧
    t.notes.entries = changedDest k.serial k.dest (fun d => { d with ended := true }) s.notes.entries) ∧
  (∀ q qs d, (∀ k ∈ s.notes.candidates, ∃ x, findDest k.serial k.dest s.notes.entries = some x ∧ x.flag = .sent ∧ TwinQueued s k x) →
    s.layer.keyOns = q :: qs → findDest q.entry q.dest s.notes.entries = some d → (s.module d.module).mode = .ready →
    Begins (some d.module) (.keyOn d.channel d.key q.velocity) now s t ∧ t.layer.keyOns = qs ∧
    t.notes.entries = s.notes.entries.map (fun e =>
      if e.serial = q.entry then { e with dests := e.dests.modify q.dest (fun d => { d with flag := .sent }) } else e)) ∧
  (s.notes.candidates = [] → s.layer.keyOns = [] →
    (∀ c cs, s.layer.controls = c :: cs → (s.module c.module).mode = .ready → t.layer.controls = cs ∧
      Begins (some c.module) (match c.control with
        | .controller n => .control c.channel n c.value
        | .bend => .bend c.channel c.value) now s t) ∧
    ∀ (i : Nat) (z : Zone) (v : Nat), s.layer.controls = [] → s.activeBank.zones[i]? = some z → s.layer.levels[i]? = some (some v) →
      (∀ j < i, s.layer.levels[j]? = some none) → (s.module z.module).mode = .ready →
      t.layer.levels = s.layer.levels.set i none ∧ Begins (some z.module) (.level z.channel v) now s t)

/-- Nothing but key-off candidates and key-on items waits for the bus. -/
def State.OnlyKeys (s : State) : Prop :=
  s.layer.controls = [] ∧ (∀ v ∈ s.layer.levels, v = none) ∧ s.bus.realtime = [] ∧ s.bus.pending = [] ∧ s.bus.pass = []

/-- What becomes of a single key-off candidate that sends nothing (R96, R97, Table 7-6): with its key-on still QUEUED, the item leaves the
queue, DROPPED; with the note held elsewhere or its module STALLED or DISABLED it is ended; for a LOADING module it waits. -/
def KeyOffEnds (s t : State) : Prop :=
  ∀ k d, s.notes.candidates = [k] → findDest k.serial k.dest s.notes.entries = some d →
    (d.flag = .queued → ∀ q, s.layer.keyOns = [q] → q.entry = k.serial → q.dest = k.dest → t.bus.transmission = none ∧ t.layer.keyOns = [] ∧
      t.notes.entries = changedDest k.serial k.dest (fun d => { d with flag := .dropped, ended := true }) s.notes.entries) ∧
    (d.flag = .sent → s.layer.keyOns = [] → ¬ TwinQueued s k d →
      (StillHeld s k d ∨ (s.module d.module).mode = .stalled ∨ (s.module d.module).mode = .disabled →
        t.bus.transmission = none ∧ t.notes.entries = changedDest k.serial k.dest (fun d => { d with ended := true }) s.notes.entries) ∧
      (¬ StillHeld s k d → (s.module d.module).mode = .loading → t.bus.transmission = none ∧ t.notes = s.notes))

/-- What Table 7-6 does where no module is READY and no key-off is due (R112 to R115, R123): nothing is sent; the clicks, controller items,
level slots and PASS items of LOADING modules wait and the others are removed; every key-on item is dropped, its flag DROPPED; the pending
program list stands; each removal is counted at its module. -/
def NoneReady (s t : State) : Prop :=
  (∀ m, (s.module m).mode ≠ .ready) → s.notes.candidates = [] → RealtimeItem.silence ∉ s.bus.realtime → s.setup.classOrder ≤ 5 →
    t.bus.transmission = none ∧ t.bus.pending = s.bus.pending ∧ t.layer.keyOns = [] ∧
    t.bus.realtime = s.bus.realtime.filter (fun r => match r with
      | .silence => true
      | .click i => (s.module i.module).mode == .loading) ∧
    t.layer.controls = s.layer.controls.filter (fun c => (s.module c.module).mode == .loading) ∧
    t.bus.pass = s.bus.pass.filter (fun i => (s.module i.module).mode == .loading) ∧
    (∀ (i : Nat) (z : Zone), s.activeBank.zones[i]? = some z → t.layer.levels[i]? =
      if (s.module z.module).mode = .loading then s.layer.levels[i]? else s.layer.levels[i]?.map (fun _ => none)) ∧
    (∀ q ∈ s.layer.keyOns, ∀ d, findDest q.entry q.dest t.notes.entries = some d → d.flag = .dropped) ∧
    ∀ m, (s.module m).discards ≤ 65535 → (t.module m).discards = min 65535 ((s.module m).discards +
      s.layer.keyOns.countP (fun q => match findDest q.entry q.dest s.notes.entries with | some d => d.module == m | none => false) +
      if (s.module m).mode = .loading then 0 else
        s.bus.realtime.countP (fun r => match r with | .silence => false | .click i => i.module == m) +
        s.layer.controls.countP (fun c => c.module == m) + s.bus.pass.countP (fun i => i.module == m) +
        (s.activeBank.zones.zip s.layer.levels).countP (fun zl => zl.1.module == m && zl.2.isSome))

/-- The pending program entry that is sent first (R114, R117 to R119): its PROGRAM, recorded in its cell, after which its preset LEVEL is the
entry's next message; then that LEVEL; after its last message the entry has left. -/
def ChangeServes (now : Count) (s t : State) : Prop :=
  ∀ e es, s.bus.pending = e :: es → s.bus.realtime = [] → s.notes.candidates = [] → s.layer.keyOns = [] → s.layer.controls = [] →
    (∀ v ∈ s.layer.levels, v = none) → s.bus.pass = [] → (s.module e.module).mode = .ready → s.seq.settle ≠ .expired →
    (∀ y, t.bus.transmission = some y → y.fromTake = (e.kind == .take)) ∧
    (e.next = .program → Begins (some e.module) (.program e.channel e.program) now s t ∧ t.bus.cell e.module e.channel = some e.program ∧
      t.bus.pending = if e.preset.isSome then { e with next := .level } :: es else es) ∧
    (∀ v, e.next = .level → e.preset = some v → Begins (some e.module) (.level e.channel v) now s t ∧ t.bus.pending = es)

/-! ## The field checks (R82, R127, R152 to R155, Section 12.5) -/

/-- A field by its number, with whether it passes its check. -/
abbrev FieldCheck := Nat × Bool

/-- The number of the first field that fails, in field order. -/
def firstFailing (checks : List FieldCheck) : Option Nat := (checks.find? (fun c => !c.2)).map (·.1)

/-- Byte `i` of a record, as a number. -/
def octet (r : List Byte) (i : Nat) : Nat := (byteAt r i).toNat

/-- Two bytes from place `i`, high byte first. -/
def octets (r : List Byte) (i : Nat) : Nat := octet r i * 256 + octet r (i + 1)

/-- The fields of a zone record (Tables 5-1 and 12-8), numbered from `base + 1`. -/
def zoneChecks (base : Nat) (r : List Byte) : List FieldCheck :=
  [(base + 1, octet r 0 ≤ 1), (base + 2, 1 ≤ octet r 1 ∧ octet r 1 ≤ 15), (base + 3, octet r 2 ≤ 16), (base + 4, octet r 3 ≤ 127),
   (base + 5, octet r 3 ≤ octet r 4 ∧ octet r 4 ≤ 127), (base + 6, 1 ≤ octet r 5 ∧ octet r 5 ≤ 127),
   (base + 7, octet r 5 ≤ octet r 6 ∧ octet r 6 ≤ 127), (base + 8, 1 ≤ octet r 7 ∧ octet r 7 ≤ 8),
   (base + 9, 1 ≤ octet r 8 ∧ octet r 8 ≤ 16), (base + 10, octet r 9 ≤ 48 ∨ 208 ≤ octet r 9), (base + 11, octet r 10 ≤ 3),
   (base + 12, 1 ≤ octet r 11 ∧ octet r 11 ≤ 127), (base + 13, octet r 12 ≤ 127), (base + 14, octet r 13 % 4 ≤ 2),
   (base + 15, octet r 13 / 4 % 32 = 0)]

/-- The zone that a zone record stands for (Tables 5-1 and 12-8). -/
structure ZoneMeans (r : List Byte) (z : Zone) : Prop where
  enabled : z.enabled = decide (octet r 0 = 1)
  links : z.links.toNat = octet r 1
  source : (match z.source with | none => 0 | some c => c.val + 1) = octet r 2
  keys : z.keyLow = octet r 3 ∧ z.keyHigh = octet r 4
  velocities : z.velLow = octet r 5 ∧ z.velHigh = octet r 6
  destination : z.module.val + 1 = octet r 7 ∧ z.channel.val + 1 = octet r 8
  transpose : z.transpose = if octet r 9 < 128 then (octet r 9 : Int) else (octet r 9 : Int) - 256
  curve : (match z.curve with | .linear => 0 | .soft => 1 | .hard => 2 | .fixed => 3) = octet r 10
  fixedVelocity : z.fixedVelocity = octet r 11
  level : z.level = octet r 12
  pedal : (match z.pedal with | none => 0 | some p => p.val + 1) = octet r 13 % 4
  passControllers : z.passControllers = decide (128 ≤ octet r 13)

/-- The fields of an EDIT_ZONE: the bank (ACTIVE 0, STANDBY 1), the zone index, and the zone record from field 3 on (R82). -/
def State.editChecks (s : State) (bank index : Byte) (r : List Byte) : List FieldCheck :=
  (1, decide (bank.toNat ≤ 1)) ::
    (2, decide (index.toNat ≤ 15 ∧ index.toNat ≤ (if bank = 0 then s.activeBank else s.standbyBank).zones.length)) :: zoneChecks 2 r

/-- The fields of a CUE (R127): the bar is examined for AT_BAR alone. -/
def State.cueChecks (s : State) (kind target boundary : Byte) (bar : Nat) (firm : Byte) : List FieldCheck :=
  [(1, kind.toNat ≤ 1), (2, target.toNat < if kind = 0 then s.store.setlist.length else 64), (3, boundary.toNat ≤ 3),
   (4, boundary = 3 → 1 ≤ bar ∧ bar ≤ 9999), (5, firm.toNat ≤ 1)]

/-- The cue that the fields of a CUE stand for (R127, Table 8-2). -/
structure State.CueMeans (s : State) (p : Port) (k x b : Byte) (bar : Nat) (firm : Byte) (c : Cue) : Prop where
  kind : c.kind = if k = 0 then .setlist else .slot
  target : c.target = x.toNat
  slot : if k = 0 then s.store.setlist[x.toNat]? = some c.slot else c.slot.val = x.toNat
  boundary : c.boundary = if b = 0 then .immediate else if b = 1 then .nextBeat else if b = 2 then .nextBar else .atBar bar
  firmness : c.firmness = if firm = 0 then .soft else .firm
  origin : c.origin = .port p
  state : c.state = .waiting

/-- The fields of a PASS (R120): the module, the kind by its code in Table 12-5 (LEVEL 3, CONTROL 4, BEND 5, PROGRAM 6, SILENCE 7, CLICK 8; KEY_ON
and KEY_OFF are refused), the channel, the first value in the kind's range (not controller 64), and a CONTROL's value. -/
def passChecks (m k c : Byte) (v1 : Nat) (v2 : Byte) : List FieldCheck :=
  [(1, 1 ≤ m.toNat ∧ m.toNat ≤ 8), (2, 3 ≤ k.toNat ∧ k.toNat ≤ 8), (3, 1 ≤ c.toNat ∧ c.toNat ≤ 16),
   (4, (k = 3 → v1 ≤ 127) ∧ (k = 4 → v1 ≤ 127 ∧ v1 ≠ 64) ∧ (k = 5 → v1 ≤ 16383) ∧ (k = 6 → v1 ≤ 1023) ∧ (k = 8 → v1 ≤ 2)),
   (5, k = 4 → v2.toNat ≤ 127)]

/-- The message that the fields of a PASS stand for (R120, Table 7-2). -/
structure PassMeans (m k c : Byte) (v1 : Nat) (v2 : Byte) (i : Addressed) : Prop where
  module : i.module.val + 1 = m.toNat
  message : match i.message with
    | .keyOn _ _ _ => False
    | .keyOff _ _ => False
    | .level ch v => k = 3 ∧ ch.val + 1 = c.toNat ∧ v = v1
    | .control ch n v => k = 4 ∧ ch.val + 1 = c.toNat ∧ n = v1 ∧ v = v2.toNat
    | .bend ch v => k = 5 ∧ ch.val + 1 = c.toNat ∧ v = v1
    | .program ch n => k = 6 ∧ ch.val + 1 = c.toNat ∧ n = v1
    | .silence ch => k = 7 ∧ ch.val + 1 = c.toNat
    | .click ch x => k = 8 ∧ ch.val + 1 = c.toNat ∧ x = v1

/-- The accent entry of beat `i + 1`: SILENT 0, BEAT 1, ACCENT 2, beat 1 in the highest two of the 32 bits (Table 12-7). -/
def accentValue (r : List Byte) (i : Nat) : Nat := (octets r 23 * 65536 + octets r 25) / 4 ^ (15 - i) % 4

/-- The bytes of zone record `i` of a song record (Table 12-7). -/
def zoneBytes (r : List Byte) (i : Nat) : List Byte := (r.drop (32 + 14 * i)).take 14

/-- The bytes of program entry `j` of a song record (Table 12-7). -/
def programBytesOf (r : List Byte) (j : Nat) : List Byte := (r.drop (32 + 14 * octet r 27 + 4 * j)).take 4

/-- The items of program entry `j` of a song record (Table 12-8): one that repeats the module and channel of an earlier entry fails its
channel. -/
def programChecks (r : List Byte) (j : Nat) : List FieldCheck :=
  let base := 27 + 15 * octet r 27 + 4 * j
  let e := programBytesOf r j
  [(base + 1, 1 ≤ octet e 0 / 16 ∧ octet e 0 / 16 ≤ 8), (base + 2, ∀ i < j, octet (programBytesOf r i) 0 ≠ octet e 0),
   (base + 3, octet e 1 / 4 % 32 = 0), (base + 4, octet e 1 < 128 ∨ octet e 3 ≤ 127)]

/-- The fields of a song record from field 2 on (Tables 12-7 and 12-8, R152). -/
def songChecks (r : List Byte) : List FieldCheck :=
  ([(2, r.length = 32 + 14 * octet r 27 + 4 * octet r 28),
   (3, (List.range 17).any (fun k => (List.range 16).all (fun i =>
      if i < k then decide (32 ≤ octet r i ∧ octet r i ≤ 126) else octet r i == 0))),
   (4, 3000 ≤ octets r 16 ∧ octets r 16 ≤ 30000), (5, octet r 18 ≤ 2), (6, 1 ≤ octet r 19 ∧ octet r 19 ≤ 15),
   (7, octet r 20 = 1 ∨ octet r 20 = 2 ∨ octet r 20 = 3 ∨ octet r 20 = 4 ∨ octet r 20 = 6), (8, octet r 21 ≤ 4), (9, octet r 22 ≤ 64)] : List FieldCheck) ++
  (List.range 15).map (fun i => (10 + i, decide (accentValue r i ≤ 2))) ++
  ([(24, octet r 26 % 4 = 0), (25, 1 ≤ octet r 27 ∧ octet r 27 ≤ 16), (26, octet r 28 ≤ 16),
   (27, octet r 29 = 0 ∧ octet r 30 = 0 ∧ octet r 31 = 0)] : List FieldCheck) ++
  (List.range (octet r 27)).flatMap (fun i => zoneChecks (27 + 15 * i) (zoneBytes r i)) ++
  (List.range (octet r 28)).flatMap (programChecks r)

/-- The program entry that four bytes stand for (Table 12-8). -/
structure ProgramMeans (r : List Byte) (e : ProgramEntry) : Prop where
  module : e.module.val + 1 = octet r 0 / 16
  channel : e.channel.val = octet r 0 % 16
  program : e.program = octet r 1 % 4 * 256 + octet r 2
  preset : e.preset = if 128 ≤ octet r 1 then some (octet r 3) else none

/-- The song that a song record stands for (Table 12-7). -/
structure SongMeans (r : List Byte) (x : Song) : Prop where
  name : x.name = r.take 16
  tempo : x.tempo = octets r 16
  source : (match x.source with | .internal => 0 | .follow => 1 | .tap => 2) = octet r 18
  meter : x.meter = octet r 19 ∧ x.subdivision = octet r 20 ∧ x.countIn = octet r 21 ∧ x.rampBeats = octet r 22
  accents : x.accents.length = 15 ∧ ∀ (i : Nat) (a : Accent), x.accents[i]? = some a →
    (match a with | .silent => 0 | .beat => 1 | .accent => 2) = accentValue r i
  zones : x.zones.length = octet r 27 ∧ ∀ (i : Nat) (z : Zone), x.zones[i]? = some z → ZoneMeans (zoneBytes r i) z
  programs : x.programs.length = octet r 28 ∧ ∀ (j : Nat) (e : ProgramEntry), x.programs[j]? = some e → ProgramMeans (programBytesOf r j) e

/-- The fields of a WRITE_SETLIST: the entry count, then entry k as field k + 2 (R154). -/
def setlistChecks (count : Byte) (es : List Byte) : List FieldCheck :=
  (1, decide (count.toNat ≤ 64 ∧ count.toNat = es.length)) :: es.zipIdx.map (fun e => (e.2 + 2, decide (e.1.toNat < 64)))

/-- The code and argument bytes of an action (Tables 10-3 and 12-9). -/
def Action.octets : Action → Nat × Nat
  | .none => (0, 0)
  | .startStop => (1, 0)
  | .tap => (2, 0)
  | .clickMute => (3, 0)
  | .zoneToggle i => (4, i)
  | .sustain links => (5, links.toNat)
  | .setlistStep forward => (6, if forward then 1 else 255)
  | .cueEntry e => (7, e)
  | .cancelCue => (8, 0)
  | .takeNow => (9, 0)

/-- An argument that an action code admits (Table 10-3). -/
def actionArgument (code v : Nat) : Bool :=
  match code with
  | 4 => v ≤ 15
  | 5 => 1 ≤ v ∧ v ≤ 15
  | 6 => v = 1 ∨ v = 255
  | 7 => v ≤ 63
  | _ => v = 0

/-- The code and argument bytes of an indicator source (Tables 10-6 and 12-9). -/
def Indicator.octets : Indicator → Nat × Nat
  | .off => (0, 0)
  | .beat => (1, 0)
  | .downbeat => (2, 0)
  | .transport => (3, 0)
  | .countIn => (4, 0)
  | .cue => (5, 0)
  | .switching => (6, 0)
  | .retained => (7, 0)
  | .follow => (8, 0)
  | .clickMute => (9, 0)
  | .zone i => (10, i)
  | .module m => (11, m.val + 1)
  | .anyStall => (12, 0)
  | .linkSilent l => (13, l.val)
  | .pedalFault => (14, 0)
  | .footswitch f => (15, f.val + 1)
  | .timebase => (16, 0)
  | .showMode => (17, 0)
  | .storeBusy => (18, 0)

/-- An argument that an indicator source admits (Table 10-6). -/
def indicatorArgument (code v : Nat) : Bool :=
  match code with
  | 10 => v ≤ 15
  | 11 => 1 ≤ v ∧ v ≤ 8
  | 13 => v ≤ 3
  | 15 => 1 ≤ v ∧ v ≤ 8
  | _ => v = 0

/-- Switch `f`'s four fields (R162): SUSTAIN as a press action alone, and with no hold action beside it. -/
def switchChecks (r : List Byte) (f : Nat) : List FieldCheck :=
  let o := fun i => octet r (20 + 4 * f + i)
  [(18 + 4 * f, o 0 ≤ 9), (19 + 4 * f, actionArgument (o 0) (o 1)), (20 + 4 * f, o 2 ≤ 9 ∧ o 2 ≠ 5 ∧ (o 0 = 5 → o 2 = 0)),
   (21 + 4 * f, actionArgument (o 2) (o 3))]

/-- The 119 fields of a setup record (Table 12-9, R155). -/
def setupChecks (r : List Byte) : List FieldCheck :=
  ([(1, octet r 0 ≤ 2), (2, 1 ≤ octet r 1 ∧ octet r 1 ≤ 8), (3, 1 ≤ octet r 2 ∧ octet r 2 ≤ 64), (4, octet r 3 ≤ 1), (5, octet r 4 ≤ 8),
   (6, 1 ≤ octet r 5 ∧ octet r 5 ≤ 16), (7, octet r 6 = 1 ∨ octet r 6 = 2 ∨ octet r 6 = 4 ∨ octet r 6 = 8 ∨ octet r 6 = 16),
   (8, octet r 7 ≤ 15), (9, octet r 8 ≤ 15), (10, octet r 9 ≤ 2), (11, octet r 10 ≤ 1), (12, octet r 11 ≤ 5),
   (14, 500 ≤ octets r 13 ∧ octets r 13 ≤ 10000), (15, 2000 ≤ octets r 15 ∧ octets r 15 ≤ 60000),
   (16, 5 ≤ octet r 17 ∧ octet r 17 ≤ 40), (17, 300 ≤ octets r 18 ∧ octets r 18 ≤ 2000)] : List FieldCheck) ++
  (List.range 8).flatMap (switchChecks r) ++
  ([(50, octets r 52 ≤ 1019), (51, octets r 52 ≤ octets r 54 ∧ octets r 54 ≤ 1019), (52, octets r 56 ≤ 1019),
   (53, octets r 56 ≤ octets r 58 ∧ octets r 58 ≤ 1019), (54, 1 ≤ octet r 60 ∧ octet r 60 ≤ 8)] : List FieldCheck) ++
  (List.range 32).flatMap (fun i => [(55 + 2 * i, decide (octet r (61 + 2 * i) ≤ 18)),
    (56 + 2 * i, indicatorArgument (octet r (61 + 2 * i)) (octet r (62 + 2 * i)))]) ++
  ([(119, octet r 125 ≤ 1)] : List FieldCheck)

/-- The setup that a setup record stands for (Table 12-9). -/
structure SetupMeans (r : List Byte) (u : Setup) : Prop where
  follow : (match u.followSource with | .cpA => 0 | .cpB => 1 | .refin => 2) = octet r 0 ∧ u.tolerance = octet r 1 ∧
    u.holdoverBeats = octet r 2 ∧ (match u.onLoss with | .freewheel => 0 | .songTempo => 1) = octet r 3
  click : (match u.clickModule with | none => 0 | some m => m.val + 1) = octet r 4 ∧ u.clickChannel.val + 1 = octet r 5 ∧
    u.clkoutRate = octet r 6
  links : u.linkEnable.toNat = octet r 7 ∧ u.programAsCue.toNat = octet r 8
  footBoundary : u.footBoundary = if octet r 9 = 0 then .immediate else if octet r 9 = 1 then .nextBeat else .nextBar
  bus : u.fastBus = decide (octet r 10 = 1) ∧ u.classOrder = octet r 11 ∧ u.moduleMask.toNat = octet r 12 ∧ u.stallMillis = octets r 13
  retention : u.retentionMillis = octets r 15
  times : u.debounce = octet r 17 ∧ u.holdMillis = octets r 18
  switches : ∀ f : SwitchId, (getAt u.switches f).1.octets = (octet r (20 + 4 * f.val), octet r (21 + 4 * f.val)) ∧
    (getAt u.switches f).2.octets = (octet r (22 + 4 * f.val), octet r (23 + 4 * f.val))
  pedals : ∀ p : PedalId, getAt u.calibration p = (octets r (52 + 4 * p.val), octets r (54 + 4 * p.val))
  brightness : u.brightness = octet r 60
  indicators : ∀ i : Fin 32, (getAt u.indicators i).octets = (octet r (61 + 2 * i.val), octet r (62 + 2 * i.val))
  startMode : (match u.startMode with | .prep => 0 | .show => 1) = octet r 125

/-- The answer to a store request: its refusals in their order, or ACCEPTED with its operation on the sector begun in ERASING (R148, R149). -/
def StoreAnswer (p : Port) (f : Frame) (kind : OpKind) (checks : List FieldCheck) (sector : Nat) (r : List Byte) (s t : State) : Prop :=
  (s.store.mode = .show → Completed p f .locked [] s t) ∧
  (s.store.mode = .prep → s.store.activity ≠ .idle → Completed p f .busy [] s t) ∧
  (s.store.mode = .prep → s.store.activity = .idle → s.store.supplyLow = true → Completed p f .lowSupply [] s t) ∧
  (s.store.mode = .prep → s.store.activity = .idle → s.store.supplyLow = false →
    (∀ n, firstFailing checks = some n → Completed p f (.badField n) [] s t) ∧
    ∀ k : Sector, firstFailing checks = none → k.val = sector → Completed p f .accepted [.store] s t ∧
      t.store = { s.store with activity := .operating ⟨kind, k, p, .erasing, r, false, none⟩ })

/-- SUPPLY_LOW becomes ASSERTED where the store's filter then stands as in `x` (R151): an operation in VERIFYING ends at once with STORE_FAULT,
another is marked to end after its step; an idle or fetching store goes on, which is said where a message is being transmitted. -/
def SupplyStops (x : Store) (s t : State) : Prop :=
  t.store.supplyLow = true ∧ t.store.supplyLine = x.supplyLine ∧ t.store.supplySample = x.supplySample ∧
  t.store.supplyTimer = x.supplyTimer ∧ t.flash = s.flash ∧
  (s.store.busy = false → s.bus.transmission.isSome = true → t.store = { x with supplyLow := true }) ∧
  ∀ op, s.store.activity = .operating op →
    (op.phase = .verifying → t.store.busy = false ∧
      Tells ⟨.storeFault .supplyLow op.kind op.sector, true, s.grid.position, some (.port op.port)⟩ s t) ∧
    (op.phase ≠ .verifying → t.store = { x with supplyLow := true, activity := .operating { op with stopping := true } })

/-! ## Invariants -/

/-- A tempo of the grid or the Follower (R5). -/
def TempoOk (n : Nat) : Prop := 3000 ≤ n ∧ n ≤ 30000

/-- The flash is in canonical form, and a record being written fits its sector behind the header word (R145, R186). -/
def FlashSound (s : State) : Prop :=
  flashWf s.flash = true ∧ ∀ op, s.store.activity = .operating op → op.record.length ≤ 508

/-- A port's notice queue: at most 32, every URGENT notice ahead of every NORMAL one, each with its kind's urgency (R178); NOTICES_LOST is
not masked (R176); at most four requests wait (R172); the count of lost notices saturates (R179). -/
structure ControlPort.Sound (c : ControlPort) : Prop where
  notices : c.notices.length ≤ 32
  order : c.notices.Pairwise (fun m n => n.urgent = true → m.urgent = true)
  urgency : ∀ n ∈ c.notices, n.urgent = n.body.urgent
  mask : c.mask.getLsbD 5 = true
  buffer : c.buffer.length ≤ 4
  lost : c.lost ≤ 65535

/-- Both ports are sound. -/
def PortsSound (s : State) : Prop := ∀ p : Port, (s.port p).Sound

/-- Every queue and table within its capacity: key-on queue 32 (R74), controller queue 16 (R77), REALTIME 8 (R112), PASS 16 (R120),
Held-Note Table 128 (R91), each receive FIFO 16 (R56), tap intervals 4 (R39), lock intervals below 3 (R28). -/
structure WithinCapacity (s : State) : Prop where
  keyOns : s.layer.keyOns.length ≤ 32
  controls : s.layer.controls.length ≤ 16
  realtime : s.bus.realtime.length ≤ 8
  pass : s.bus.pass.length ≤ 16
  entries : s.notes.entries.length ≤ 128
  fifo : ∀ l : LinkId, (s.link l).fifo.length ≤ 16
  taps : s.tap.intervals.length ≤ 4
  locks : s.follower.intervals.length < 3

/-- A song record's values in their ranges (Table 12-7), as far as the grid takes them. -/
def Song.Ok (x : Song) : Prop := TempoOk x.tempo ∧ 1 ≤ x.meter ∧ x.meter ≤ 15 ∧ x.countIn ≤ 4

/-- The grid: T_g and T_f in range (R5), the remainder below T_g unless T_g has changed since (R6, R7), the records in range (R19, R21), the
show position within the meter and the bars (R8), bars −3 to 0 in the count-in alone (R8, R11); the songs the banks hold; the tap
intervals in window (R39). -/
structure GridSound (s : State) : Prop where
  tempo : TempoOk s.grid.tempo
  followTempo : TempoOk s.follower.tempo
  remainder : s.grid.remainder < s.grid.tempo ∨ s.grid.fresh = true
  ramp : ∀ r, s.grid.ramp = some r → TempoOk r.start ∧ TempoOk r.target ∧ r.done < r.beats
  correction : ∀ c, s.grid.correction = some c → TempoOk c.tempo
  meter : 1 ≤ s.grid.meter ∧ s.grid.meter ≤ 15
  tick : s.grid.position.tick < 240
  beat : 1 ≤ s.grid.position.beat ∧ s.grid.position.beat ≤ s.grid.meter
  bar : -3 ≤ s.grid.position.bar ∧ s.grid.position.bar ≤ 9999
  countIn : s.grid.position.bar < 1 ↔ s.grid.transport = .countIn
  songA : ∀ x, s.banks.a.image = some x → x.Ok
  songB : ∀ x, s.banks.b.image = some x → x.Ok
  taps : ∀ i ∈ s.tap.intervals, 200000 ≤ i ∧ i ≤ 2000000

/-- The transport and the Follower hang together: the countdown counts exactly while ticks are emitted, and r is 0 otherwise (R6); the
tempo records stand only while ticks are emitted (R13, R19, R31); START_PENDING stands only under FOLLOW (R12); the Follower is OFF exactly
when the source is not FOLLOW (R36, R37); the holdover timer runs only in LOCKED, the pace timer only in HOLDOVER (R33, R34). -/
structure TransportSound (s : State) : Prop where
  countdown : s.grid.countdown.isSome = s.grid.transport.emits
  idle : s.grid.transport.emits = false → s.grid.remainder = 0
  ramp : s.grid.ramp.isSome = true → s.grid.transport.emits = true
  correction : s.grid.correction.isSome = true → s.grid.transport.emits = true
  pending : s.grid.transport = .startPending → s.grid.source = .follow
  off : s.follower.state = .off ↔ s.grid.source ≠ .follow
  holdoverTimer : s.follower.holdoverTimer.isSome = true → s.follower.state = .locked
  paceTimer : s.follower.paceTimer.isSome = true → s.follower.state = .holdover

/-- The Held-Note Table: at most one SOUNDING or SUSTAINED entry for a source (R89), serial numbers distinct and below the next; one to four
destinations (R72); a RELEASING entry has a destination that is not ended (R98). -/
structure NotesSound (s : State) : Prop where
  one : s.notes.entries.Pairwise (fun e f => e.serial ≠ f.serial ∧
    (e.releasing = false → f.releasing = false → e.isFrom f.link f.channel f.key = false))
  serial : ∀ e ∈ s.notes.entries, e.serial < s.notes.nextSerial
  dests : ∀ e ∈ s.notes.entries, 1 ≤ e.dests.length ∧ e.dests.length ≤ 4
  unended : ∀ e ∈ s.notes.entries, e.releasing = true → e.allEnded = false

/-- At most one pending program entry for a module and channel (R117). -/
def ProgramsSound (s : State) : Prop :=
  s.bus.pending.Pairwise (fun e f => ¬ (e.module = f.module ∧ e.channel = f.channel))

/-- The frame on the transmit line is a reply. -/
def ControlPort.replying (c : ControlPort) : Bool :=
  match c.sending with
  | some fr => fr.sort == .reply
  | none => false

/-- The port's request in service waits for the end of its fetch (R147). -/
def ControlPort.awaiting (c : ControlPort) : Bool := c.inService.isSome && c.reply.isNone && !c.replying

/-- The reset in progress fetches its initial song. -/
def ResetPhase.isSong : ResetPhase → Bool
  | .song _ => true
  | _ => false

/-- The scene banks, the cue slot and the fetches they hang on: a bank has one enabled state for each of its zones (R69); the bank that is not
ACTIVE is RETAINED exactly while a held-note entry
names it (R88, R124, R125), and the retention timer runs only then (R141); a cue is LOADING or ARMED only in take phase NONE with the other
bank STANDBY (R126, R131); an ARMED cue's bank holds its song (R132); no cue is held while a reset is in progress (R142); each requester
has the one fetch it waits for and no other (R131, R142, R143, R146, R147, R158); the restart's SILENCE is on the bus only while the
restart waits for its end (R122). -/
structure ChangeSound (s : State) : Prop where
  enabled : ∀ k : BankId, (s.bank k).enabled.length = (s.bank k).zones.length
  retained : s.banks.retained = true ↔ s.otherReferences ≠ 0
  retention : s.seq.retention.isSome = true → s.banks.retained = true
  loading : s.cueIs .loading = true ∨ s.cueIs .armed = true → s.seq.phase = .none ∧ s.banks.retained = false
  armed : s.cueIs .armed = true → s.standbyBank.image.isSome = true
  reset : s.inReset = true → s.seq.cue = none
  cueFetch : s.fetchCount .cue = (s.cueIs .loading).toNat
  setupFetch : s.fetchCount .setup = (s.resetting == .setup).toNat
  setlistFetch : s.fetchCount .setlist = (s.resetting == .setlist).toNat
  songFetch : s.fetchCount .initial = s.resetting.isSong.toNat
  readFetch : ∀ p : Port, s.fetchCount (.readSong p) = (s.port p).awaiting.toNat
  idle : s.store.activity = .idle → s.store.queue = []
  service : ∀ p : Port, (s.port p).inService = none → (s.port p).reply = none ∧ (s.port p).replying = false
  oneReply : ∀ p : Port, (s.port p).reply.isSome = true → (s.port p).replying = false
  silence : ∀ t, s.bus.transmission = some t → t.forRestart = true → s.resetting = .silence

end Sys2Proof.Machine
end

