-- ==== Sys2Proof/WellFormed.lean ====
section
/-! DEFINITION. Which commands are well formed: those whose operands the frame and payload layouts of Section 12 can carry as the kind
allows (Tables 12-1 and 12-2). A command that is not well formed has its effect too: the port answers it BAD_FIELD with field number 0, or
discards its frame (R170, R173). -/

namespace Sys2Proof

/-- The kind bytes that Table 12-2 lists. -/
def requestKinds : List Nat :=
  [0x01, 0x02, 0x03, 0x04, 0x05, 0x06, 0x07, 0x10, 0x11, 0x12, 0x13, 0x20, 0x21, 0x22, 0x23, 0x30, 0x31, 0x32, 0x33, 0x34, 0x35,
   0x40, 0x41, 0x42, 0x43]

/-- The operands of a command fit its layout: an EDIT_ZONE carries a zone record of 14 bytes, a WRITE_SONG a record of 32 to 320 bytes, a
WRITE_SETLIST at most 64 entries, a WRITE_SETUP a record of 126 bytes, a SET_NOTICE_MASK 21 fields; an UNKNOWN_KIND request a kind that
Table 12-2 does not list and a payload of at most 336 bytes. Every other command fits whatever its operands. -/
def Instr.wellFormed : Instr → Bool
  | .editZone _ _ _ _ record => record.length == 14
  | .writeSong _ _ _ record => decide (32 ≤ record.length) && decide (record.length ≤ 320)
  | .writeSetlist _ _ _ entries => decide (entries.length ≤ 64)
  | .writeSetup _ _ record => record.length == 126
  | .setNoticeMask _ _ fields => fields.length == 21
  | .unknownKindRequest _ _ kind payload => !requestKinds.contains kind.toNat && decide (payload.length ≤ 336)
  | .powerOn => true
  | .crystalFound => true
  | .crystalWaitTimeout => true
  | .crystalLoss => true
  | .intervalCountdownExpiry => true
  | .start _ _ => true
  | .stop _ _ => true
  | .setTempo _ _ _ => true
  | .setTempoSource _ _ _ => true
  | .mark _ _ _ => true
  | .refinRisingEdge => true
  | .holdoverTimerExpiry => true
  | .holdoverPaceTimerExpiry => true
  | .tap _ _ => true
  | .clickPulseTimerExpiry _ => true
  | .clkoutPulseTimerExpiry => true
  | .clickMute _ _ _ => true
  | .keyLinkCharacter _ _ _ => true
  | .parserTakeByte _ => true
  | .keepAliveTimerExpiry _ => true
  | .layerEngineTakeEvent => true
  | .toggleZone _ _ _ _ => true
  | .panic _ _ => true
  | .endOfTransmission => true
  | .idleTimerExpiry => true
  | .moduleBusyAsserted _ => true
  | .moduleBusyDeasserted _ => true
  | .busyTimerExpiry _ => true
  | .pass _ _ _ _ _ _ _ => true
  | .restart _ _ => true
  | .restartSilenceEnd => true
  | .cue _ _ _ _ _ _ _ => true
  | .cancelCue _ _ => true
  | .takeNow _ _ => true
  | .settleTimerExpiry => true
  | .retentionTimerExpiry => true
  | .fetchEnd => true
  | .readSong _ _ _ => true
  | .eraseSong _ _ _ => true
  | .flashEraseEnd => true
  | .recordWordsProgrammed => true
  | .readBackEnd _ => true
  | .markerWordProgrammed => true
  | .supplyLowAsserted => true
  | .supplyLowDeasserted => true
  | .setMode _ _ _ => true
  | .setlistStep _ _ _ => true
  | .footswitchPress _ => true
  | .footswitchRelease _ => true
  | .holdTimerExpiry _ => true
  | .adcConversionEnd _ => true
  | .indicatorSlotStart => true
  | .indicatorDriveEnd => true
  | .beatFlashTimerExpiry => true
  | .downbeatFlashTimerExpiry => true
  | .blinkPhaseToggle => true
  | .controlPortCharacter _ _ _ => true
  | .gapTimerExpiry _ => true
  | .portFrameTransmitted _ => true
  | .getStatus _ _ _ _ => true
  | .setPositionNotices _ _ _ => true
  | .refinSample _ => true
  | .footswitchSample _ => true
  | .busyLineSample _ => true
  | .adcConversionBegin => true
  | .flashWordProgrammed => true

end Sys2Proof
end

