-- ==== Sys2Proof/Certificates/Slice0/Obligations.lean ====
section
/-! DEFINITION. The statements for the provers: what the machine and each family of commands do, by the rules of the spec. Each docstring
names the rules a statement formalises; the log entries it names are the model's own choices. -/

open Sys2Proof Sys2Proof.Machine

/-! ## The machine as a whole -/

/-- A step takes the command at the front of the queue and runs exec on the state with the queue's rest; on an empty queue it is the
model's passing of time (log entry 1). -/
def Obligations.StepRunsFront : Prop :=
  (∀ (c : Instr) (rest : List Instr) (s : State), s.pending = c :: rest → step s = exec c (s.withPending rest)) ∧
  ∀ s : State, s.pending = [] → step s = .next (idle s)

/-- Every command of the table answers a next state from every state, and leaves the queue of waiting commands alone. This is the model's own
reading and no rule of the spec: 'every state' takes in states that exclude the event a command names, where it changes nothing (log entry 11);
and the queue is the model's own field (log entry 32), into which commands come from outside the machine, but for what a step on an empty queue
puts there (log entries 33 and 1). It says that no command stops the machine, and nothing of what a command does: the statements below do. -/
def Obligations.EveryCommandCompletes : Prop :=
  ∀ (c : Instr) (s : State), ∃ t, exec c s = .next t ∧ t.pending = s.pending

/-- Right after power-on reset the monitor is in CRYSTAL_WAIT (R2) and the count does not run. The model writes already in the wait (log entry 33)
the values its blocks take when the count starts, those stated here: T_g, source, position, meter, transport and no tempo record; follow state,
T_f, no last tap; click mute and drops; an empty Held-Note Table and the next release sequence number; no transmission and no selection; both
banks EMPTY with A ACTIVE; an empty cue slot, take phase NONE. The modules stand DISABLED until setup is read, which is the model's choice (log
entry 23). Every invariant stated below holds. -/
def Obligations.ResetSound : Prop :=
  State.reset.timebase.monitor = .crystalWait ∧ State.reset.running = false ∧
  State.reset.grid.tempo = 12000 ∧ State.reset.grid.source = .internal ∧ State.reset.grid.position = ⟨1, 1, 0⟩ ∧
  State.reset.grid.meter = 4 ∧ State.reset.grid.transport = .stopped ∧ State.reset.grid.ramp = none ∧
  State.reset.grid.correction = none ∧
  State.reset.follower.state = .off ∧ State.reset.follower.tempo = 12000 ∧ State.reset.tap.last = none ∧
  State.reset.click.mute = false ∧ State.reset.click.drops = 0 ∧
  State.reset.notes.entries = [] ∧ State.reset.notes.nextRelease = 1 ∧
  State.reset.bus.transmission = none ∧ State.reset.bus.selection = .none ∧ (∀ m, (State.reset.module m).mode = .disabled) ∧
  State.reset.banks.a.image = none ∧ State.reset.banks.b.image = none ∧ State.reset.banks.active = .a ∧
  State.reset.seq.cue = none ∧ State.reset.seq.phase = .none ∧
  FlashSound State.reset ∧ PortsSound State.reset ∧ WithinCapacity State.reset ∧ GridSound State.reset ∧
  TransportSound State.reset ∧ NotesSound State.reset ∧ ProgramsSound State.reset ∧ ChangeSound State.reset

/-- R145, R186: every step keeps the flash in its canonical form, within its 66 sectors. -/
def Obligations.FlashStaysSound : Prop := ∀ s t : State, FlashSound s → step s = .next t → FlashSound t

/-- R172, R176, R178, R179: every step keeps each port's notice queue ordered and within 32, and its request buffer within 4. -/
def Obligations.PortsStaySound : Prop := ∀ s t : State, PortsSound s → step s = .next t → PortsSound t

/-- R28, R39, R56, R74, R77, R91, R112, R117, R120: every step keeps every queue and table within its capacity, and at most one pending
program entry for each module and channel. -/
def Obligations.CapacitiesHold : Prop :=
  (∀ s t : State, WithinCapacity s → step s = .next t → WithinCapacity t) ∧
  ∀ s t : State, ProgramsSound s → step s = .next t → ProgramsSound t

/-- R5, R6, R8, R11, R19, R21, R39: every step keeps T_g and T_f within 3000 to 30000 cBPM and the show position within the meter and the
bars. -/
def Obligations.GridStaysSound : Prop := ∀ s t : State, GridSound s → step s = .next t → GridSound t

/-- R6, R12, R13, R33, R34, R36, R37: every step keeps the countdown, the tempo records, START_PENDING and the follow state in step with the
transport and the tempo source. -/
def Obligations.TransportStaysSound : Prop := ∀ s t : State, TransportSound s → step s = .next t → TransportSound t

/-- R72, R89, R98: every step keeps at most one SOUNDING or SUSTAINED entry for each source. -/
def Obligations.NotesStaySound : Prop := ∀ s t : State, NotesSound s → step s = .next t → NotesSound t

/-- R69, R88, R124 to R126, R131, R132, R141 to R143, R146, R147: every step keeps the banks' roles, the cue slot and the fetches consistent; and
where they are, the fetch queue holds at most three (R146). -/
def Obligations.ChangeStaysSound : Prop :=
  (∀ s t : State, ChangeSound s → step s = .next t → ChangeSound t) ∧ ∀ s : State, ChangeSound s → s.store.queue.length ≤ 3

/-! ## The timebase (Section 1.1) -/

/-- R2, with R22, R41, R53, R68, R85, R102, R145, R158, R168, R180: POWER_ON gives the state of CRYSTAL_WAIT and keeps the flash, but for the
sector of an erase in progress, whose bytes are left unsaid (log entry 9). CRYSTAL_FOUND in the wait sets source CRYSTAL and starts the count at
0; CRYSTAL_WAIT_TIMEOUT sets source RC and tells TIMEBASE_DEGRADED first; at both, the reading of setup is requested, and the sampling of
SUPPLY_LOW starts with the count (R151, log entry 25). The values that the blocks hold in the wait and at the count's start where the spec gives
none are the model's choice: in the wait log entry 33, setup and setlist before their readings log entry 13, the module states before setup is
read log entry 23, the footswitches' raw samples and states and the missing last REFIN sample log entry 36. Outside the wait neither does
anything (log entry 11). -/
def Obligations.PowerUp : Prop :=
  (∀ s : State, ∃ t, exec .powerOn s = .next t ∧ SameBut [.flash, .draws, .pending] State.reset t ∧ t.pending = s.pending ∧
    ∀ a, (∀ op, s.store.activity = .operating op → op.phase = .erasing → a < sectorBase op.sector ∨ sectorBase op.sector + 512 ≤ a) →
      readFlash t.flash a = readFlash s.flash a) ∧
  (∀ s : State, s.running = false → ∃ t, exec .crystalFound s = .next t ∧
    t.timebase = ⟨.crystalWatch, some .crystal, 0, 0⟩ ∧ t.flash = s.flash ∧ t.pending = s.pending ∧
    t.resetting = .setup ∧ t.store = { Store.initial with activity := .fetching ⟨.setup, 0⟩, supplyTimer := some ⟨0, 0⟩ } ∧ t.board = Board.startAt 0 ∧
    SameBut [.timebase, .flash, .pending, .draws, .resetting, .store, .board] State.reset t) ∧
  (∀ s : State, s.running = false → ∃ t, exec .crystalWaitTimeout s = .next t ∧
    t.timebase = ⟨.rcOnly, some .rc, 0, 0⟩ ∧ t.flash = s.flash ∧ t.pending = s.pending ∧
    t.resetting = .setup ∧ t.store = { Store.initial with activity := .fetching ⟨.setup, 0⟩, supplyTimer := some ⟨0, 0⟩ } ∧ t.board = Board.startAt 0 ∧
    (∀ q : Port, (t.port q).notices = [] ∧ ∃ tm, (t.port q).sending =
      some ⟨.notice, frameBytes 0x81 0 (Notice.bytes ⟨.timebaseDegraded .noCrystal, true, Position.top, none⟩), tm⟩) ∧
    SameBut ([.timebase, .flash, .pending, .draws, .resetting, .store, .board] ++ lineParts) State.reset t) ∧
  ∀ s : State, s.running = true → exec .crystalFound s = .next s ∧ exec .crystalWaitTimeout s = .next s

/-- R3: a crystal loss in CRYSTAL_WATCH sets source RC and monitor RC_ONLY and advances the count by the 50 µs of the gap (the model's reading,
log entry 12); where no timer fell due in the gap, nothing else changes but the TIMEBASE_DEGRADED told (a timer that fell due expires at its due
value, log entry 4). Outside CRYSTAL_WATCH it does nothing (log entry 11). -/
def Obligations.CrystalLoss : Prop :=
  (∀ s : State, s.timebase.monitor = .crystalWatch → ∃ t, exec .crystalLoss s = .next t ∧
    t.timebase.monitor = .rcOnly ∧ t.timebase.source = some .rc ∧ t.timebase.count = s.timebase.count + 50 ∧
    (s.timers.all (fun te => !te.1.elapsed (s.now + 50)) = true →
      SameBut (.timebase :: lineParts) s t ∧ Tells ⟨.timebaseDegraded .crystalLost, true, s.grid.position, none⟩ s t)) ∧
  ∀ s : State, s.timebase.monitor ≠ .crystalWatch → exec .crystalLoss s = .next s

/-! ## The grid and the transport (Sections 1.2 to 1.7) -/

/-- The tempo grid's interval law (R7): while T_g is unchanged, the first n intervals computed under it take floor(n × 25,000,000 / T_g) µs in
sum. -/
def Obligations.IntervalLaw : Prop :=
  ∀ (n : Nat) (g : Grid), 0 < g.tempo → (g.fresh = true ∨ g.remainder = 0) → g.spans n = n * 25000000 / g.tempo

/-- R11, R6, R15: START by transport state and tempo source: START_PENDING under FOLLOW; otherwise COUNT_IN at bar −(N−1) where the active song
has a count-in and the position is 1.1.0, or RUNNING from the held position, the first tick emitted and the first interval computed at once;
a ramp record that stands takes its step at that tick where it is a beat boundary (R19), the quotient alone being rounded (log entry 26);
TRANSPORT told with the port as origin; elsewhere no change. -/
def Obligations.StartRequest : Prop :=
  ∀ (p : Port) (tag : Byte) (s : State), s.serves p → ∃ t, exec (.start p tag) s = .next t ∧
    StartDone (fun l => ClosedRequest p ⟨0x01, tag, []⟩ .ok l s t) (.port p) s.now s t

/-- R13, R15, R18, R34, R36, R37, R52, R84, R133, R135 to R138: STOP by transport state: the position, T_g with the records ended, r and the
countdown, TRANSPORT told; an ARMED cue is then taken in the stopped grid: the new song's tempo at once, or for FOLLOW the T_g that the STOP
left, no ramp record, the countdown as the STOP left it, the Follower turned on or off where the source changes and standing where it does not
(but for T_f of a TAP song), its level slots formed, FOLLOW_STATE and TAKEN told. -/
def Obligations.StopRequest : Prop :=
  ∀ (p : Port) (tag : Byte) (s : State), s.serves p → ∃ t, exec (.stop p tag) s = .next t ∧
    StopDone (fun l => ClosedRequest p ⟨0x02, tag, []⟩ .ok l s t) (.port p) s.now s t

/-- R6, R8, R14, R15, R19, R21, R34, R35: a tick at which no take falls due, and which makes no SONG_TEMPO fallback (HoldoverBeats): the position
advances by one tick, a count-in that reaches 1.1.0 enters RUNNING and TRANSPORT tells it; the ramp record steps at a beat boundary, the
correction record counts a tick that ends an interval computed after it was made, T_g taking the step's value, of which the quotient alone is
rounded (log entry 26), and T_f at the correction's end; the next interval is computed under T_g, with r from the last one, or 0 where T_g has
taken a different value (R7, and where it takes the value it had, log entry 20); a beat boundary in HOLDOVER is counted, the H-th entering LOST,
with the count standing there (log entry 31), and a Follower in any other state stands. A command given early or late expires at the due value
(log entry 4). -/
def Obligations.TickAdvances : Prop :=
  ∀ (s : State) (tm : Timer), s.grid.countdown = some tm → s.dueAt (s.grid.position.next s.grid.meter) = none →
    ¬ s.FallsBack (s.grid.position.next s.grid.meter) → (s.grid.ramp = none ∨ s.grid.correction = none) →
    ∃ t, exec .intervalCountdownExpiry s = .next t ∧ Closed [.grid, .follower, .click, .bus, .board] (s.expired tm) t ∧
      t.follower = s.tickedFollower (s.grid.position.next s.grid.meter) ∧
      t.grid.position = s.grid.position.next s.grid.meter ∧ t.grid.meter = s.grid.meter ∧ t.grid.source = s.grid.source ∧
      t.grid.transport =
        (if s.grid.transport = .countIn ∧ s.grid.position.next s.grid.meter = ⟨1, 1, 0⟩ then .running else s.grid.transport) ∧
      (s.grid.transport = .countIn → s.grid.position.next s.grid.meter = ⟨1, 1, 0⟩ →
        Tells ⟨.transport .running ⟨1, 1, 0⟩, false, ⟨1, 1, 0⟩, none⟩ s t) ∧
      (s.grid.ramp = none → s.grid.correction = none → t.grid.tempo = s.grid.tempo ∧ t.grid.ramp = none ∧ t.grid.correction = none) ∧
      (∀ r, s.grid.ramp = some r → s.grid.correction = none →
        if (s.grid.position.next s.grid.meter).tick = 0 then
          t.grid.tempo = ((r.start : Int) + roundAway (((r.target : Int) - r.start) * (r.done + 1 : Nat)) r.beats).toNat ∧
          t.grid.ramp = (if r.beats ≤ r.done + 1 then none else some { r with done := r.done + 1 })
        else t.grid.tempo = s.grid.tempo ∧ t.grid.ramp = some r) ∧
      (∀ c, s.grid.correction = some c → s.grid.ramp = none →
        if c.counting = true then
          if c.remaining ≤ 1 then t.grid.tempo = s.follower.tempo ∧ t.grid.correction = none
          else t.grid.tempo = s.grid.tempo ∧ t.grid.correction = some { c with remaining := c.remaining - 1 }
        else t.grid.tempo = s.grid.tempo ∧ t.grid.correction = some { c with counting := true }) ∧
      ∃ r, r = (if t.grid.tempo ≠ s.grid.tempo ∨ s.grid.fresh = true then 0 else s.grid.remainder) ∧
        t.grid.countdown = some ⟨tm.due, (25000000 + r) / t.grid.tempo⟩ ∧
        t.grid.remainder = 25000000 + r - (25000000 + r) / t.grid.tempo * t.grid.tempo ∧ t.grid.fresh = false

/-- R16: SET_TEMPO: WRONG_SOURCE under FOLLOW; otherwise T_g takes the field clamped to 3000 to 30000, a new value waiting for the next interval
computed (R7), the ramp record is removed, and under TAP T_f takes it too and the correction record is removed. -/
def Obligations.SetTempoRequest : Prop :=
  ∀ (p : Port) (tag : Byte) (v : BitVec 16) (s : State), s.serves p → ∃ t, exec (.setTempo p tag v) s = .next t ∧
    (s.grid.source = .follow → Completed p ⟨0x03, tag, word2 v⟩ .wrongSource [] s t) ∧
    (s.grid.source ≠ .follow → ∃ a, a = (if v.toNat < 3000 then 3000 else if 30000 < v.toNat then 30000 else v.toNat) ∧
      Completed p ⟨0x03, tag, word2 v⟩ (if a = v.toNat then .ok else .appliedClamped a) [.grid, .follower] s t ∧
      t.grid = { s.grid with
        tempo := a, ramp := none, fresh := t.grid.fresh
        correction := if s.grid.source = .tap then none else s.grid.correction } ∧
      (a ≠ s.grid.tempo → t.grid.fresh = true) ∧
      t.follower = (if s.grid.source = .tap then { s.follower with tempo := a } else s.follower))

/-- R17, with R12, R36, R37: SET_TEMPO_SOURCE: another value is refused, the present source changes nothing; a different one removes both tempo
records, keeps T_g, starts a transport in START_PENDING, and turns the Follower to SEEKING or OFF. -/
def Obligations.SetTempoSourceRequest : Prop :=
  ∀ (p : Port) (tag x : Byte) (s : State), s.serves p → ∃ t, exec (.setTempoSource p tag x) s = .next t ∧
    (3 ≤ x.toNat → Completed p ⟨0x04, tag, [x]⟩ (.badField 1) [] s t) ∧
    ∀ new, tempoSourceOf x.toNat = some new →
      (new = s.grid.source → ClosedRequest p ⟨0x04, tag, [x]⟩ .ok [] s t) ∧
      (new ≠ s.grid.source →
        ClosedRequest p ⟨0x04, tag, [x]⟩ .ok [.grid, .follower, .click, .bus, .board] s t ∧
        t.grid.source = new ∧ t.grid.tempo = s.grid.tempo ∧ t.grid.ramp = none ∧ t.grid.correction = none ∧
        t.grid.position = s.grid.position ∧
        (if s.grid.transport = .startPending ∧ new ≠ .follow then
          t.grid.transport = .running ∧ t.grid.countdown = some ⟨s.now, 25000000 / s.grid.tempo⟩ ∧
          t.grid.remainder = 25000000 - 25000000 / s.grid.tempo * s.grid.tempo ∧
          Tells ⟨.transport .running s.grid.position, false, s.grid.position, some (.port p)⟩ s t
        else t.grid.transport = s.grid.transport ∧ t.grid.countdown = s.grid.countdown ∧ t.grid.remainder = s.grid.remainder ∧
          t.click = s.click ∧ t.board = s.board) ∧
        (new = .follow → t.follower = { s.follower with
          state := .seeking, tempo := s.grid.tempo, reference := none, intervals := [], outliers := 0, holdoverTimer := none
          holdoverBeats := 0, paceTimer := none }) ∧
        (s.grid.source = .follow → t.follower = { s.follower with
          state := .off, tempo := if new = .tap then s.grid.tempo else s.follower.tempo, reference := none, intervals := []
          outliers := 0, holdoverTimer := none, holdoverBeats := 0, paceTimer := none }) ∧
        (s.grid.source ≠ .follow → new ≠ .follow → t.follower = { s.follower with
          tempo := if new = .tap then s.grid.tempo else s.follower.tempo
          paceTimer := if s.grid.transport = .startPending then none else s.follower.paceTimer }))

/-! ## Following and tap tempo (Section 2) -/

/-- R24: the checks of a MARK in their order; a refused MARK reaches neither the Follower nor the grid; any other replies OK. -/
def Obligations.MarkChecks : Prop :=
  ∀ (p : Port) (tag b : Byte) (s : State), s.serves p → ∃ t, exec (.mark p tag b) s = .next t ∧
    (15 < b.toNat → Completed p ⟨0x06, tag, [b]⟩ (.badField 1) [] s t) ∧
    (b.toNat ≤ 15 → (s.grid.source ≠ .follow ∨ s.setup.followSource ≠ ofPort p) →
      Completed p ⟨0x06, tag, [b]⟩ .wrongSource [] s t) ∧
    (b.toNat ≤ 15 → s.grid.source = .follow → s.setup.followSource = ofPort p →
      ClosedRequest p ⟨0x06, tag, [b]⟩ .ok [.grid, .follower, .click, .bus, .board, .draws] s t)

/-- R27, R28, R31, R32: a mark in SEEKING: the interval list and the reference time; the mark that makes the third interval locks, with T_f from
the three, phase correction and realignment, BAR_REALIGNED and FOLLOW_STATE told, and the holdover timer at 2 × P; a locking mark of a pending
transport is a start mark (StartMark). Where the corrected tempo equals T_g no change waits for the next interval (log entry 20; R7 of Section
1.2). The holdover beat count stays as it stood (log entry 31). -/
def Obligations.MarkInSeeking : Prop :=
  ∀ (p : Port) (tag b : Byte) (s : State), s.hears p b → s.follower.state = .seeking → ∃ t, exec (.mark p tag b) s = .next t ∧
    SeekingMark (fun l => ClosedRequest p ⟨0x06, tag, [b]⟩ .ok l s t) (some (.port p)) b.toNat s t

/-- R29 to R32: a mark in LOCKED: accepted, it moves T_f a quarter of the way, corrects the phase, realigns, tells BAR_REALIGNED, and restarts
the holdover timer; a first outlier is counted and changes nothing else; the second enters SEEKING from this mark. Where the corrected tempo
equals T_g no change waits for the next interval (log entry 20; R7 of Section 1.2). The holdover beat count stays as it stood, also where SEEKING
is entered so (log entry 31). -/
def Obligations.MarkInLocked : Prop :=
  ∀ (p : Port) (tag b : Byte) (s : State) (ref : Count), s.hears p b → s.follower.state = .locked → s.follower.reference = some ref →
    ∃ t, exec (.mark p tag b) s = .next t ∧
      LockedMark (fun l => ClosedRequest p ⟨0x06, tag, [b]⟩ .ok l s t) (some (.port p)) b.toNat ref s t

/-- R12, R15, R28, R29, R34: every start mark (the locking mark, a mark accepted in LOCKED, the mark that returns HOLDOVER to LOCKED) starts a
transport in START_PENDING: RUNNING at the held position, or at tick 0 of the following beat, the beat realigned; T_g becomes T_f with no
correction; the first interval is computed under T_f or under the T_g before, the order of the two being open (log entry 6); the holdover beat
count stays as it stood (log entry 31); TRANSPORT, BAR_REALIGNED and FOLLOW_STATE told where they change. -/
def Obligations.StartMark : Prop :=
  ∀ (p : Port) (tag b : Byte) (s : State) (f : Nat), s.hears p b → s.grid.transport = .startPending → s.grid.ramp = none →
    IsStartMark s f → ∃ t, exec (.mark p tag b) s = .next t ∧
      StartsPending (fun l => ClosedRequest p ⟨0x06, tag, [b]⟩ .ok l s t) (some (.port p)) b.toNat s t

/-- R34, R35, R31, R32: a mark in HOLDOVER within 24 ticks locks again with T_f unchanged, corrects the phase, realigns and tells BAR_REALIGNED;
any other, and every mark in LOST, enters SEEKING from this mark and leaves the grid alone. The holdover beat count stays as it stood (log
entry 31); where the corrected tempo equals T_g no change waits for the next interval (log entry 20; R7 of Section 1.2). -/
def Obligations.MarkInHoldoverOrLost : Prop :=
  ∀ (p : Port) (tag b : Byte) (s : State), s.hears p b → s.follower.state = .holdover ∨ s.follower.state = .lost →
    ∃ t, exec (.mark p tag b) s = .next t ∧
      ReturningMark (fun l => ClosedRequest p ⟨0x06, tag, [b]⟩ .ok l s t) (some (.port p)) b.toNat s t

/-- R25, R26: the REFIN filter: two agreeing samples that differ from the level set it; LOW to HIGH is a rising edge, which under FOLLOW with
source REFIN does, in every state of the Follower, what a mark without beat number and without a marking port does, and is otherwise ignored;
the edge event does the edge's work (log entry 16). As in the statements of a MARK: where the corrected tempo equals T_g no change waits for
the next interval (log entry 20); at a start mark the order of T_f and of the first interval is open (log entry 6); the holdover beat count
stays as it stood (log entry 31). -/
def Obligations.RefinLine : Prop :=
  (∀ (high : Bool) (s : State), s.running = true → ∃ t, exec (.refinSample high) s = .next t ∧
    ((s.follower.refinSample ≠ some high ∨ s.follower.refinLevel = some high) →
      Closed [.follower] s t ∧ t.follower = { s.follower with refinSample := some high }) ∧
    (s.follower.refinSample = some high → s.follower.refinLevel ≠ some high →
      (high = false ∨ s.follower.refinLevel = none ∨ s.grid.source ≠ .follow ∨ s.setup.followSource ≠ .refin) →
      Closed [.follower] s t ∧ t.follower = { s.follower with refinLevel := some high })) ∧
  (∀ s : State, s.running = true → s.follower.refinLevel = some false → s.follower.refinSample = some true →
    exec (.refinSample true) s = exec .refinRisingEdge s) ∧
  ∀ s : State, s.running = true → s.follower.refinLevel ≠ some true → ∃ t, exec .refinRisingEdge s = .next t ∧
    ((s.grid.source ≠ .follow ∨ s.setup.followSource ≠ .refin) →
      Closed [.follower] s t ∧ t.follower = { s.follower with refinSample := some true, refinLevel := some true }) ∧
    (s.grid.source = .follow → s.setup.followSource = .refin →
      ∀ u, u = { s with follower := { s.follower with refinSample := some true, refinLevel := some true } } →
        MarkTaken (fun l => Closed l u t) none 0 u t)

/-- R33: the holdover timer's expiry: HOLDOVER, no correction and T_g = T_f, the counts cleared, the pace timer where no ticks are emitted,
FOLLOW_STATE. Where T_f equals T_g no change waits for the next interval (log entry 20; R7 of Section 1.2). A command given early or late
expires at the due value (log entry 4). -/
def Obligations.HoldoverBegins : Prop :=
  ∀ (s : State) (tm : Timer), s.follower.holdoverTimer = some tm → ∃ t, exec .holdoverTimerExpiry s = .next t ∧
    Closed [.grid, .follower] (s.expired tm) t ∧
    t.grid = { s.grid with
      tempo := s.follower.tempo, correction := none, fresh := if s.follower.tempo = s.grid.tempo then s.grid.fresh else true } ∧
    t.follower = { s.follower with
      state := .holdover, outliers := 0, holdoverBeats := 0, holdoverTimer := none
      paceTimer := if s.grid.transport.emits then none else some ⟨tm.due, s.follower.period⟩ } ∧
    Tells ⟨.followState .holdover .locked s.follower.tempo s.grid.source, false, s.grid.position, none⟩ s t

/-- R12, R34, R35: holdover beats: by the pace timer, a beat below H is counted and the timer runs again; the H-th enters LOST, under FREEWHEEL
leaving the grid alone, under SONG_TEMPO turning the source to INTERNAL: a stopped grid takes the song tempo at once, a pending transport starts
from the held position with the ramp made at its start (log entry 22). By the grid, in COUNT_IN or RUNNING, a tick at a beat boundary counts one,
and the H-th enters LOST with an URGENT FOLLOW_STATE, under FREEWHEEL leaving the grid to its tick alone (the position, a count-in's end, the
next interval under T_g); under SONG_TEMPO it makes a ramp of 4 beats from the present T_g to the active song's tempo, none of whose steps falls
at this boundary, and tells TEMPO_FALLBACK and the FOLLOW_STATE for OFF. The beat count stays as it stands in LOST (log entry 31); where the song
tempo equals T_g no change waits for the next interval (log entry 20; R7 of Section 1.2). A command given early or late expires at the due value
(log entry 4). -/
def Obligations.HoldoverBeats : Prop :=
  (∀ (s : State) (tm : Timer), s.follower.paceTimer = some tm → s.follower.state = .holdover →
    ∃ t, exec .holdoverPaceTimerExpiry s = .next t ∧
    (s.follower.holdoverBeats + 1 < s.setup.holdoverBeats →
      Closed [.follower] (s.expired tm) t ∧
      t.follower = { s.follower with holdoverBeats := s.follower.holdoverBeats + 1, paceTimer := some ⟨tm.due, s.follower.period⟩ }) ∧
    (s.setup.holdoverBeats ≤ s.follower.holdoverBeats + 1 →
      Tells ⟨.followState .lost .holdover s.follower.tempo s.grid.source, true, s.grid.position, none⟩ s t ∧
      (s.setup.onLoss = .freewheel →
        Closed [.follower] (s.expired tm) t ∧
        t.follower = { s.follower with state := .lost, holdoverBeats := s.follower.holdoverBeats + 1, paceTimer := none }) ∧
      (s.setup.onLoss = .songTempo → s.grid.source = .follow → ∀ x, s.activeBank.image = some x →
        Tells ⟨.tempoFallback s.grid.tempo x.tempo, false, s.grid.position, none⟩ s t ∧
        Tells ⟨.followState .off .lost s.follower.tempo .internal, false, s.grid.position, none⟩ s t ∧
        t.follower = { s.follower with
          state := .off, reference := none, intervals := [], outliers := 0, holdoverTimer := none, holdoverBeats := 0
          paceTimer := none } ∧
        (s.grid.transport = .stopped → Closed [.grid, .follower] (s.expired tm) t ∧
          t.grid = { s.grid with
            source := .internal, ramp := none, correction := none, tempo := x.tempo
            fresh := if x.tempo = s.grid.tempo then s.grid.fresh else true }) ∧
        (s.grid.transport = .startPending → Closed [.grid, .follower, .click, .bus, .board] (s.expired tm) t ∧
          t.grid = { s.grid with
            source := .internal, transport := .running, correction := none, ramp := some ⟨s.grid.tempo, x.tempo, 4, 0⟩, fresh := false
            remainder := 25000000 - 25000000 / s.grid.tempo * s.grid.tempo, countdown := some ⟨tm.due, 25000000 / s.grid.tempo⟩ } ∧
          Tells ⟨.transport .running s.grid.position, false, s.grid.position, none⟩ s t)))) ∧
  ∀ (s : State) (tm : Timer) (q : Position), s.grid.countdown = some tm → q = s.grid.position.next s.grid.meter → s.dueAt q = none →
    s.follower.state = .holdover → s.grid.ramp = none → s.grid.correction = none → s.grid.transport.emits = true →
    ∃ t, exec .intervalCountdownExpiry s = .next t ∧
      (s.grid.transport = .countIn → q = ⟨1, 1, 0⟩ → Tells ⟨.transport .running q, false, q, none⟩ s t) ∧
      (q.tick ≠ 0 → t.follower = s.follower) ∧
      (q.tick = 0 → s.follower.holdoverBeats + 1 < s.setup.holdoverBeats →
        t.follower = { s.follower with holdoverBeats := s.follower.holdoverBeats + 1 }) ∧
      (q.tick = 0 → s.setup.holdoverBeats ≤ s.follower.holdoverBeats + 1 →
        Tells ⟨.followState .lost .holdover s.follower.tempo s.grid.source, true, q, none⟩ s t ∧
        (s.setup.onLoss = .freewheel →
          t.follower = { s.follower with state := .lost, holdoverBeats := s.follower.holdoverBeats + 1, paceTimer := none }) ∧
        (s.setup.onLoss = .songTempo → s.grid.source = .follow → ∀ x, s.activeBank.image = some x →
          Closed [.grid, .follower, .click, .bus, .board] (s.expired tm) t ∧
          t.grid = { s.grid.ticked q tm.due with source := .internal, ramp := some ⟨s.grid.tempo, x.tempo, 4, 0⟩ } ∧
          t.follower = { s.follower with
            state := .off, reference := none, intervals := [], outliers := 0, holdoverTimer := none, holdoverBeats := 0
            paceTimer := none } ∧
          Tells ⟨.tempoFallback s.grid.tempo x.tempo, false, q, none⟩ s t ∧
          Tells ⟨.followState .off .lost s.follower.tempo .internal, false, q, none⟩ s t)) ∧
      (¬ s.FallsBack q → Closed [.grid, .follower, .click, .bus, .board] (s.expired tm) t ∧ t.grid = s.grid.ticked q tm.due)

/-- R39, R40: a TAP: the tap sequence by the interval from the last tap; from two intervals on a tap tempo, which under TAP becomes T_f and
T_g, followed in RUNNING by phase correction and elsewhere by the end of any correction record. A change of T_g waits for the next interval, also
where the correction then sets T_g back; where the tap tempo and the corrected tempo both equal T_g none waits (log entry 20; R7 of Section
1.2). -/
def Obligations.TapRequest : Prop :=
  ∀ (p : Port) (tag : Byte) (s : State), s.serves p → s.tap.intervals.length ≤ 4 → ∃ t, exec (.tap p tag) s = .next t ∧
    TapDone (fun l => Completed p ⟨0x05, tag, []⟩ .ok l s t) s.now s t

/-! ## Click and sync outputs (Section 3) -/

/-- R47, R50, R106, R166, R167: what the expiry of a pulse, flash, drive or idle timer changes, and nothing else. A command given early or late
expires at the due value (log entry 4). -/
def Obligations.PulsesEnd : Prop :=
  ∀ (s : State) (tm : Timer),
    (s.click.accentLine = some tm →
      exec (.clickPulseTimerExpiry .accent) s = .next { s.expired tm with click := { s.click with accentLine := none } }) ∧
    (s.click.beatLine = some tm →
      exec (.clickPulseTimerExpiry .beat) s = .next { s.expired tm with click := { s.click with beatLine := none } }) ∧
    (s.click.subLine = some tm →
      exec (.clickPulseTimerExpiry .sub) s = .next { s.expired tm with click := { s.click with subLine := none } }) ∧
    (s.click.clkout = some tm → exec .clkoutPulseTimerExpiry s = .next { s.expired tm with click := { s.click with clkout := none } }) ∧
    (s.board.beatFlash = some tm →
      exec .beatFlashTimerExpiry s = .next { s.expired tm with board := { s.board with beatFlash := none } }) ∧
    (s.board.downbeatFlash = some tm →
      exec .downbeatFlashTimerExpiry s = .next { s.expired tm with board := { s.board with downbeatFlash := none } }) ∧
    (s.board.driveTimer = some tm →
      exec .indicatorDriveEnd s = .next { s.expired tm with board := { s.board with columns := 0, driveTimer := none } }) ∧
    (s.bus.idleTimer = some tm →
      exec .idleTimerExpiry s = .next { s.expired tm with bus := { s.bus with idleTimer := none, selection := .none } })

/-- R9, R44, R45, R47 to R50, R167: at a tick at which no take falls due, in every follow state, the click by the accent entry and the
subdivision, silenced by the mute in RUNNING alone, raises its line for 10,000 µs; CLKOUT is raised at the rate's ticks; the CLICK message joins
REALTIME, or is counted as dropped at 8; the beat flashes start; a port whose setting is BEAT or BAR is told POSITION. A command given early or
late expires at the due value (log entry 4). -/
def Obligations.TickClicks : Prop :=
  ∀ (s : State) (tm : Timer) (p : Position) (k : Option ClickLine), s.grid.countdown = some tm →
    p = s.grid.position.next s.grid.meter → s.dueAt p = none → s.grid.transport.emits = true →
    k = (if s.click.mute = true ∧ (s.grid.transport = .running ∨ p = ⟨1, 1, 0⟩) then none
      else match s.click.entry p.beat with
        | .silent => none
        | .accent => if p.tick = 0 then some .accent else if p.tick % (240 / s.click.subdivision) = 0 then some .sub else none
        | .beat => if p.tick = 0 then some .beat else if p.tick % (240 / s.click.subdivision) = 0 then some .sub else none) →
    ∃ t, exec .intervalCountdownExpiry s = .next t ∧
      t.click.accentLine = (if k = some .accent then some ⟨tm.due, 10000⟩ else s.click.accentLine) ∧
      t.click.beatLine = (if k = some .beat then some ⟨tm.due, 10000⟩ else s.click.beatLine) ∧
      t.click.subLine = (if k = some .sub then some ⟨tm.due, 10000⟩ else s.click.subLine) ∧
      t.click.clkout = (if p.tick % (240 / s.setup.clkoutRate) = 0
        then some ⟨tm.due, min 5000 (3000000000 / (s.setup.clkoutRate * s.grid.tempo))⟩ else s.click.clkout) ∧
      t.click.subdivision = s.click.subdivision ∧ t.click.accents = s.click.accents ∧ t.click.mute = s.click.mute ∧
      t.board.beatFlash = (if p.tick = 0 then some ⟨tm.due, 100000⟩ else s.board.beatFlash) ∧
      t.board.downbeatFlash = (if p.tick = 0 ∧ p.beat = 1 then some ⟨tm.due, 100000⟩ else s.board.downbeatFlash) ∧
      (s.grid.ramp = none → s.grid.correction = none → ∀ q : Port, (s.port q).mask.getLsbD 7 = true → (s.port q).notices.length < 24 →
        ((s.port q).positions = .beat ∧ p.tick = 0 ∨ (s.port q).positions = .bar ∧ p.tick = 0 ∧ p.beat = 1) →
        Told q ⟨.position t.grid.transport s.grid.tempo, false, p, none⟩ t) ∧
      (s.bus.transmission.isSome = true → ∀ (m : ModuleId) (x : ClickLine), s.setup.clickModule = some m → k = some x →
        if s.bus.realtime.length < 8 then
          t.click.drops = s.click.drops ∧ t.bus = { s.bus with realtime := s.bus.realtime ++
            [.click ⟨m, .click s.setup.clickChannel (match x with | .accent => 2 | .beat => 1 | .sub => 0)⟩] }
        else t.bus = s.bus ∧ t.click.drops = if 65535 < s.click.drops + 1 then 65535 else s.click.drops + 1)

/-! ## The key links (Section 4) -/

/-- R55, R56, R66, R67: a character on a link: nothing where the link is disabled; a framing error is counted and sets the gap mark; a good
byte enters the FIFO below 16 and is an overrun at 16, restarts the keep-alive timer of an ALIVE link and makes a SILENT one ALIVE. -/
def Obligations.LinkReception : Prop :=
  ∀ (l : LinkId) (b : Byte) (stop : Bool) (s : State) (k : KeyLink), s.running = true → k = s.link l →
    ∃ t, exec (.keyLinkCharacter l b stop) s = .next t ∧ SameBut (.links :: lineParts) s t ∧ (∀ l', l' ≠ l → t.link l' = s.link l') ∧
      (s.setup.linkEnable.getLsbD l.val = false → t.link l = k) ∧
      (s.setup.linkEnable.getLsbD l.val = true → stop = false → t.link l = { k with framing := min 65535 (k.framing + 1), gap := true }) ∧
      (s.setup.linkEnable.getLsbD l.val = true → stop = true →
        t.link l = { k with
          keepAlive := if k.keepAlive = .silent then .alive else k.keepAlive
          timer := if k.keepAlive = .neverSeen then k.timer else some ⟨s.now, 330000⟩
          fifo := if k.fifo.length < 16 then k.fifo ++ [⟨b, k.gap, s.now⟩] else k.fifo
          overruns := if k.fifo.length < 16 then k.overruns else min 65535 (k.overruns + 1)
          gap := if k.fifo.length < 16 then false else true } ∧
        (k.keepAlive = .silent →
          Tells ⟨.linkState .alive .silent k.framing k.overruns none, false, s.grid.position, some (.link l)⟩ s t))

/-- R66, R67, R100: the keep-alive timer's expiry: the link is SILENT, its FIFO, pending event, parser and channel sustain are cleared and the
other links stand; LINK_STATE tells it with the number of its SOUNDING and SUSTAINED entries, which are released; the other links' entries
stand, the table being stated while a message is being transmitted. A command given early or late expires at the due value (log entry 4). -/
def Obligations.LinkSilence : Prop :=
  ∀ (l : LinkId) (s : State) (tm : Timer), (s.link l).timer = some tm → ∃ t, exec (.keepAliveTimerExpiry l) s = .next t ∧
    Closed [.links, .notes, .banks, .seq, .store] (s.expired tm) t ∧ (∀ l', l' ≠ l → t.link l' = s.link l') ∧
    t.link l = { s.link l with
      fifo := [], event := none, running := none, collected := none, commonLeft := 0, mode := .waitStatus, sustain := 0
      keepAlive := .silent, timer := none } ∧
    Tells ⟨.linkState .silent (s.link l).keepAlive (s.link l).framing (s.link l).overruns
      (some (s.notes.entries.countP (fun e => e.link == l && !e.releasing))), false, s.grid.position, some (.link l)⟩ s t ∧
    (s.bus.transmission.isSome = true →
      (∀ e ∈ t.notes.entries, e.link = l → e.releasing = true) ∧
      t.notes.entries.filter (fun e => e.link != l) = s.notes.entries.filter (fun e => e.link != l))

/-- R57 to R65, R185: the byte a parser takes, by its sort (Table 12-6): a real-time byte leaves the parser alone; a channel status sets the running
status; EXCLUSIVE_START opens an exclusive, a system common status counts its data bytes, and both end the running status; a data byte outside
NORMAL is discarded, the first of two is collected, the last completes a note-on, controller or bend into the link's event, while key and
channel pressure come to nothing (note-off and controller 64 are NoteReleases). A PROGRAM of a link with program-as-cue offers the cue of that
setlist entry, which a FIRM cue of another origin turns away with CUE_FAILED; it is ignored with the setting OFF, beyond the setlist and
during a reset; what the offer changes is stated where the arbiter has nothing to do at the close. A byte with the gap mark finds the parser
reset. -/
def Obligations.ParserTakes : Prop :=
  ∀ (l : LinkId) (s : State) (f : FifoByte) (rest : List FifoByte) (k : KeyLink), (s.link l).event = none →
    (s.link l).fifo = f :: rest →
    k = (if f.gap then { s.link l with fifo := rest, collected := none, running := none, commonLeft := 0, mode := .waitStatus }
      else { s.link l with fifo := rest }) →
    ∃ t, exec (.parserTakeByte l) s = .next t ∧ (∀ l', l' ≠ l → t.link l' = s.link l') ∧
      (248 ≤ f.byte.toNat → f.byte ≠ 0xFE → Closed [.links] s t ∧ t.link l = k) ∧
      (f.byte = 0xFE → Closed [.links] s t ∧ (if k.keepAlive = .neverSeen
        then t.link l = { k with keepAlive := .alive, timer := some ⟨f.arrival, 330000⟩ } ∧
          Tells ⟨.linkState .alive .neverSeen k.framing k.overruns none, false, s.grid.position, some (.link l)⟩ s t
        else t.link l = k)) ∧
      (∀ (c : Channel) (h : Nat) (kind : ChannelKind), f.byte.toNat = 16 * h + c.val →
        (h, kind) ∈ [(8, ChannelKind.noteOff), (9, .noteOn), (10, .keyPressure), (11, .controller), (12, .program), (13, .channelPressure),
          (14, .bend)] →
        Closed [.links] s t ∧ t.link l = { k with running := some (kind, c), collected := none, commonLeft := 0, mode := .normal }) ∧
      (f.byte = 0xF0 → Closed [.links] s t ∧
        t.link l = { k with running := none, collected := none, commonLeft := 0, mode := .exclusive }) ∧
      (∀ n, (f.byte.toNat, n) ∈ [(0xF1, 1), (0xF2, 2), (0xF3, 1), (0xF4, 0), (0xF5, 0), (0xF6, 0), (0xF7, 0)] → Closed [.links] s t ∧
        t.link l = { k with running := none, collected := none, commonLeft := n, mode := .normal }) ∧
      (f.byte.toNat < 128 → k.mode ≠ .normal → Closed [.links] s t ∧ t.link l = k) ∧
      (f.byte.toNat < 128 → k.mode = .normal → k.commonLeft ≠ 0 →
        Closed [.links] s t ∧ t.link l = { k with commonLeft := k.commonLeft - 1 }) ∧
      (f.byte.toNat < 128 → k.mode = .normal → k.commonLeft = 0 →
        (k.running = none → Closed [.links] s t ∧ t.link l = k) ∧
        (∀ kind c, k.running = some (kind, c) → kind ≠ .program → kind ≠ .channelPressure → k.collected = none →
          Closed [.links] s t ∧ t.link l = { k with collected := some f.byte }) ∧
        (∀ c a, k.running = some (.noteOn, c) → k.collected = some a → f.byte ≠ 0 →
          Closed [.links] s t ∧ t.link l = { k with collected := none, event := some (.strike c a.toNat f.byte.toNat) }) ∧
        (∀ c a, k.running = some (.controller, c) → k.collected = some a → a.toNat ≠ 64 →
          Closed [.links] s t ∧ t.link l = { k with collected := none, event := some (.controller c a.toNat f.byte.toNat) }) ∧
        (∀ c a, k.running = some (.bend, c) → k.collected = some a →
          Closed [.links] s t ∧ t.link l = { k with collected := none, event := some (.bend c (f.byte.toNat * 128 + a.toNat)) }) ∧
        (∀ c a, k.running = some (.keyPressure, c) → k.collected = some a → Closed [.links] s t ∧ t.link l = { k with collected := none }) ∧
        (∀ c, k.running = some (.channelPressure, c) → Closed [.links] s t ∧ t.link l = k) ∧
        ∀ c, k.running = some (.program, c) → t.link l = k ∧
          (s.setup.programAsCue.getLsbD l.val = false ∨ s.resetting ≠ .none ∨ s.store.setlist.length ≤ f.byte.toNat →
            Closed [.links] s t) ∧
          (s.setup.programAsCue.getLsbD l.val = true → s.resetting = .none → ∀ n, s.store.setlist[f.byte.toNat]? = some n →
            ((∀ h, s.seq.cue = some h → Yields h (.link l)) → Closed [.links, .banks, .seq, .store] s t ∧
              (s.Quiet → CueEnters (fun ps => Closed (.links :: ps) s t) (s.softCue f.byte.toNat n (.link l)) s t)) ∧
            ∀ h, s.seq.cue = some h → ¬ Yields h (.link l) → Closed [.links] s t ∧
              Tells ⟨.cueFailed .held (some f.byte.toNat) (some n), false, s.grid.position, some (.link l)⟩ s t))

/-! ## Zones, the Layer Engine, held notes (Sections 5 and 6) -/

/-- R62, R63, R92 to R94: a completed note-off, or a note-on with velocity 0: under effective sustain the source's SOUNDING entries become
SUSTAINED and nothing else changes in the table; without it every SOUNDING or SUSTAINED entry of the source is released and the others
stand. A completed controller 64 sets the channel sustain by its value, 64 and above ON; where the effective sustain goes OFF the SUSTAINED
entries of that link and channel are released and the others stand. Stated while a message is being transmitted, so that the arbiter chooses
nothing in the same work (R111). -/
def Obligations.NoteReleases : Prop :=
  (∀ (l : LinkId) (s : State) (f : FifoByte) (rest : List FifoByte) (c : Channel) (a : Byte), (s.link l).event = none →
    (s.link l).fifo = f :: rest → f.gap = false → f.byte.toNat < 128 → (s.link l).mode = .normal → (s.link l).commonLeft = 0 →
    ((s.link l).running = some (.noteOff, c) ∨ (s.link l).running = some (.noteOn, c) ∧ f.byte = 0) →
    (s.link l).collected = some a → s.bus.transmission.isSome = true →
    ∃ t, exec (.parserTakeByte l) s = .next t ∧ t.link l = { s.link l with fifo := rest, collected := none } ∧
      ((s.link l).sustain.getLsbD c.val = true ∨ (s.link l).footSustain = true →
        SameBut (.links :: .notes :: lineParts) s t ∧
        t.notes = { s.notes with entries := s.notes.entries.map (fun e =>
          if e.link = l ∧ e.channel = c ∧ e.key = a.toNat ∧ e.state = .sounding then { e with state := .sustained } else e) }) ∧
      ((s.link l).sustain.getLsbD c.val = false → (s.link l).footSustain = false →
        SameBut ([.links, .notes, .banks, .seq, .store] ++ lineParts) s t ∧
        (∀ e ∈ t.notes.entries, e.link = l → e.channel = c → e.key = a.toNat → e.releasing = true) ∧
        (∀ e ∈ s.notes.entries, ¬(e.link = l ∧ e.channel = c ∧ e.key = a.toNat) → e ∈ t.notes.entries) ∧
        (∀ e ∈ s.notes.entries, e.link = l → e.channel = c → e.key = a.toNat → e.releasing = false →
          (∃ d ∈ e.dests, d.flag ≠ .dropped) →
          ∃ e' ∈ t.notes.entries, e'.serial = e.serial ∧ e'.releasing = true ∧
            e'.dests = e.dests.map (fun d => { d with ended := d.flag == .dropped })))) ∧
  ∀ (l : LinkId) (s : State) (f : FifoByte) (rest : List FifoByte) (c : Channel) (a : Byte), (s.link l).event = none →
    (s.link l).fifo = f :: rest → f.gap = false → f.byte.toNat < 128 → (s.link l).mode = .normal → (s.link l).commonLeft = 0 →
    (s.link l).running = some (.controller, c) → (s.link l).collected = some a → a.toNat = 64 → s.bus.transmission.isSome = true →
    ∃ t, exec (.parserTakeByte l) s = .next t ∧
      t.link l = { s.link l with fifo := rest, collected := none, sustain := (t.link l).sustain } ∧
      (∀ x : Channel, (t.link l).sustain.getLsbD x.val = if x = c then decide (64 ≤ f.byte.toNat) else (s.link l).sustain.getLsbD x.val) ∧
      (64 ≤ f.byte.toNat ∨ (s.link l).sustain.getLsbD c.val = false ∨ (s.link l).footSustain = true →
        SameBut (.links :: lineParts) s t) ∧
      (f.byte.toNat < 64 → (s.link l).sustain.getLsbD c.val = true → (s.link l).footSustain = false →
        SameBut ([.links, .notes, .banks, .seq, .store] ++ lineParts) s t ∧
        (∀ e ∈ t.notes.entries, e.link = l → e.channel = c → e.state ≠ .sustained) ∧
        ∀ e ∈ s.notes.entries, ¬(e.link = l ∧ e.channel = c ∧ e.state = .sustained) → e ∈ t.notes.entries)

/-- R70 to R77, R89 to R91: the Layer Engine takes the event of the first link after the one served last that has one it can take, or nothing.
A strike counts the zones it matches after the fourth as layer overflow. With destinations and a free place in the table it makes an entry of
the ACTIVE bank, puts key-on items into the queue while it holds fewer than 32, the destinations beyond being DROPPED and counted, releases an
older entry of the same source, and leaves the others; at 128 entries it is dropped and counted, and NOTE_TABLE_FULL tells it at most once in a
bar; without destinations nothing is made. A controller or bend is offered for each zone that passes it, in index order (R77). Stated while a
message is being transmitted, so that the arbiter chooses nothing in the same work (R111). -/
def Obligations.EngineTakes : Prop :=
  (∀ s : State, (∀ l, ¬ s.Takeable l) → exec .layerEngineTakeEvent s = .next s) ∧
  (∀ (s : State) (l : LinkId) (c : Channel) (key v : Nat) (zs : List Zone) (d : List (Dest × Nat)),
    s.TakesNext l → (s.link l).event = some (.strike c key v) → s.bus.transmission.isSome = true → zs = s.activeBank.struck l c key v →
    d = destinations key v (zs.take 4) → ∃ t, exec .layerEngineTakeEvent s = .next t ∧
      SameBut ([.links, .layer, .notes, .banks, .seq, .store] ++ lineParts) s t ∧
      t.link l = { s.link l with event := none } ∧ (∀ l', l' ≠ l → t.link l' = s.link l') ∧ t.layer.lastServed = l ∧
      t.activeBank = { s.activeBank with overflow :=
        if zs.length ≤ 4 then s.activeBank.overflow else min 65535 (s.activeBank.overflow + (zs.length - 4)) } ∧
      (d = [] → t.notes = s.notes ∧ t.layer.keyOns = s.layer.keyOns) ∧
      (d ≠ [] → 128 ≤ s.notes.entries.length → t.layer.keyOns = s.layer.keyOns ∧
        if s.notes.lastBar = some s.grid.position.bar then
          t.notes = { s.notes with drops := min 65535 (s.notes.drops + 1), dropsSince := s.notes.dropsSince + 1 }
        else t.notes = { s.notes with
            drops := min 65535 (s.notes.drops + 1), dropsSince := 0, lastBar := some s.grid.position.bar } ∧
          Tells ⟨.noteTableFull c key (s.notes.dropsSince + 1), false, s.grid.position, some (.link l)⟩ s t) ∧
      (d ≠ [] → s.notes.entries.length < 128 → ∀ r, r = 32 - s.layer.keyOns.length →
        t.layer.keyOns = s.layer.keyOns ++ (d.zipIdx.map (fun x => (⟨s.notes.nextSerial, x.2, x.1.2⟩ : KeyOnItem))).take r ∧
        t.layer.keyOnDrops = (if d.length ≤ r then s.layer.keyOnDrops else min 65535 (s.layer.keyOnDrops + (d.length - r))) ∧
        t.notes.nextSerial = s.notes.nextSerial + 1 ∧
        (⟨s.notes.nextSerial, l, c, key, v, s.banks.active, s.now, .sounding,
          d.zipIdx.map (fun x => { x.1.1 with flag := if x.2 < r then .queued else .dropped })⟩ : Entry) ∈ t.notes.entries ∧
        (∀ e ∈ t.notes.entries, e.isFrom l c key = true → e.serial ≠ s.notes.nextSerial → e.releasing = true) ∧
        ∀ e ∈ s.notes.entries, e.isFrom l c key = false → e.serial ≠ s.notes.nextSerial → e ∈ t.notes.entries)) ∧
  ∀ (s : State) (l : LinkId) (c : Channel) (e : KeyEvent) (id : ControlId) (v : Nat),
    s.TakesNext l → (s.link l).event = some e → (id = .bend ∧ e = .bend c v ∨ ∃ n, id = .controller n ∧ e = .controller c n v) →
    s.bus.transmission.isSome = true → ∃ t, exec .layerEngineTakeEvent s = .next t ∧
      SameBut ([.links, .layer] ++ lineParts) s t ∧ t.link l = { s.link l with event := none } ∧ (∀ l', l' ≠ l → t.link l' = s.link l') ∧
      t.layer = (s.activeBank.passing l c).foldl (fun y z => y.offered ⟨z.module, z.channel, id, v⟩) { s.layer with lastServed := l }

/-- R71 to R73: what the model forms of a strike are the zones it matches (R71) and the destinations of its first four, at most four, no two
alike, keys 0 to 127, every velocity the one Table 5-2 and the zone's level give, 1 to 127. -/
def Obligations.StrikeDestinations : Prop :=
  ∀ (b : Bank) (l : LinkId) (c : Channel) (key v : Nat) (d : List (Dest × Nat)), 1 ≤ v → v ≤ 127 →
    (∀ z ∈ b.zones, z.level ≤ 127 ∧ z.fixedVelocity ≤ 127) →
    d = formDests key v [] ((b.matching l c key v).take 4) →
    b.matching l c key v = b.struck l c key v ∧ d = destinations key v ((b.struck l c key v).take 4) ∧
    d.length ≤ 4 ∧ d.Pairwise (fun x y => ¬ (x.1.module = y.1.module ∧ x.1.channel = y.1.channel ∧ x.1.key = y.1.key)) ∧
      ∀ x ∈ d, x.1.key ≤ 127 ∧ 1 ≤ x.2 ∧ x.2 ≤ 127

/-- R80, R81: TOGGLE_ZONE: the index and then the setting are checked; the zone's enabled state in the ACTIVE bank takes its new value, the
other zones' states stand, and the zone's level slot is filled from its pedal or emptied (the slots stated while a message is being
transmitted). -/
def Obligations.ToggleZoneRequest : Prop :=
  ∀ (p : Port) (tag i x : Byte) (s : State), s.serves p → s.activeBank.enabled.length = s.activeBank.zones.length →
    ∃ t, exec (.toggleZone p tag i x) s = .next t ∧
    (s.activeBank.zones.length ≤ i.toNat → Completed p ⟨0x21, tag, [i, x]⟩ (.badField 1) [] s t) ∧
    (i.toNat < s.activeBank.zones.length → 2 < x.toNat → Completed p ⟨0x21, tag, [i, x]⟩ (.badField 2) [] s t) ∧
    ∀ on, i.toNat < s.activeBank.zones.length → x.toNat ≤ 2 →
      on = (if x = 0 then false else if x = 1 then true else !s.activeBank.zoneOn i.toNat) →
      ZoneSet (fun l => ClosedRequest p ⟨0x21, tag, [i, x]⟩ .ok l s t) i.toNat on s t

/-- R82, R83: EDIT_ZONE by its fields, the first that fails being named, the index of STANDBY being held against the bank that is not ACTIVE also
while that one is RETAINED (the model's choice, log entry 39): refused where the bank has no song (EMPTY_SLOT) or, for the other bank,
where a cue is LOADING or ARMED or the bank RETAINED (BUSY); accepted, the zone the record stands for replaces the zone or joins the end, and
its enabled state is the record's; in the ACTIVE bank its level slot is then filled from its pedal where the zone is enabled and empty
otherwise (the slots stated while a message is being transmitted). -/
def Obligations.EditZoneRequest : Prop :=
  ∀ (p : Port) (tag bank i : Byte) (r : List Byte) (s : State), s.serves p → r.length = 14 →
    ∃ t, exec (.editZone p tag bank i r) s = .next t ∧
    (∀ n, firstFailing (s.editChecks bank i r) = some n → Completed p ⟨0x20, tag, bank :: i :: r⟩ (.badField n) [] s t) ∧
    (firstFailing (s.editChecks bank i r) = none → bank = 0 →
      (s.activeBank.image = none → Completed p ⟨0x20, tag, bank :: i :: r⟩ .emptySlot [] s t) ∧
      ∀ x, s.activeBank.image = some x →
        ClosedRequest p ⟨0x20, tag, bank :: i :: r⟩ .ok [.banks, .layer] s t ∧
        ∃ z, ZoneMeans r z ∧
          t.activeBank = { s.activeBank with
            image := some { x with zones := if i.toNat < x.zones.length then x.zones.set i.toNat z else x.zones ++ [z] }
            enabled := if i.toNat < s.activeBank.enabled.length then s.activeBank.enabled.set i.toNat z.enabled
              else s.activeBank.enabled ++ [z.enabled] } ∧
          (s.bus.transmission.isSome = true → ∀ v : Option Nat, v = (match z.pedal with
              | some q => if z.enabled then some ((s.pedal q).output * z.level / 127) else none
              | none => none) →
            t.layer = { s.layer with levels :=
              if i.toNat < s.layer.levels.length then s.layer.levels.set i.toNat v else s.layer.levels ++ [v] })) ∧
    (firstFailing (s.editChecks bank i r) = none → bank = 1 →
      (s.cueIs .loading = true ∨ s.cueIs .armed = true ∨ s.banks.retained = true →
        Completed p ⟨0x20, tag, bank :: i :: r⟩ .busy [] s t) ∧
      (s.cueIs .loading = false → s.cueIs .armed = false → s.banks.retained = false →
        (s.standbyBank.image = none → Completed p ⟨0x20, tag, bank :: i :: r⟩ .emptySlot [] s t) ∧
        ∀ x, s.standbyBank.image = some x →
          Completed p ⟨0x20, tag, bank :: i :: r⟩ .ok [.banks] s t ∧ t.activeBank = s.activeBank ∧
          ∃ z, ZoneMeans r z ∧ t.standbyBank = { s.standbyBank with
            image := some { x with zones := if i.toNat < x.zones.length then x.zones.set i.toNat z else x.zones ++ [z] }
            enabled := if i.toNat < s.standbyBank.enabled.length then s.standbyBank.enabled.set i.toNat z.enabled
              else s.standbyBank.enabled ++ [z.enabled] }))

/-- R64, R85, R101, R112, R121, R125, R131: PANIC: the all-modules SILENCE is placed at the head of REALTIME unless one waits there, from a full
queue the item at the back being removed and counted as a dropped click; a SILENCE that is being transmitted counts as begun; on an idle bus it
begins at once. The Held-Note Table, the key-on and controller queues and the level slots are empty; every sustain is OFF and no strike is
pending; no bank is RETAINED, and a WAITING cue begins to load in the bank so freed. -/
def Obligations.PanicRequest : Prop :=
  ∀ (p : Port) (tag : Byte) (s : State), s.serves p → ∃ t, exec (.panic p tag) s = .next t ∧
    Completed p ⟨0x22, tag, []⟩ .ok [.click, .links, .layer, .notes, .bus, .banks, .seq, .store] s t ∧
    t.notes.entries = [] ∧ t.layer.keyOns = [] ∧ t.layer.controls = [] ∧ (∀ x ∈ t.layer.levels, x = none) ∧
    t.layer.levels.length = s.layer.levels.length ∧ t.banks.retained = false ∧
    (∀ c, s.seq.cue = some c → c.state = .waiting → s.banks.retained = true → s.seq.phase = .none → s.store.busy = false → BeginsToLoad c t) ∧
    (∀ l, t.link l = { s.link l with
      sustain := 0, footSustain := false
      event := match (s.link l).event with | some (.strike _ _ _) => none | x => x }) ∧
    ∀ (q : List RealtimeItem) (n : Nat), (q, n) = s.silencePlaced → t.click = { s.click with drops := n } ∧
      (s.bus.transmission.isSome = true → t.bus = { s.bus with realtime := q }) ∧
      (s.bus.transmission = none → q.head? = some .silence → t.bus.realtime = q.tail ∧ t.bus.selection = .all ∧
        ∃ x, t.bus.transmission = some x ∧ x.target = none ∧ x.message = .silence 15 ∧ x.addressed = (s.bus.selection != .all))

/-! ## The module bus (Section 7) -/

/-- R95 to R97, R106, R111 to R119, R123, R139, Tables 7-5 and 7-6: the end of a transmission: the bus is free and the idle timer runs; the end
of a TAKE entry's message restarts the settle timer while no reset is in progress (log entry 15); where nothing waits the bus stays idle with
its selection. A SILENCE or a CLICK for a READY module at the head of REALTIME is served first. LIVE, where nothing of CHANGE or PASS stands
ahead of it, sends the KEY_OFF of its first candidate that is due, else its first key-on, controller item or level slot; a candidate that sends
nothing is ended, cancelled or waits; where no module is READY, Table 7-6 drops or keeps every item. A pending program entry sends its PROGRAM
and then its preset LEVEL. With REALTIME and LIVE empty and both modules READY, CHANGE comes before PASS in the orders 0, 2 and 3 and after it
in 1, 4 and 5. The first candidate belongs to the oldest release, its sequence numbers lying within half of their range. A command given early
or late ends the transmission at its due value (log entry 4). -/
def Obligations.TransmissionEnds : Prop :=
  (∀ (s : State) (x : Transmission), s.bus.transmission = some x → x.forRestart = false → s.resetting ≠ .silence →
    ∃ t, exec .endOfTransmission s = .next t ∧ SameBut (arbiterParts ++ lineParts) (s.expired x.timer) t ∧
      (s.notes.candidates = [] → s.layer.keyOns = [] → s.layer.controls = [] → (∀ v ∈ s.layer.levels, v = none) →
        s.bus.realtime = [] → s.bus.pending = [] → s.bus.pass = [] →
        t.bus = { s.bus with transmission := none, idleTimer := some ⟨x.timer.due, 100000⟩ } ∧
        t.seq = (if x.fromTake = true ∧ s.resetting = .none then { s.seq with settle := .running ⟨x.timer.due, 20000⟩ } else s.seq) ∧
        SameBut (.bus :: .seq :: lineParts) (s.expired x.timer) t)) ∧
  (∀ (s : State) (x : Transmission), s.bus.transmission = some x → x.forRestart = false → s.resetting ≠ .silence →
    ∃ t, exec .endOfTransmission s = .next t ∧
      (∀ i rest, s.bus.realtime = .click i :: rest → (s.module i.module).mode = .ready →
        t.bus.realtime = rest ∧ Begins (some i.module) i.message x.timer.due s t) ∧
      (∀ e es i is, s.bus.realtime = [] → s.notes.candidates = [] → s.layer.keyOns = [] → s.layer.controls = [] →
        (∀ v ∈ s.layer.levels, v = none) → s.bus.pending = e :: es → s.bus.pass = i :: is → e.preset = none → e.kind = .resync →
        (s.module e.module).mode = .ready → (s.module i.module).mode = .ready → s.setup.classOrder ≤ 5 →
        ∃ y, t.bus.transmission = some y ∧
          if s.setup.classOrder = 0 ∨ s.setup.classOrder = 2 ∨ s.setup.classOrder = 3 then
            y.target = some e.module ∧ y.message = .program e.channel e.program ∧ t.bus.pending = es ∧ t.bus.pass = i :: is ∧
              t.bus.cell e.module e.channel = some e.program
          else y.target = some i.module ∧ y.message = i.message ∧ t.bus.pending = e :: es ∧ t.bus.pass = is)) ∧
  (∀ (s : State) (x : Transmission), s.bus.transmission = some x → x.forRestart = false → s.resetting ≠ .silence →
    ∃ t, exec .endOfTransmission s = .next t ∧
      (∀ rest, s.bus.realtime = .silence :: rest → t.bus.realtime = rest ∧ Begins none (.silence 15) x.timer.due s t) ∧
      (s.LiveNext → LiveServes x.timer.due s t) ∧ (s.OnlyKeys → KeyOffEnds s t) ∧ NoneReady s t ∧ ChangeServes x.timer.due s t) ∧
  ∀ (n : Notes) (k : Candidate) (ks : List Candidate) (base : Count), n.candidates = k :: ks →
    (∀ e ∈ n.entries, ∀ q, e.state = .releasing q → (q - base).toNat < 2147483648) →
    ∃ e ∈ n.entries, ∃ q, e.state = .releasing q ∧ e.serial = k.serial ∧ (∃ d, e.dests[k.dest]? = some d ∧ d.ended = false) ∧
      (∀ j d, j < k.dest → e.dests[j]? = some d → d.ended = true) ∧
      ∀ f ∈ n.entries, ∀ r, f.state = .releasing r → (∃ d ∈ f.dests, d.ended = false) → (q - base).toNat ≤ (r - base).toNat

/-- R108 to R110: BUSY asserted takes READY to LOADING with the busy timer at the stall limit; deasserted, LOADING and STALLED return to
READY, STALLED with its resync posts; the busy timer's expiry takes the module to STALLED and empties the PASS queue of its items, each counted
as discarded (stated while a message is being transmitted). MODULE_STATE tells each of these changes, the return from STALLED with the number of
its resync posts; in the other states only the filter changes. An expiry given early or late works at the due value (log entry 4). -/
def Obligations.ModuleStates : Prop :=
  (∀ (m : ModuleId) (s : State), s.running = true → (s.module m).busy = false →
    ∃ t, exec (.moduleBusyAsserted m) s = .next t ∧ SameBut (arbiterParts ++ lineParts) s t ∧ (t.module m).busy = true ∧
      (∀ n, n ≠ m → (t.module n).mode = (s.module n).mode ∧ (t.module n).timer = (s.module n).timer) ∧
      ((s.module m).mode = .ready → (t.module m).mode = .loading ∧
        (t.module m).timer = some ⟨s.now, s.setup.stallMillis * 1000⟩ ∧
        Tells ⟨.moduleState m .loading .ready none, false, s.grid.position, none⟩ s t) ∧
      ((s.module m).mode ≠ .ready → t.module m = { s.module m with busy := true, agreeing := 0 })) ∧
  (∀ (m : ModuleId) (s : State), s.running = true → (s.module m).busy = true →
    ∃ t, exec (.moduleBusyDeasserted m) s = .next t ∧ SameBut (arbiterParts ++ lineParts) s t ∧ (t.module m).busy = false ∧
      ((s.module m).mode = .loading → (t.module m).mode = .ready ∧ (t.module m).timer = none ∧
        Tells ⟨.moduleState m .ready .loading none, false, s.grid.position, none⟩ s t) ∧
      ((s.module m).mode = .stalled → (t.module m).mode = .ready ∧ (t.module m).timer = none ∧
        Tells ⟨.moduleState m .ready .stalled (some (s.resyncs m).length), false, s.grid.position, none⟩ s t ∧
        (s.bus.transmission.isSome = true → s.seq.phase = .none →
          ∀ e ∈ s.activeBank.programs, e.module = m → ∀ v, s.bus.cell m e.channel = some v →
            ∃ x ∈ t.bus.pending, x.module = m ∧ x.channel = e.channel ∧
              ((∀ y ∈ s.bus.pending, ¬ (y.module = m ∧ y.channel = e.channel)) → x.program = v ∧ x.kind = .resync))) ∧
      ((s.module m).mode = .ready ∨ (s.module m).mode = .disabled → t.module m = { s.module m with busy := false, agreeing := 0 })) ∧
  ∀ (m : ModuleId) (s : State) (tm : Timer), (s.module m).timer = some tm →
    ∃ t, exec (.busyTimerExpiry m) s = .next t ∧ SameBut (arbiterParts ++ lineParts) (s.expired tm) t ∧
      (t.module m).mode = .stalled ∧ (t.module m).timer = none ∧ (∀ i ∈ t.bus.pass, i.module ≠ m) ∧
      (s.bus.transmission.isSome = true → t.bus.pass = s.bus.pass.filter (fun i => i.module != m) ∧
        ((s.module m).discards ≤ 65535 →
          (t.module m).discards = min 65535 ((s.module m).discards + s.bus.pass.countP (fun i => i.module == m))) ∧
        ∀ n, n ≠ m → t.module n = s.module n) ∧
      Tells ⟨.moduleState m .stalled (s.module m).mode none, true, s.grid.position, none⟩ s t

/-- R120: a PASS by its checked fields, the first that fails being named: the module, the kind, the channel, the first value in the range of
LEVEL, CONTROL (not controller 64), BEND, PROGRAM or CLICK, a CONTROL's value; the message they stand for joins the back of the PASS queue below
16 and is refused QUEUE_FULL at 16. -/
def Obligations.PassRequest : Prop :=
  ∀ (p : Port) (tag m k c : Byte) (v1 : BitVec 16) (v2 : Byte) (s : State) (d : List Byte), s.serves p →
    d = [m, k, c] ++ word2 v1 ++ [v2] → ∃ t, exec (.pass p tag m k c v1 v2) s = .next t ∧
    (∀ n, firstFailing (passChecks m k c v1.toNat v2) = some n → Completed p ⟨0x23, tag, d⟩ (.badField n) [] s t) ∧
    (firstFailing (passChecks m k c v1.toNat v2) = none → ∃ i, PassMeans m k c v1.toNat v2 i ∧
      (16 ≤ s.bus.pass.length → Completed p ⟨0x23, tag, d⟩ .queueFull [] s t) ∧
      (s.bus.pass.length < 16 → ClosedRequest p ⟨0x23, tag, d⟩ .ok [.bus] s t ∧
        (s.bus.transmission.isSome = true → t.bus = { s.bus with pass := s.bus.pass ++ [i] })))

/-- R122, R142, R177, R22, R41, R53, R68, R85, R102, R158, R168, R181: RESTART in PREP empties the cue slot, abandons the fetch of a LOADING cue,
the other fetches standing, stops the sequencer's timers and puts the all-modules SILENCE on an idle bus, and is refused LOCKED in SHOW; on a
busy bus that SILENCE begins when the message in progress ends. At its end the blocks take their reset values: grid, Follower (its last REFIN
sample empty, log entry 36), tap timer, clicks, links, layer, notes, banks and sequencer; the bus with its queues, cells, selection, idle timer,
busy timers and discard counts, the module states, BUSY filters and sample counts standing until setup is read (log entry 13); the pedal board
by Table 10-8, its pedals' states by the calibration in use (log entry 13); a fetch of setup begins in an IDLE store and joins the back of the
queue in any other, the rest of the store standing (setlist image and SUPPLY_LOW filter among it, log entries 13 and 25) but for the part mode
and the active slot, and timebase, setup in use, flash and received requests stand. An end given early or late works at the due value (log
entry 4). -/
def Obligations.Restart : Prop :=
  (∀ (p : Port) (tag : Byte) (s : State), s.serves p → ∃ t, exec (.restart p tag) s = .next t ∧
    (s.store.mode = .show → Completed p ⟨0x43, tag, []⟩ .locked [] s t) ∧
    (s.store.mode = .prep → Completed p ⟨0x43, tag, []⟩ .ok [.resetting, .seq, .store, .bus] s t ∧ t.resetting = .silence ∧
      t.seq = { s.seq with cue := none, settle := .idle, retention := none } ∧
      t.otherFetches = s.otherFetches ∧ (s.fetchCount .cue = (s.cueIs .loading).toNat → t.fetchCount .cue = 0) ∧
      (s.cueIs .loading = false → t.store = s.store) ∧
      (s.bus.transmission.isSome = true → t.bus = s.bus) ∧
      (s.bus.transmission = none → ∃ x, t.bus.transmission = some x ∧ x.target = none ∧ x.message = .silence 15 ∧
        x.forRestart = true ∧ Begins none (.silence 15) s.now s t))) ∧
  (∀ (s : State) (x : Transmission), s.bus.transmission = some x → x.forRestart = false → s.resetting = .silence →
    ∃ t, exec .endOfTransmission s = .next t ∧ SameBut [.bus] (s.expired x.timer) t ∧ Begins none (.silence 15) x.timer.due s t ∧
      t.bus = { s.bus with transmission := t.bus.transmission, selection := .all, idleTimer := none } ∧
      ∃ y, t.bus.transmission = some y ∧ y.forRestart = true) ∧
  ∀ (s : State) (x : Transmission), s.bus.transmission = some x → x.forRestart = true → ∃ t, exec .restartSilenceEnd s = .next t ∧
    exec .endOfTransmission s = .next t ∧
    SameBut ([.resetting, .grid, .follower, .tap, .click, .links, .layer, .notes, .bus, .banks, .seq, .store, .board] ++ portParts)
      (s.expired x.timer) t ∧
    t.resetting = .setup ∧ t.grid = Grid.initial ∧ t.follower = Follower.initial ∧ t.tap = TapTimer.initial ∧ t.click = Click.initial ∧
    (∀ l, t.link l = KeyLink.initial) ∧ t.layer = Layer.initial ∧ t.notes = Notes.initial ∧ t.banks = Banks.initial ∧
    t.seq = Sequencer.initial ∧ t.bus.transmission = none ∧ t.bus.pending = [] ∧ t.bus.realtime = [] ∧ t.bus.pass = [] ∧
    t.bus.selection = .none ∧ t.bus.idleTimer = none ∧ (∀ m c, t.bus.cell m c = none) ∧
    (∀ m, t.module m = { s.module m with timer := none, discards := 0 }) ∧ BoardRestarted x.timer.due s t ∧
    t.store = { s.store with
      mode := .prep, activeSlot := none
      activity := if s.store.activity = .idle then .fetching ⟨.setup, 0⟩ else s.store.activity
      queue := if s.store.activity = .idle then s.store.queue else s.store.queue ++ [⟨.setup, 0⟩] } ∧
    (∀ q, (t.port q).queue = ([], false, 0) ∧ (t.port q).mask = BitVec.allOnes 22 ∧ (t.port q).positions = .off ∧
      (t.port q).buffer = (s.port q).buffer ∧ (t.port q).inService = (s.port q).inService)

/-! ## Song changes (Section 8) -/

/-- R127 to R131, R157: CUE, CANCEL_CUE and SETLIST_STEP: the first field that fails, or the end of the list, refused; a SOFT cue, or one of
the same origin, yields the slot with CUE_SUPERSEDED, a FIRM one of another origin holds it (CUE_HELD); an accepted cue is WAITING, or LOADING
at once where its bank and the store allow it, the fetch of the one it replaces abandoned and the bank of an ARMED one EMPTY; a step goes from
the entry of a held SETLIST cue, else from the setlist position. -/
def Obligations.CueRequests : Prop :=
  (∀ (p : Port) (tag kind target boundary : Byte) (bar : BitVec 16) (firm : Byte) (s : State) (d : List Byte), s.serves p →
    d = [kind, target, boundary] ++ word2 bar ++ [firm] → ∃ t, exec (.cue p tag kind target boundary bar firm) s = .next t ∧
    (∀ n, firstFailing (s.cueChecks kind target boundary bar.toNat firm) = some n → Completed p ⟨0x10, tag, d⟩ (.badField n) [] s t) ∧
    (firstFailing (s.cueChecks kind target boundary bar.toNat firm) = none → ∃ c, s.CueMeans p kind target boundary bar.toNat firm c ∧
      (∀ h, s.seq.cue = some h → ¬ Yields h (.port p) → Completed p ⟨0x10, tag, d⟩ .cueHeld [] s t) ∧
      ((∀ h, s.seq.cue = some h → Yields h (.port p)) → CueEnters (fun l => Completed p ⟨0x10, tag, d⟩ .ok l s t) c s t))) ∧
  (∀ (p : Port) (tag : Byte) (s : State), s.serves p → ∃ t, exec (.cancelCue p tag) s = .next t ∧
    (s.seq.cue = none → Completed p ⟨0x11, tag, []⟩ .ok [] s t) ∧
    ∀ h, s.seq.cue = some h →
      (¬ Yields h (.port p) → Completed p ⟨0x11, tag, []⟩ .cueHeld [] s t) ∧
      (Yields h (.port p) → CueCancelled (fun l => Completed p ⟨0x11, tag, []⟩ .ok l s t) (.port p) h s t)) ∧
  ∀ (p : Port) (tag x : Byte) (s : State), s.serves p → ∃ t, exec (.setlistStep p tag x) s = .next t ∧
    (x ≠ 1 → x ≠ 0xFF → Completed p ⟨0x13, tag, [x]⟩ (.badField 1) [] s t) ∧
    (x = 1 ∨ x = 0xFF → ∀ n, n = s.stepEntry (x == 1) →
      (n < 0 ∨ (s.store.setlist.length : Int) ≤ n → Completed p ⟨0x13, tag, [x]⟩ .endOfList [] s t) ∧
      ∀ k, 0 ≤ n → s.store.setlist[n.toNat]? = some k →
        (∀ h, s.seq.cue = some h → ¬ Yields h (.port p) → Completed p ⟨0x13, tag, [x]⟩ .cueHeld [] s t) ∧
        ((∀ h, s.seq.cue = some h → Yields h (.port p)) →
          CueEnters (fun l => Completed p ⟨0x13, tag, [x]⟩ .ok l s t) (s.softCue n.toNat k (.port p)) s t))

/-- R134, R10, R12, R13, R15, R18, R21, R34, R36, R37, R52, R84, R135 to R138: TAKE_NOW: an ARMED cue is taken at once: in a stopped grid without
a tick, at 1.1.0 under the new song's tempo; where ticks are emitted with a tick at this instant, at 1.1.0 or at the start of the new song's
count-in, the interval after it computed with r = 0; a pending transport stays pending or, into a song that does not follow, starts, its first
tick coming after the new tempo is set (log entry 21); the level slots are formed; the Follower is turned on or off where the source changes,
FOLLOW_STATE told, and otherwise stands but for the T_f of a TAP song and a holdover beat that the tick counts, the count standing in LOST (log
entry 31; where it is the H-th under SONG_TEMPO, TakeAtTick says what the tick does); TAKEN and a change of transport are told; a cue that is not
ARMED takes the boundary IMMEDIATE; an empty slot replies OK. -/
def Obligations.TakeNowRequest : Prop :=
  ∀ (p : Port) (tag : Byte) (s : State), s.serves p → ∃ t, exec (.takeNow p tag) s = .next t ∧
    TakeNowDone (fun l => ClosedRequest p ⟨0x12, tag, []⟩ .ok l s t) s.now s t

/-- R10, R14, R15, R133, R135 to R138, R18, R19, R21, R34, R36, R37, R52, R84: the take that falls due at a tick: the new song's tick carries
1.1.0, or its count-in's first bar where the transport counts in; an INTERNAL song ramps from the present T_g, or takes its tempo for the
interval after the tick, as a TAP song does; a FOLLOW song keeps T_g, and where the source stays FOLLOW a correction record, which counts this
tick; the Follower is turned on or off where the source changes, and otherwise stands but for the T_f of a TAP song and a holdover beat that the
tick counts (the count standing in LOST, log entry 31), the H-th falling back under SONG_TEMPO to the tempo of the song just taken; the level
slots are formed, TAKEN, FOLLOW_STATE and the end of a count-in told. Where the take leaves T_g at the same value r is kept (log entry 20; R7 of
Section 1.2). A command given early or late expires at the due value (log entry 4). -/
def Obligations.TakeAtTick : Prop :=
  ∀ (s : State) (tm : Timer) (c : Cue) (x : Song), s.grid.countdown = some tm →
    s.dueAt (s.grid.position.next s.grid.meter) = some c → s.standbyBank.image = some x →
    s.grid.transport.emits = true → ∃ t, exec .intervalCountdownExpiry s = .next t ∧
      Closed (.board :: tookOverParts) (s.expired tm) t ∧ t.activeBank = s.standbyBank ∧
      (s.TakeFallsBack x → s.grid.source = .follow → s.grid.correction = none →
        t.grid.source = .internal ∧ t.grid.tempo = s.grid.tempo ∧ t.grid.ramp = some ⟨s.grid.tempo, x.tempo, 4, 0⟩ ∧
        t.follower.state = .off ∧ t.follower.tempo = s.follower.tempo ∧
        Tells ⟨.followState .lost .holdover s.follower.tempo .follow, true, t.grid.position, none⟩ s t ∧
        Tells ⟨.tempoFallback s.grid.tempo x.tempo, false, t.grid.position, none⟩ s t) ∧
      (¬ s.TakeFallsBack x → TookOver x c.takenPlace c.origin tm.due s.grid.tempo s.keptFollower s t) ∧
      (if s.grid.transport = .countIn ∧ s.grid.position.next s.grid.meter ≠ ⟨1, 1, 0⟩ ∧ 1 ≤ x.countIn then
        t.grid.transport = .countIn ∧ t.grid.position = ⟨1 - (x.countIn : Int), 1, 0⟩
      else t.grid.transport = .running ∧ t.grid.position = ⟨1, 1, 0⟩) ∧
      (¬ s.TakeFallsBack x → (t.grid.tempo, t.grid.correction) = s.takenTick x ∧
        t.grid.ramp = if x.source = .internal ∧ 1 ≤ x.rampBeats then some ⟨s.grid.tempo, x.tempo, x.rampBeats, 0⟩ else none) ∧
      ∃ r, r = (if x.takenTempo true s.grid.tempo ≠ s.grid.tempo ∨ t.grid.tempo ≠ s.grid.tempo ∨ s.grid.fresh = true then 0
          else s.grid.remainder) ∧
        t.grid.countdown = some ⟨tm.due, (25000000 + r) / t.grid.tempo⟩

/-- R99, R108 to R110, R117, R125, R131, R139 to R141: the settle timer's expiry, and with the timer expired each change of a module's state and
the leaving of a TAKE entry at the beginning of its last message (log entry 15), settles the change where no TAKE entry waits for a module that
could take it and no module of the take is LOADING, and a WAITING cue then begins to load where its bank and the store allow it; the retention
timer's expiry releases every SOUNDING or SUSTAINED entry of a RETAINED bank, telling FORCED_RELEASE; where no entry names that bank any more it
is STANDBY, and a WAITING cue begins to load. An expiry given early or late works at the due value (log entry 4). -/
def Obligations.SettleAndRetention : Prop :=
  (∀ (s : State) (tm : Timer), s.seq.settle = .running tm → s.bus.transmission.isSome = true → s.seq.phase = .switching →
    ∃ t, exec .settleTimerExpiry s = .next t ∧ SameBut ([.bus, .banks, .seq, .store] ++ lineParts) (s.expired tm) t ∧
      (s.Owes → t.seq = { s.seq with settle := .expired } ∧ t.bus = s.bus) ∧ (¬ s.Owes → SettleDone tm.due s.bus.pending s t)) ∧
  (∀ (m : ModuleId) (s u : State), s.running = true → (s.module m).busy = false → (s.module m).mode = .ready →
    s.bus.transmission.isSome = true → s.seq.phase = .switching → s.seq.settle = .expired →
    u = s.setModule m { s.module m with mode := .loading } →
    ∃ t, exec (.moduleBusyAsserted m) s = .next t ∧ SettleExamined s.now s.bus.pending u t) ∧
  (∀ (m : ModuleId) (s u : State), s.running = true → (s.module m).busy = true → s.bus.transmission.isSome = true →
    s.seq.phase = .switching → s.seq.settle = .expired → u = s.setModule m { s.module m with mode := .ready } →
    ∃ t, exec (.moduleBusyDeasserted m) s = .next t ∧
      ((s.module m).mode = .loading → SettleExamined s.now s.bus.pending u t) ∧
      ((s.module m).mode = .stalled → (s.activeBank.programs.map (fun e => (e.module, e.channel))).Nodup →
        SettleExamined s.now (s.bus.pending ++ s.resyncs m) u t)) ∧
  (∀ (m : ModuleId) (s u : State) (tm : Timer), (s.module m).timer = some tm → s.bus.transmission.isSome = true →
    s.seq.phase = .switching → s.seq.settle = .expired → u = s.setModule m { s.module m with mode := .stalled } →
    ∃ t, exec (.busyTimerExpiry m) s = .next t ∧ SettleExamined tm.due s.bus.pending u t) ∧
  (∀ (s u : State) (x : Transmission) (e : PendingProgram) (es : List PendingProgram), s.bus.transmission = some x → x.forRestart = false →
    x.fromTake = false → s.resetting ≠ .silence → s.seq.phase = .switching → s.seq.settle = .expired → s.bus.pending = e :: es →
    s.bus.realtime = [] → s.notes.candidates = [] → s.layer.keyOns = [] → s.layer.controls = [] → (∀ v ∈ s.layer.levels, v = none) →
    s.bus.pass = [] → (s.module e.module).mode = .ready → e.kind = .take → u = { s with bus := { s.bus with pending := es } } →
    ∃ t, exec .endOfTransmission s = .next t ∧
      (e.next = .program → e.preset = none →
        Begins (some e.module) (.program e.channel e.program) x.timer.due s t ∧ SettleExamined x.timer.due es u t) ∧
      (∀ v, e.next = .level → e.preset = some v →
        Begins (some e.module) (.level e.channel v) x.timer.due s t ∧ SettleExamined x.timer.due es u t)) ∧
  ∀ (s : State) (tm : Timer), s.seq.retention = some tm → s.bus.transmission.isSome = true →
    ∃ t, exec .retentionTimerExpiry s = .next t ∧ SameBut ([.notes, .banks, .seq, .store] ++ lineParts) (s.expired tm) t ∧
      t.seq.retention = none ∧
      (s.banks.retained = false → t.notes = s.notes ∧ t.banks = s.banks) ∧
      (s.banks.retained = true →
        (∀ e ∈ t.notes.entries, e.bank ≠ s.banks.active → e.releasing = true) ∧
        ((∃ e ∈ t.notes.entries, e.bank ≠ s.banks.active) → t.banks = s.banks ∧ t.seq.cue = s.seq.cue) ∧
        ((∃ e ∈ s.notes.entries, e.bank ≠ s.banks.active) → (∀ e ∈ t.notes.entries, e.bank = s.banks.active) →
          t.banks.retained = false ∧ t.activeBank = s.activeBank ∧
          ∀ c, s.seq.cue = some c → c.state = .waiting → s.seq.phase = .none → s.store.busy = false → s.resetting = .none → BeginsToLoad c t) ∧
        (∀ n, n = s.notes.entries.countP (fun e => e.bank != s.banks.active && !e.releasing) → n ≠ 0 →
          Tells ⟨.forcedRelease s.banks.active.other n, true, s.grid.position, none⟩ s t))

/-! ## The Song Store (Section 9) -/

/-- R107, R122, R132, R133, R143, R146, R147, R155, R158, R165: READ_SONG: a slot above 63 is refused; otherwise the request stays in service
with no reply, and a fetch of its sector is in progress or waits. The end of a fetch: a cue's song fills the bank that is not ACTIVE and the cue
is ARMED, and taken at once where no ticks are emitted or its boundary is IMMEDIATE, or CUE_FAILED empties the slot, also where a VALID record
does not decode (log entry 27); a READ_SONG is answered with the record as stored, or EMPTY_SLOT (a length above the sector's 508 bytes reading
on into the next, log entry 27); setup comes into use, the defaults where no record decodes (log entry 27, which also reads a setlist record that
R186 gives no reading), with module states, the links it disables, their gap marks cleared (log entry 14), the pedals, of which one that leaves
DISCONNECTED has no raw value at last change, the outputs standing until the next raw values (both log entry 38), and the part mode, and the
setlist is read; the setlist's reading chooses the entry of the initial song, or ends without one; the initial song is taken in a stopped grid,
also where a footswitch has started it, or CUE_FAILED leaves the grid as it stands (both log entry 17), and its TAKEN carries STANDBY for the old
bank (log entry 40); a take turns the Follower on or off by R36 and R37 where it changes the source (a holdover beat that its tick counts stands
in LOST, log entry 31); the store goes on to the next fetch. Without a fetch in progress nothing happens (log entry 11). -/
def Obligations.Fetches : Prop :=
  (∀ (p : Port) (tag x : Byte) (s : State), s.serves p → (s.port p).reply = none → ∃ t, exec (.readSong p tag x) s = .next t ∧
    (63 < x.toNat → Completed p ⟨0x32, tag, [x]⟩ (.badField 1) [] s t) ∧
    ∀ k : Sector, x.toNat ≤ 63 → k.val = x.toNat + 2 →
      SameBut (.store :: portParts) s t ∧ (t.port p).inService = some ⟨0x32, tag, [x]⟩ ∧ (t.port p).reply = none ∧
      t.store = (if s.store.activity = .idle then { s.store with activity := .fetching ⟨.readSong p, k⟩ }
        else { s.store with queue := s.store.queue ++ [⟨.readSong p, k⟩] })) ∧
  (∀ (s : State) (k : Sector) (c : Cue), s.store.activity = .fetching ⟨.cue, k⟩ → s.seq.cue = some c → c.state = .loading →
    ∃ t, exec .fetchEnd s = .next t ∧
      (∀ x, s.fetchedSong k = some x → Tells ⟨.armed c.slot c.boundary, false, s.grid.position, some c.origin⟩ s t ∧
        (c.boundary ≠ .immediate → s.grid.transport.emits = true →
          SameBut ([.banks, .seq, .store] ++ arbiterParts ++ lineParts) s t ∧ t.seq.cue = some { c with state := .armed } ∧
          t.standbyBank = ⟨some x, x.zones.map (·.enabled), 0, some c.slot⟩ ∧ t.activeBank = s.activeBank) ∧
        (c.boundary = .immediate ∨ s.grid.transport.emits = false → ¬ s.TakeFallsBack x →
          ∀ u, u = s.setBank s.banks.active.other ⟨some x, x.zones.map (·.enabled), 0, some c.slot⟩ →
            TookOver x c.takenPlace c.origin s.now s.grid.tempo s.keptFollower u t)) ∧
      (s.fetchedSong k = none → SameBut ([.banks, .seq, .store] ++ arbiterParts ++ lineParts) s t ∧ t.seq.cue = none ∧
        Tells ⟨.cueFailed .notValid (some c.target) (some c.slot), false, s.grid.position, some c.origin⟩ s t) ∧
      (s.bus.transmission.isSome = true →
        (s.store.queue = [] → t.store.activity = .idle) ∧
        ∀ f fs, s.store.queue = f :: fs → t.store.activity = .fetching f ∧ t.store.queue = fs)) ∧
  (∀ (s : State) (p : Port) (f : Frame) (k : Sector), s.store.activity = .fetching ⟨.readSong p, k⟩ → (s.port p).inService = some f →
    ∃ t, exec .fetchEnd s = .next t ∧ SameBut (.store :: arbiterParts ++ lineParts) s t ∧
      Replied p f (match s.fetched k with | some r => .okData r | none => .emptySlot) s t) ∧
  (∀ (s : State) (k : Sector) (u : Setup), s.store.activity = .fetching ⟨.setup, k⟩ →
    u = (match s.fetched k with | some r => (decodeSetup r).getD Setup.default | none => Setup.default) → ∃ t, exec .fetchEnd s = .next t ∧
      t.setup = u ∧ t.resetting = .setlist ∧ t.store.mode = u.startMode ∧ t.store.setlist = s.store.setlist ∧
      ⟨.setlist, 1⟩ ∈ t.fetches ∧ t.grid = s.grid ∧ t.flash = s.flash ∧
      (∀ m : ModuleId, (t.module m).mode = if u.moduleMask.getLsbD m.val = false then .disabled
          else if (s.module m).busy then .loading else .ready) ∧
      (∀ m : ModuleId, (t.module m).timer = if u.moduleMask.getLsbD m.val = true ∧ (s.module m).busy = true
          then some ⟨s.now, u.stallMillis * 1000⟩ else none) ∧
      (∀ m : ModuleId, u.moduleMask.getLsbD m.val = true → (s.module m).busy = true →
        Tells ⟨.moduleState m .loading .ready none, false, s.grid.position, none⟩ s t) ∧
      (∀ l : LinkId, t.link l = if u.linkEnable.getLsbD l.val then s.link l else { s.link l with
        fifo := [], gap := false, event := none, running := none, collected := none, commonLeft := 0, mode := .waitStatus
        keepAlive := .neverSeen, timer := none }) ∧
      ∀ (q : PedalId) (lo hi : Nat), getAt u.calibration q = (lo, hi) → t.pedal q = { s.pedal q with
        mode := if hi - lo < 64 then .uncalibrated else .normal
        rawAtChange := if (s.pedal q).mode = .disconnected then none else (s.pedal q).rawAtChange }) ∧
  (∀ (s : State) (k : Sector) (es : List Slot) (e : Nat), s.store.activity = .fetching ⟨.setlist, k⟩ →
    es = (match s.fetched k with | some r => decodeSetlist r | none => []) →
    e = (match s.store.position with | some q => if q < es.length then q else 0 | none => 0) → ∃ t, exec .fetchEnd s = .next t ∧
      t.store.setlist = es ∧ t.grid = s.grid ∧
      (es = [] → t.resetting = .none ∧ t.store.position = none ∧
        Tells ⟨.cueFailed .noSong none none, false, s.grid.position, none⟩ s t) ∧
      ∀ n, es[e]? = some n → t.resetting = .song e ∧ t.store.position = some e ∧ ⟨.initial, slotSector n⟩ ∈ t.fetches) ∧
  (∀ (s : State) (k : Sector) (n : Slot) (e : Nat), s.store.activity = .fetching ⟨.initial, k⟩ → k.val = n.val + 2 → s.resetting = .song e →
    s.banks.active = .a → s.banks.retained = false → s.seq.cue = none → ∃ t, exec .fetchEnd s = .next t ∧ t.resetting = .none ∧
      (∀ x, s.fetchedSong k = some x → t.banks.active = .a ∧ t.activeBank = ⟨some x, x.zones.map (·.enabled), 0, some n⟩ ∧
        t.grid.transport = .stopped ∧ t.grid.position = ⟨1, 1, 0⟩ ∧ t.grid.countdown = none ∧ t.grid.ramp = none ∧
        t.grid.tempo = (if x.source = .follow then s.grid.tempo else x.tempo) ∧
        SongTaken x (some e) none ⟨some x, x.zones.map (·.enabled), 0, some n⟩ false s.now s.grid.tempo s.follower s t) ∧
      (s.fetchedSong k = none → t.grid = s.grid ∧ t.banks = s.banks ∧
        Tells ⟨.cueFailed .noSong (some e) (some n), false, s.grid.position, none⟩ s t)) ∧
  ∀ s : State, (∀ f, s.store.activity ≠ .fetching f) → exec .fetchEnd s = .next s

/-- R148, R152 to R155, R186: the four store requests: their refusals in the order of R148, the first of their fields that fails (Tables 12-7 to
12-9), and the operation each begins; and the song, setup and setlist that a stored record stands for, none for a setup whose fields fail (R155)
nor for a song whose fields fail, which the spec says of setup alone (log entry 27). -/
def Obligations.StoreRequests : Prop :=
  (∀ (p : Port) (tag x : Byte) (r : List Byte) (s : State), s.serves p → 32 ≤ r.length → r.length ≤ 320 →
    ∃ t, exec (.writeSong p tag x r) s = .next t ∧
      StoreAnswer p ⟨0x30, tag, x :: r⟩ .write ((1, decide (x.toNat ≤ 63)) :: songChecks r) (x.toNat + 2) r s t) ∧
  (∀ (p : Port) (tag x : Byte) (s : State), s.serves p → ∃ t, exec (.eraseSong p tag x) s = .next t ∧
    StoreAnswer p ⟨0x31, tag, [x]⟩ .erase [(1, decide (x.toNat ≤ 63))] (x.toNat + 2) [] s t) ∧
  (∀ (p : Port) (tag n : Byte) (es : List Byte) (s : State), s.serves p → es.length ≤ 64 →
    ∃ t, exec (.writeSetlist p tag n es) s = .next t ∧ StoreAnswer p ⟨0x33, tag, n :: es⟩ .write (setlistChecks n es) 1 (n :: es) s t) ∧
  (∀ (p : Port) (tag : Byte) (r : List Byte) (s : State), s.serves p → r.length = 126 →
    ∃ t, exec (.writeSetup p tag r) s = .next t ∧ StoreAnswer p ⟨0x34, tag, r⟩ .write (setupChecks r) 0 r s t) ∧
  (∀ r : List Byte, (decodeSong r).isSome = (firstFailing (songChecks r)).isNone ∧ ∀ x, decodeSong r = some x → SongMeans r x) ∧
  (∀ r : List Byte, (decodeSetup r).isSome = (decide (r.length = 126) && (firstFailing (setupChecks r)).isNone) ∧
    ∀ u, decodeSetup r = some u → SetupMeans r u) ∧
  ∀ (n : Byte) (es : List Byte), firstFailing (setlistChecks n es) = none →
    (decodeSetlist (n :: es)).map (fun k : Slot => k.val) = es.map (fun b : Byte => b.toNat)

/-- R149 to R151, R153, R154, R186: the phases of an operation that SUPPLY_LOW has not stopped: the erase leaves every byte of the sector FF; a
word programs its four bytes, clearing bits alone: the header word with marker WRITING, or the record's bytes padded with 00; from an erased
sector the words leave the header and the padded record, which read back; a read-back that differs ends the operation with STORE_FAULT, one
that matches leads to the marker word, after which the sector is VALID and its record is the one written; a completed setlist write takes the
image, and keeps the position only where the new entry there names the active slot. A command given early or late ends its word at the due
value (log entry 4). -/
def Obligations.StorePhases : Prop :=
  ∀ (s : State) (op : StoreOp), s.store.activity = .operating op → op.stopping = false → op.record.length ≤ 508 →
    (op.phase = .erasing → ∃ t, exec .flashEraseEnd s = .next t ∧
      (∀ a, sectorBase op.sector ≤ a → a < sectorBase op.sector + 512 → readFlash t.flash a = 0xFF) ∧
      (∀ a, (a < sectorBase op.sector ∨ sectorBase op.sector + 512 ≤ a) → readFlash t.flash a = readFlash s.flash a) ∧
      (op.kind = .write → t.store = { s.store with activity := .operating { op with phase := .words 0, timer := some ⟨s.now, 60⟩ } }) ∧
      (op.kind = .erase → t.store.busy = false ∧
        Tells ⟨.storeDone .erase op.sector, false, s.grid.position, some (.port op.port)⟩ s t)) ∧
    (∀ k, op.phase = .words k → k < op.words → ∀ tm, op.timer = some tm → ∃ t, exec .flashWordProgrammed s = .next t ∧
      (∀ a, (a < sectorBase op.sector + 4 * k ∨ sectorBase op.sector + 4 * k + 4 ≤ a) → readFlash t.flash a = readFlash s.flash a) ∧
      (∀ j, j < 4 → readFlash t.flash (sectorBase op.sector + 4 * k + j) = readFlash s.flash (sectorBase op.sector + 4 * k + j) &&&
        (if k = 0 then byteAt (0x7F :: word2 (BitVec.ofNat 16 op.record.length)) j else byteAt op.record (4 * (k - 1) + j))) ∧
      t.store = { s.store with activity := .operating (if k + 1 < op.words
        then { op with phase := .words (k + 1), timer := some ⟨tm.due, 60⟩ }
        else { op with phase := .verifying, timer := some ⟨tm.due, 2 * op.words⟩ }) }) ∧
    (op.phase = .words 0 → (∀ a, sectorBase op.sector ≤ a → a < sectorBase op.sector + 512 → readFlash s.flash a = 0xFF) →
      ∃ t, exec .recordWordsProgrammed s = .next t ∧ readsBack op t.flash = true ∧
        ∃ x, t.store = { s.store with activity := .operating x } ∧ x = { op with phase := .verifying, timer := x.timer }) ∧
    (op.phase = .verifying → ∀ differs : Bool, ∃ t, exec (.readBackEnd differs) s = .next t ∧ t.flash = s.flash ∧
      (readsBack op s.flash = true → differs = false → ∃ x, t.store = { s.store with activity := .operating x } ∧
        x = { op with phase := .marker, timer := x.timer }) ∧
      (readsBack op s.flash = false ∨ differs = true → t.store.busy = false ∧
        Tells ⟨.storeFault .verify op.kind op.sector, true, s.grid.position, some (.port op.port)⟩ s t)) ∧
    (op.phase = .marker → readsBack op s.flash = true → ∃ t, exec .markerWordProgrammed s = .next t ∧
      sectorValid t.flash op.sector = true ∧ sectorRecord t.flash op.sector = op.record ∧
      (∀ a, (a < sectorBase op.sector ∨ sectorBase op.sector + 512 ≤ a) → readFlash t.flash a = readFlash s.flash a) ∧
      t.store.busy = false ∧ Tells ⟨.storeDone op.kind op.sector, false, s.grid.position, some (.port op.port)⟩ s t ∧
      (op.kind = .write → op.sector = 1 → SetlistWritten (decodeSetlist op.record) s t) ∧
      (op.kind = .erase ∨ op.sector ≠ 1 → t.store.setlist = s.store.setlist ∧ t.store.position = s.store.position))

/-- R151, R154: the SUPPLY_LOW filter: a step on an empty queue takes the sample that is due, every 100 µs (log entry 25), and the filtered level
changes at the second of two samples that agree and differ from it. The edge commands are two such samples of a line that has changed (log
entry 25), and nothing at a level the filter already has (log entry 11). ASSERTED, an operation in VERIFYING ends at once with STORE_FAULT,
another is marked to end after its step; the end of the erase or of the word in progress then ends it with STORE_FAULT, the word standing, and
the end of the marker word ends it with STORE_DONE, a setlist's image taken. DEASSERTED, only the filter changes. A sample that is taken late
and a command given early or late work at the due value (log entry 4). -/
def Obligations.SupplyLow : Prop :=
  (∀ (s : State) (tm : Timer) (x : Store), s.pending = [] → s.running = true → s.store.supplyTimer = some tm → tm.elapsed s.now = true →
    x = { s.store with supplyTimer := some ⟨tm.due, 100⟩, supplySample := some s.store.supplyLine } → ∃ t, step s = .next t ∧
      (s.store.supplySample ≠ some s.store.supplyLine ∨ s.store.supplyLow = s.store.supplyLine → t = { s with store := x }) ∧
      (s.store.supplySample = some s.store.supplyLine → s.store.supplyLow ≠ s.store.supplyLine →
        (s.store.supplyLine = false → t = { s with store := { x with supplyLow := false } }) ∧
        (s.store.supplyLine = true → SupplyStops x s t))) ∧
  (∀ s : State, s.running = true → s.store.supplyLow = false → ∃ t, exec .supplyLowAsserted s = .next t ∧
    (s.store.busy = false → Closed [.store] s t) ∧
    SupplyStops { s.store with supplyLine := true, supplySample := some true } s t) ∧
  (∀ s : State, s.running = true → s.store.supplyLow = true → exec .supplyLowAsserted s = .next s ∧
    exec .supplyLowDeasserted s =
      .next { s with store := { s.store with supplyLine := false, supplySample := some false, supplyLow := false } }) ∧
  (∀ s : State, s.running = true → s.store.supplyLow = false → exec .supplyLowDeasserted s = .next s) ∧
  (∀ (s : State) (op : StoreOp), s.store.activity = .operating op → op.phase = .erasing → op.stopping = true →
    ∃ t, exec .flashEraseEnd s = .next t ∧ t.store.busy = false ∧
      Tells ⟨.storeFault .supplyLow op.kind op.sector, true, s.grid.position, some (.port op.port)⟩ s t) ∧
  (∀ (s : State) (op : StoreOp) (k : Nat), s.store.activity = .operating op → op.phase = .words k → op.stopping = true →
    ∃ t, exec .flashWordProgrammed s = .next t ∧ exec .recordWordsProgrammed s = .next t ∧ t.store.busy = false ∧
      (∀ a, (a < sectorBase op.sector + 4 * k ∨ sectorBase op.sector + 4 * k + 4 ≤ a) → readFlash t.flash a = readFlash s.flash a) ∧
      (k < op.words → ∀ j, j < 4 → readFlash t.flash (sectorBase op.sector + 4 * k + j) =
        readFlash s.flash (sectorBase op.sector + 4 * k + j) &&&
        (if k = 0 then byteAt (0x7F :: word2 (BitVec.ofNat 16 op.record.length)) j else byteAt op.record (4 * (k - 1) + j))) ∧
      Tells ⟨.storeFault .supplyLow op.kind op.sector, true, s.grid.position, some (.port op.port)⟩ s t) ∧
  ∀ (s : State) (op : StoreOp), s.store.activity = .operating op → op.phase = .marker → op.stopping = true →
    ∃ t, exec .markerWordProgrammed s = .next t ∧ t.store.busy = false ∧
      Tells ⟨.storeDone op.kind op.sector, false, s.grid.position, some (.port op.port)⟩ s t ∧
      (op.kind = .write → op.sector = 1 → SetlistWritten (decodeSetlist op.record) s t)

/-- R49, R156: CLICK_MUTE sets the mute OFF, ON or to its other value, and nothing else; another setting is refused. SET_MODE: another mode is
refused; SHOW is refused BUSY while the store operates; a new mode is set and told, the present one changes nothing. -/
def Obligations.MuteAndMode : Prop :=
  (∀ (p : Port) (tag x : Byte) (s : State), s.serves p → ∃ t, exec (.clickMute p tag x) s = .next t ∧
    (2 < x.toNat → Completed p ⟨0x07, tag, [x]⟩ (.badField 1) [] s t) ∧
    (x.toNat ≤ 2 → Completed p ⟨0x07, tag, [x]⟩ .ok [.click] s t ∧
      t.click = { s.click with mute := if x = 0 then false else if x = 1 then true else !s.click.mute })) ∧
  ∀ (p : Port) (tag x : Byte) (s : State), s.serves p → ∃ t, exec (.setMode p tag x) s = .next t ∧
    (1 < x.toNat → Completed p ⟨0x35, tag, [x]⟩ (.badField 1) [] s t) ∧
    ∀ m : PartMode, x.toNat = (match m with | .prep => 0 | .show => 1) →
      (m = .show → s.store.busy = true → Completed p ⟨0x35, tag, [x]⟩ .busy [] s t) ∧
      (m = .prep ∨ s.store.busy = false →
        (m = s.store.mode → Completed p ⟨0x35, tag, [x]⟩ .ok [] s t) ∧
        (m ≠ s.store.mode → Completed p ⟨0x35, tag, [x]⟩ .ok [.store] s t ∧ t.store = { s.store with mode := m } ∧
          Tells ⟨.modeChanged m, false, s.grid.position, some (.port p)⟩ s t))

/-! ## The pedal board (Section 10) -/

/-- R64, R159 to R162: a press takes the switch DOWN with the hold timer, and performs its press action at once where it has no hold action; a
release takes it UP; where it has a hold action it performs the press action then if it was DOWN, and a SUSTAIN without one lifts; the hold
timer's expiry takes it to HELD and performs the hold action, all by the assignments in use at that instant (log entry 42). Each action of Table
10-3 does what it does from a request, with origin PEDAL, what a cue action changes being stated where the arbiter has nothing to do at the
close; the other switches stand. A press at a level still UNKNOWN counts as from OPEN, and the edge commands set the raw sample (log entry 16).
Where a tap's tempo and its corrected tempo both equal T_g no change waits for the next interval (log entry 20; R7 of Section 1.2). As in the
statements of the requests: a TAKE NOW that starts a pending transport sets the tempo before the first tick (log entry 21), and a holdover beat
that its tick counts stands in LOST (log entry 31); of a ramp step at a START the quotient alone is rounded (log entry 26). An expiry given early
or late works at the due value (log entry 4). -/
def Obligations.Footswitches : Prop :=
  (∀ (f : SwitchId) (s u : State) (a h : Action), s.running = true → (s.switch f).level ≠ some true →
    getAt s.setup.switches f = (a, h) → u = s.setSwitch f { s.switch f with
      raw := true, level := some true, count := 0, mode := .down, hold := some ⟨s.now, s.setup.holdMillis * 1000⟩ } →
    ∃ t, exec (.footswitchPress f) s = .next t ∧ (∀ g, t.switch g = u.switch g) ∧
      (h ≠ .none → Closed [] u t) ∧ (h = .none → Performs s.now a u t)) ∧
  (∀ (f : SwitchId) (s u : State) (a h : Action), s.running = true → (s.switch f).level = some true →
    getAt s.setup.switches f = (a, h) → u = s.setSwitch f { s.switch f with
      raw := false, level := some false, count := 0, mode := .up, hold := none, inert := false } →
    ∃ t, exec (.footswitchRelease f) s = .next t ∧ (∀ g, t.switch g = u.switch g) ∧
      ((s.switch f).inert = true ∨ h ≠ .none ∧ (s.switch f).mode ≠ .down → Closed [] u t) ∧
      ((s.switch f).inert = false → h ≠ .none → (s.switch f).mode = .down → Performs s.now a u t) ∧
      ((s.switch f).inert = false → h = .none →
        (∀ links, a = .sustain links → FootLifts f links u t) ∧ ((∀ links, a ≠ .sustain links) → Closed [] u t))) ∧
  ∀ (f : SwitchId) (s u : State) (a h : Action) (tm : Timer), (s.switch f).mode = .down → (s.switch f).hold = some tm →
    getAt s.setup.switches f = (a, h) → u = (s.expired tm).setSwitch f { s.switch f with mode := .held, hold := none } →
    ∃ t, exec (.holdTimerExpiry f) s = .next t ∧ (∀ g, t.switch g = u.switch g) ∧ Performs tm.due h u t

/-- R108, R159: a sample of the BUSY lines: on each line, a sample that agrees with the filtered level clears the count, one that differs adds to
it, and the third in a row changes the level and does to the module what the edge of that line does (log entry 16). A sample of the
footswitches: the first sets each level directly, a CLOSED switch being HELD and inert; after it, a sample that agrees with the level clears
the count and one that differs adds to it; the sample that brings a count to the debounce time does what the press or the release of that
switch does, also where a reading of setup has lowered that time to the count or below it (log entries 16 and 41); while none does, nothing else
changes. Edges of several lines at one sample come in an order that nothing fixes (log
entry 5). -/
def Obligations.LineSamples : Prop :=
  (∀ (a : BitVec 8) (s : State), s.running = true → (∀ m, (s.module m).agreeing ≤ 2) → ∃ t, exec (.busyLineSample a) s = .next t ∧
    SameBut (.draws :: arbiterParts ++ lineParts) s t ∧
    (∀ m, (t.module m).busy = (if (s.module m).agreeing = 2 then a.getLsbD m.val else (s.module m).busy) ∧
      (t.module m).agreeing = (if a.getLsbD m.val = (s.module m).busy ∨ (s.module m).agreeing = 2 then 0 else (s.module m).agreeing + 1)) ∧
    ((∀ m, (s.module m).agreeing < 2) → SameBut (.bus :: lineParts) s t ∧ ∀ m, (t.module m).mode = (s.module m).mode)) ∧
  (∀ (a : BitVec 8) (s u : State) (m : ModuleId), s.running = true → (s.module m).agreeing = 2 → a.getLsbD m.val ≠ (s.module m).busy →
    (∀ n, n ≠ m → (s.module n).agreeing < 2 ∨ a.getLsbD n.val = (s.module n).busy) →
    u = { s with bus := { s.bus with modules := Vector.ofFn (fun n => if n = m then s.module n else { s.module n with
      agreeing := if a.getLsbD n.val = (s.module n).busy then 0 else (s.module n).agreeing + 1 }) } } →
    exec (.busyLineSample a) s = exec (if a.getLsbD m.val then .moduleBusyAsserted m else .moduleBusyDeasserted m) u) ∧
  (∀ (x : BitVec 8) (s : State), s.running = true →
    (∀ f, (s.switch f).level = none ∨ (s.switch f).level = some (x.getLsbD f.val) ∨ (s.switch f).count + 1 < s.setup.debounce) →
    ∃ t, exec (.footswitchSample x) s = .next t ∧ Closed [.board] s t ∧ ∀ f, t.switch f = (s.switch f).counted (x.getLsbD f.val)) ∧
  ∀ (x : BitVec 8) (s u : State) (f : SwitchId), s.running = true → (s.switch f).level = some (!x.getLsbD f.val) →
    s.setup.debounce ≤ (s.switch f).count + 1 →
    (∀ g, g ≠ f → (s.switch g).level = none ∨ (s.switch g).level = some (x.getLsbD g.val) ∨ (s.switch g).count + 1 < s.setup.debounce) →
    u = { s with board := { s.board with
      switches := Vector.ofFn (fun g => if g = f then s.switch g else (s.switch g).counted (x.getLsbD g.val)) } } →
    exec (.footswitchSample x) s = exec (if x.getLsbD f.val then .footswitchPress f else .footswitchRelease f) u

/-- R79, R163 to R165: the conversions alternate every 2000 µs; a raw value from 1020 on disconnects the pedal, and a change of output of a
calibrated one follows its map once the raw value has moved by 3 from the raw value at last change, which then becomes the new one and else
stands, none where the pedal leaves DISCONNECTED (also where it turns UNCALIBRATED, log entry 28); a change of output fills the level slot of
every enabled zone of the ACTIVE bank that names the pedal (stated while a message is being transmitted), and a change of state is told. The end
of a conversion that is not in progress changes nothing (log entry 11). A command given early or late begins at the due value (log entry 4). -/
def Obligations.PedalConversions : Prop :=
  (∀ (s : State) (tm : Timer), s.board.adcTimer = some tm → exec .adcConversionBegin s = .next { s.expired tm with
    board := { s.board with
      adcBusy := some s.board.adcNext, adcNext := if s.board.adcNext = 0 then 1 else 0, adcTimer := some ⟨tm.due, 2000⟩ } }) ∧
  (∀ s : State, s.board.adcBusy = none → ∀ raw, exec (.adcConversionEnd raw) s = .next s) ∧
  ∀ (s : State) (p : PedalId) (raw : BitVec 10) (lo hi : Nat), s.board.adcBusy = some p → getAt s.setup.calibration p = (lo, hi) →
    ∃ t, exec (.adcConversionEnd raw) s = .next t ∧ Closed [.board, .layer] s t ∧ t.board.adcBusy = none ∧
      (∀ q, q ≠ p → t.pedal q = s.pedal q) ∧ (t.pedal p).raw = some raw.toNat ∧
      (1020 ≤ raw.toNat → (t.pedal p).mode = .disconnected ∧ (t.pedal p).output = (s.pedal p).output ∧
        (t.pedal p).rawAtChange = (s.pedal p).rawAtChange) ∧
      (raw.toNat < 1020 → hi - lo < 64 → (t.pedal p).mode = .uncalibrated ∧ (t.pedal p).output = 127 ∧
        (t.pedal p).rawAtChange = if (s.pedal p).mode = .disconnected then none else (s.pedal p).rawAtChange) ∧
      (raw.toNat < 1020 → 64 ≤ hi - lo → (t.pedal p).mode = .normal ∧
        ∀ v, v = (if raw.toNat ≤ lo then 0 else min 127 (roundHalfUp ((raw.toNat - lo) * 127) (hi - lo))) →
          ((s.pedal p).mode = .disconnected ∨ (s.pedal p).rawAtChange = none ∨
              (∃ last, (s.pedal p).rawAtChange = some last ∧ (last + 3 ≤ raw.toNat ∨ raw.toNat + 3 ≤ last)) →
            (t.pedal p).output = v ∧ (t.pedal p).rawAtChange = if v ≠ (s.pedal p).output then some raw.toNat
              else if (s.pedal p).mode = .disconnected then none else (s.pedal p).rawAtChange) ∧
          ((s.pedal p).mode ≠ .disconnected →
              (∃ last, (s.pedal p).rawAtChange = some last ∧ raw.toNat < last + 3 ∧ last < raw.toNat + 3) →
            (t.pedal p).output = (s.pedal p).output ∧ (t.pedal p).rawAtChange = (s.pedal p).rawAtChange)) ∧
      ((t.pedal p).mode ≠ (s.pedal p).mode → Tells ⟨.pedalState p (t.pedal p).mode (s.pedal p).mode raw.toNat (t.pedal p).output, false,
        s.grid.position, some .pedal⟩ s t) ∧
      (s.bus.transmission.isSome = true → t.layer = { s.layer with levels := t.layer.levels } ∧
        t.layer.levels.length = s.layer.levels.length ∧
        ∀ (i : Nat) (z : Zone) (v : Option Nat), s.activeBank.zones[i]? = some z → s.layer.levels[i]? = some v →
          t.layer.levels[i]? = some (
            if (t.pedal p).output ≠ (s.pedal p).output ∧ s.activeBank.zoneOn i = true ∧ z.pedal = some p
            then some ((t.pedal p).output * z.level / 127) else v))

/-- R166, R167: a slot start advances the row, settles its eight indicators from their sources, each lit as Table 10-6 says, and drives them for
brightness × 125 µs, at brightness 8 for the whole slot, with no drive end before the next slot's start and so no drive timer (log entry 29);
the other rows of the image stand. The blink phase toggles every 250,000 µs. A command given early or late works at the due value (log
entry 4). -/
def Obligations.IndicatorMatrix : Prop :=
  (∀ (s : State) (tm : Timer), s.board.slotTimer = some tm → 1 ≤ s.board.row → s.board.row ≤ 4 →
    ∃ t, exec .indicatorSlotStart s = .next t ∧ SameBut [.board] (s.expired tm) t ∧
      t.board.row = (if s.board.scanned = true ∧ s.board.row < 4 then s.board.row + 1 else 1) ∧ t.board.scanned = true ∧
      (s.activeBank.enabled.length = s.activeBank.zones.length → ∀ (c : Fin 8) (i : Fin 32), i.val = 8 * (t.board.row - 1) + c.val →
        (t.board.columns.getLsbD c.val = true ↔ s.Shows (getAt s.setup.indicators i))) ∧
      (∀ i, i < 32 → t.board.image.getLsbD i =
        if i / 8 = t.board.row - 1 then t.board.columns.getLsbD (i % 8) else s.board.image.getLsbD i) ∧
      t.board.slotTimer = some ⟨tm.due, 1000⟩ ∧
      t.board.driveTimer = (if s.setup.brightness < 8 then some ⟨tm.due, s.setup.brightness * 125⟩ else none)) ∧
  ∀ (s : State) (tm : Timer), s.board.blinkTimer = some tm → exec .blinkPhaseToggle s = .next { s.expired tm with
    board := { s.board with blink := !s.board.blink, blinkTimer := some ⟨tm.due, 250000⟩ } }

/-! ## The control ports (Section 11) -/

/-- R170, R171: a character at the assembler by its phase: the marker, the two LENGTH characters, the kind and the tag, the payload, the check; a
good check returns the assembler to HUNT, and its whole frame, of any kind, does what the arrival of that request does (a frame of a listed kind
stands for it, log entry 3; RequestService says what it does); a length above 336, a wrong check and the gap timer's expiry discard the frame and
tell its port; a framing error outside HUNT discards the frame too and tells its port FRAMING, the gap timer becoming idle. An expiry given early
or late works at the due value (log entry 4). -/
def Obligations.FrameAssembly : Prop :=
  (∀ (p : Port) (b : Byte) (s : State) (c : ControlPort), s.running = true → c = s.port p →
    ∃ t, exec (.controlPortCharacter p b true) s = .next t ∧
      (c.phase = .hunt → b ≠ 0x7E → SameBut lineParts s t) ∧
      (c.phase = .hunt → b = 0x7E → SameBut portParts s t ∧
        (t.port p).service = { c with phase := .length, assembly := Assembly.none, gapTimer := some ⟨s.now, 2000⟩ }.service) ∧
      (c.phase = .length → c.assembly.lengthHigh = none → SameBut portParts s t ∧
        (t.port p).service = { c with
          assembly := { c.assembly with lengthHigh := some b, sum := c.assembly.sum + b }, gapTimer := some ⟨s.now, 2000⟩ }.service) ∧
      (c.phase = .length → ∀ hi, c.assembly.lengthHigh = some hi →
        (336 < be16 hi b → SameBut portParts s t ∧ (t.port p).phase = .hunt ∧ (t.port p).gapTimer = none ∧
          ((s.port p).mask.getLsbD 21 = true → (s.port p).notices.length < 32 → Told p
            ⟨.requestLost .length c.assembly.kind c.assembly.tag, false, s.grid.position, some (.port p)⟩ t)) ∧
        (be16 hi b ≤ 336 → SameBut portParts s t ∧ (t.port p).service = { c with
          phase := .header, assembly := { c.assembly with length := be16 hi b, sum := c.assembly.sum + b }
          gapTimer := some ⟨s.now, 2000⟩ }.service)) ∧
      (c.phase = .header → c.assembly.kind = none → SameBut portParts s t ∧ (t.port p).service = { c with
        assembly := { c.assembly with kind := some b, sum := c.assembly.sum + b }, gapTimer := some ⟨s.now, 2000⟩ }.service) ∧
      (c.phase = .header → ∀ k, c.assembly.kind = some k → SameBut portParts s t ∧ (t.port p).service = { c with
        phase := if c.assembly.payload.length < c.assembly.length then .payload else .check
        assembly := { c.assembly with tag := some b, sum := c.assembly.sum + b }, gapTimer := some ⟨s.now, 2000⟩ }.service) ∧
      (c.phase = .payload → SameBut portParts s t ∧ (t.port p).service = { c with
        phase := if c.assembly.payload.length + 1 < c.assembly.length then .payload else .check
        assembly := { c.assembly with payload := c.assembly.payload ++ [b], sum := c.assembly.sum + b }
        gapTimer := some ⟨s.now, 2000⟩ }.service) ∧
      (c.phase = .check → c.assembly.sum + b ≠ 0 → SameBut portParts s t ∧ (t.port p).phase = .hunt ∧
        ((s.port p).mask.getLsbD 21 = true → (s.port p).notices.length < 32 → Told p
          ⟨.requestLost .check c.assembly.kind c.assembly.tag, false, s.grid.position, some (.port p)⟩ t)) ∧
      (c.phase = .check → c.assembly.sum + b = 0 → ∀ k tag, c.assembly.kind = some k → c.assembly.tag = some tag →
        c.assembly.payload.length ≤ 336 →
        exec (.unknownKindRequest p tag k c.assembly.payload)
          (s.setPort p { c with phase := .hunt, assembly := Assembly.none, gapTimer := none }) = .next t)) ∧
  (∀ (p : Port) (b : Byte) (s : State), s.running = true → ∃ t, exec (.controlPortCharacter p b false) s = .next t ∧
    ((s.port p).phase = .hunt → SameBut lineParts s t) ∧
    ((s.port p).phase ≠ .hunt → SameBut portParts s t ∧ (t.port p).phase = .hunt ∧ (t.port p).assembly = Assembly.none ∧
      (t.port p).gapTimer = none ∧
      ((s.port p).mask.getLsbD 21 = true → (s.port p).notices.length < 32 → Told p
        ⟨.requestLost .framing (s.port p).assembly.kind (s.port p).assembly.tag, false, s.grid.position, some (.port p)⟩ t))) ∧
  ∀ (p : Port) (s : State) (tm : Timer), (s.port p).gapTimer = some tm → ∃ t, exec (.gapTimerExpiry p) s = .next t ∧
    SameBut portParts (s.expired tm) t ∧ (t.port p).phase = .hunt ∧ (t.port p).assembly = Assembly.none ∧ (t.port p).gapTimer = none ∧
    ((s.port p).mask.getLsbD 21 = true → (s.port p).notices.length < 32 → Told p
      ⟨.requestLost .gap (s.port p).assembly.kind (s.port p).assembly.tag, false, s.grid.position, some (.port p)⟩ t) ∧
    ∀ q, q ≠ p → (t.port q).notices.length ≤ (s.port q).notices.length

/-- R172, R173, R183, Table 12-2: a whole frame at a port, of any kind: a frame of a listed kind does what the command of that request does with
the fields its payload holds (log entry 3), and every payload of a length the table allows holds the fields of one; at an idle port, during a
reset too, an unlisted kind is answered UNKNOWN_KIND and a listed one with another length BAD_FIELD 0; with a length that is allowed, during a
reset, every kind but GET_STATUS is answered BUSY, and GET_STATUS is answered; behind a request in service a frame joins the back of the buffer
while it holds fewer than 4; at 4 it is discarded, the frames held stand, and its port is told FULL. -/
def Obligations.RequestService : Prop :=
  (∀ (p : Port) (tag k : Byte) (d : List Byte) (lo hi : Nat), (k.toNat, lo, hi) ∈ requestLengths → lo ≤ d.length → d.length ≤ hi →
    ∃ i : Instr, i.wellFormed = true ∧ requestFrame i = some (p, tag, k, d)) ∧
  ∀ (p : Port) (tag k : Byte) (d : List Byte) (s : State), s.running = true → d.length ≤ 336 →
    ∃ t, exec (.unknownKindRequest p tag k d) s = .next t ∧
      (∀ i, requestFrame i = some (p, tag, k, d) → exec i s = .next t) ∧
      ((s.port p).inService = none → (s.port p).buffer = [] →
        (requestKinds.contains k.toNat = false → Completed p ⟨k, tag, d⟩ .unknownKind [] s t) ∧
        ∀ lo hi, (k.toNat, lo, hi) ∈ requestLengths →
          (d.length < lo ∨ hi < d.length → Completed p ⟨k, tag, d⟩ (.badField 0) [] s t) ∧
          (lo ≤ d.length → d.length ≤ hi → s.resetting ≠ .none →
            (k ≠ 0x40 → Completed p ⟨k, tag, d⟩ .busy [] s t) ∧
            ∀ g x, k = 0x40 → d = [g, x] →
              (12 < g.toNat → Completed p ⟨k, tag, d⟩ (.badField 1) [] s t) ∧
              (g.toNat ≤ 12 → 127 < x.toNat → Completed p ⟨k, tag, d⟩ (.badField 2) [] s t) ∧
              (g.toNat ≤ 12 → x.toNat ≤ 127 → ∃ bytes, Completed p ⟨k, tag, d⟩ (.okData (g :: bytes)) [] s t))) ∧
      (∀ f, (s.port p).inService = some f → (s.port p).buffer.length < 4 → SameBut portParts s t ∧
        (t.port p).service = ({ s.port p with buffer := (s.port p).buffer ++ [(⟨k, tag, d⟩ : Frame)] } : ControlPort).service) ∧
      (∀ f, (s.port p).inService = some f → 4 ≤ (s.port p).buffer.length → SameBut lineParts s t ∧
        ((s.port p).mask.getLsbD 21 = true → (s.port p).notices.length < 32 → Told p
          ⟨.requestLost .full (some k) (some tag), false, s.grid.position, some (.port p)⟩ t))

/-- R172 to R174: the end of a frame on the transmit line: a notice's end leaves the receiving side alone; a reply's end takes its request out
of service, with an empty buffer leaving the port idle; from a buffer that holds requests the oldest leaves and is in service, and does what it
does when it arrives at a port that serves nothing (log entries 3 and 30; a GET_STATUS, which reports the buffer, but for its reply's bytes).
After a notice the front notice is sent where no reply waits, and the reply where one is decided. After a reply, with notices waiting, a notice is
sent, both where no reply waits and where the reply of the next request is decided in the same work, which then waits: the front notice, unless
that request tells an URGENT one ahead of it. An end given early or late works at the due value (log entry 4). -/
def Obligations.FrameTransmitted : Prop :=
  ∀ (p : Port) (s : State) (fr : PortFrame), (s.port p).sending = some fr → ∃ t, exec (.portFrameTransmitted p) s = .next t ∧
    (fr.sort = .notice → SameBut lineParts (s.expired fr.timer) t) ∧
    (fr.sort = .reply → (s.port p).buffer = [] →
      SameBut portParts (s.expired fr.timer) t ∧ (t.port p).service = { s.port p with inService := none }.service) ∧
    (fr.sort = .reply → (s.port p).buffer = [] → (s.port p).reply = none → (s.port p).notices = [] → (t.port p).sending = none) ∧
    (∀ f fs, fr.sort = .reply → (s.port p).buffer = f :: fs → (t.port p).inService = some f ∧ (t.port p).buffer = fs ∧
      (s.running = true → f.payload.length ≤ 336 → f.kind ≠ 0x40 →
        ∃ u, exec (.unknownKindRequest p f.tag f.kind f.payload)
            ((s.atCount fr.timer.due).setPort p { s.port p with sending := none, inService := none, buffer := [] }) = .next u ∧
          t = (u.setPort p { u.port p with buffer := fs }).atCount (s.expired fr.timer).now)) ∧
    (∀ n rest, fr.sort = .reply → (s.port p).buffer = [] → (s.port p).reply = none ∨ (s.port p).lastSent = some .reply →
      (s.port p).notices = n :: rest → (s.port p).overflow = false → (t.port p).notices = rest ∧ (t.port p).reply = (s.port p).reply ∧
      (t.port p).sending = some ⟨.notice, frameBytes 0x81 0 n.bytes, ⟨fr.timer.due, (6 + n.bytes.length) * 10⟩⟩) ∧
    (∀ n rest f fs, fr.sort = .reply → (s.port p).buffer = f :: fs → (s.port p).lastSent = some .reply → (s.port p).notices = n :: rest →
      (f.kind ≠ 0x32 → (t.port p).reply.isSome = true) ∧
      ∃ m : Notice, (m = n ∨ n.urgent = false ∧ m.urgent = true) ∧
        (t.port p).sending = some ⟨.notice, frameBytes 0x81 0 m.bytes, ⟨fr.timer.due, (6 + m.bytes.length) * 10⟩⟩) ∧
    (∀ n rest f fs, fr.sort = .reply → (s.port p).buffer = f :: fs → (s.port p).lastSent = some .reply → (s.port p).notices = n :: rest →
      (s.port p).overflow = false → requestKinds.contains f.kind.toNat = false → (t.port p).reply = some Reply.unknownKind.bytes ∧
      (t.port p).notices = rest ∧
      (t.port p).sending = some ⟨.notice, frameBytes 0x81 0 n.bytes, ⟨fr.timer.due, (6 + n.bytes.length) * 10⟩⟩) ∧
    (∀ n rest, fr.sort = .notice → (s.port p).reply = none → (s.port p).notices = n :: rest → (s.port p).overflow = false →
      (t.port p).notices = rest ∧
      (t.port p).sending = some ⟨.notice, frameBytes 0x81 0 n.bytes, ⟨fr.timer.due, (6 + n.bytes.length) * 10⟩⟩) ∧
    (∀ r f, fr.sort = .notice → (s.port p).reply = some r → (s.port p).inService = some f → (s.port p).lastSent = some .notice →
      (t.port p).reply = none ∧ (t.port p).sending = some ⟨.reply, frameBytes 0x80 f.tag r, ⟨fr.timer.due, (6 + r.length) * 10⟩⟩)

/-- R175, R176, R182, R183: GET_STATUS reports without changing anything and refuses another group or a start index above 127; SET_NOTICE_MASK
sets the mask of the 21 maskable kinds in code order, SET_POSITION_NOTICES the setting, each of its own port alone. The bytes of the GRID and
PROGRAMS groups follow Section 12.1 as log entry 18 reads it. -/
def Obligations.PortRequests : Prop :=
  (∀ (p : Port) (tag g x : Byte) (s : State), s.serves p → ∃ t, exec (.getStatus p tag g x) s = .next t ∧
    (12 < g.toNat → Completed p ⟨0x40, tag, [g, x]⟩ (.badField 1) [] s t) ∧
    (g.toNat ≤ 12 → 127 < x.toNat → Completed p ⟨0x40, tag, [g, x]⟩ (.badField 2) [] s t) ∧
    (g.toNat ≤ 12 → x.toNat ≤ 127 → ∃ bytes, Completed p ⟨0x40, tag, [g, x]⟩ (.okData (g :: bytes)) [] s t ∧
      (g = 7 → bytes.head? = (num1 s.bus.pending.length).head?) ∧
      (g = 0 → bytes.drop 1 = num2 s.grid.tempo ++ num1 s.grid.source.number ++ num1 s.grid.transport.number ++
        positionBytes s.grid.position ++ num1 s.grid.meter ++
        optional 4 (fun r : Ramp => num2 r.target ++ num1 r.beats ++ num1 r.done) s.grid.ramp ++
        optional 4 (fun c : Correction => num2 c.tempo ++ num2 c.remaining) s.grid.correction))) ∧
  (∀ (p : Port) (tag : Byte) (d : List Byte) (s : State), s.serves p → d.length = 21 → ∃ t, exec (.setNoticeMask p tag d) s = .next t ∧
    (∀ i, (∀ j, j < i → (byteAt d j).toNat ≤ 1) → i < 21 → 1 < (byteAt d i).toNat →
      Completed p ⟨0x41, tag, d⟩ (.badField (i + 1)) [] s t) ∧
    ((∀ i, i < 21 → (byteAt d i).toNat ≤ 1) → Replied p ⟨0x41, tag, d⟩ .ok s t ∧ SameBut portParts s t ∧
      (∀ i, i < 22 → (t.port p).mask.getLsbD i = if i = 5 then true else byteAt d (if i < 5 then i else i - 1) == 1) ∧
      (t.port p).positions = (s.port p).positions ∧ ∀ q, q ≠ p → (t.port q).service = (s.port q).service)) ∧
  ∀ (p : Port) (tag x : Byte) (s : State), s.serves p → ∃ t, exec (.setPositionNotices p tag x) s = .next t ∧
    (2 < x.toNat → Completed p ⟨0x42, tag, [x]⟩ (.badField 1) [] s t) ∧
    (x.toNat ≤ 2 → Replied p ⟨0x42, tag, [x]⟩ .ok s t ∧ SameBut portParts s t ∧
      (t.port p).positions = (if x = 0 then .off else if x = 1 then .bar else .beat) ∧ (t.port p).mask = (s.port p).mask ∧
      ∀ q, q ≠ p → (t.port q).service = (s.port q).service)

/-- R178, R179: a notice at a port: masked, it changes nothing; below 32 it joins the queue, a NORMAL one at the back, an URGENT one behind
the URGENT ones; at 32 it is lost and counted. When a notice leaves a queue whose overflow flag is set, NOTICES_LOST joins the queue with
the count, which returns to 0 with the flag. -/
def Obligations.NoticeQueue : Prop :=
  ∀ (c : ControlPort) (n : Notice), c.Sound → n.urgent = n.body.urgent →
    (c.admits n.body = false → c.post n = c) ∧
    (c.admits n.body = true → 32 ≤ c.notices.length → c.post n = { c with lost := min 65535 (c.lost + 1), overflow := true }) ∧
    (c.admits n.body = true → c.notices.length < 32 →
      (c.post n).Sound ∧ (c.post n).notices.Perm (n :: c.notices) ∧
      (n.urgent = false → c.post n = { c with notices := c.notices ++ [n] }) ∧
      ∀ u v, n.urgent = true → c.notices = u ++ v → (∀ x ∈ u, x.urgent = true) → (∀ x ∈ v, x.urgent = false) →
        c.post n = { c with notices := u ++ n :: v }) ∧
    ∀ (rest : List Notice) (q : Position) (now : Count), c.notices = n :: rest → c.overflow = true →
      (⟨.noticesLost c.lost, true, q, none⟩ : Notice) ∈ (c.sendNotice n rest q now).notices ∧
      (c.sendNotice n rest q now).lost = 0 ∧ (c.sendNotice n rest q now).overflow = false
end

