-- ==== Sys2Proof/Laws/State.lean ====
section
/-! SUPPORT. What each named update of the state leaves in each field: one lemma per field and update. -/

-- One theorem at a time: elaborated side by side, these files hold more threads than the memory limit of a check allows.
set_option Elab.async false

namespace Sys2Proof.Machine

/-! ## Updates of one field -/

@[simp] theorem State.atCount_setup (s : State) (c : Count) : (s.atCount c).setup = s.setup := rfl
@[simp] theorem State.atCount_resetting (s : State) (c : Count) : (s.atCount c).resetting = s.resetting := rfl
@[simp] theorem State.atCount_grid (s : State) (c : Count) : (s.atCount c).grid = s.grid := rfl
@[simp] theorem State.atCount_follower (s : State) (c : Count) : (s.atCount c).follower = s.follower := rfl
@[simp] theorem State.atCount_tap (s : State) (c : Count) : (s.atCount c).tap = s.tap := rfl
@[simp] theorem State.atCount_click (s : State) (c : Count) : (s.atCount c).click = s.click := rfl
@[simp] theorem State.atCount_links (s : State) (c : Count) : (s.atCount c).links = s.links := rfl
@[simp] theorem State.atCount_layer (s : State) (c : Count) : (s.atCount c).layer = s.layer := rfl
@[simp] theorem State.atCount_notes (s : State) (c : Count) : (s.atCount c).notes = s.notes := rfl
@[simp] theorem State.atCount_bus (s : State) (c : Count) : (s.atCount c).bus = s.bus := rfl
@[simp] theorem State.atCount_banks (s : State) (c : Count) : (s.atCount c).banks = s.banks := rfl
@[simp] theorem State.atCount_seq (s : State) (c : Count) : (s.atCount c).seq = s.seq := rfl
@[simp] theorem State.atCount_store (s : State) (c : Count) : (s.atCount c).store = s.store := rfl
@[simp] theorem State.atCount_flash (s : State) (c : Count) : (s.atCount c).flash = s.flash := rfl
@[simp] theorem State.atCount_board (s : State) (c : Count) : (s.atCount c).board = s.board := rfl
@[simp] theorem State.atCount_portA (s : State) (c : Count) : (s.atCount c).portA = s.portA := rfl
@[simp] theorem State.atCount_portB (s : State) (c : Count) : (s.atCount c).portB = s.portB := rfl
@[simp] theorem State.atCount_draws (s : State) (c : Count) : (s.atCount c).draws = s.draws := rfl
@[simp] theorem State.atCount_pending (s : State) (c : Count) : (s.atCount c).pending = s.pending := rfl
@[simp] theorem State.drew_timebase (s : State) : (s.drew).timebase = s.timebase := rfl
@[simp] theorem State.drew_setup (s : State) : (s.drew).setup = s.setup := rfl
@[simp] theorem State.drew_resetting (s : State) : (s.drew).resetting = s.resetting := rfl
@[simp] theorem State.drew_grid (s : State) : (s.drew).grid = s.grid := rfl
@[simp] theorem State.drew_follower (s : State) : (s.drew).follower = s.follower := rfl
@[simp] theorem State.drew_tap (s : State) : (s.drew).tap = s.tap := rfl
@[simp] theorem State.drew_click (s : State) : (s.drew).click = s.click := rfl
@[simp] theorem State.drew_links (s : State) : (s.drew).links = s.links := rfl
@[simp] theorem State.drew_layer (s : State) : (s.drew).layer = s.layer := rfl
@[simp] theorem State.drew_notes (s : State) : (s.drew).notes = s.notes := rfl
@[simp] theorem State.drew_bus (s : State) : (s.drew).bus = s.bus := rfl
@[simp] theorem State.drew_banks (s : State) : (s.drew).banks = s.banks := rfl
@[simp] theorem State.drew_seq (s : State) : (s.drew).seq = s.seq := rfl
@[simp] theorem State.drew_store (s : State) : (s.drew).store = s.store := rfl
@[simp] theorem State.drew_flash (s : State) : (s.drew).flash = s.flash := rfl
@[simp] theorem State.drew_board (s : State) : (s.drew).board = s.board := rfl
@[simp] theorem State.drew_portA (s : State) : (s.drew).portA = s.portA := rfl
@[simp] theorem State.drew_portB (s : State) : (s.drew).portB = s.portB := rfl
@[simp] theorem State.drew_pending (s : State) : (s.drew).pending = s.pending := rfl
@[simp] theorem State.withPending_timebase (s : State) (q : List Instr) : (s.withPending q).timebase = s.timebase := rfl
@[simp] theorem State.withPending_setup (s : State) (q : List Instr) : (s.withPending q).setup = s.setup := rfl
@[simp] theorem State.withPending_resetting (s : State) (q : List Instr) : (s.withPending q).resetting = s.resetting := rfl
@[simp] theorem State.withPending_grid (s : State) (q : List Instr) : (s.withPending q).grid = s.grid := rfl
@[simp] theorem State.withPending_follower (s : State) (q : List Instr) : (s.withPending q).follower = s.follower := rfl
@[simp] theorem State.withPending_tap (s : State) (q : List Instr) : (s.withPending q).tap = s.tap := rfl
@[simp] theorem State.withPending_click (s : State) (q : List Instr) : (s.withPending q).click = s.click := rfl
@[simp] theorem State.withPending_links (s : State) (q : List Instr) : (s.withPending q).links = s.links := rfl
@[simp] theorem State.withPending_layer (s : State) (q : List Instr) : (s.withPending q).layer = s.layer := rfl
@[simp] theorem State.withPending_notes (s : State) (q : List Instr) : (s.withPending q).notes = s.notes := rfl
@[simp] theorem State.withPending_bus (s : State) (q : List Instr) : (s.withPending q).bus = s.bus := rfl
@[simp] theorem State.withPending_banks (s : State) (q : List Instr) : (s.withPending q).banks = s.banks := rfl
@[simp] theorem State.withPending_seq (s : State) (q : List Instr) : (s.withPending q).seq = s.seq := rfl
@[simp] theorem State.withPending_store (s : State) (q : List Instr) : (s.withPending q).store = s.store := rfl
@[simp] theorem State.withPending_flash (s : State) (q : List Instr) : (s.withPending q).flash = s.flash := rfl
@[simp] theorem State.withPending_board (s : State) (q : List Instr) : (s.withPending q).board = s.board := rfl
@[simp] theorem State.withPending_portA (s : State) (q : List Instr) : (s.withPending q).portA = s.portA := rfl
@[simp] theorem State.withPending_portB (s : State) (q : List Instr) : (s.withPending q).portB = s.portB := rfl
@[simp] theorem State.withPending_draws (s : State) (q : List Instr) : (s.withPending q).draws = s.draws := rfl
@[simp] theorem State.setLink_timebase (s : State) (l : LinkId) (x : KeyLink) : (s.setLink l x).timebase = s.timebase := rfl
@[simp] theorem State.setLink_setup (s : State) (l : LinkId) (x : KeyLink) : (s.setLink l x).setup = s.setup := rfl
@[simp] theorem State.setLink_resetting (s : State) (l : LinkId) (x : KeyLink) : (s.setLink l x).resetting = s.resetting := rfl
@[simp] theorem State.setLink_grid (s : State) (l : LinkId) (x : KeyLink) : (s.setLink l x).grid = s.grid := rfl
@[simp] theorem State.setLink_follower (s : State) (l : LinkId) (x : KeyLink) : (s.setLink l x).follower = s.follower := rfl
@[simp] theorem State.setLink_tap (s : State) (l : LinkId) (x : KeyLink) : (s.setLink l x).tap = s.tap := rfl
@[simp] theorem State.setLink_click (s : State) (l : LinkId) (x : KeyLink) : (s.setLink l x).click = s.click := rfl
@[simp] theorem State.setLink_layer (s : State) (l : LinkId) (x : KeyLink) : (s.setLink l x).layer = s.layer := rfl
@[simp] theorem State.setLink_notes (s : State) (l : LinkId) (x : KeyLink) : (s.setLink l x).notes = s.notes := rfl
@[simp] theorem State.setLink_bus (s : State) (l : LinkId) (x : KeyLink) : (s.setLink l x).bus = s.bus := rfl
@[simp] theorem State.setLink_banks (s : State) (l : LinkId) (x : KeyLink) : (s.setLink l x).banks = s.banks := rfl
@[simp] theorem State.setLink_seq (s : State) (l : LinkId) (x : KeyLink) : (s.setLink l x).seq = s.seq := rfl
@[simp] theorem State.setLink_store (s : State) (l : LinkId) (x : KeyLink) : (s.setLink l x).store = s.store := rfl
@[simp] theorem State.setLink_flash (s : State) (l : LinkId) (x : KeyLink) : (s.setLink l x).flash = s.flash := rfl
@[simp] theorem State.setLink_board (s : State) (l : LinkId) (x : KeyLink) : (s.setLink l x).board = s.board := rfl
@[simp] theorem State.setLink_portA (s : State) (l : LinkId) (x : KeyLink) : (s.setLink l x).portA = s.portA := rfl
@[simp] theorem State.setLink_portB (s : State) (l : LinkId) (x : KeyLink) : (s.setLink l x).portB = s.portB := rfl
@[simp] theorem State.setLink_draws (s : State) (l : LinkId) (x : KeyLink) : (s.setLink l x).draws = s.draws := rfl
@[simp] theorem State.setLink_pending (s : State) (l : LinkId) (x : KeyLink) : (s.setLink l x).pending = s.pending := rfl
@[simp] theorem State.setModule_timebase (s : State) (m : ModuleId) (x : ModuleState) : (s.setModule m x).timebase = s.timebase := rfl
@[simp] theorem State.setModule_setup (s : State) (m : ModuleId) (x : ModuleState) : (s.setModule m x).setup = s.setup := rfl
@[simp] theorem State.setModule_resetting (s : State) (m : ModuleId) (x : ModuleState) : (s.setModule m x).resetting = s.resetting := rfl
@[simp] theorem State.setModule_grid (s : State) (m : ModuleId) (x : ModuleState) : (s.setModule m x).grid = s.grid := rfl
@[simp] theorem State.setModule_follower (s : State) (m : ModuleId) (x : ModuleState) : (s.setModule m x).follower = s.follower := rfl
@[simp] theorem State.setModule_tap (s : State) (m : ModuleId) (x : ModuleState) : (s.setModule m x).tap = s.tap := rfl
@[simp] theorem State.setModule_click (s : State) (m : ModuleId) (x : ModuleState) : (s.setModule m x).click = s.click := rfl
@[simp] theorem State.setModule_links (s : State) (m : ModuleId) (x : ModuleState) : (s.setModule m x).links = s.links := rfl
@[simp] theorem State.setModule_layer (s : State) (m : ModuleId) (x : ModuleState) : (s.setModule m x).layer = s.layer := rfl
@[simp] theorem State.setModule_notes (s : State) (m : ModuleId) (x : ModuleState) : (s.setModule m x).notes = s.notes := rfl
@[simp] theorem State.setModule_banks (s : State) (m : ModuleId) (x : ModuleState) : (s.setModule m x).banks = s.banks := rfl
@[simp] theorem State.setModule_seq (s : State) (m : ModuleId) (x : ModuleState) : (s.setModule m x).seq = s.seq := rfl
@[simp] theorem State.setModule_store (s : State) (m : ModuleId) (x : ModuleState) : (s.setModule m x).store = s.store := rfl
@[simp] theorem State.setModule_flash (s : State) (m : ModuleId) (x : ModuleState) : (s.setModule m x).flash = s.flash := rfl
@[simp] theorem State.setModule_board (s : State) (m : ModuleId) (x : ModuleState) : (s.setModule m x).board = s.board := rfl
@[simp] theorem State.setModule_portA (s : State) (m : ModuleId) (x : ModuleState) : (s.setModule m x).portA = s.portA := rfl
@[simp] theorem State.setModule_portB (s : State) (m : ModuleId) (x : ModuleState) : (s.setModule m x).portB = s.portB := rfl
@[simp] theorem State.setModule_draws (s : State) (m : ModuleId) (x : ModuleState) : (s.setModule m x).draws = s.draws := rfl
@[simp] theorem State.setModule_pending (s : State) (m : ModuleId) (x : ModuleState) : (s.setModule m x).pending = s.pending := rfl
@[simp] theorem State.setSwitch_timebase (s : State) (f : SwitchId) (x : Switch) : (s.setSwitch f x).timebase = s.timebase := rfl
@[simp] theorem State.setSwitch_setup (s : State) (f : SwitchId) (x : Switch) : (s.setSwitch f x).setup = s.setup := rfl
@[simp] theorem State.setSwitch_resetting (s : State) (f : SwitchId) (x : Switch) : (s.setSwitch f x).resetting = s.resetting := rfl
@[simp] theorem State.setSwitch_grid (s : State) (f : SwitchId) (x : Switch) : (s.setSwitch f x).grid = s.grid := rfl
@[simp] theorem State.setSwitch_follower (s : State) (f : SwitchId) (x : Switch) : (s.setSwitch f x).follower = s.follower := rfl
@[simp] theorem State.setSwitch_tap (s : State) (f : SwitchId) (x : Switch) : (s.setSwitch f x).tap = s.tap := rfl
@[simp] theorem State.setSwitch_click (s : State) (f : SwitchId) (x : Switch) : (s.setSwitch f x).click = s.click := rfl
@[simp] theorem State.setSwitch_links (s : State) (f : SwitchId) (x : Switch) : (s.setSwitch f x).links = s.links := rfl
@[simp] theorem State.setSwitch_layer (s : State) (f : SwitchId) (x : Switch) : (s.setSwitch f x).layer = s.layer := rfl
@[simp] theorem State.setSwitch_notes (s : State) (f : SwitchId) (x : Switch) : (s.setSwitch f x).notes = s.notes := rfl
@[simp] theorem State.setSwitch_bus (s : State) (f : SwitchId) (x : Switch) : (s.setSwitch f x).bus = s.bus := rfl
@[simp] theorem State.setSwitch_banks (s : State) (f : SwitchId) (x : Switch) : (s.setSwitch f x).banks = s.banks := rfl
@[simp] theorem State.setSwitch_seq (s : State) (f : SwitchId) (x : Switch) : (s.setSwitch f x).seq = s.seq := rfl
@[simp] theorem State.setSwitch_store (s : State) (f : SwitchId) (x : Switch) : (s.setSwitch f x).store = s.store := rfl
@[simp] theorem State.setSwitch_flash (s : State) (f : SwitchId) (x : Switch) : (s.setSwitch f x).flash = s.flash := rfl
@[simp] theorem State.setSwitch_portA (s : State) (f : SwitchId) (x : Switch) : (s.setSwitch f x).portA = s.portA := rfl
@[simp] theorem State.setSwitch_portB (s : State) (f : SwitchId) (x : Switch) : (s.setSwitch f x).portB = s.portB := rfl
@[simp] theorem State.setSwitch_draws (s : State) (f : SwitchId) (x : Switch) : (s.setSwitch f x).draws = s.draws := rfl
@[simp] theorem State.setSwitch_pending (s : State) (f : SwitchId) (x : Switch) : (s.setSwitch f x).pending = s.pending := rfl
@[simp] theorem State.setPedal_timebase (s : State) (p : PedalId) (x : Pedal) : (s.setPedal p x).timebase = s.timebase := rfl
@[simp] theorem State.setPedal_setup (s : State) (p : PedalId) (x : Pedal) : (s.setPedal p x).setup = s.setup := rfl
@[simp] theorem State.setPedal_resetting (s : State) (p : PedalId) (x : Pedal) : (s.setPedal p x).resetting = s.resetting := rfl
@[simp] theorem State.setPedal_grid (s : State) (p : PedalId) (x : Pedal) : (s.setPedal p x).grid = s.grid := rfl
@[simp] theorem State.setPedal_follower (s : State) (p : PedalId) (x : Pedal) : (s.setPedal p x).follower = s.follower := rfl
@[simp] theorem State.setPedal_tap (s : State) (p : PedalId) (x : Pedal) : (s.setPedal p x).tap = s.tap := rfl
@[simp] theorem State.setPedal_click (s : State) (p : PedalId) (x : Pedal) : (s.setPedal p x).click = s.click := rfl
@[simp] theorem State.setPedal_links (s : State) (p : PedalId) (x : Pedal) : (s.setPedal p x).links = s.links := rfl
@[simp] theorem State.setPedal_layer (s : State) (p : PedalId) (x : Pedal) : (s.setPedal p x).layer = s.layer := rfl
@[simp] theorem State.setPedal_notes (s : State) (p : PedalId) (x : Pedal) : (s.setPedal p x).notes = s.notes := rfl
@[simp] theorem State.setPedal_bus (s : State) (p : PedalId) (x : Pedal) : (s.setPedal p x).bus = s.bus := rfl
@[simp] theorem State.setPedal_banks (s : State) (p : PedalId) (x : Pedal) : (s.setPedal p x).banks = s.banks := rfl
@[simp] theorem State.setPedal_seq (s : State) (p : PedalId) (x : Pedal) : (s.setPedal p x).seq = s.seq := rfl
@[simp] theorem State.setPedal_store (s : State) (p : PedalId) (x : Pedal) : (s.setPedal p x).store = s.store := rfl
@[simp] theorem State.setPedal_flash (s : State) (p : PedalId) (x : Pedal) : (s.setPedal p x).flash = s.flash := rfl
@[simp] theorem State.setPedal_portA (s : State) (p : PedalId) (x : Pedal) : (s.setPedal p x).portA = s.portA := rfl
@[simp] theorem State.setPedal_portB (s : State) (p : PedalId) (x : Pedal) : (s.setPedal p x).portB = s.portB := rfl
@[simp] theorem State.setPedal_draws (s : State) (p : PedalId) (x : Pedal) : (s.setPedal p x).draws = s.draws := rfl
@[simp] theorem State.setPedal_pending (s : State) (p : PedalId) (x : Pedal) : (s.setPedal p x).pending = s.pending := rfl
@[simp] theorem setFollower_timebase (f : Follower) (s : State) : (setFollower f s).timebase = s.timebase := rfl
@[simp] theorem setFollower_setup (f : Follower) (s : State) : (setFollower f s).setup = s.setup := rfl
@[simp] theorem setFollower_resetting (f : Follower) (s : State) : (setFollower f s).resetting = s.resetting := rfl
@[simp] theorem setFollower_grid (f : Follower) (s : State) : (setFollower f s).grid = s.grid := rfl
@[simp] theorem setFollower_tap (f : Follower) (s : State) : (setFollower f s).tap = s.tap := rfl
@[simp] theorem setFollower_click (f : Follower) (s : State) : (setFollower f s).click = s.click := rfl
@[simp] theorem setFollower_links (f : Follower) (s : State) : (setFollower f s).links = s.links := rfl
@[simp] theorem setFollower_layer (f : Follower) (s : State) : (setFollower f s).layer = s.layer := rfl
@[simp] theorem setFollower_notes (f : Follower) (s : State) : (setFollower f s).notes = s.notes := rfl
@[simp] theorem setFollower_bus (f : Follower) (s : State) : (setFollower f s).bus = s.bus := rfl
@[simp] theorem setFollower_banks (f : Follower) (s : State) : (setFollower f s).banks = s.banks := rfl
@[simp] theorem setFollower_seq (f : Follower) (s : State) : (setFollower f s).seq = s.seq := rfl
@[simp] theorem setFollower_store (f : Follower) (s : State) : (setFollower f s).store = s.store := rfl
@[simp] theorem setFollower_flash (f : Follower) (s : State) : (setFollower f s).flash = s.flash := rfl
@[simp] theorem setFollower_board (f : Follower) (s : State) : (setFollower f s).board = s.board := rfl
@[simp] theorem setFollower_portA (f : Follower) (s : State) : (setFollower f s).portA = s.portA := rfl
@[simp] theorem setFollower_portB (f : Follower) (s : State) : (setFollower f s).portB = s.portB := rfl
@[simp] theorem setFollower_draws (f : Follower) (s : State) : (setFollower f s).draws = s.draws := rfl
@[simp] theorem setFollower_pending (f : Follower) (s : State) : (setFollower f s).pending = s.pending := rfl
@[simp] theorem setPosition_timebase (p : Position) (s : State) : (setPosition p s).timebase = s.timebase := rfl
@[simp] theorem setPosition_setup (p : Position) (s : State) : (setPosition p s).setup = s.setup := rfl
@[simp] theorem setPosition_resetting (p : Position) (s : State) : (setPosition p s).resetting = s.resetting := rfl
@[simp] theorem setPosition_follower (p : Position) (s : State) : (setPosition p s).follower = s.follower := rfl
@[simp] theorem setPosition_tap (p : Position) (s : State) : (setPosition p s).tap = s.tap := rfl
@[simp] theorem setPosition_click (p : Position) (s : State) : (setPosition p s).click = s.click := rfl
@[simp] theorem setPosition_links (p : Position) (s : State) : (setPosition p s).links = s.links := rfl
@[simp] theorem setPosition_layer (p : Position) (s : State) : (setPosition p s).layer = s.layer := rfl
@[simp] theorem setPosition_notes (p : Position) (s : State) : (setPosition p s).notes = s.notes := rfl
@[simp] theorem setPosition_bus (p : Position) (s : State) : (setPosition p s).bus = s.bus := rfl
@[simp] theorem setPosition_banks (p : Position) (s : State) : (setPosition p s).banks = s.banks := rfl
@[simp] theorem setPosition_seq (p : Position) (s : State) : (setPosition p s).seq = s.seq := rfl
@[simp] theorem setPosition_store (p : Position) (s : State) : (setPosition p s).store = s.store := rfl
@[simp] theorem setPosition_flash (p : Position) (s : State) : (setPosition p s).flash = s.flash := rfl
@[simp] theorem setPosition_board (p : Position) (s : State) : (setPosition p s).board = s.board := rfl
@[simp] theorem setPosition_portA (p : Position) (s : State) : (setPosition p s).portA = s.portA := rfl
@[simp] theorem setPosition_portB (p : Position) (s : State) : (setPosition p s).portB = s.portB := rfl
@[simp] theorem setPosition_draws (p : Position) (s : State) : (setPosition p s).draws = s.draws := rfl
@[simp] theorem setPosition_pending (p : Position) (s : State) : (setPosition p s).pending = s.pending := rfl
@[simp] theorem setOp_timebase (op : StoreOp) (s : State) : (setOp op s).timebase = s.timebase := rfl
@[simp] theorem setOp_setup (op : StoreOp) (s : State) : (setOp op s).setup = s.setup := rfl
@[simp] theorem setOp_resetting (op : StoreOp) (s : State) : (setOp op s).resetting = s.resetting := rfl
@[simp] theorem setOp_grid (op : StoreOp) (s : State) : (setOp op s).grid = s.grid := rfl
@[simp] theorem setOp_follower (op : StoreOp) (s : State) : (setOp op s).follower = s.follower := rfl
@[simp] theorem setOp_tap (op : StoreOp) (s : State) : (setOp op s).tap = s.tap := rfl
@[simp] theorem setOp_click (op : StoreOp) (s : State) : (setOp op s).click = s.click := rfl
@[simp] theorem setOp_links (op : StoreOp) (s : State) : (setOp op s).links = s.links := rfl
@[simp] theorem setOp_layer (op : StoreOp) (s : State) : (setOp op s).layer = s.layer := rfl
@[simp] theorem setOp_notes (op : StoreOp) (s : State) : (setOp op s).notes = s.notes := rfl
@[simp] theorem setOp_bus (op : StoreOp) (s : State) : (setOp op s).bus = s.bus := rfl
@[simp] theorem setOp_banks (op : StoreOp) (s : State) : (setOp op s).banks = s.banks := rfl
@[simp] theorem setOp_seq (op : StoreOp) (s : State) : (setOp op s).seq = s.seq := rfl
@[simp] theorem setOp_flash (op : StoreOp) (s : State) : (setOp op s).flash = s.flash := rfl
@[simp] theorem setOp_board (op : StoreOp) (s : State) : (setOp op s).board = s.board := rfl
@[simp] theorem setOp_portA (op : StoreOp) (s : State) : (setOp op s).portA = s.portA := rfl
@[simp] theorem setOp_portB (op : StoreOp) (s : State) : (setOp op s).portB = s.portB := rfl
@[simp] theorem setOp_draws (op : StoreOp) (s : State) : (setOp op s).draws = s.draws := rfl
@[simp] theorem setOp_pending (op : StoreOp) (s : State) : (setOp op s).pending = s.pending := rfl

/-! ## Updates of a numbered port or bank -/

@[simp] theorem State.setPort_timebase (s : State) (p : Port) (x : ControlPort) : (s.setPort p x).timebase = s.timebase := by cases p <;> rfl
@[simp] theorem State.setPort_setup (s : State) (p : Port) (x : ControlPort) : (s.setPort p x).setup = s.setup := by cases p <;> rfl
@[simp] theorem State.setPort_resetting (s : State) (p : Port) (x : ControlPort) : (s.setPort p x).resetting = s.resetting := by cases p <;> rfl
@[simp] theorem State.setPort_grid (s : State) (p : Port) (x : ControlPort) : (s.setPort p x).grid = s.grid := by cases p <;> rfl
@[simp] theorem State.setPort_follower (s : State) (p : Port) (x : ControlPort) : (s.setPort p x).follower = s.follower := by cases p <;> rfl
@[simp] theorem State.setPort_tap (s : State) (p : Port) (x : ControlPort) : (s.setPort p x).tap = s.tap := by cases p <;> rfl
@[simp] theorem State.setPort_click (s : State) (p : Port) (x : ControlPort) : (s.setPort p x).click = s.click := by cases p <;> rfl
@[simp] theorem State.setPort_links (s : State) (p : Port) (x : ControlPort) : (s.setPort p x).links = s.links := by cases p <;> rfl
@[simp] theorem State.setPort_layer (s : State) (p : Port) (x : ControlPort) : (s.setPort p x).layer = s.layer := by cases p <;> rfl
@[simp] theorem State.setPort_notes (s : State) (p : Port) (x : ControlPort) : (s.setPort p x).notes = s.notes := by cases p <;> rfl
@[simp] theorem State.setPort_bus (s : State) (p : Port) (x : ControlPort) : (s.setPort p x).bus = s.bus := by cases p <;> rfl
@[simp] theorem State.setPort_banks (s : State) (p : Port) (x : ControlPort) : (s.setPort p x).banks = s.banks := by cases p <;> rfl
@[simp] theorem State.setPort_seq (s : State) (p : Port) (x : ControlPort) : (s.setPort p x).seq = s.seq := by cases p <;> rfl
@[simp] theorem State.setPort_store (s : State) (p : Port) (x : ControlPort) : (s.setPort p x).store = s.store := by cases p <;> rfl
@[simp] theorem State.setPort_flash (s : State) (p : Port) (x : ControlPort) : (s.setPort p x).flash = s.flash := by cases p <;> rfl
@[simp] theorem State.setPort_board (s : State) (p : Port) (x : ControlPort) : (s.setPort p x).board = s.board := by cases p <;> rfl
@[simp] theorem State.setPort_draws (s : State) (p : Port) (x : ControlPort) : (s.setPort p x).draws = s.draws := by cases p <;> rfl
@[simp] theorem State.setPort_pending (s : State) (p : Port) (x : ControlPort) : (s.setPort p x).pending = s.pending := by cases p <;> rfl
@[simp] theorem State.setBank_timebase (s : State) (k : BankId) (x : Bank) : (s.setBank k x).timebase = s.timebase := by cases k <;> rfl
@[simp] theorem State.setBank_setup (s : State) (k : BankId) (x : Bank) : (s.setBank k x).setup = s.setup := by cases k <;> rfl
@[simp] theorem State.setBank_resetting (s : State) (k : BankId) (x : Bank) : (s.setBank k x).resetting = s.resetting := by cases k <;> rfl
@[simp] theorem State.setBank_grid (s : State) (k : BankId) (x : Bank) : (s.setBank k x).grid = s.grid := by cases k <;> rfl
@[simp] theorem State.setBank_follower (s : State) (k : BankId) (x : Bank) : (s.setBank k x).follower = s.follower := by cases k <;> rfl
@[simp] theorem State.setBank_tap (s : State) (k : BankId) (x : Bank) : (s.setBank k x).tap = s.tap := by cases k <;> rfl
@[simp] theorem State.setBank_click (s : State) (k : BankId) (x : Bank) : (s.setBank k x).click = s.click := by cases k <;> rfl
@[simp] theorem State.setBank_links (s : State) (k : BankId) (x : Bank) : (s.setBank k x).links = s.links := by cases k <;> rfl
@[simp] theorem State.setBank_layer (s : State) (k : BankId) (x : Bank) : (s.setBank k x).layer = s.layer := by cases k <;> rfl
@[simp] theorem State.setBank_notes (s : State) (k : BankId) (x : Bank) : (s.setBank k x).notes = s.notes := by cases k <;> rfl
@[simp] theorem State.setBank_bus (s : State) (k : BankId) (x : Bank) : (s.setBank k x).bus = s.bus := by cases k <;> rfl
@[simp] theorem State.setBank_seq (s : State) (k : BankId) (x : Bank) : (s.setBank k x).seq = s.seq := by cases k <;> rfl
@[simp] theorem State.setBank_store (s : State) (k : BankId) (x : Bank) : (s.setBank k x).store = s.store := by cases k <;> rfl
@[simp] theorem State.setBank_flash (s : State) (k : BankId) (x : Bank) : (s.setBank k x).flash = s.flash := by cases k <;> rfl
@[simp] theorem State.setBank_board (s : State) (k : BankId) (x : Bank) : (s.setBank k x).board = s.board := by cases k <;> rfl
@[simp] theorem State.setBank_portA (s : State) (k : BankId) (x : Bank) : (s.setBank k x).portA = s.portA := by cases k <;> rfl
@[simp] theorem State.setBank_portB (s : State) (k : BankId) (x : Bank) : (s.setBank k x).portB = s.portB := by cases k <;> rfl
@[simp] theorem State.setBank_draws (s : State) (k : BankId) (x : Bank) : (s.setBank k x).draws = s.draws := by cases k <;> rfl
@[simp] theorem State.setBank_pending (s : State) (k : BankId) (x : Bank) : (s.setBank k x).pending = s.pending := by cases k <;> rfl

/-! ## What the updates write -/

@[simp] theorem State.atCount_now (s : State) (c : Count) : (s.atCount c).now = c := rfl
@[simp] theorem State.atCount_source (s : State) (c : Count) : (s.atCount c).timebase.source = s.timebase.source := rfl
@[simp] theorem State.atCount_monitor (s : State) (c : Count) : (s.atCount c).timebase.monitor = s.timebase.monitor := rfl
@[simp] theorem State.atCount_waited (s : State) (c : Count) : (s.atCount c).timebase.waited = s.timebase.waited := rfl
@[simp] theorem State.drew_draws (s : State) : s.drew.draws = s.draws + 1 := rfl
@[simp] theorem State.withPending_pending (s : State) (q : List Instr) : (s.withPending q).pending = q := rfl
@[simp] theorem setFollower_follower (f : Follower) (s : State) : (setFollower f s).follower = f := rfl
@[simp] theorem setPosition_position (p : Position) (s : State) : (setPosition p s).grid.position = p := rfl

@[simp] theorem getAt_setAt_same {α : Type} {n : Nat} (v : Vector α n) (i : Fin n) (x : α) : getAt (setAt v i x) i = x := by
  simp [getAt, setAt]

theorem getAt_setAt_other {α : Type} {n : Nat} (v : Vector α n) {i j : Fin n} (x : α) (h : j ≠ i) :
    getAt (setAt v i x) j = getAt v j := by
  have : i.1 ≠ j.1 := fun e => h (Fin.ext e.symm)
  simp [getAt, setAt, this]

@[simp] theorem State.setPort_port_same (s : State) (p : Port) (x : ControlPort) : (s.setPort p x).port p = x := by cases p <;> rfl

theorem State.setPort_port_other (s : State) {p q : Port} (x : ControlPort) (h : q ≠ p) : (s.setPort p x).port q = s.port q := by
  cases p <;> cases q <;> first | rfl | exact absurd rfl h

@[simp] theorem State.setLink_link_same (s : State) (l : LinkId) (x : KeyLink) : (s.setLink l x).link l = x := getAt_setAt_same ..

theorem State.setLink_link_other (s : State) {l k : LinkId} (x : KeyLink) (h : k ≠ l) : (s.setLink l x).link k = s.link k :=
  getAt_setAt_other _ _ h

@[simp] theorem State.setModule_module_same (s : State) (m : ModuleId) (x : ModuleState) : (s.setModule m x).module m = x :=
  getAt_setAt_same ..

theorem State.setModule_module_other (s : State) {m k : ModuleId} (x : ModuleState) (h : k ≠ m) :
    (s.setModule m x).module k = s.module k := getAt_setAt_other _ _ h

@[simp] theorem State.setBank_bank_same (s : State) (k : BankId) (x : Bank) : (s.setBank k x).bank k = x := by cases k <;> rfl

@[simp] theorem State.setBank_active (s : State) (k : BankId) (x : Bank) : (s.setBank k x).banks.active = s.banks.active := by
  cases k <;> rfl

@[simp] theorem State.setBank_retained (s : State) (k : BankId) (x : Bank) : (s.setBank k x).banks.retained = s.banks.retained := by
  cases k <;> rfl

/-! ## The fields a step never resets: the powered-up states keep flash, waiting commands and drawn values -/

@[simp] theorem powerUp_pending (s : State) : (powerUp s).pending = s.pending := rfl
@[simp] theorem powerUp_draws (s : State) : (powerUp s).draws = s.draws := rfl
@[simp] theorem countStart_pending (m : Monitor) (x : Source) (s : State) : (countStart m x s).pending = s.pending := rfl
@[simp] theorem countStart_flash (m : Monitor) (x : Source) (s : State) : (countStart m x s).flash = s.flash := rfl

/-! ## The SUPPLY_LOW filter: a start of the count begins its sampling, a restart leaves it -/

@[simp] theorem Store.startAt_activity (now : Count) : (Store.startAt now).activity = .idle := rfl
@[simp] theorem Store.startAt_supplyLine (now : Count) : (Store.startAt now).supplyLine = false := rfl
@[simp] theorem Store.startAt_supplySample (now : Count) : (Store.startAt now).supplySample = none := rfl
@[simp] theorem Store.startAt_supplyLow (now : Count) : (Store.startAt now).supplyLow = false := rfl
@[simp] theorem Store.startAt_supplyTimer (now : Count) : (Store.startAt now).supplyTimer = some ⟨now, 0⟩ := rfl
@[simp] theorem Store.restarted_activity (x : Store) : x.restarted.activity = x.activity := rfl
@[simp] theorem Store.restarted_queue (x : Store) : x.restarted.queue = x.queue := rfl
@[simp] theorem Store.restarted_supplyLine (x : Store) : x.restarted.supplyLine = x.supplyLine := rfl
@[simp] theorem Store.restarted_supplySample (x : Store) : x.restarted.supplySample = x.supplySample := rfl
@[simp] theorem Store.restarted_supplyLow (x : Store) : x.restarted.supplyLow = x.supplyLow := rfl
@[simp] theorem Store.restarted_supplyTimer (x : Store) : x.restarted.supplyTimer = x.supplyTimer := rfl

end Sys2Proof.Machine
end

