-- ==== Sys2Proof/Laws/Frames.lean ====
section
/-! SUPPORT. The frame of every shared operation: the parts of the state it can change, said once. -/

-- One theorem at a time: elaborated side by side, these files hold more threads than the memory limit of a check allows.
set_option Elab.async false

namespace Sys2Proof.Machine

/-! ## The algebra of frames -/

theorem SameBut.refl (ps : List Part) (s : State) : SameBut ps s s := by
  refine ⟨fun q _ => ?_⟩; cases q <;> rfl

/-- A frame may be widened. -/
theorem SameBut.mono {ps qs : List Part} {s t : State} (h : SameBut ps s t) (hs : ∀ q ∈ ps, q ∈ qs := by decide) : SameBut qs s t :=
  ⟨fun q hq => h.same q (fun hp => hq (hs q hp))⟩

/-- One operation after another changes what either changes. -/
theorem SameBut.then {ps : List Part} {s t u : State} (h : SameBut ps s t) (k : SameBut ps t u) : SameBut ps s u := by
  refine ⟨fun q hq => ?_⟩
  have x := h.same q hq
  have y := k.same q hq
  cases q <;> exact Eq.trans y x

theorem SameBut.chain {ps qs rs : List Part} {s t u : State} (h : SameBut ps s t) (k : SameBut qs t u)
    (hp : ∀ q ∈ ps, q ∈ rs := by decide) (hq : ∀ q ∈ qs, q ∈ rs := by decide) : SameBut rs s u :=
  (h.mono hp).then (k.mono hq)

/-- What a part outside the frame reads as. -/
theorem SameBut.at {ps : List Part} {s t : State} (h : SameBut ps s t) (q : Part) (hq : q ∉ ps := by decide) : q.Same s t := h.same q hq

/-- A left fold of operations of one frame. -/
theorem SameBut.foldl {α : Type} {ps : List Part} {f : State → α → State} (h : ∀ s x, SameBut ps s (f s x)) :
    ∀ (l : List α) (s : State), SameBut ps s (l.foldl f s)
  | [], s => .refl ps s
  | x :: xs, s => (h s x).then (SameBut.foldl h xs (f s x))

/-! ## Ops -/

theorem atCount_frame (s : State) (c : Count) : SameBut [.timebase] s (s.atCount c) := by
  refine ⟨fun q hq => ?_⟩; cases q <;> first | rfl | exact absurd (by decide) hq

theorem drew_frame (s : State) : SameBut [.draws] s s.drew := by
  refine ⟨fun q hq => ?_⟩; cases q <;> first | rfl | exact absurd (by decide) hq

/-- A port replaced by one that differs in some of its three parts. -/
theorem setPort_frame (s : State) (p : Port) (x : ControlPort) : SameBut portParts s (s.setPort p x) := by
  refine ⟨fun q hq => ?_⟩; cases p <;> cases q <;> first | rfl | exact absurd (by decide) hq

theorem setPort_notices_frame (s : State) (p : Port) (x : ControlPort) (hs : x.service = (s.port p).service)
    (ho : x.outgoing = (s.port p).outgoing) : SameBut noticeParts s (s.setPort p x) := by
  refine ⟨fun q hq => ?_⟩; cases p <;> cases q <;> first | rfl | exact hs | exact ho | exact absurd (by decide) hq

theorem setPort_service_frame (s : State) (p : Port) (x : ControlPort) (hq : x.queue = (s.port p).queue)
    (ho : x.outgoing = (s.port p).outgoing) : SameBut [.serviceA, .serviceB] s (s.setPort p x) := by
  refine ⟨fun q h => ?_⟩; cases p <;> cases q <;> first | rfl | exact hq | exact ho | exact absurd (by decide) h

theorem setPort_line_frame (s : State) (p : Port) (x : ControlPort) (hs : x.service = (s.port p).service) :
    SameBut lineParts s (s.setPort p x) := by
  refine ⟨fun q hq => ?_⟩; cases p <;> cases q <;> first | rfl | exact hs | exact absurd (by decide) hq

theorem setLink_frame (s : State) (l : LinkId) (x : KeyLink) : SameBut [.links] s (s.setLink l x) := by
  refine ⟨fun q hq => ?_⟩; cases q <;> first | rfl | exact absurd (by decide) hq

theorem setModule_frame (s : State) (m : ModuleId) (x : ModuleState) : SameBut [.bus] s (s.setModule m x) := by
  refine ⟨fun q hq => ?_⟩; cases q <;> first | rfl | exact absurd (by decide) hq

theorem setSwitch_frame (s : State) (f : SwitchId) (x : Switch) : SameBut [.board] s (s.setSwitch f x) := by
  refine ⟨fun q hq => ?_⟩; cases q <;> first | rfl | exact absurd (by decide) hq

theorem setPedal_frame (s : State) (p : PedalId) (x : Pedal) : SameBut [.board] s (s.setPedal p x) := by
  refine ⟨fun q hq => ?_⟩; cases q <;> first | rfl | exact absurd (by decide) hq

theorem setBank_frame (s : State) (k : BankId) (x : Bank) : SameBut [.banks] s (s.setBank k x) := by
  refine ⟨fun q hq => ?_⟩; cases k <;> cases q <;> first | rfl | exact absurd (by decide) hq

theorem setFollower_frame (f : Follower) (s : State) : SameBut [.follower] s (setFollower f s) := by
  refine ⟨fun q hq => ?_⟩; cases q <;> first | rfl | exact absurd (by decide) hq

theorem setPosition_frame (p : Position) (s : State) : SameBut [.grid] s (setPosition p s) := by
  refine ⟨fun q hq => ?_⟩; cases q <;> first | rfl | exact absurd (by decide) hq

theorem setOp_frame (op : StoreOp) (s : State) : SameBut [.store] s (setOp op s) := by
  refine ⟨fun q hq => ?_⟩; cases q <;> first | rfl | exact absurd (by decide) hq

theorem discard_frame (s : State) (m : ModuleId) : SameBut [.bus] s (s.discard m) := setModule_frame ..

theorem ControlPort.post_service (c : ControlPort) (n : Notice) : (c.post n).service = c.service := by
  unfold ControlPort.post; repeat' split
  all_goals rfl

theorem ControlPort.post_outgoing (c : ControlPort) (n : Notice) : (c.post n).outgoing = c.outgoing := by
  unfold ControlPort.post; repeat' split
  all_goals rfl

theorem postTo_frame (p : Port) (b : NoticeBody) (o : Option Origin) (s : State) : SameBut noticeParts s (postTo p b o s) :=
  setPort_notices_frame _ _ _ (ControlPort.post_service _ _) (ControlPort.post_outgoing _ _)

theorem post_frame (b : NoticeBody) (o : Option Origin) (s : State) : SameBut noticeParts s (post b o s) :=
  (postTo_frame ..).then (postTo_frame ..)

theorem expireAt_frame {ps : List Part} {f : State → State} (t : Timer) (h : ∀ x, SameBut ps x (f x)) (s : State) :
    SameBut (.timebase :: ps) s (expireAt t f s) := by
  have x : SameBut (.timebase :: ps) s (s.atCount t.due) := (atCount_frame ..).mono (by simp)
  have y : SameBut (.timebase :: ps) (s.atCount t.due) (f (s.atCount t.due)) := (h _).mono (by simp +contextual)
  have z : SameBut (.timebase :: ps) (f (s.atCount t.due)) ((f (s.atCount t.due)).atCount s.now) := (atCount_frame ..).mono (by simp)
  unfold expireAt
  split
  · exact (x.then y).then z
  · exact x.then y

/-! ## The Song Store's fetches, loading, settling, the cue slot -/

theorem requestFetch_frame (f : Fetch) (s : State) : SameBut [.store] s (requestFetch f s) := by
  unfold requestFetch
  split <;> (refine ⟨fun q hq => ?_⟩; cases q <;> first | rfl | exact absurd (by decide) hq)

theorem storeNext_frame (s : State) : SameBut [.store] s (storeNext s) := by
  unfold storeNext
  split <;> (refine ⟨fun q hq => ?_⟩; cases q <;> first | rfl | exact absurd (by decide) hq)

theorem abandonCueFetch_frame (s : State) : SameBut [.store] s (abandonCueFetch s) := by
  unfold abandonCueFetch
  split
  · split
    · exact storeNext_frame s
    · refine ⟨fun q hq => ?_⟩; cases q <;> first | rfl | exact absurd (by decide) hq
  · refine ⟨fun q hq => ?_⟩; cases q <;> first | rfl | exact absurd (by decide) hq

theorem emptyStandby_frame (s : State) : SameBut [.banks] s (emptyStandby s) := setBank_frame ..

theorem seqUpdate_frame (s : State) (x : Sequencer) : SameBut [.seq] s { s with seq := x } := by
  refine ⟨fun q hq => ?_⟩; cases q <;> first | rfl | exact absurd (by decide) hq

theorem busUpdate_frame (s : State) (x : Bus) : SameBut [.bus] s { s with bus := x } := by
  refine ⟨fun q hq => ?_⟩; cases q <;> first | rfl | exact absurd (by decide) hq

theorem layerUpdate_frame (s : State) (x : Layer) : SameBut [.layer] s { s with layer := x } := by
  refine ⟨fun q hq => ?_⟩; cases q <;> first | rfl | exact absurd (by decide) hq

theorem notesUpdate_frame (s : State) (x : Notes) : SameBut [.notes] s { s with notes := x } := by
  refine ⟨fun q hq => ?_⟩; cases q <;> first | rfl | exact absurd (by decide) hq

theorem gridUpdate_frame (s : State) (x : Grid) : SameBut [.grid] s { s with grid := x } := by
  refine ⟨fun q hq => ?_⟩; cases q <;> first | rfl | exact absurd (by decide) hq

theorem clickUpdate_frame (s : State) (x : Click) : SameBut [.click] s { s with click := x } := by
  refine ⟨fun q hq => ?_⟩; cases q <;> first | rfl | exact absurd (by decide) hq

theorem boardUpdate_frame (s : State) (x : Board) : SameBut [.board] s { s with board := x } := by
  refine ⟨fun q hq => ?_⟩; cases q <;> first | rfl | exact absurd (by decide) hq

theorem storeUpdate_frame (s : State) (x : Store) : SameBut [.store] s { s with store := x } := by
  refine ⟨fun q hq => ?_⟩; cases q <;> first | rfl | exact absurd (by decide) hq

theorem flashUpdate_frame (s : State) (x : List Host.Cell) : SameBut [.flash] s { s with flash := x } := by
  refine ⟨fun q hq => ?_⟩; cases q <;> first | rfl | exact absurd (by decide) hq

theorem resettingUpdate_frame (s : State) (x : ResetPhase) : SameBut [.resetting] s { s with resetting := x } := by
  refine ⟨fun q hq => ?_⟩; cases q <;> first | rfl | exact absurd (by decide) hq

theorem tapUpdate_frame (s : State) (x : TapTimer) : SameBut [.tap] s { s with tap := x } := by
  refine ⟨fun q hq => ?_⟩; cases q <;> first | rfl | exact absurd (by decide) hq

/-- What the loading of a cue may change. -/
abbrev loadParts : List Part := [.banks, .seq, .store]

/-- What the cue slot's work may change. -/
abbrev cueParts : List Part := [.banks, .seq, .store, .noticesA, .noticesB]

theorem examineLoad_frame (s : State) : SameBut loadParts s (examineLoad s) := by
  unfold examineLoad
  split
  · split
    · exact ((emptyStandby_frame s).chain (seqUpdate_frame _ _) (rs := loadParts)).chain (requestFetch_frame _ _)
    · exact .refl _ s
  · exact .refl _ s

theorem bankFree_frame (before : Nat) (s : State) : SameBut loadParts s (bankFree before s) := by
  unfold bankFree
  split
  · refine SameBut.chain (ps := loadParts) (qs := loadParts) ?_ (examineLoad_frame _)
    refine ⟨fun q hq => ?_⟩; cases q <;> first | rfl | exact absurd (by decide) hq
  · exact .refl _ s

/-- What a settle may change. -/
abbrev settleParts : List Part := [.bus, .banks, .seq, .store, .noticesA, .noticesB]

theorem settle_frame (s : State) : SameBut settleParts s (settle s) := by
  have h : SameBut settleParts s { s with
      bus := { s.bus with pending := s.bus.pending.filter (fun e => !(e.kind == .take && (s.module e.module).mode.gone)) }
      seq := { s.seq with phase := .none, settle := .idle } } := by
    refine ⟨fun q hq => ?_⟩; cases q <;> first | rfl | exact absurd (by decide) hq
  exact ((h.chain (post_frame _ _ _) (rs := settleParts)).chain (seqUpdate_frame _ _) (rs := settleParts)).chain (examineLoad_frame _)

theorem examineSettle_frame (s : State) : SameBut settleParts s (examineSettle s) := by
  unfold examineSettle
  split
  · exact settle_frame s
  · exact .refl _ s

theorem displaceCue_frame (c : Cue) (o : Origin) (r : Bool) (s : State) : SameBut cueParts s (displaceCue c o r s) := by
  unfold displaceCue
  refine SameBut.chain (ps := cueParts) ?_ (post_frame _ _ _)
  split
  · exact (seqUpdate_frame _ _).mono
  · exact (seqUpdate_frame s _).chain (abandonCueFetch_frame _)
  · exact (seqUpdate_frame s _).chain (emptyStandby_frame _)

theorem acceptCue_frame (c : Cue) (s : State) : SameBut cueParts s (acceptCue c s) :=
  ((seqUpdate_frame s _).chain (post_frame _ _ _) (rs := cueParts)).chain (examineLoad_frame _)

theorem offerCue_frame (c : Cue) (s : State) : SameBut cueParts s (offerCue c s).1 := by
  unfold offerCue
  split
  · exact acceptCue_frame c s
  · split
    · exact (displaceCue_frame _ _ _ s).then (acceptCue_frame c _)
    · split
      · exact (post_frame _ _ s).mono
      · exact .refl _ s

theorem cancelCue_frame (o : Origin) (s : State) : SameBut cueParts s (cancelCue o s).1 := by
  unfold cancelCue
  split
  · exact .refl _ s
  · split
    · exact displaceCue_frame _ _ _ s
    · exact .refl _ s

/-! ## The Held-Note Table -/

/-- What the leaving of an entry may change. -/
abbrev noteParts : List Part := [.notes, .banks, .seq, .store]

theorem releaseEntries_frame (w : Entry → Bool) (s : State) : SameBut noteParts s (releaseEntries w s).1 :=
  (notesUpdate_frame s _).chain (bankFree_frame _ _)

theorem noteRelease_frame (l : LinkId) (c : Channel) (key : Nat) (on : Bool) (s : State) :
    SameBut noteParts s (noteRelease l c key on s) := by
  unfold noteRelease
  split
  · exact (notesUpdate_frame s _).mono
  · exact releaseEntries_frame _ s

theorem sustainLift_frame (l : LinkId) (c : Channel) (s : State) : SameBut noteParts s (sustainLift l c s) := releaseEntries_frame _ s

theorem forcedRelease_frame (k : BankId) (s : State) : SameBut (noteParts ++ [.noticesA, .noticesB]) s (forcedRelease k s) := by
  unfold forcedRelease
  dsimp only
  split
  · exact (releaseEntries_frame _ s).mono
  · exact (releaseEntries_frame _ s).chain (post_frame _ _ _)

theorem linkSilence_frame (l : LinkId) (s : State) : SameBut noteParts s (linkSilence l s).1 := releaseEntries_frame _ s

theorem panicNotes_frame (s : State) : SameBut noteParts s (panicNotes s) := by
  unfold panicNotes
  dsimp only
  split
  · refine SameBut.chain (ps := noteParts) ?_ (examineLoad_frame _)
    refine ⟨fun q hq => ?_⟩; cases q <;> first | rfl | exact absurd (by decide) hq
  · exact (notesUpdate_frame s _).mono

theorem flagDest_frame (n i : Nat) (f : KeyOnFlag) (s : State) : SameBut [.notes] s (flagDest n i f s) := notesUpdate_frame s _

theorem endDest_frame (n i : Nat) (s : State) : SameBut noteParts s (endDest n i s) :=
  (notesUpdate_frame s _).chain (bankFree_frame _ _)

theorem makeEntry_frame (k : Strike) (s : State) : SameBut noteParts s (makeEntry k s) :=
  (notesUpdate_frame s _).chain (releaseEntries_frame _ _)

theorem dropStrike_frame (k : Strike) (s : State) : SameBut [.notes, .noticesA, .noticesB] s (dropStrike k s) := by
  unfold dropStrike
  dsimp only
  split
  · exact (notesUpdate_frame s _).mono
  · exact ((notesUpdate_frame s _).chain (post_frame _ _ _) (rs := [.notes, .noticesA, .noticesB])).chain (notesUpdate_frame _ _)

/-! ## The module bus -/

/-- What the arbiter's look at the collections may change: its own parts, and the notice queues by a settle. -/
abbrev choiceParts : List Part := arbiterParts ++ noticeParts

/-- What the arbiter's choices change, beside the notices of a settle. -/
abbrev serveParts : List Part := [.layer, .notes, .bus, .banks, .seq, .store]

theorem beginTransmission_frame (m : Option ModuleId) (x : Message) (a b : Bool) (s : State) :
    SameBut [.bus] s (beginTransmission m x a b s) := busUpdate_frame s _

theorem discardAll_frame (ms : List ModuleId) (s : State) : SameBut [.bus] s (discardAll ms s) :=
  SameBut.foldl (fun s m => discard_frame s m) ms s

theorem serveRealtime_frame (s : State) : SameBut [.bus] s (serveRealtime s).1 := by
  have h := (busUpdate_frame s { s.bus with realtime := (scanQueue (RealtimeItem.verdict s) s.bus.realtime).rest }).then
    (discardAll_frame ((scanQueue (RealtimeItem.verdict s) s.bus.realtime).dropped.filterMap RealtimeItem.module?) _)
  unfold serveRealtime
  dsimp only
  split <;> exact h

theorem cancelKeyOn_frame (c : Candidate) (s : State) : SameBut serveParts s (cancelKeyOn c s) :=
  ((layerUpdate_frame s _).chain (flagDest_frame _ _ _ _) (rs := serveParts)).chain (endDest_frame _ _ _)

theorem decideCandidate_frame (c : Candidate) (s : State) : SameBut serveParts s (decideCandidate c s).1 := by
  have e := (endDest_frame c.serial c.dest s).mono (qs := serveParts)
  unfold decideCandidate
  repeat' split
  all_goals first | exact .refl _ s | exact e | exact cancelKeyOn_frame c s

theorem serveKeyOffs_frame : ∀ (cs : List Candidate) (s : State), SameBut serveParts s (serveKeyOffs cs s).1
  | [], s => .refl _ s
  | c :: cs, s => by
    have h := decideCandidate_frame c s
    unfold serveKeyOffs
    split
    · next h' => rw [h'] at h; exact h
    · next h' => rw [h'] at h; exact h.then (serveKeyOffs_frame cs _)

theorem dropKeyOn_frame (s : State) (k : KeyOnItem) : SameBut [.notes, .bus] s (dropKeyOn s k) := by
  unfold dropKeyOn
  split
  · exact (flagDest_frame _ _ _ s).chain (discard_frame _ _)
  · exact .refl _ s

theorem serveKeyOns_frame (s : State) : SameBut serveParts s (serveKeyOns s).1 := by
  have h : SameBut serveParts s ((scanQueue (KeyOnItem.verdict s) s.layer.keyOns).dropped.foldl dropKeyOn
      { s with layer := { s.layer with keyOns := (scanQueue (KeyOnItem.verdict s) s.layer.keyOns).rest } }) :=
    (layerUpdate_frame s _).chain (SameBut.foldl dropKeyOn_frame _ _)
  unfold serveKeyOns
  dsimp only
  split
  · exact h
  · split
    · exact h.chain (flagDest_frame _ _ _ _)
    · exact h

theorem serveControls_frame (s : State) : SameBut serveParts s (serveControls s).1 := by
  unfold serveControls
  dsimp only
  split <;> exact (layerUpdate_frame s _).chain (discardAll_frame _ _)

theorem serveLevels_frame (s : State) : SameBut serveParts s (serveLevels s).1 := by
  unfold serveLevels
  dsimp only
  split <;> exact (layerUpdate_frame s _).chain (discardAll_frame _ _)

theorem orElseServe_frame {ps : List Part} {s : State} {a : State × Option Choice} {g : State → State × Option Choice}
    (ha : SameBut ps s a.1) (hg : ∀ x, SameBut ps x (g x).1) : SameBut ps s (orElseServe a g).1 := by
  obtain ⟨x, _ | c⟩ := a
  · exact ha.then (hg x)
  · exact ha

theorem serveLive_frame (s : State) : SameBut serveParts s (serveLive s).1 :=
  orElseServe_frame (serveKeyOffs_frame _ s) fun x =>
    orElseServe_frame (serveKeyOns_frame x) fun y => orElseServe_frame (serveControls_frame y) serveLevels_frame

theorem recordProgram_frame (m : ModuleId) (x : Message) (s : State) : SameBut [.bus] s (recordProgram m x s) := by
  unfold recordProgram
  split
  · exact busUpdate_frame s _
  · exact .refl _ s

theorem serveChange_frame (s : State) : SameBut serveParts s (serveChange s).1 := by
  unfold serveChange
  dsimp only
  split
  · exact .refl _ s
  · exact (busUpdate_frame s _).chain (recordProgram_frame _ _ _)

theorem servePass_frame (s : State) : SameBut serveParts s (servePass s).1 := by
  unfold servePass
  dsimp only
  split
  · exact (busUpdate_frame s _).chain (discardAll_frame _ _)
  · exact ((busUpdate_frame s _).chain (discardAll_frame _ _) (rs := serveParts)).chain (recordProgram_frame _ _ _)

theorem choose_frame (s : State) : SameBut serveParts s (choose s).1 := by
  refine orElseServe_frame ((serveRealtime_frame s).mono) fun x => ?_
  split
  · exact orElseServe_frame (serveLive_frame x) fun y => orElseServe_frame (servePass_frame y) serveChange_frame
  · exact orElseServe_frame (serveChange_frame x) fun y => orElseServe_frame (serveLive_frame y) servePass_frame
  · exact orElseServe_frame (serveChange_frame x) fun y => orElseServe_frame (servePass_frame y) serveLive_frame
  · exact orElseServe_frame (servePass_frame x) fun y => orElseServe_frame (serveLive_frame y) serveChange_frame
  · exact orElseServe_frame (servePass_frame x) fun y => orElseServe_frame (serveChange_frame y) serveLive_frame
  · exact orElseServe_frame (serveLive_frame x) fun y => orElseServe_frame (serveChange_frame y) servePass_frame

theorem choices_frame : ∀ (n : Nat) (s : State), SameBut choiceParts s (choices n s)
  | 0, s => .refl _ s
  | n + 1, s => by
    have h := choose_frame s
    unfold choices
    split
    · next t c h' =>
      rw [h'] at h
      have k : SameBut choiceParts s (beginTransmission c.target c.message c.fromTake false t) :=
        h.chain (beginTransmission_frame _ _ _ _ _)
      dsimp only
      split
      · exact k.chain (examineSettle_frame _)
      · exact k
    · next t h' =>
      rw [h'] at h
      split
      · exact (h.mono).then (choices_frame n t)
      · exact h.mono

theorem arbitrate_frame (s : State) : SameBut choiceParts s (arbitrate s) := by
  unfold arbitrate
  split
  · exact .refl _ s
  · exact choices_frame _ s

/-- While a message is being transmitted the arbiter makes no choice (R111). -/
theorem arbitrate_busy (s : State) (h : s.bus.transmission.isSome = true) : arbitrate s = s := by
  unfold arbitrate; simp [h]

theorem enterMode_frame (m : ModuleId) (x : ModuleMode) (t : Option Timer) (n : Option Nat) (s : State) :
    SameBut [.bus, .noticesA, .noticesB] s (enterMode m x t n s) :=
  (setModule_frame s _ _).chain (post_frame _ _ _)

theorem enterLoading_frame (m : ModuleId) (s : State) : SameBut [.bus, .noticesA, .noticesB] s (enterLoading m s) := enterMode_frame ..

theorem busyAsserted_frame (m : ModuleId) (s : State) : SameBut choiceParts s (busyAsserted m s) := by
  unfold busyAsserted
  dsimp only
  split
  · exact (((setModule_frame s _ _).chain (enterLoading_frame _ _) (rs := choiceParts)).chain (examineSettle_frame _)
      (rs := choiceParts)).then (arbitrate_frame _)
  · exact (setModule_frame s _ _).mono

theorem busyDeasserted_frame (m : ModuleId) (s : State) : SameBut choiceParts s (busyDeasserted m s) := by
  unfold busyDeasserted
  dsimp only
  split
  · exact (((setModule_frame s _ _).chain (enterMode_frame _ _ _ _ _) (rs := choiceParts)).chain (examineSettle_frame _)
      (rs := choiceParts)).then (arbitrate_frame _)
  · exact ((((setModule_frame s _ _).chain (busUpdate_frame _ _) (rs := choiceParts)).chain (enterMode_frame _ _ _ _ _)
      (rs := choiceParts)).chain (examineSettle_frame _) (rs := choiceParts)).then (arbitrate_frame _)
  · exact (setModule_frame s _ _).mono

theorem enterStalled_frame (m : ModuleId) (s : State) : SameBut choiceParts s (enterStalled m s) :=
  ((((busUpdate_frame s _).chain (discardAll_frame _ _) (rs := choiceParts)).chain (enterMode_frame _ _ _ _ _)
    (rs := choiceParts)).chain (examineSettle_frame _) (rs := choiceParts)).then (arbitrate_frame _)

theorem setupModule_frame (s : State) (m : ModuleId) : SameBut [.bus, .noticesA, .noticesB] s (setupModule s m) := by
  unfold setupModule
  dsimp only
  split
  · exact (setModule_frame s _ _).chain (enterLoading_frame _ _)
  · exact (setModule_frame s _ _).mono

theorem endOfMessage_frame (t : Transmission) (s : State) : SameBut [.bus, .seq] s (endOfMessage t s) := by
  unfold endOfMessage
  dsimp only
  split <;> (refine ⟨fun q hq => ?_⟩; cases q <;> first | rfl | exact absurd (by decide) hq)

theorem beginRestartSilence_frame (s : State) : SameBut [.bus] s (beginRestartSilence s) := beginTransmission_frame ..

theorem placeSilence_frame (s : State) : SameBut [.bus, .click] s (placeSilence s) := by
  unfold placeSilence
  repeat' split
  · exact .refl _ s
  · exact (busUpdate_frame s _).mono
  · refine ⟨fun q hq => ?_⟩; cases q <;> first | rfl | exact absurd (by decide) hq

end Sys2Proof.Machine
end

