-- ==== Sys2Proof/Laws/BlockFrames.lean ====
section
/-! SUPPORT. The frame of each block's operations: Layer Engine, clicks, grid, Follower, takes, key links, store operations, pedal board. -/

-- One theorem at a time: elaborated side by side, these files hold more threads than the memory limit of a check allows.
set_option Elab.async false

namespace Sys2Proof.Machine

/-! ## The Layer Engine -/

theorem placeKeyOn_frame (n i v : Nat) (s : State) : SameBut [.layer, .notes] s (placeKeyOn n i v s) := by
  unfold placeKeyOn
  split <;> exact (layerUpdate_frame s _).chain (flagDest_frame _ _ _ _)

theorem placeKeyOns_frame (n : Nat) : ∀ (i : Nat) (vs : List Nat) (s : State), SameBut [.layer, .notes] s (placeKeyOns n i vs s)
  | _, [], s => .refl _ s
  | i, v :: vs, s => (placeKeyOn_frame n i v s).then (placeKeyOns_frame n (i + 1) vs _)

theorem countOverflow_frame (n : Nat) (s : State) : SameBut [.banks] s (countOverflow n s) := setBank_frame _ _ _

/-- What a taken event may change. -/
abbrev strikeParts : List Part := [.layer, .notes, .banks, .seq, .store, .noticesA, .noticesB]

theorem takeStrike_frame (l : LinkId) (c : Channel) (key v : Nat) (s : State) : SameBut strikeParts s (takeStrike l c key v s) := by
  unfold takeStrike
  dsimp only
  have h : SameBut strikeParts s (if (s.activeBank.matching l c key v).length ≤ 4 then s
      else countOverflow ((s.activeBank.matching l c key v).length - 4) s) := by
    split
    · exact .refl _ s
    · exact (countOverflow_frame _ s).mono
  generalize (if (s.activeBank.matching l c key v).length ≤ 4 then s
      else countOverflow ((s.activeBank.matching l c key v).length - 4) s) = x at h ⊢
  split
  · exact h
  · split
    · exact (h.chain (makeEntry_frame _ _) (rs := strikeParts)).chain (placeKeyOns_frame _ _ _ _)
    · exact h.chain (dropStrike_frame _ _)

theorem offerControl_frame (c : ControlItem) (s : State) : SameBut [.layer] s (offerControl c s) := by
  unfold offerControl
  repeat' split
  all_goals exact layerUpdate_frame s _

theorem takeControl_frame (l : LinkId) (c : Channel) (x : ControlId) (v : Nat) (s : State) :
    SameBut [.layer] s (takeControl l c x v s) :=
  SameBut.foldl (fun t (zo : Zone × Bool) => offerControl_frame ⟨zo.1.module, zo.1.channel, x, v⟩ t) _ s

theorem takeEvent_frame (l : LinkId) (e : KeyEvent) (s : State) : SameBut strikeParts s (takeEvent l e s) := by
  unfold takeEvent
  split
  · exact takeStrike_frame l _ _ _ s
  · exact (takeControl_frame l _ _ _ s).mono
  · exact (takeControl_frame l _ _ _ s).mono

theorem setLevel_frame (i : Nat) (v : Option Nat) (s : State) : SameBut [.layer] s (setLevel i v s) := layerUpdate_frame s _

theorem fillFromPedal_frame (p : PedalId) (s : State) : SameBut [.layer] s (fillFromPedal p s) := layerUpdate_frame s _

theorem reformLevels_frame (s : State) : SameBut [.layer] s (reformLevels s) := layerUpdate_frame s _

theorem setZoneOn_frame (i : Nat) (on : Bool) (s : State) : SameBut [.banks, .layer] s (setZoneOn i on s) := by
  have h (x : Bank) : SameBut [.banks, .layer] s (s.setBank s.banks.active x) := (setBank_frame s _ _).mono
  unfold setZoneOn
  dsimp only
  repeat' split
  all_goals first | exact .refl _ s | exact h _ | exact (h _).chain (setLevel_frame _ _ _)

theorem editActive_frame (i : Nat) (z : Zone) (s : State) : SameBut [.banks, .layer] s (editActive i z s) :=
  (setBank_frame s _ _).chain (layerUpdate_frame _ _)

theorem editStandby_frame (i : Nat) (z : Zone) (s : State) : SameBut [.banks] s (editStandby i z s) := setBank_frame s _ _

theorem panicAll_frame (s : State) : SameBut (.click :: .links :: choiceParts) s (panicAll s) := by
  refine SameBut.chain (ps := .click :: .links :: choiceParts) (qs := choiceParts) ?_ (arbitrate_frame _)
  refine SameBut.chain (ps := .click :: .links :: choiceParts) ?_ (panicNotes_frame _)
  refine SameBut.chain (placeSilence_frame s) (qs := [.layer, .links]) ?_
  refine ⟨fun q hq => ?_⟩; cases q <;> first | rfl | exact absurd (by decide) hq

/-! ## Clicks, CLKOUT, flashes -/

theorem pulseLine_frame (k : ClickLine) (s : State) : SameBut [.click] s (pulseLine k s) := by
  cases k <;> exact clickUpdate_frame s _

theorem offerClick_frame (k : ClickLine) (s : State) : SameBut [.bus, .click] s (offerClick k s) := by
  unfold offerClick
  repeat' split
  · exact .refl _ s
  · exact (busUpdate_frame s _).mono
  · exact (clickUpdate_frame s _).mono

theorem clickTick_frame (s : State) : SameBut [.bus, .click] s (clickTick s) := by
  unfold clickTick
  split
  · exact (pulseLine_frame _ s).chain (offerClick_frame _ _)
  · exact .refl _ s

theorem clkoutTick_frame (s : State) : SameBut [.click] s (clkoutTick s) := by
  unfold clkoutTick
  split
  · exact clickUpdate_frame s _
  · exact .refl _ s

theorem flashTick_frame (s : State) : SameBut [.board] s (flashTick s) := by
  unfold flashTick
  split
  · exact boardUpdate_frame s _
  · exact .refl _ s

theorem setMute_frame (on : Bool) (s : State) : SameBut [.click] s (setMute on s) := clickUpdate_frame s _

/-! ## The grid -/

theorem setTempo_frame (t : Nat) (s : State) : SameBut [.grid] s (setTempo t s) := by
  unfold setTempo
  split
  · exact .refl _ s
  · exact gridUpdate_frame s _

theorem nextInterval_frame (s : State) : SameBut [.grid] s (nextInterval s) := gridUpdate_frame s _

theorem rampStep_frame (s : State) : SameBut [.grid] s (rampStep s) := by
  unfold rampStep
  split
  · split
    · exact (setTempo_frame _ s).then (gridUpdate_frame _ _)
    · exact .refl _ s
  · exact .refl _ s

theorem correctionTick_frame (s : State) : SameBut [.grid] s (correctionTick s) := by
  unfold correctionTick
  repeat' split
  · exact (gridUpdate_frame s _).then (setTempo_frame _ _)
  · exact gridUpdate_frame s _
  · exact gridUpdate_frame s _
  · exact .refl _ s

theorem positionNotice_frame (p : Port) (s : State) : SameBut [.noticesA, .noticesB] s (positionNotice p s) := by
  unfold positionNotice
  split
  · exact postTo_frame _ _ _ s
  · exact .refl _ s

/-- What a tick's receivers may change. -/
abbrev tickParts : List Part := [.grid, .click, .bus, .board, .noticesA, .noticesB]

theorem tickReceivers_frame (a b : Bool) (s : State) : SameBut tickParts s (tickReceivers a b s) := by
  have h1 : SameBut tickParts s (clkoutTick (clickTick s)) := (clickTick_frame s).chain (clkoutTick_frame _)
  have h2 : SameBut tickParts s (if a then clkoutTick (clickTick s) else rampStep (clkoutTick (clickTick s))) := by
    split
    · exact h1
    · exact h1.chain (rampStep_frame _)
  have h3 (x : State) : SameBut tickParts x (if b then correctionTick x else x) := by
    split
    · exact (correctionTick_frame x).mono
    · exact .refl _ x
  exact ((((h2.then (h3 _)).chain (flashTick_frame _) (rs := tickParts)).chain (positionNotice_frame _ _)
    (rs := tickParts)).chain (positionNotice_frame _ _))

theorem followNotice_frame (x : FollowState) (s : State) : SameBut [.noticesA, .noticesB] s (followNotice x s) := post_frame _ _ s

theorem switchSource_frame (x : TempoSource) (s : State) : SameBut [.grid, .follower] s (switchSource x s) := by
  refine ⟨fun q hq => ?_⟩; cases q <;> first | rfl | exact absurd (by decide) hq

/-- What a change of tempo source may change. -/
abbrev sourceParts : List Part := [.grid, .follower, .noticesA, .noticesB]

theorem changeSource_frame (x : TempoSource) (s : State) : SameBut sourceParts s (changeSource x s) := by
  unfold changeSource
  dsimp only
  split
  · exact (switchSource_frame x s).mono
  · exact (switchSource_frame x s).chain (followNotice_frame _ _)

theorem enterTransport_frame (x : Transport) (o : Option Origin) (s : State) :
    SameBut [.grid, .noticesA, .noticesB] s (enterTransport x o s) := (gridUpdate_frame s _).chain (post_frame _ _ _)

/-- What a start may change. -/
abbrev startParts : List Part := [.grid, .follower, .click, .bus, .board, .noticesA, .noticesB]

theorem firstTick_frame (b : Bool) (s : State) : SameBut startParts s (firstTick b s) := by
  have h : SameBut startParts s
      { s with follower := { s.follower with paceTimer := none }, grid := { s.grid with remainder := 0 } } := by
    refine ⟨fun q hq => ?_⟩; cases q <;> first | rfl | exact absurd (by decide) hq
  exact (h.chain (tickReceivers_frame b false _) (rs := startParts)).chain (nextInterval_frame _)

theorem startAt_frame (x : Transport) (p : Position) (o : Option Origin) (s : State) : SameBut startParts s (startAt x p o s) :=
  ((setPosition_frame p s).chain (enterTransport_frame _ _ _) (rs := startParts)).chain (firstTick_frame _ _)

theorem start_frame (o : Origin) (s : State) : SameBut startParts s (start o s) := by
  unfold start
  dsimp only
  repeat' split
  all_goals first | exact .refl _ s | exact startAt_frame _ _ _ s | exact (enterTransport_frame _ _ s).mono

theorem stopGrid_frame (o : Origin) (s : State) : SameBut sourceParts s (stopGrid o s) := by
  unfold stopGrid
  dsimp only
  split
  · exact (setPosition_frame _ s).chain (enterTransport_frame _ _ _)
  · refine SameBut.chain (ps := [.grid, .follower]) ?_ (enterTransport_frame _ _ _)
    refine ⟨fun q hq => ?_⟩; cases q <;> first | rfl | exact absurd (by decide) hq

theorem endPending_frame (o : Option Origin) (s : State) : SameBut [.grid, .noticesA, .noticesB] s (endPending o s) := by
  unfold endPending
  split
  · exact enterTransport_frame _ _ s
  · exact .refl _ s

theorem setSource_frame (x : TempoSource) (o : Origin) (s : State) : SameBut startParts s (setSource x o s) := by
  have h : SameBut startParts s (endPending (some o) (changeSource x s)) := (changeSource_frame x s).chain (endPending_frame _ _)
  unfold setSource
  dsimp only
  repeat' split
  · exact .refl _ s
  · exact h.then (firstTick_frame _ _)
  · exact h

theorem applyTempo_frame (v : Nat) (s : State) : SameBut [.grid, .follower] s (applyTempo v s) := by
  have h := (gridUpdate_frame s { s.grid with ramp := none }).then (setTempo_frame (clampTempo v) _)
  unfold applyTempo
  dsimp only
  split
  · refine h.chain (qs := [.grid, .follower]) ?_
    refine ⟨fun q hq => ?_⟩; cases q <;> first | rfl | exact absurd (by decide) hq
  · exact h.mono

/-! ## The Follower and the tap timer -/

theorem correctPhase_frame (e : Int) (s : State) : SameBut [.grid] s (correctPhase e s) := by
  unfold correctPhase
  dsimp only
  split
  · exact (gridUpdate_frame s _).then (setTempo_frame _ _)
  · exact (setTempo_frame _ s).then (gridUpdate_frame _ _)

theorem realign_frame (e : Int) (b : Nat) (o : Option Origin) (s : State) : SameBut [.grid, .noticesA, .noticesB] s (realign e b o s) := by
  unfold realign
  dsimp only
  split
  · exact (setPosition_frame _ s).chain (post_frame _ _ _)
  · exact .refl _ s

/-- What a mark may change. -/
abbrev markParts : List Part := [.grid, .follower, .click, .bus, .board, .noticesA, .noticesB, .draws]

theorem startAtMark_frame (s : State) : SameBut startParts s (startAtMark s) := startAt_frame _ _ _ s

theorem markWork_frame (e : Int) (b : Nat) (o : Option Origin) (s : State) : SameBut markParts s (markWork e b o s) := by
  unfold markWork
  repeat' split
  · exact (((drew_frame s).chain (correctPhase_frame 0 _) (rs := markParts)).chain (startAtMark_frame _) (rs := markParts)).chain
      (realign_frame _ _ _ _)
  · exact (((drew_frame s).chain (startAtMark_frame _) (rs := markParts)).chain (correctPhase_frame 0 _) (rs := markParts)).chain
      (realign_frame _ _ _ _)
  · exact (correctPhase_frame e s).chain (realign_frame _ _ _ _)

theorem lock_frame (xs : List Nat) (b : Nat) (o : Option Origin) (s : State) : SameBut markParts s (lock xs b o s) :=
  (((setFollower_frame _ s).chain (markWork_frame _ _ _ _) (rs := markParts)).chain (setFollower_frame _ _) (rs := markParts)).chain
    (followNotice_frame _ _)

theorem markSeeking_frame (b : Nat) (o : Option Origin) (s : State) : SameBut markParts s (markSeeking b o s) := by
  unfold markSeeking
  dsimp only
  repeat' split
  all_goals first | exact (setFollower_frame _ s).mono | exact lock_frame _ b o s

theorem seekFromMark_frame (x : FollowState) (s : State) : SameBut [.follower, .noticesA, .noticesB] s (seekFromMark x s) :=
  (setFollower_frame _ s).chain (followNotice_frame _ _)

theorem markOutlier_frame (s : State) : SameBut markParts s (markOutlier s) := by
  unfold markOutlier
  split
  · exact (setFollower_frame _ s).mono
  · exact (seekFromMark_frame _ s).mono

theorem markAccepted_frame (i : Nat) (e : Int) (b : Nat) (o : Option Origin) (s : State) :
    SameBut markParts s (markAccepted i e b o s) :=
  ((setFollower_frame _ s).chain (markWork_frame _ _ _ _) (rs := markParts)).chain (setFollower_frame _ _)

theorem markLocked_frame (b : Nat) (o : Option Origin) (s : State) : SameBut markParts s (markLocked b o s) := by
  unfold markLocked
  dsimp only
  repeat' split
  all_goals first | exact markOutlier_frame s | exact markAccepted_frame _ _ b o s

theorem markHoldover_frame (b : Nat) (o : Option Origin) (s : State) : SameBut markParts s (markHoldover b o s) := by
  unfold markHoldover
  dsimp only
  split
  · exact (((setFollower_frame _ s).chain (markWork_frame _ _ _ _) (rs := markParts)).chain (setFollower_frame _ _)
      (rs := markParts)).chain (followNotice_frame _ _)
  · exact (seekFromMark_frame _ s).mono

theorem takeMark_frame (b : Nat) (o : Option Origin) (s : State) : SameBut markParts s (takeMark b o s) := by
  unfold takeMark
  split
  · exact .refl _ s
  · exact markSeeking_frame b o s
  · exact markLocked_frame b o s
  · exact markHoldover_frame b o s
  · exact (seekFromMark_frame _ s).mono

theorem enterHoldover_frame (s : State) : SameBut sourceParts s (enterHoldover s) :=
  (((gridUpdate_frame s _).then (setTempo_frame _ _)).chain (setFollower_frame _ _) (rs := sourceParts)).chain (followNotice_frame _ _)

theorem fallbackTempo_frame (t : Nat) (s : State) : SameBut [.grid] s (fallbackTempo t s) := by
  unfold fallbackTempo
  split
  · exact gridUpdate_frame s _
  · exact setTempo_frame t s

theorem songFallback_frame (s : State) : SameBut markParts s (songFallback s) := by
  have h : SameBut markParts s (endPending none (switchSource .internal s)) :=
    (switchSource_frame _ s).chain (endPending_frame _ _)
  have h2 : SameBut markParts s (if s.grid.transport = .startPending then firstTick false (endPending none (switchSource .internal s))
      else endPending none (switchSource .internal s)) := by
    split
    · exact h.chain (firstTick_frame _ _)
    · exact h
  unfold songFallback
  dsimp only
  refine SameBut.chain (ps := markParts) ?_ (followNotice_frame _ _)
  split
  · exact (h2.chain (fallbackTempo_frame _ _) (rs := markParts)).chain (post_frame _ _ _)
  · exact (h2.chain (drew_frame _) (rs := markParts)).chain (post_frame _ _ _)

theorem enterLost_frame (s : State) : SameBut markParts s (enterLost s) := by
  have h : SameBut markParts s (followNotice .holdover (setFollower { s.follower with state := .lost, paceTimer := none } s)) :=
    (setFollower_frame _ s).chain (followNotice_frame _ _)
  unfold enterLost
  dsimp only
  split
  · exact h
  · exact h.then (songFallback_frame _)

theorem countHoldover_frame (s : State) : SameBut markParts s (countHoldover s) := by
  unfold countHoldover
  dsimp only
  split
  · exact (setFollower_frame _ s).chain (enterLost_frame _)
  · exact (setFollower_frame _ s).mono

theorem holdoverTick_frame (s : State) : SameBut markParts s (holdoverTick s) := by
  unfold holdoverTick
  split
  · exact countHoldover_frame s
  · exact .refl _ s

theorem emitTick_frame (b : Bool) (s : State) : SameBut markParts s (emitTick b s) :=
  ((tickReceivers_frame b true s).chain (holdoverTick_frame _) (rs := markParts)).chain (nextInterval_frame _)

theorem paceExpiry_frame (s : State) : SameBut markParts s (paceExpiry s) :=
  (setFollower_frame _ s).chain (countHoldover_frame _)

/-- What a tap may change. -/
abbrev tapParts : List Part := [.tap, .grid, .follower]

theorem applyTap_frame (t : Nat) (s : State) : SameBut tapParts s (applyTap t s) := by
  unfold applyTap
  dsimp only
  repeat' split
  · exact (((tapUpdate_frame s _).chain (setFollower_frame _ _) (rs := tapParts)).chain (setTempo_frame _ _)
      (rs := tapParts)).chain (correctPhase_frame _ _)
  · exact (((tapUpdate_frame s _).chain (setFollower_frame _ _) (rs := tapParts)).chain (setTempo_frame _ _)
      (rs := tapParts)).chain (gridUpdate_frame _ _)
  · exact (tapUpdate_frame s _).mono

theorem takeTap_frame (s : State) : SameBut tapParts s (takeTap s) := by
  unfold takeTap
  dsimp only
  repeat' split
  all_goals first
    | exact .refl _ s
    | exact (tapUpdate_frame s _).mono
    | exact (tapUpdate_frame s _).chain (applyTap_frame _ _)

theorem refinEdge_frame (s : State) : SameBut markParts s (refinEdge s) := by
  unfold refinEdge
  dsimp only
  split
  · exact (setFollower_frame _ s).chain (takeMark_frame _ _ _)
  · exact (setFollower_frame _ s).mono

theorem refinSampled_frame (high : Bool) (s : State) : SameBut markParts s (refinSampled high s) := by
  unfold refinSampled
  dsimp only
  repeat' split
  · exact (setFollower_frame _ s).chain (refinEdge_frame _)
  · exact (setFollower_frame _ s).chain (setFollower_frame _ _)
  · exact (setFollower_frame _ s).mono

/-! ## Takes -/

theorem changeRoles_frame (x : Song) (s : State) : SameBut [.banks, .seq] s (changeRoles x s) := by
  refine ⟨fun q hq => ?_⟩; cases q <;> first | rfl | exact absurd (by decide) hq

theorem takeGrid_frame (j : Transport) (x : Song) (s : State) : SameBut [.grid, .noticesA, .noticesB] s (takeGrid j x s) := by
  unfold takeGrid
  dsimp only
  split
  · exact (gridUpdate_frame s _).mono
  · exact (gridUpdate_frame s _).chain (enterTransport_frame _ _ _)

theorem takePattern_frame (x : Song) (s : State) : SameBut [.click, .layer] s (takePattern x s) :=
  (clickUpdate_frame s _).chain (reformLevels_frame _)

theorem takeTempo_frame (j : Transport) (x : Song) (s : State) : SameBut [.grid, .follower] s (takeTempo j x s) := by
  unfold takeTempo
  repeat' split
  · exact (gridUpdate_frame s _).mono
  · exact (setTempo_frame _ s).mono
  · exact ((gridUpdate_frame s _).then (setTempo_frame _ _)).chain (setFollower_frame _ _)
  · exact .refl _ s

theorem takeSource_frame (j : Transport) (x : Song) (s : State) : SameBut sourceParts s (takeSource j x s) := by
  unfold takeSource
  dsimp only
  split
  · exact (gridUpdate_frame s _).chain (takeTempo_frame _ _ _)
  · exact (((gridUpdate_frame s _).chain (changeSource_frame _ _) (rs := sourceParts)).chain (endPending_frame _ _)
      (rs := sourceParts)).chain (takeTempo_frame _ _ _)

theorem takePosts_frame (x : Song) (n : Option Nat) (o : Option Origin) (s : State) :
    SameBut [.bus, .seq, .store, .noticesA, .noticesB] s (takePosts x n o s) := by
  unfold takePosts
  refine SameBut.chain (ps := [.bus, .seq, .store]) ?_ (post_frame _ _ _)
  refine ⟨fun q hq => ?_⟩; cases q <;> first | rfl | exact absurd (by decide) hq

/-- What a take may change, beside the tick it may bring about. -/
abbrev takeParts : List Part := [.banks, .seq, .grid, .click, .layer, .follower, .bus, .store, .noticesA, .noticesB]

/-- What a take with its tick may change. -/
abbrev takeTickParts : List Part := [.banks, .seq, .grid, .click, .layer, .follower, .bus, .store, .noticesA, .noticesB, .board, .draws]

theorem takeSteps_frame (j : Transport) (x : Song) (n : Option Nat) (o : Option Origin) (s : State) :
    SameBut takeParts s (takeSteps j x n o s) :=
  (((takeGrid_frame j x s).chain (takePattern_frame _ _) (rs := takeParts)).chain (takeSource_frame _ _ _)
    (rs := takeParts)).chain (takePosts_frame _ _ _ _)

theorem takeWork_frame (j : Transport) (c : Cue) (s : State) : SameBut takeParts s (takeWork j c s) := by
  unfold takeWork
  split
  · exact (changeRoles_frame _ s).chain (takeSteps_frame _ _ _ _ _)
  · exact .refl _ s

theorem takeNowAt_frame (c : Cue) (s : State) : SameBut takeTickParts s (takeNowAt c s) := by
  unfold takeNowAt
  dsimp only
  repeat' split
  · exact ((takeWork_frame _ c s).chain (gridUpdate_frame _ _) (rs := takeTickParts)).chain (emitTick_frame _ _)
  · exact (takeWork_frame _ c s).chain (firstTick_frame _ _)
  · exact (takeWork_frame _ c s).mono

theorem takeIfDue_frame (s : State) : SameBut takeTickParts s (takeIfDue s) := by
  unfold takeIfDue
  repeat' split
  all_goals first | exact .refl _ s | exact takeNowAt_frame _ s

theorem tickExpiry_frame (s : State) : SameBut takeTickParts s (tickExpiry s) := by
  unfold tickExpiry
  dsimp only
  split
  · exact (takeWork_frame _ _ s).chain (emitTick_frame _ _)
  · split
    · exact ((setPosition_frame _ s).chain (enterTransport_frame _ _ _) (rs := takeTickParts)).chain (emitTick_frame _ _)
    · exact (setPosition_frame _ s).chain (emitTick_frame _ _)

theorem stop_frame (o : Origin) (s : State) : SameBut takeTickParts s (stop o s) :=
  (stopGrid_frame o s).chain (takeIfDue_frame _)

theorem takeNow_frame (s : State) : SameBut takeTickParts s (takeNow s) := by
  unfold takeNow
  repeat' split
  · exact .refl _ s
  · exact takeNowAt_frame _ s
  · exact (seqUpdate_frame s _).mono

theorem noSong_frame (x : Option Nat) (y : Option Slot) (s : State) : SameBut [.resetting, .noticesA, .noticesB] s (noSong x y s) := by
  unfold noSong
  refine SameBut.chain (ps := [.resetting]) ?_ (post_frame _ _ _)
  refine ⟨fun q hq => ?_⟩; cases q <;> first | rfl | exact absurd (by decide) hq

theorem initialTake_frame (x : Song) (k : Slot) (n : Nat) (s : State) :
    SameBut (.resetting :: takeParts) s (initialTake x k n s) := by
  unfold initialTake
  dsimp only
  refine SameBut.chain (ps := [.resetting, .banks, .seq, .grid]) (qs := takeParts) ?_ (takeSteps_frame _ _ _ _ _)
  refine SameBut.chain (setBank_frame s .a (Bank.load x k)) (qs := [.resetting, .seq, .grid]) ?_
  refine ⟨fun q hq => ?_⟩; cases q <;> first | rfl | exact absurd (by decide) hq

/-! ## The key links -/

theorem enterKeepAlive_frame (l : LinkId) (x : KeepAlive) (t : Option Timer) (n : Option Nat) (s : State) :
    SameBut [.links, .noticesA, .noticesB] s (enterKeepAlive l x t n s) := (setLink_frame s _ _).chain (post_frame _ _ _)

theorem goodByte_frame (l : LinkId) (s : State) : SameBut [.links, .noticesA, .noticesB] s (goodByte l s) := by
  unfold goodByte
  split
  · exact .refl _ s
  · exact (setLink_frame s _ _).mono
  · exact enterKeepAlive_frame _ _ _ _ s

theorem linkCharacter_frame (l : LinkId) (b : Byte) (x : Bool) (s : State) :
    SameBut [.links, .noticesA, .noticesB] s (linkCharacter l b x s) := by
  unfold linkCharacter
  dsimp only
  repeat' split
  · exact .refl _ s
  · exact (setLink_frame s _ _).mono
  · exact (goodByte_frame l s).chain (setLink_frame _ _ _)

/-- What the parser may change. -/
abbrev parseParts : List Part := [.links, .notes, .banks, .seq, .store, .noticesA, .noticesB]

theorem pend_frame (l : LinkId) (e : KeyEvent) (s : State) : SameBut [.links] s (pend l e s) := setLink_frame s _ _

theorem setSustain_frame (l : LinkId) (c : Channel) (on : Bool) (s : State) : SameBut parseParts s (setSustain l c on s) := by
  have h (k : KeyLink) (lift : Bool) :
      SameBut parseParts s (if lift then sustainLift l c (s.setLink l k) else s.setLink l k) := by
    split
    · exact (setLink_frame s _ _).chain (sustainLift_frame _ _ _)
    · exact (setLink_frame s _ _).mono
  exact h _ _

theorem programAsCue_frame (l : LinkId) (n : Nat) (s : State) : SameBut cueParts s (programAsCue l n s) := by
  unfold programAsCue
  repeat' split
  · exact offerCue_frame _ s
  · exact .refl _ s
  · exact .refl _ s

theorem linkMessage_frame (l : LinkId) (m : LinkMessage) (s : State) : SameBut parseParts s (linkMessage l m s) := by
  unfold linkMessage
  repeat' split
  all_goals first
    | exact .refl _ s
    | exact (noteRelease_frame _ _ _ _ s).mono
    | exact (pend_frame _ _ s).mono
    | exact setSustain_frame _ _ _ s
    | exact (programAsCue_frame _ _ s).mono

theorem parseByte_frame (l : LinkId) (b : Byte) (t : Count) (s : State) : SameBut parseParts s (parseByte l b t s) := by
  unfold parseByte
  dsimp only
  repeat' split
  all_goals first
    | exact .refl _ s
    | exact (enterKeepAlive_frame _ _ _ _ s).mono
    | exact (setLink_frame s _ _).chain (linkMessage_frame _ _ _)
    | exact (setLink_frame s _ _).mono

theorem takeByte_frame (l : LinkId) (s : State) : SameBut parseParts s (takeByte l s) := by
  unfold takeByte
  dsimp only
  split
  · exact (setLink_frame s _ _).chain (parseByte_frame _ _ _ _)
  · exact .refl _ s

theorem linkSilent_frame (l : LinkId) (s : State) : SameBut parseParts s (linkSilent l s) :=
  ((setLink_frame s _ _).chain (linkSilence_frame _ _) (rs := parseParts)).chain (enterKeepAlive_frame _ _ _ _ _)

theorem footSustainOn_frame (x : BitVec 4) (s : State) : SameBut [.links] s (footSustainOn x s) :=
  SameBut.foldl (fun t l => by
    split
    · exact setLink_frame t _ _
    · exact .refl _ t) _ s

theorem clearFoot_frame (s : State) (l : LinkId) : SameBut parseParts s (clearFoot s l) := by
  unfold clearFoot
  split
  · refine (setLink_frame s l { s.link l with footSustain := false }).chain (qs := parseParts) ?_
    exact SameBut.foldl (fun t c => by
      split
      · exact .refl _ t
      · exact (sustainLift_frame _ _ t).mono) _ _
  · exact .refl _ s

theorem footSustainOff_frame (f : SwitchId) (x : BitVec 4) (s : State) : SameBut parseParts s (footSustainOff f x s) :=
  SameBut.foldl (fun t l => by
    split
    · exact clearFoot_frame t l
    · exact .refl _ t) _ s

theorem dropDisabled_frame (s : State) : SameBut [.links] s (dropDisabled s) :=
  SameBut.foldl (fun t l => by
    split
    · exact .refl _ t
    · exact setLink_frame t _ _) _ s

/-! ## Store operations and the ends of fetches -/

theorem programWord_frame (op : StoreOp) (k : Nat) (s : State) : SameBut [.flash] s (programWord op k s) := flashUpdate_frame s _

theorem programWords_frame (op : StoreOp) : ∀ (k n : Nat) (s : State), SameBut [.flash] s (programWords op k n s)
  | _, 0, s => .refl _ s
  | k, n + 1, s => (programWord_frame op k s).then (programWords_frame op (k + 1) n _)

theorem endOp_frame (s : State) : SameBut loadParts s (endOp s) := (storeNext_frame s).chain (examineLoad_frame _)

theorem updateSetlist_frame (x : List Slot) (s : State) : SameBut [.store] s (updateSetlist x s) := storeUpdate_frame s _

theorem opDone_frame (op : StoreOp) (s : State) : SameBut cueParts s (opDone op s) := by
  have h : SameBut cueParts s (if op.kind = .write ∧ op.sector = 1 then updateSetlist (decodeSetlist op.record) s else s) := by
    split
    · exact (updateSetlist_frame _ s).mono
    · exact .refl _ s
  exact (h.chain (post_frame _ _ _) (rs := cueParts)).chain (endOp_frame _)

theorem opFault_frame (x : FaultCause) (op : StoreOp) (s : State) : SameBut cueParts s (opFault x op s) :=
  (post_frame _ _ s).chain (endOp_frame _)

/-- What a step of a store operation may change. -/
abbrev opParts : List Part := [.flash, .banks, .seq, .store, .noticesA, .noticesB]

theorem eraseEnd_frame (op : StoreOp) (s : State) : SameBut opParts s (eraseEnd op s) := by
  unfold eraseEnd
  dsimp only
  repeat' split
  · exact (flashUpdate_frame s _).chain (opFault_frame _ _ _)
  · exact (flashUpdate_frame s _).chain (opDone_frame _ _)
  · exact (flashUpdate_frame s _).chain (setOp_frame _ _)

theorem wordEnd_frame (op : StoreOp) (k : Nat) (s : State) : SameBut opParts s (wordEnd op k s) := by
  unfold wordEnd
  dsimp only
  repeat' split
  · exact (programWord_frame op k s).chain (opFault_frame _ _ _)
  · exact (programWord_frame op k s).chain (setOp_frame _ _)
  · exact (programWord_frame op k s).chain (setOp_frame _ _)

theorem wordsEnd_frame (op : StoreOp) (k : Nat) (s : State) : SameBut opParts s (wordsEnd op k s) := by
  unfold wordsEnd
  split
  · exact wordEnd_frame op k s
  · exact (programWords_frame op k _ s).chain (setOp_frame _ _)

theorem verifyEnd_frame (op : StoreOp) (d : Bool) (s : State) : SameBut opParts s (verifyEnd op d s) := by
  unfold verifyEnd
  split
  · exact (setOp_frame _ s).mono
  · exact (opFault_frame _ _ s).mono

theorem markerEnd_frame (op : StoreOp) (s : State) : SameBut opParts s (markerEnd op s) :=
  (flashUpdate_frame s _).chain (opDone_frame _ _)

theorem supplyAsserted_frame (s : State) : SameBut cueParts s (supplyAsserted s) := by
  unfold supplyAsserted
  dsimp only
  repeat' split
  · exact (storeUpdate_frame s _).chain (opFault_frame _ _ _)
  · exact (storeUpdate_frame s _).chain (setOp_frame _ _)
  · exact (storeUpdate_frame s _).mono

theorem cueFetched_frame (k : Sector) (s : State) : SameBut takeTickParts s (cueFetched k s) := by
  unfold cueFetched
  dsimp only
  repeat' split
  · exact .refl _ s
  · exact (((setBank_frame s _ _).chain (seqUpdate_frame _ _) (rs := takeTickParts)).chain (post_frame _ _ _)
      (rs := takeTickParts)).chain (takeIfDue_frame _)
  · exact (seqUpdate_frame s _).chain (post_frame _ _ _)

theorem initialFetched_frame (k : Sector) (s : State) : SameBut (.resetting :: takeTickParts) s (initialFetched k s) := by
  unfold initialFetched
  repeat' split
  · exact (initialTake_frame _ _ _ s).mono
  · exact (noSong_frame _ _ s).mono
  · exact .refl _ s

/-- What the end of a fetch may change. -/
abbrev fetchParts : List Part :=
  [.setup, .resetting, .links, .banks, .seq, .grid, .click, .layer, .follower, .bus, .store, .noticesA, .noticesB, .sendA, .sendB, .board,
   .draws]

theorem applySetup_frame (u : Setup) (s : State) : SameBut fetchParts s (applySetup u s) := by
  unfold applySetup
  dsimp only
  have h : SameBut fetchParts s { s with setup := u, store := { s.store with mode := u.startMode } } := by
    refine ⟨fun q hq => ?_⟩; cases q <;> first | rfl | exact absurd (by decide) hq
  exact (((h.chain (SameBut.foldl setupModule_frame _ _) (rs := fetchParts)).chain (dropDisabled_frame _)
    (rs := fetchParts)).chain (boardUpdate_frame _ _))

theorem setupFetched_frame (k : Sector) (s : State) : SameBut fetchParts s (setupFetched k s) := by
  exact ((applySetup_frame _ s).chain (resettingUpdate_frame _ _) (rs := fetchParts)).chain (requestFetch_frame _ _)

theorem setlistFetched_frame (k : Sector) (s : State) : SameBut fetchParts s (setlistFetched k s) := by
  unfold setlistFetched
  dsimp only
  split
  · refine SameBut.chain (ps := [.store]) ?_ (noSong_frame _ _ _)
    refine ⟨fun q hq => ?_⟩; cases q <;> first | rfl | exact absurd (by decide) hq
  · refine SameBut.chain (ps := [.store, .resetting]) ?_ (requestFetch_frame _ _)
    refine ⟨fun q hq => ?_⟩; cases q <;> first | rfl | exact absurd (by decide) hq

theorem decideReply_frame (p : Port) (r : Reply) (s : State) : SameBut [.sendA, .sendB] s (decideReply p r s) := by
  refine ⟨fun q hq => ?_⟩; cases p <;> cases q <;> first | rfl | exact absurd (by decide) hq

theorem fetchEnded_frame (f : Fetch) (s : State) : SameBut fetchParts s (fetchEnded f s) := by
  have h := (storeNext_frame s).mono (qs := fetchParts)
  unfold fetchEnded
  dsimp only
  split
  · exact h.chain (cueFetched_frame _ _)
  · exact h.chain (initialFetched_frame _ _)
  · exact h.chain (decideReply_frame _ _ _)
  · exact h.then (setupFetched_frame _ _)
  · exact h.then (setlistFetched_frame _ _)

/-! ## The bits on MBTX -/

/-- A transmission takes eleven bits for each of its characters (R104). -/
theorem Transmission.bits_length (x : Transmission) : x.bits.length = 11 * x.characters.length := by
  have each : ∀ l : List (BitVec 9), (l.flatMap characterBits).length = 11 * l.length := fun l => by
    induction l with
    | nil => rfl
    | cons c cs ih => simp [List.flatMap_cons, characterBits, ih]; omega
  exact each x.characters

/-- Bit n + 1 of a character is its data bit n, counted from the least significant (R184). -/
theorem characterBits_data (c : BitVec 9) (n : Nat) (h : n < 9) : (characterBits c)[n + 1]? = some (c.getLsbD n) := by
  have all : ∀ k : Fin 9, (characterBits c)[k.val + 1]? = some (c.getLsbD k.val) := by simp [Fin.forall_fin_succ, characterBits]
  exact all ⟨n, h⟩

/-- A bit of an ordinary transmission, of 44 µs or 22 µs a character, takes 4 µs or 2 µs (R104), whatever setup holds by then. -/
theorem Transmission.bitMicros_eq (x : Transmission) (n : Nat) (h : x.timer.micros = 11 * n * x.characters.length)
    (hc : x.characters ≠ []) : x.bitMicros = n := by
  have hp : 0 < 11 * x.characters.length := by
    have := List.length_pos_of_ne_nil hc
    omega
  unfold Transmission.bitMicros
  rw [h, show 11 * n * x.characters.length = n * (11 * x.characters.length) by ring]
  exact Nat.mul_div_cancel _ hp

/-- Between transmissions MBTX stands at the stop level. -/
theorem State.mbtx_idle (s : State) (h : s.bus.transmission = none) : s.mbtx = true := by
  simp [State.mbtx, h]

end Sys2Proof.Machine
end

