-- ==== Sys2Proof/Laws/CommandFrames.lean ====
section
/-! SUPPORT. The frames of the pedal board, the requests, the ports and the timed events; and that no command touches the queue of waiting
commands. -/

-- One theorem at a time: elaborated side by side, these files hold more threads than the memory limit of a check allows.
set_option Elab.async false

namespace Sys2Proof.Machine

/-! ## The pedal board -/

/-- What a footswitch action may change. -/
abbrev boardParts : List Part :=
  [.grid, .follower, .tap, .click, .links, .layer, .notes, .bus, .banks, .seq, .store, .board, .noticesA, .noticesB, .draws]

theorem runFree_frame {ps : List Part} {f : Instr → State → State} (hf : ∀ e s, SameBut ps s (f e s)) (hd : Part.draws ∈ ps)
    (es : List Instr) (s : State) : SameBut ps s (runFree f es s) := by
  unfold runFree
  split
  · exact SameBut.foldl (fun t e => hf e t) es s
  · exact ((drew_frame s).mono (by simpa using hd)).then (SameBut.foldl (fun t e => hf e t) _ _)

theorem offerPedalCue_frame (c : Option Cue) (s : State) : SameBut cueParts s (offerPedalCue c s) := by
  unfold offerPedalCue
  split
  · exact offerCue_frame _ s
  · exact .refl _ s

theorem perform_frame (a : Action) (s : State) : SameBut boardParts s (perform a s) := by
  unfold perform
  repeat' split
  all_goals first
    | exact .refl _ s
    | exact (start_frame _ s).mono
    | exact (stop_frame _ s).mono
    | exact (takeTap_frame s).mono
    | exact (setMute_frame _ s).mono
    | exact (setZoneOn_frame _ _ s).mono
    | exact (footSustainOn_frame _ s).mono
    | exact (offerPedalCue_frame _ s).mono
    | exact (cancelCue_frame _ s).mono
    | exact (takeNow_frame s).mono

theorem pressAccepted_frame (f : SwitchId) (s : State) : SameBut boardParts s (pressAccepted f s) := by
  unfold pressAccepted
  dsimp only
  split
  · exact (setSwitch_frame s _ _).chain (perform_frame _ _)
  · exact (setSwitch_frame s _ _).mono

theorem releaseHalf_frame (f : SwitchId) (a : Action) (s : State) : SameBut boardParts s (releaseHalf f a s) := by
  unfold releaseHalf
  split
  · exact (footSustainOff_frame _ _ s).mono
  · exact .refl _ s

theorem releaseAccepted_frame (f : SwitchId) (s : State) : SameBut boardParts s (releaseAccepted f s) := by
  unfold releaseAccepted
  dsimp only
  repeat' split
  all_goals first
    | exact (setSwitch_frame s _ _).mono
    | exact (setSwitch_frame s _ _).chain (releaseHalf_frame _ _ _)
    | exact (setSwitch_frame s _ _).chain (perform_frame _ _)

theorem holdExpired_frame (f : SwitchId) (s : State) : SameBut boardParts s (holdExpired f s) :=
  (setSwitch_frame s _ _).chain (perform_frame _ _)

theorem switchSample_frame (x : BitVec 8) (s : State) : SameBut boardParts s (switchSample x s) := by
  unfold switchSample
  dsimp only
  exact (boardUpdate_frame s _).chain (runFree_frame (ps := boardParts) (fun e t => by
    split
    · exact pressAccepted_frame _ t
    · exact releaseAccepted_frame _ t
    · exact .refl _ t) (by decide) _ _)

theorem busySampleAll_frame (x : BitVec 8) (s : State) : SameBut (.draws :: choiceParts) s (busySampleAll x s) := by
  unfold busySampleAll
  dsimp only
  exact (busUpdate_frame s _).chain (runFree_frame (ps := .draws :: choiceParts) (fun e t => by
    split
    · exact (busyAsserted_frame _ t).mono
    · exact (busyDeasserted_frame _ t).mono
    · exact .refl _ t) (by decide) _ _)

theorem pedalReading_frame (p : PedalId) (raw : Nat) (s : State) :
    SameBut [.board, .layer, .noticesA, .noticesB] s (pedalReading p raw s) := by
  unfold pedalReading
  dsimp only
  repeat' split
  all_goals first
    | exact (setPedal_frame s _ _).mono
    | exact (setPedal_frame s _ _).chain (post_frame _ _ _)
    | exact (setPedal_frame s _ _).chain (fillFromPedal_frame _ _)
    | exact ((setPedal_frame s _ _).chain (fillFromPedal_frame _ _) (rs := [.board, .layer, .noticesA, .noticesB])).chain (post_frame _ _ _)

theorem beginConversion_frame (s : State) : SameBut [.board] s (beginConversion s) := boardUpdate_frame s _
theorem slotStart_frame (s : State) : SameBut [.board] s (slotStart s) := boardUpdate_frame s _
theorem driveEnd_frame (s : State) : SameBut [.board] s (driveEnd s) := boardUpdate_frame s _
theorem blinkToggle_frame (s : State) : SameBut [.board] s (blinkToggle s) := boardUpdate_frame s _

/-! ## Requests -/

/-- What a request may change. -/
abbrev requestParts : List Part := .resetting :: boardParts

/-- What a setting of a port's mask or position notices may change. -/
abbrev settingParts : List Part := [.serviceA, .serviceB]

theorem checked_frame {α : Type} {ps : List Part} (c : Checked α) (s : State) (f : α → Served)
    (h : ∀ x, SameBut ps s (f x).1) : SameBut ps s (checked c s f).1 := by
  cases c with
  | error n => exact .refl _ s
  | ok x => exact h x

theorem storeRequest_frame (k : OpKind) (p : Port) (x : Checked (Sector × List Byte)) (s : State) :
    SameBut [.store] s (storeRequest k p x s).1 := by
  unfold storeRequest
  repeat' split
  · exact .refl _ s
  · exact .refl _ s
  · exact .refl _ s
  · exact checked_frame _ s _ (fun y => setOp_frame _ s)

theorem beginRestart_frame (s : State) : SameBut [.resetting, .seq, .store, .bus] s (beginRestart s) := by
  unfold beginRestart
  dsimp only
  have h : SameBut [.resetting, .seq, .store, .bus] s
      (match s.seq.cue with
        | some c => if c.state = CueState.loading then abandonCueFetch s else s
        | none => s) := by
    split
    · split
      · exact (abandonCueFetch_frame s).mono
      · exact .refl _ s
    · exact .refl _ s
  have u (t : State) : SameBut [.resetting, .seq] t
      { t with seq := { t.seq with cue := none, settle := .idle, retention := none }, resetting := .silence } := by
    refine ⟨fun q hq => ?_⟩; cases q <;> first | rfl | exact absurd (by decide) hq
  have w (t : State) : SameBut [.resetting, .seq, .store, .bus] t (if t.bus.transmission.isNone then beginRestartSilence t else t) := by
    split
    · exact (beginRestartSilence_frame t).mono
    · exact .refl _ t
  exact (h.chain (u _) (rs := [.resetting, .seq, .store, .bus])).then (w _)

theorem requestMask_frame (p : Port) (d : List Byte) (s : State) : SameBut settingParts s (requestMask p d s).1 :=
  checked_frame _ s _ (fun _ => setPort_service_frame s p _ rfl rfl)

theorem requestPositions_frame (p : Port) (x : Byte) (s : State) : SameBut settingParts s (requestPositions p x s).1 :=
  checked_frame _ s _ (fun _ => setPort_service_frame s p _ rfl rfl)

/-- The frame of every request but the two that set a port's own settings. -/
theorem handle_frame (k : RequestKind) (p : Port) (d : List Byte) (s : State) (hm : k ≠ .setNoticeMask)
    (hp : k ≠ .setPositionNotices) : SameBut requestParts s (handle k p d s).1 := by
  have arb {t : State} (h : SameBut requestParts s t) : SameBut requestParts s (arbitrate t) := h.chain (arbitrate_frame t)
  unfold handle
  split
  · exact arb (start_frame _ s).mono
  · exact arb (stop_frame _ s).mono
  · unfold requestSetTempo
    split
    · exact .refl _ s
    · exact (applyTempo_frame _ s).mono
  · exact checked_frame _ s _ (fun x => arb (setSource_frame x _ s).mono)
  · exact (takeTap_frame s).mono
  · unfold requestMark
    repeat' split
    all_goals first | exact .refl _ s | exact arb (takeMark_frame _ _ s).mono
  · exact checked_frame _ s _ (fun x => (setMute_frame x s).mono)
  · exact checked_frame _ s _ (fun x => (offerCue_frame x s).mono)
  · exact (cancelCue_frame _ s).mono
  · exact arb (takeNow_frame s).mono
  · refine checked_frame _ s _ (fun x => ?_)
    split
    · exact .refl _ s
    · exact (offerCue_frame _ s).mono
  · refine checked_frame _ s _ (fun x => ?_)
    dsimp only
    repeat' split
    all_goals first
      | exact .refl _ s
      | exact arb (editActive_frame _ _ s).mono
      | exact (editStandby_frame _ _ s).mono
  · unfold requestToggle
    split
    · exact .refl _ s
    · exact checked_frame _ s _ (fun x => arb (setZoneOn_frame _ x s).mono)
  · exact (panicAll_frame s).mono
  · refine checked_frame _ s _ (fun x => ?_)
    split
    · exact arb (busUpdate_frame s _).mono
    · exact .refl _ s
  · exact (storeRequest_frame _ _ _ s).mono
  · exact (storeRequest_frame _ _ _ s).mono
  · exact checked_frame _ s _ (fun x => (requestFetch_frame _ s).mono)
  · exact (storeRequest_frame _ _ _ s).mono
  · exact (storeRequest_frame _ _ _ s).mono
  · refine checked_frame _ s _ (fun x => ?_)
    repeat' split
    · exact .refl _ s
    · exact .refl _ s
    · exact (storeUpdate_frame s _).chain (post_frame _ _ _)
  · exact .refl _ s
  · exact absurd rfl hm
  · exact absurd rfl hp
  · unfold requestRestart
    split
    · exact .refl _ s
    · exact (beginRestart_frame s).mono

theorem decideRequest_frame (p : Port) (f : Frame) (s : State) :
    SameBut (settingParts ++ requestParts) s (decideRequest p f s).1 := by
  have h (k : RequestKind) : SameBut (settingParts ++ requestParts) s (handle k p f.payload s).1 := by
    by_cases hm : k = .setNoticeMask
    · subst hm; exact (requestMask_frame p _ s).mono
    · by_cases hp : k = .setPositionNotices
      · subst hp; exact (requestPositions_frame p _ s).mono
      · exact (handle_frame k p _ s hm hp).mono
  unfold decideRequest
  repeat' split
  all_goals first | exact .refl _ s | exact h _

/-! ## The ports -/

/-- What the service of a port may change. -/
abbrev serviceParts : List Part := [.resetting, .serviceA, .serviceB, .sendA, .sendB] ++ boardParts

theorem ControlPort.transmit_service (c : ControlPort) (x : Position) (now : Count) : (c.transmit x now).service = c.service := by
  have h (n : Notice) (rest : List Notice) : (c.sendNotice n rest x now).service = c.service := by
    unfold ControlPort.sendNotice ControlPort.reportLost
    split <;> rfl
  unfold ControlPort.transmit
  repeat' split
  all_goals first | rfl | exact h _ _

theorem transmitOn_frame (p : Port) (s : State) : SameBut lineParts s (transmitOn p s) :=
  setPort_line_frame _ _ _ (ControlPort.transmit_service _ _ _)

theorem transmitAll_frame (s : State) : SameBut lineParts s (transmitAll s) := (transmitOn_frame _ s).then (transmitOn_frame _ _)

theorem serve_frame (p : Port) (s : State) : SameBut serviceParts s (serve p s) := by
  unfold serve
  dsimp only
  split
  · have h (x : ControlPort) (f : Frame) : SameBut serviceParts s (decideRequest p f (s.setPort p x)).1 :=
      (setPort_frame s p x).chain (decideRequest_frame p f _)
    split
    · exact (h _ _).chain (decideReply_frame _ _ _)
    · exact h _ _
  · exact .refl _ s

theorem requestLost_frame (p : Port) (x : LossCause) (k t : Option Byte) (s : State) :
    SameBut noticeParts s (requestLost p x k t s) := postTo_frame _ _ _ s

theorem offerFrame_frame (p : Port) (f : Frame) (s : State) : SameBut serviceParts s (offerFrame p f s) := by
  unfold offerFrame
  dsimp only
  split
  · exact (setPort_frame s _ _).chain (serve_frame _ _)
  · exact (requestLost_frame _ _ _ _ s).mono

theorem arrive_frame (p : Port) (k t : Byte) (d : List Byte) (s : State) : SameBut serviceParts s (arrive p k t d s) := by
  unfold arrive
  repeat' split
  · exact .refl _ s
  · exact (requestLost_frame _ _ _ _ s).chain (transmitAll_frame _)
  · exact (offerFrame_frame _ _ s).chain (transmitAll_frame _)

theorem discardFrame_frame (p : Port) (x : LossCause) (s : State) : SameBut portParts s (discardFrame p x s) :=
  (setPort_frame s _ _).chain (requestLost_frame _ _ _ _ _)

theorem assemble_frame (p : Port) (b : Byte) (s : State) : SameBut serviceParts s (assemble p b s) := by
  unfold assemble
  dsimp only
  repeat' split
  all_goals first
    | exact .refl _ s
    | exact (setPort_frame s _ _).mono
    | exact (discardFrame_frame _ _ s).mono
    | exact (setPort_frame s _ _).chain (offerFrame_frame _ _ _)

theorem portCharacter_frame (p : Port) (b : Byte) (x : Bool) (s : State) : SameBut serviceParts s (portCharacter p b x s) := by
  unfold portCharacter
  repeat' split
  · exact assemble_frame p b s
  · exact .refl _ s
  · exact (discardFrame_frame _ _ s).mono

theorem frameSent_frame (p : Port) (fr : PortFrame) (s : State) : SameBut serviceParts s (frameSent p fr s) := by
  unfold frameSent
  dsimp only
  split
  · exact ((setPort_frame s _ _).chain (serve_frame _ _) (rs := serviceParts)).chain (transmitAll_frame _)
  · exact (setPort_frame s _ _).chain (transmitAll_frame _)

/-! ## Timed events -/

/-- What the close of an event may change. -/
abbrev closeParts : List Part := arbiterParts ++ lineParts

theorem close_frame (s : State) : SameBut closeParts s (close s) := (arbitrate_frame s).chain (transmitAll_frame _)

/-- While a message is being transmitted an event closes with the transmitters alone. -/
theorem close_busy (s : State) (h : s.bus.transmission.isSome = true) : close s = transmitAll s := by
  unfold close; rw [arbitrate_busy s h]

/-- What an event may change: everything but the setup, the flash, the reset phase and the waiting commands. -/
abbrev eventParts : List Part := .timebase :: (boardParts ++ lineParts)

/-- What a timed event may change with the flash and the reset phase. -/
abbrev allEventParts : List Part := .timebase :: .flash :: .setup :: serviceParts

theorem onCountdown_frame (s : State) : SameBut eventParts s (onCountdown s) := by
  unfold onCountdown
  split
  · exact (expireAt_frame (ps := boardParts ++ lineParts) _ (fun x => (tickExpiry_frame x).chain (close_frame _)) s)
  · exact .refl _ s

theorem onHoldoverTimer_frame (s : State) : SameBut eventParts s (onHoldoverTimer s) := by
  unfold onHoldoverTimer
  split
  · exact (expireAt_frame (ps := boardParts ++ lineParts) _ (fun x => (enterHoldover_frame x).chain (close_frame _)) s)
  · exact .refl _ s

theorem onPaceTimer_frame (s : State) : SameBut eventParts s (onPaceTimer s) := by
  unfold onPaceTimer
  split
  · exact (expireAt_frame (ps := boardParts ++ lineParts) _ (fun x => (paceExpiry_frame x).chain (close_frame _)) s)
  · exact .refl _ s

theorem onClickTimer_frame (k : ClickLine) (s : State) : SameBut [.timebase, .click] s (onClickTimer k s) := by
  unfold onClickTimer
  split
  · exact expireAt_frame _ (fun x => clickUpdate_frame x _) s
  · exact .refl _ s

theorem onClkoutTimer_frame (s : State) : SameBut [.timebase, .click] s (onClkoutTimer s) := by
  unfold onClkoutTimer
  split
  · exact expireAt_frame _ (fun x => clickUpdate_frame x _) s
  · exact .refl _ s

theorem onKeepAliveTimer_frame (l : LinkId) (s : State) : SameBut eventParts s (onKeepAliveTimer l s) := by
  unfold onKeepAliveTimer
  split
  · exact (expireAt_frame (ps := boardParts ++ lineParts) _ (fun x => (linkSilent_frame l x).chain (close_frame _)) s)
  · exact .refl _ s

theorem onIdleTimer_frame (s : State) : SameBut [.timebase, .bus] s (onIdleTimer s) := by
  unfold onIdleTimer
  split
  · exact expireAt_frame _ (fun x => busUpdate_frame x _) s
  · exact .refl _ s

theorem onBusyTimer_frame (m : ModuleId) (s : State) : SameBut (.timebase :: closeParts) s (onBusyTimer m s) := by
  unfold onBusyTimer
  split
  · exact expireAt_frame _ (fun x => (enterStalled_frame m x).chain (transmitAll_frame _)) s
  · exact .refl _ s

theorem onSettleTimer_frame (s : State) : SameBut (.timebase :: closeParts) s (onSettleTimer s) := by
  unfold onSettleTimer
  split
  · exact expireAt_frame _ (fun x => ((seqUpdate_frame x _).chain (examineSettle_frame _) (rs := closeParts)).chain (close_frame _)) s
  · exact .refl _ s

theorem retentionExpired_frame (s : State) : SameBut (noteParts ++ noticeParts) s (retentionExpired s) := by
  unfold retentionExpired
  dsimp only
  split
  · exact (seqUpdate_frame s _).chain (forcedRelease_frame _ _)
  · exact (seqUpdate_frame s _).mono

theorem onRetentionTimer_frame (s : State) : SameBut (.timebase :: closeParts) s (onRetentionTimer s) := by
  unfold onRetentionTimer
  split
  · exact expireAt_frame _ (fun x => (retentionExpired_frame x).chain (close_frame _)) s
  · exact .refl _ s

theorem onHoldTimer_frame (f : SwitchId) (s : State) : SameBut eventParts s (onHoldTimer f s) := by
  unfold onHoldTimer
  split
  · exact (expireAt_frame (ps := boardParts ++ lineParts) _ (fun x => (holdExpired_frame f x).chain (close_frame _)) s)
  · exact .refl _ s

theorem onAdcTimer_frame (s : State) : SameBut [.timebase, .board] s (onAdcTimer s) := by
  unfold onAdcTimer
  split
  · exact expireAt_frame _ beginConversion_frame s
  · exact .refl _ s

theorem onSlotTimer_frame (s : State) : SameBut [.timebase, .board] s (onSlotTimer s) := by
  unfold onSlotTimer
  split
  · exact expireAt_frame _ slotStart_frame s
  · exact .refl _ s

theorem onDriveTimer_frame (s : State) : SameBut [.timebase, .board] s (onDriveTimer s) := by
  unfold onDriveTimer
  split
  · exact expireAt_frame _ driveEnd_frame s
  · exact .refl _ s

theorem onBeatFlash_frame (s : State) : SameBut [.timebase, .board] s (onBeatFlash s) := by
  unfold onBeatFlash
  split
  · exact expireAt_frame _ (fun x => boardUpdate_frame x _) s
  · exact .refl _ s

theorem onDownbeatFlash_frame (s : State) : SameBut [.timebase, .board] s (onDownbeatFlash s) := by
  unfold onDownbeatFlash
  split
  · exact expireAt_frame _ (fun x => boardUpdate_frame x _) s
  · exact .refl _ s

theorem onBlinkTimer_frame (s : State) : SameBut [.timebase, .board] s (onBlinkTimer s) := by
  unfold onBlinkTimer
  split
  · exact expireAt_frame _ blinkToggle_frame s
  · exact .refl _ s

theorem onGapTimer_frame (p : Port) (s : State) : SameBut (.timebase :: portParts) s (onGapTimer p s) := by
  unfold onGapTimer
  split
  · exact expireAt_frame _ (fun x => (discardFrame_frame p _ x).chain (transmitAll_frame _)) s
  · exact .refl _ s

theorem onFrameTimer_frame (p : Port) (s : State) : SameBut (.timebase :: serviceParts) s (onFrameTimer p s) := by
  unfold onFrameTimer
  split
  · exact expireAt_frame _ (frameSent_frame p _) s
  · exact .refl _ s

/-- What a step of a store operation may change, with its close. -/
abbrev opCloseParts : List Part := .flash :: closeParts

theorem opExpiry_frame (op : StoreOp) {f : State → State} (h : ∀ x, SameBut opParts x (f x)) (s : State) :
    SameBut (.timebase :: opCloseParts) s (opExpiry op f s) := by
  unfold opExpiry
  split
  · exact expireAt_frame (ps := opCloseParts) _ (fun x => (h x).chain (close_frame _)) s
  · exact (h s).chain (close_frame _)

theorem onWord_frame (s : State) : SameBut (.timebase :: opCloseParts) s (onWord s) := by
  unfold onWord
  repeat' split
  all_goals first | exact .refl _ s | exact opExpiry_frame _ (wordEnd_frame _ _) s

theorem onWords_frame (s : State) : SameBut (.timebase :: opCloseParts) s (onWords s) := by
  unfold onWords
  repeat' split
  all_goals first | exact .refl _ s | exact opExpiry_frame _ (wordsEnd_frame _ _) s

theorem onMarker_frame (s : State) : SameBut (.timebase :: opCloseParts) s (onMarker s) := by
  unfold onMarker
  repeat' split
  all_goals first | exact .refl _ s | exact opExpiry_frame _ (markerEnd_frame _) s

/-! ## The SUPPLY_LOW line -/

/-- The three things a sample can do: it changes nothing but what the filter holds; it accepts ASSERTED; it accepts DEASSERTED. -/
theorem supplySampled_cases (low : Bool) (s t : State) (ht : t = { s with store := { s.store with supplySample := some low } }) :
    (¬ (s.store.supplySample = some low ∧ s.store.supplyLow ≠ low) ∧ supplySampled low s = t) ∨
    (s.store.supplySample = some true ∧ s.store.supplyLow = false ∧ low = true ∧ supplySampled low s = close (supplyAsserted t)) ∨
    (s.store.supplySample = some false ∧ s.store.supplyLow = true ∧ low = false ∧
      supplySampled low s = { t with store := { t.store with supplyLow := false } }) := by
  subst ht
  unfold supplySampled
  by_cases h : s.store.supplySample = some low ∧ s.store.supplyLow ≠ low
  · obtain ⟨ha, hb⟩ := h
    cases low
    · exact .inr (.inr ⟨ha, by simpa using hb, rfl, by simp [ha, hb]⟩)
    · exact .inr (.inl ⟨ha, by simpa using hb, rfl, by simp [ha, hb]⟩)
  · exact .inl ⟨h, by simp [h]⟩

theorem supplySampled_frame (low : Bool) (s : State) : SameBut closeParts s (supplySampled low s) := by
  obtain ⟨-, e⟩ | ⟨-, -, -, e⟩ | ⟨-, -, -, e⟩ := supplySampled_cases low s _ rfl <;> rw [e]
  · exact (storeUpdate_frame s _).mono
  · exact (((storeUpdate_frame s _).chain (supplyAsserted_frame _) (rs := closeParts)).chain (close_frame _))
  · exact (storeUpdate_frame s _).chain (storeUpdate_frame _ _)

theorem supplyAccepted_frame (low : Bool) (s : State) : SameBut closeParts s (supplyAccepted low s) :=
  ((storeUpdate_frame s _).chain (supplySampled_frame low _) (rs := closeParts)).then (supplySampled_frame low _)

theorem sampleSupply_frame (t : Timer) (s : State) : SameBut (.timebase :: closeParts) s (sampleSupply t s) :=
  expireAt_frame _ (fun x => (storeUpdate_frame x _).chain (supplySampled_frame _ _)) s

/-- While a sample is due an idle step takes it, before any event joins the queue and before time passes. -/
theorem passTime_sample (t : Timer) (s : State) (h : s.supplyDue = some t) : passTime s = sampleSupply t s := by
  unfold passTime; rw [h]

theorem passTime_frame (s : State) : SameBut (.timebase :: .draws :: .pending :: closeParts) s (passTime s) := by
  unfold passTime
  split
  · exact (sampleSupply_frame _ s).mono
  · unfold tickMicrosecond
    split <;> refine ⟨fun q hq => ?_⟩ <;> cases q <;> first | rfl | exact absurd (by decide) hq
  · refine ⟨fun q hq => ?_⟩; cases q <;> first | rfl | exact absurd (by decide) hq
  · split <;> refine ⟨fun q hq => ?_⟩ <;> cases q <;> first | rfl | exact absurd (by decide) hq

theorem restartReset_frame (s : State) : SameBut serviceParts s (restartReset s) := by
  unfold restartReset
  refine SameBut.chain (ps := serviceParts) ?_ (requestFetch_frame _ _)
  refine ⟨fun q hq => ?_⟩; cases q <;> first | rfl | exact absurd (by decide) hq

theorem silenceEnd_frame (t : Transmission) (s : State) : SameBut (.timebase :: serviceParts) s (silenceEnd t s) :=
  expireAt_frame _ (fun x => (restartReset_frame x).chain (transmitAll_frame _)) s

theorem messageEnd_frame (t : Transmission) (s : State) : SameBut closeParts s (messageEnd t s) := by
  unfold messageEnd
  dsimp only
  split
  · exact (endOfMessage_frame t s).chain (beginRestartSilence_frame _)
  · exact (endOfMessage_frame t s).chain (close_frame _)

theorem onTransmission_frame (s : State) : SameBut (.timebase :: serviceParts) s (onTransmission s) := by
  unfold onTransmission
  split
  · split
    · exact silenceEnd_frame _ s
    · exact expireAt_frame (ps := serviceParts) _ (fun x => (messageEnd_frame _ x).mono) s
  · exact .refl _ s

theorem runTimer_frame (e : Instr) (s : State) : SameBut allEventParts s (runTimer e s) := by
  unfold runTimer
  split
  · exact (onCountdown_frame s).mono
  · exact (onHoldoverTimer_frame s).mono
  · exact (onPaceTimer_frame s).mono
  · exact (onClickTimer_frame _ s).mono
  · exact (onClkoutTimer_frame s).mono
  · exact (onKeepAliveTimer_frame _ s).mono
  · exact (onIdleTimer_frame s).mono
  · exact (onBusyTimer_frame _ s).mono
  · exact (onTransmission_frame s).mono
  · exact (onTransmission_frame s).mono
  · exact (onSettleTimer_frame s).mono
  · exact (onRetentionTimer_frame s).mono
  · exact (onWord_frame s).mono
  · exact (onMarker_frame s).mono
  · exact (onHoldTimer_frame _ s).mono
  · exact (onAdcTimer_frame s).mono
  · exact (onSlotTimer_frame s).mono
  · exact (onDriveTimer_frame s).mono
  · exact (onBeatFlash_frame s).mono
  · exact (onDownbeatFlash_frame s).mono
  · exact (onBlinkTimer_frame s).mono
  · exact (onGapTimer_frame _ s).mono
  · exact (onFrameTimer_frame _ s).mono
  · exact .refl _ s

theorem runOverdue_frame : ∀ (n : Nat) (s : State), SameBut allEventParts s (runOverdue n s)
  | 0, s => .refl _ s
  | n + 1, s => by
    unfold runOverdue
    split
    · exact .refl _ s
    · exact (runTimer_frame _ s).then (runOverdue_frame n _)
    · split
      · exact ((drew_frame s).chain (runTimer_frame _ _) (rs := allEventParts)).then (runOverdue_frame n _)
      · exact .refl _ s

theorem loseCrystal_frame (s : State) : SameBut allEventParts s (loseCrystal s) := by
  unfold loseCrystal
  dsimp only
  refine SameBut.chain (ps := allEventParts) ?_ (transmitAll_frame _)
  refine SameBut.chain (ps := allEventParts) ?_ (post_frame _ _ _)
  refine SameBut.chain (ps := [.timebase]) ?_ (runOverdue_frame _ _)
  refine ⟨fun q hq => ?_⟩; cases q <;> first | rfl | exact absurd (by decide) hq

end Sys2Proof.Machine
end

