-- ==== Sys2Proof/Laws/FlashMemory.lean ====
section
/-! SUPPORT. The flash as memory: a byte written is the byte read, every other byte reads as before, and every operation keeps the
canonical form. -/

-- One theorem at a time: elaborated side by side, these files hold more threads than the memory limit of a check allows.
set_option Elab.async false

namespace Sys2Proof.Machine

/-! ## Reading after writing -/

theorem readFlash_writeFlash_same (mem : List Host.Cell) (a : Nat) (v : Byte) (h : flashWf mem = true) :
    readFlash (writeFlash mem a v) a = v := by
  induction mem with
  | nil => unfold writeFlash; split <;> simp_all [readFlash]
  | cons c r ih =>
    obtain ⟨x, w⟩ := c
    simp only [flashWf, Bool.and_eq_true, decide_eq_true_eq, List.all_eq_true] at h
    have below : ∀ (l : List Host.Cell), (∀ c ∈ l, x < c.1) → readFlash l x = 0xFF := by
      intro l hl
      induction l with
      | nil => rfl
      | cons d l ihl =>
        have hd := hl d (by simp)
        have : ¬ x = d.1 := by omega
        obtain ⟨y, u⟩ := d
        simp only [readFlash, this, if_false]
        exact ihl (fun c hc => hl c (by simp [hc]))
    have under : ∀ (l : List Host.Cell), (∀ c ∈ l, a < c.1) → readFlash l a = 0xFF := by
      intro l hl
      induction l with
      | nil => rfl
      | cons d l ihl =>
        have hd := hl d (by simp)
        have : ¬ a = d.1 := by omega
        obtain ⟨y, u⟩ := d
        simp only [readFlash, this, if_false]
        exact ihl (fun c hc => hl c (by simp [hc]))
    unfold writeFlash
    split
    · split
      · next hlt hv =>
        rw [hv]
        apply under
        intro c hc
        rcases List.mem_cons.1 hc with rfl | hc
        · exact hlt
        · have := h.1.2 c hc; omega
      · simp [readFlash]
    · split
      · next he =>
        subst he
        split
        · next hv => rw [hv]; exact below r h.1.2
        · simp [readFlash]
      · next he =>
        simp only [readFlash, he, if_false]
        exact ih h.2

theorem readFlash_writeFlash_other (mem : List Host.Cell) {a b : Nat} (v : Byte) (h : b ≠ a) :
    readFlash (writeFlash mem a v) b = readFlash mem b := by
  induction mem with
  | nil => unfold writeFlash; split <;> simp_all [readFlash]
  | cons c r ih =>
    obtain ⟨x, w⟩ := c
    unfold writeFlash
    split
    · split
      · rfl
      · simp [readFlash, h]
    · split
      · next he =>
        subst he
        split <;> simp [readFlash, h]
      · simp only [readFlash]
        split
        · rfl
        · exact ih

/-! ## The canonical form -/

theorem writeFlash_mem (mem : List Host.Cell) (a : Nat) (v : Byte) :
    ∀ c ∈ writeFlash mem a v, c ∈ mem ∨ c = (a, v) := by
  induction mem with
  | nil => intro c hc; unfold writeFlash at hc; split at hc <;> simp_all
  | cons d r ih =>
    obtain ⟨x, w⟩ := d
    intro c hc
    unfold writeFlash at hc
    split at hc
    · split at hc
      · exact .inl hc
      · rcases List.mem_cons.1 hc with rfl | hc
        · exact .inr rfl
        · exact .inl hc
    · split at hc
      · split at hc
        · exact .inl (List.mem_cons_of_mem _ hc)
        · rcases List.mem_cons.1 hc with rfl | hc
          · exact .inr rfl
          · exact .inl (List.mem_cons_of_mem _ hc)
      · rcases List.mem_cons.1 hc with rfl | hc
        · exact .inl (by simp)
        · rcases ih c hc with h | h
          · exact .inl (List.mem_cons_of_mem _ h)
          · exact .inr h

/-- A write inside the flash keeps the canonical form. -/
theorem writeFlash_wf (mem : List Host.Cell) (a : Nat) (v : Byte) (h : flashWf mem = true) (ha : a < 33792) :
    flashWf (writeFlash mem a v) = true := by
  induction mem with
  | nil => unfold writeFlash; split <;> simp_all [flashWf]
  | cons d r ih =>
    obtain ⟨x, w⟩ := d
    have h0 := h
    simp only [flashWf, Bool.and_eq_true, decide_eq_true_eq, List.all_eq_true] at h
    unfold writeFlash
    split
    · next hlt =>
      split
      · exact h0
      · next hv =>
        have hall : ∀ c ∈ ((x, w) :: r), a < c.1 := by
          intro c hc
          rcases List.mem_cons.1 hc with rfl | hc
          · exact hlt
          · have := h.1.2 c hc; omega
        rw [show flashWf ((a, v) :: (x, w) :: r) = (decide (a < 33792) && decide (v ≠ 0xFF) &&
          ((x, w) :: r).all (fun c => decide (a < c.1)) && flashWf ((x, w) :: r)) from rfl]
        simp only [h0, Bool.and_true, Bool.and_eq_true, decide_eq_true_eq, List.all_eq_true]
        exact ⟨⟨ha, hv⟩, hall⟩
    · split
      · next he =>
        subst he
        split
        · exact h.2
        · next hv =>
          simp only [flashWf, Bool.and_eq_true, decide_eq_true_eq, List.all_eq_true]
          exact ⟨⟨⟨ha, hv⟩, h.1.2⟩, h.2⟩
      · next hge hne =>
        simp only [flashWf, Bool.and_eq_true, decide_eq_true_eq, List.all_eq_true]
        refine ⟨⟨⟨h.1.1.1, h.1.1.2⟩, fun c hc => ?_⟩, ih h.2⟩
        rcases writeFlash_mem r a v c hc with hm | hm
        · exact h.1.2 c hm
        · subst hm; simp only; omega

/-- An erase keeps the canonical form. -/
theorem eraseSector_wf (mem : List Host.Cell) (k : Sector) (h : flashWf mem = true) : flashWf (eraseSector mem k) = true := by
  unfold eraseSector
  induction mem with
  | nil => rfl
  | cons d r ih =>
    obtain ⟨x, w⟩ := d
    simp only [flashWf, Bool.and_eq_true, decide_eq_true_eq, List.all_eq_true] at h
    rw [List.filter_cons]
    split
    · simp only [flashWf, Bool.and_eq_true, decide_eq_true_eq, List.all_eq_true]
      exact ⟨⟨h.1.1, fun c hc => h.1.2 c (List.mem_filter.1 hc).1⟩, ih h.2⟩
    · exact ih h.2

/-- Programming inside the flash keeps the canonical form. -/
theorem programBytes_wf : ∀ (vs : List Byte) (mem : List Host.Cell) (a : Nat), flashWf mem = true → a + vs.length ≤ 33792 →
    flashWf (programBytes mem a vs) = true
  | [], _, _, h, _ => h
  | v :: vs, mem, a, h, ha => by
    simp only [List.length_cons] at ha
    exact programBytes_wf vs _ (a + 1) (writeFlash_wf mem a _ h (by omega)) (by omega)

/-- Programming changes no byte outside the bytes programmed. -/
theorem readFlash_programBytes_other : ∀ (vs : List Byte) (mem : List Host.Cell) (a b : Nat),
    b < a ∨ a + vs.length ≤ b → readFlash (programBytes mem a vs) b = readFlash mem b
  | [], _, _, _, _ => rfl
  | v :: vs, mem, a, b, h => by
    simp only [List.length_cons] at h
    rw [programBytes, readFlash_programBytes_other vs _ (a + 1) b (by omega), readFlash_writeFlash_other _ _ (by omega)]

/-- An erase changes no byte outside the sector. -/
theorem readFlash_eraseSector_other (mem : List Host.Cell) (k : Sector) (a : Nat) (h : a < sectorBase k ∨ sectorBase k + 512 ≤ a) :
    readFlash (eraseSector mem k) a = readFlash mem a := by
  unfold eraseSector
  induction mem with
  | nil => rfl
  | cons d r ih =>
    obtain ⟨x, w⟩ := d
    rw [List.filter_cons]
    split
    · simp only [readFlash]
      split
      · rfl
      · exact ih
    · next hx =>
      have : ¬ a = x := by
        rintro rfl
        simp at hx
        omega
      simp only [readFlash, this, if_false]
      exact ih

/-- Every byte of an erased sector reads FF (R186). -/
theorem readFlash_eraseSector_in (mem : List Host.Cell) (k : Sector) (a : Nat) (h : sectorBase k ≤ a ∧ a < sectorBase k + 512) :
    readFlash (eraseSector mem k) a = 0xFF := by
  unfold eraseSector
  induction mem with
  | nil => rfl
  | cons d r ih =>
    obtain ⟨x, w⟩ := d
    rw [List.filter_cons]
    split
    · next hx =>
      have : ¬ a = x := by
        rintro rfl
        simp at hx
        omega
      simp only [readFlash, this, if_false]
      exact ih
    · exact ih

/-- The flash after reset has the canonical form. -/
theorem reset_flashWf : flashWf State.reset.flash = true := rfl

end Sys2Proof.Machine
end

