-- ==== Sys2Proof/Laws/Requests.lean ====
section
/-! SUPPORT. What the arrival of a request at an idle port does, said once: the port takes it, the request's own rule decides it, the reply
waits for the transmitter or begins. -/

-- One theorem at a time: elaborated side by side, these files hold more threads than the memory limit of a check allows.
set_option Elab.async false

namespace Sys2Proof.Machine

theorem RequestKind.ofByte_code (k : RequestKind) : RequestKind.ofByte k.code = some k := by cases k <;> decide

/-- The state in which an idle port has taken a frame for service. -/
def State.taking (s : State) (p : Port) (f : Frame) : State := s.setPort p { s.port p with inService := some f }

theorem taking_frame (s : State) (p : Port) (f : Frame) : SameBut [.serviceA, .serviceB] s (s.taking p f) :=
  setPort_service_frame _ _ _ rfl rfl

/-- The end of a served request: the reply, if it is decided, and the transmitters. -/
def finish (p : Port) (r : Served) : State :=
  transmitAll (match r.2 with | some reply => decideReply p reply r.1 | none => r.1)

/-- An idle port takes a request at its arrival (R172, R173). -/
theorem arrive_serves {s : State} {p : Port} {k tag : Byte} {d : List Byte} (h : s.serves p) (hl : d.length ≤ 336) :
    arrive p k tag d s = finish p (decideRequest p ⟨k, tag, d⟩ (s.taking p ⟨k, tag, d⟩)) := by
  obtain ⟨hr, -, hi, hb⟩ := h
  have hp (x : ControlPort) (f : Frame) : (s.setPort p x).setPort p { s.port p with buffer := [], inService := some f } = s.taking p f := by
    unfold State.taking
    rw [← hb]
    cases p <;> rfl
  unfold arrive offerFrame serve finish
  simp only [hr, Bool.not_true, Bool.false_eq_true, if_false, Nat.not_lt.2 hl, hb, List.length_nil, Nat.zero_lt_succ, if_true,
    List.nil_append, State.setPort_port_same, hi, hp]
  all_goals rfl

/-- The request of a known kind and an allowed length, outside a reset, is decided by its own rule (R173). -/
theorem decideRequest_known {s : State} {p : Port} {k : RequestKind} {tag : Byte} {d : List Byte} (h : s.resetting = .none)
    (hk : k.lengthOk d.length = true) :
    decideRequest p ⟨k.code, tag, d⟩ (s.taking p ⟨k.code, tag, d⟩) = handle k p d (s.taking p ⟨k.code, tag, d⟩) := by
  have hr : (s.taking p ⟨k.code, tag, d⟩).inReset = false := by
    have : (s.taking p ⟨k.code, tag, d⟩).resetting = .none := by rw [← h]; exact State.setPort_resetting ..
    simp [State.inReset, this]
  unfold decideRequest
  simp only [RequestKind.ofByte_code, hk, if_true, hr, Bool.false_and, Bool.false_eq_true, if_false]

theorem lengthOk_bound {k : RequestKind} {n : Nat} (h : k.lengthOk n = true) : n ≤ 336 := by
  cases k <;> simp [RequestKind.lengthOk, inRange] at h <;> omega

/-- A request at an idle port, in one: the port takes it, its rule decides it, the transmitters choose. -/
theorem arrive_known {s : State} {p : Port} {k : RequestKind} {tag : Byte} {d : List Byte} (h : s.serves p)
    (hk : k.lengthOk d.length = true) :
    arrive p k.code tag d s = finish p (handle k p d (s.taking p ⟨k.code, tag, d⟩)) := by
  rw [arrive_serves h (lengthOk_bound hk), decideRequest_known h.2.1 hk]

/-! ## What the reply and the transmitters leave -/

theorem transmitAll_port (s : State) (q : Port) : (transmitAll s).port q = (s.port q).transmit s.grid.position s.now := by
  cases q <;> rfl

theorem transmit_inService (c : ControlPort) (x : Position) (now : Count) : (c.transmit x now).inService = c.inService :=
  congrArg (fun y => y.2.2.2.2.1) (ControlPort.transmit_service c x now)

/-- A decided reply is still waiting after the transmitters' choice, or has begun (R174). -/
theorem transmit_reply (c : ControlPort) (x : Position) (now : Count) (f : Frame) (r : List Byte) (hr : c.reply = some r)
    (hf : c.inService = some f) :
    (c.transmit x now).reply = some r ∨
      (c.transmit x now).sending = some ⟨.reply, frameBytes 0x80 f.tag r, ⟨now, frameMicros r⟩⟩ := by
  have hn (n : Notice) (rest : List Notice) : (c.sendNotice n rest x now).reply = some r := by
    unfold ControlPort.sendNotice ControlPort.reportLost
    split <;> exact hr
  have hs : (c.sendReply r now).sending = some ⟨.reply, frameBytes 0x80 f.tag r, ⟨now, frameMicros r⟩⟩ := by
    simp [ControlPort.sendReply, ControlPort.begin, hf]
  unfold ControlPort.transmit
  split
  · exact .inl hr
  · split
    · next h1 _ =>
      rw [hr] at h1; cases h1
      split
      · exact .inl (hn _ _)
      · exact .inr hs
    · next h1 _ => rw [hr] at h1; cases h1; exact .inr hs
    · next h1 _ => rw [hr] at h1; cases h1
    · next h1 _ => rw [hr] at h1; cases h1

theorem decideReply_inService (p q : Port) (r : Reply) (s : State) :
    ((decideReply p r s).port q).inService = (s.port q).inService := by cases p <;> cases q <;> rfl

theorem decideReply_reply (p : Port) (r : Reply) (s : State) : ((decideReply p r s).port p).reply = some r.bytes := by cases p <;> rfl

/-- Two states that agree in a port's receiving part. -/
theorem SameBut.service {ps : List Part} {s t : State} (h : SameBut ps s t) (q : Port) (ha : Part.serviceA ∉ ps) (hb : Part.serviceB ∉ ps) :
    (t.port q).service = (s.port q).service := by
  cases q
  · exact h.same .serviceA ha
  · exact h.same .serviceB hb

/-- A request that has been decided with a reply, its rule leaving the ports' receiving sides alone. -/
theorem finish_completed {s u : State} {p : Port} {f : Frame} {r : Reply} {qs : List Part} (h : SameBut qs (s.taking p f) u)
    (ht : Part.timebase ∉ qs := by decide) (ha : Part.serviceA ∉ qs := by decide) (hb : Part.serviceB ∉ qs := by decide) :
    Completed p f r qs s (finish p (u, some r)) := by
  have hu (q : Port) := h.service q ha hb
  have hd (q : Port) : ((finish p (u, some r)).port q).service = (u.port q).service := by
    show ((transmitAll (decideReply p r u)).port q).service = _
    rw [transmitAll_port, ControlPort.transmit_service]
    cases p <;> cases q <;> rfl
  have hi (q : Port) : ((decideReply p r u).port q).inService = ((s.taking p f).port q).inService := by
    rw [decideReply_inService]; exact congrArg (fun y => y.2.2.2.2.1) (hu q)
  have hnow : u.now = s.now := by
    have : u.timebase = s.timebase := (h.same .timebase ht).trans (State.setPort_timebase ..)
    simp [State.now, this]
  refine ⟨⟨?_, ?_⟩, fun q => ?_, ?_⟩
  · have := congrArg (fun y => y.2.2.2.2.1) (hd p)
    rw [show ((finish p (u, some r)).port p).inService = (u.port p).inService from this, ← decideReply_inService p p r u, hi]
    simp [State.taking]
  · show ((transmitAll (decideReply p r u)).port p).reply = _ ∨ ((transmitAll (decideReply p r u)).port p).sending = _
    rw [transmitAll_port, show (decideReply p r u).now = s.now by rw [← hnow]; cases p <;> rfl]
    exact transmit_reply _ _ _ f _ (decideReply_reply p r u) (by rw [hi]; simp [State.taking])
  · have := (hd q).trans (hu q)
    by_cases hq : q = p
    · subst hq
      simp only [ControlPort.service, State.taking, State.setPort_port_same, Prod.mk.injEq] at this
      simp only [if_true, ControlPort.service, Prod.mk.injEq]
      exact ⟨this.1, this.2.1, this.2.2.1, this.2.2.2.1, trivial, this.2.2.2.2.2⟩
    · rw [State.taking, State.setPort_port_other _ _ hq] at this
      simpa [hq] using this
  · refine ((taking_frame s p f).mono (by simp +contextual)).then ((h.mono (by simp +contextual)).then ?_)
    exact ((decideReply_frame p r u).mono (by simp +contextual)).then ((transmitAll_frame _).mono (by simp +contextual))

theorem Completed.mono {p : Port} {f : Frame} {r : Reply} {ps qs : List Part} {s t : State} (h : Completed p f r ps s t)
    (hs : ∀ q ∈ ps, q ∈ qs ++ portParts := by decide) : Completed p f r qs s t :=
  ⟨h.replied, h.receiving, h.frame.mono (by
    intro q hq
    rcases List.mem_append.1 hq with h | h
    · exact hs q h
    · exact List.mem_append.2 (.inr h))⟩

/-- The same for a request whose rule ends with the arbiter's look at the collections. -/
theorem finish_closed {s u : State} {p : Port} {f : Frame} {r : Reply} {qs : List Part} (h : SameBut qs (s.taking p f) u)
    (hb : u.bus.transmission = s.bus.transmission) (hq : ∀ q ∈ qs, q ∉ [Part.timebase, .serviceA, .serviceB] := by decide) :
    ClosedRequest p f r qs s (finish p (arbitrate u, some r)) := by
  have out (q : Part) (hm : q ∈ [Part.timebase, .serviceA, .serviceB]) : q ∉ qs ++ choiceParts := by
    intro hc
    rcases List.mem_append.1 hc with h1 | h1
    · exact hq q h1 hm
    · exact absurd hm (by revert h1; clear hc; revert q; decide)
  have hu : SameBut (qs ++ choiceParts) (s.taking p f) (arbitrate u) :=
    (h.mono (by simp +contextual)).then ((arbitrate_frame u).mono (by simp +contextual))
  refine ⟨(finish_completed hu (out _ (by decide)) (out _ (by decide)) (out _ (by decide))).mono (by simp; tauto), fun ht => ?_⟩
  rw [arbitrate_busy u (by rw [hb]; exact ht)]
  exact (finish_completed h (fun hc => hq _ hc (by decide)) (fun hc => hq _ hc (by decide)) (fun hc => hq _ hc (by decide))).frame

/-- A part that the reply and the transmitters leave alone. -/
theorem finish_frame (p : Port) (u : State) (r : Reply) : SameBut lineParts u (finish p (u, some r)) :=
  (decideReply_frame p r u).chain (transmitAll_frame _)

end Sys2Proof.Machine
end

