-- ==== Sys2Proof/Tests/Slice0.lean ====
section
/-! SUPPORT. Tests: what WellFormed refuses, the spec's worked examples one step at a time, and for every statement with hypotheses a
concrete state and operands that meet them. Expected values are the spec's, named in each comment. -/

-- One theorem at a time: elaborated side by side, these files hold more threads than the memory limit of a check allows.
set_option Elab.async false

namespace Sys2Proof.Tests

open Sys2Proof.Machine

/-! ## States the tests start from -/

/-- A zone from every link to module 1, channel 1, with pedal EX1. -/
def zone : Zone := ⟨true, 15, none, 0, 127, 1, 127, 0, 0, 0, .linear, 100, 127, some 0, true⟩

def song : Song :=
  { name := List.replicate 16 0x20, tempo := 12600, source := .internal, meter := 4, subdivision := 1, countIn := 2, rampBeats := 4
    accents := Click.builtIn, zones := [zone], programs := [⟨0, 0, 300, some 90⟩] }

def songBank : Bank := ⟨some song, [true], 0, some 3⟩

/-- The count runs at 500,000; bank A is ACTIVE with a song; nothing is in progress. -/
def ready : State :=
  { State.reset with
    timebase := ⟨.crystalWatch, some .crystal, 500000, 0⟩
    banks := { Banks.initial with a := songBank } }

/-- A message is being transmitted to module 1. -/
def busBusy (s : State) : State :=
  { s with bus := { s.bus with transmission := some ⟨some 0, true, .keyOn 0 60 100, false, false, ⟨499900, 176⟩⟩, selection := .module 0 } }

def withGrid (s : State) (f : Grid → Grid) : State := { s with grid := f s.grid }

def withFollower (s : State) (f : Follower → Follower) : State := { s with follower := f s.follower }

def withLink (s : State) (f : KeyLink → KeyLink) : State := s.setLink 1 (f (s.link 1))

/-- RUNNING at 5.1.n under 12000, the countdown expiring at 500,000. -/
def running (n : Nat) : State :=
  withGrid ready fun g =>
    { g with transport := .running, position := ⟨5, 1, n⟩, countdown := some ⟨497917, 2083⟩, remainder := 4000 }

/-- FOLLOW with marks on CP-B, LOCKED under 12000 with the last accepted mark `i` µs ago, RUNNING at 20.2.n. -/
def following (i n : Nat) : State :=
  let s := running 0
  { s with
    setup := { s.setup with followSource := .cpB }
    grid := { s.grid with source := .follow, position := ⟨20, 2, n⟩ }
    follower := { s.follower with state := .locked, reference := some (500000 - BitVec.ofNat 32 i), holdoverTimer := some ⟨0, 1000000⟩ } }

/-- Bank B holds a song too, and a cue of it is ARMED for NEXT_BAR. -/
def cued (s : State) : State :=
  { s with
    banks := { s.banks with b := songBank }
    seq := { s.seq with cue := some ⟨.slot, 3, 3, .nextBar, .soft, .port .a, .armed⟩ } }

/-- A song record of 32 + 14 + 4 bytes. -/
def songRecord : List Byte :=
  List.replicate 16 0x41 ++ [0x2E, 0xE0, 0, 4, 1, 0, 0, 0x95, 0x55, 0x55, 0x54, 1, 1, 0, 0, 0] ++
    [1, 15, 0, 0, 127, 1, 127, 1, 1, 0, 0, 100, 127, 0x80] ++ [0x10, 0, 5, 0]

/-- A write of that record to slot 12, in a phase. -/
def writing (ph : OpPhase) : State :=
  { ready with store := { Store.initial with activity := .operating ⟨.write, 14, .a, ph, songRecord, false, some ⟨499940, 60⟩⟩ } }

/-- The state a command leads to. -/
def after (i : Instr) (s : State) : State :=
  match exec i s with
  | .next t => t
  | _ => s

def afterAll (is : List Instr) (s : State) : State := is.foldl (fun s i => after i s) s

/-! ## WellFormed refuses what does not fit a layout (Tables 12-1 and 12-2) -/

theorem test_wf_editZone_record_13 : (Instr.editZone .a 0 0 0 (List.replicate 13 0)).wellFormed = false := by decide

theorem test_wf_writeSong_record_31 : (Instr.writeSong .a 0 0 (List.replicate 31 0)).wellFormed = false := by
  rw [Instr.wellFormed, List.length_replicate]; decide

theorem test_wf_writeSong_record_321 : (Instr.writeSong .a 0 0 (List.replicate 321 0)).wellFormed = false := by
  rw [Instr.wellFormed, List.length_replicate]; decide

theorem test_wf_writeSetlist_65_entries : (Instr.writeSetlist .a 0 65 (List.replicate 65 0)).wellFormed = false := by
  rw [Instr.wellFormed, List.length_replicate]; decide

theorem test_wf_writeSetup_record_125 : (Instr.writeSetup .a 0 (List.replicate 125 0)).wellFormed = false := by
  rw [Instr.wellFormed, List.length_replicate]; decide

theorem test_wf_setNoticeMask_22_fields : (Instr.setNoticeMask .a 0 (List.replicate 22 0)).wellFormed = false := by decide

theorem test_wf_unknownKind_listed : (Instr.unknownKindRequest .a 0 0x43 []).wellFormed = false := by decide

theorem test_wf_unknownKind_payload_337 : (Instr.unknownKindRequest .a 0 0x44 (List.replicate 337 0)).wellFormed = false := by
  rw [Instr.wellFormed, List.length_replicate]; decide

theorem test_wf_accepts : (Instr.writeSong .a 0 3 songRecord).wellFormed = true ∧ (Instr.unknownKindRequest .a 0 0x44 []).wellFormed = true := by
  decide

/-! ## The grid and the transport: the worked examples of Section 1 -/

/-- Table 1-2: the three intervals at 12000, 30000 and 3000 cBPM from r = 0. -/
theorem test_intervals :
    ([12000, 30000, 3000].map fun t => (List.range 4).map fun n => ({ Grid.initial with tempo := t } : Grid).spans n) =
      [[0, 2083, 4166, 6250], [0, 833, 1666, 2500], [0, 8333, 16666, 25000]] := by decide

/-- Section 1.4: START at 1.1.0 with a count-in of 2 bars begins at bar −1. -/
theorem test_start_countIn :
    (after (.start .a 1) ready).grid.transport = .countIn ∧ (after (.start .a 1) ready).grid.position = ⟨-1, 1, 0⟩ := by decide

/-- Section 1.4: a STOP at 1.2.48 leaves 1.2.49; in STOPPED it returns to 1.1.0. -/
theorem test_stop :
    (after (.stop .b 1) (withGrid (running 0) fun g => { g with position := ⟨1, 2, 48⟩ })).grid.position = ⟨1, 2, 49⟩ ∧
      (after (.stop .b 1) (withGrid ready fun g => { g with position := ⟨1, 2, 49⟩ })).grid.position = ⟨1, 1, 0⟩ := by decide

/-- R14: the tick into bar 1 is emitted in RUNNING. -/
theorem test_tick_ends_countIn :
    let t := after .intervalCountdownExpiry (withGrid (running 0) fun g => { g with transport := .countIn, position := ⟨0, 4, 239⟩ })
    t.grid.transport = .running ∧ t.grid.position = ⟨1, 1, 0⟩ := by decide

/-- Section 1.6: the steps of the ramp from 12000 to 12100 over 3 beats. -/
theorem test_ramp_rounding : [1, 2, 3].map (Ramp.at ⟨12000, 12100, 3, 0⟩) = [12033, 12067, 12100] := by decide

/-- Section 1.6: the first step of 12000 to 12600 over 4 beats gives 12150. -/
theorem test_ramp_step :
    let t := after .intervalCountdownExpiry (withGrid (running 239) fun g => { g with ramp := some ⟨12000, 12600, 4, 0⟩ })
    t.grid.tempo = 12150 ∧ t.grid.ramp = some ⟨12000, 12600, 4, 1⟩ ∧ t.grid.remainder = 25000000 - 2057 * 12150 := by decide

/-- R16: a field below 3000 is clamped. -/
theorem test_setTempo_clamped :
    (after (.setTempo .a 9 2999) ready).grid.tempo = 3000 ∧
      (after (.setTempo .a 9 2999) ready).portA.sending.map (·.bytes) = some (frameBytes 0x80 9 [2, 0x0B, 0xB8]) := by decide

/-- R17: on entry to FOLLOW the Follower seeks from T_g. -/
theorem test_setTempoSource_follow : (after (.setTempoSource .a 9 1) ready).follower.state = .seeking := by decide

/-! ## Following and tap tempo: the worked examples of Section 2 -/

/-- Section 2.5: the filter, the correction and the realignment of the worked mark. -/
theorem test_mark_locked :
    let t := after (.mark .b 1 3) (following 496000 6)
    t.follower.tempo = 12024 ∧ t.follower.period = 499002 ∧ t.follower.holdoverTimer = some ⟨500000, 998004⟩ ∧
      t.grid.correction = some ⟨11723, 234, false⟩ ∧ t.grid.position = ⟨20, 3, 6⟩ := by decide

/-- Section 2.5: at 20.2.230 a beat-in-bar of 1 gives 20.4.230. -/
theorem test_mark_realigns_late : (after (.mark .b 1 1) (following 496000 230)).grid.position = ⟨20, 4, 230⟩ := by decide

/-- Section 2.10: the third interval locks with T_f = 11993 and P = 500,292. -/
theorem test_lock :
    let s := withFollower (following 500600 0) fun f => { f with state := .seeking, intervals := [500400, 499900] }
    let t := after (.mark .b 1 0) s
    t.follower.state = .locked ∧ t.follower.tempo = 11993 ∧ t.follower.period = 500292 ∧
      t.follower.holdoverTimer = some ⟨500000, 1000584⟩ := by decide

/-- Section 2.10: the mark at p = 230 in HOLDOVER locks again with a correction of 12525 for 250 ticks. -/
theorem test_relock :
    let s := withFollower (following 0 230) fun f => { f with state := .holdover, tempo := 12024, holdoverTimer := none, holdoverBeats := 4 }
    let t := after (.mark .b 1 0) s
    t.follower.state = .locked ∧ t.follower.tempo = 12024 ∧ t.grid.correction = some ⟨12525, 250, false⟩ := by decide

/-- R33: the holdover timer's expiry. -/
theorem test_holdover : (after .holdoverTimerExpiry (following 500000 6)).follower.state = .holdover := by decide

/-- Section 2.10: the 16th holdover beat falls back to the song's tempo by a ramp of 4 beats. -/
theorem test_song_tempo_fallback :
    let s0 := withFollower (following 0 239) fun f => { f with state := .holdover, tempo := 12024, holdoverTimer := none, holdoverBeats := 15 }
    let s := { withGrid s0 (fun g => { g with tempo := 12024 }) with setup := { s0.setup with onLoss := .songTempo } }
    let t := after .intervalCountdownExpiry s
    t.grid.source = .internal ∧ t.grid.tempo = 12024 ∧ t.grid.ramp = some ⟨12024, 12600, 4, 0⟩ ∧ t.follower.state = .off := by decide

/-- R35: on a stopped grid the pace timer's last beat takes the song's tempo at once. -/
theorem test_pace_timer_fallback :
    let s0 := withFollower ready fun f => { f with state := .holdover, holdoverBeats := 15, paceTimer := some ⟨0, 500000⟩ }
    let s := { s0 with grid := { s0.grid with source := .follow }, setup := { s0.setup with onLoss := .songTempo } }
    (after .holdoverPaceTimerExpiry s).grid.tempo = 12600 ∧ (after .holdoverPaceTimerExpiry s).grid.source = .internal := by decide

/-- Section 2.8: the taps of the worked sequence. -/
theorem test_tap_tempo :
    (after (.tap .a 1) { ready with tap := ⟨some (500000 - 480500), [480000], none⟩ }).tap = ⟨some 500000, [480000, 480500], some 12493⟩ ∧
      (after (.tap .a 1) { ready with tap := ⟨some (500000 - 480500), [480000, 480500], some 12493⟩ }).tap.tempo = some 12491 := by decide

/-- R40, R7: at phase 6 under T_g 12000 a tap tempo of 12308 is corrected to 12000; T_g was set to 12308 before, so r is 0 at the next interval. -/
theorem test_tap_sets_tempo_before_correction :
    let s : State := { running 6 with tap := ⟨some (500000 - 487488), [487488], none⟩, grid := { (running 6).grid with source := .tap } }
    (after (.tap .a 1) s).tap.tempo = some 12308 ∧ (after (.tap .a 1) s).grid.tempo = 12000 ∧ (after (.tap .a 1) s).grid.fresh = true ∧
      (after (.tap .a 1) s).grid.correction = some ⟨12000, 234, false⟩ := by decide

/-- Section 2.8: a tap 100,000 µs after the last is ignored; one 2,159,000 µs after it starts a new sequence. -/
theorem test_tap_window :
    (after (.tap .a 1) { ready with tap := ⟨some 400000, [480000], none⟩ }).tap = ⟨some 400000, [480000], none⟩ ∧
      (after (.tap .a 1) { ready with tap := ⟨some (500000 - 2159000), [480000], some 12491⟩ }).tap = ⟨some 500000, [], some 12491⟩ := by
  decide

/-- R25: the second agreeing sample raises the filtered level, and the edge is the first mark of SEEKING. -/
theorem test_refin_edge :
    let s0 := following 0 0
    let s := { s0 with setup := { s0.setup with followSource := .refin }
                       follower := { Follower.initial with state := .seeking, refinLevel := some false } }
    (afterAll [.refinSample true, .refinSample true] s).follower.reference = some 500000 ∧
      (after .refinRisingEdge s).follower.reference = some 500000 := by decide

/-! ## Click and sync outputs (Table 3-5) -/

/-- The downbeat's accent click and CLKOUT; tick 80 of subdivision 3. -/
theorem test_clicks :
    let pattern (s : State) : State := { s with click := { s.click with subdivision := 3 }, setup := { s.setup with clkoutRate := 2 } }
    let t := after .intervalCountdownExpiry (pattern (withGrid (running 0) fun g => { g with position := ⟨4, 4, 239⟩ }))
    let u := after .intervalCountdownExpiry (pattern (running 79))
    t.click.accentLine = some ⟨500000, 10000⟩ ∧ t.click.clkout = some ⟨500000, 5000⟩ ∧ t.grid.position = ⟨5, 1, 0⟩ ∧
      u.click.subLine = some ⟨500000, 10000⟩ ∧ u.click.clkout = none ∧ u.click.accentLine = none := by decide

/-- R49: CLICK_MUTE TOGGLE. -/
theorem test_clickMute : (after (.clickMute .b 1 2) ready).click.mute = true := by decide

/-- R47: the pulse timer's expiry lowers its line. -/
theorem test_pulse_end :
    (after (.clickPulseTimerExpiry .sub) { ready with click := { ready.click with subLine := some ⟨490000, 10000⟩ } }).click.subLine = none := by
  decide

/-! ## The key links (the worked stream of Section 4.8) -/

/-- NOTE_ON on channel 3, key 60, a clock between, velocity 100: a strike. -/
theorem test_parser_strike :
    let s := afterAll (([0x92, 60, 0xF8, 100] : List Byte).map fun b => .keyLinkCharacter 1 b true) ready
    (afterAll (List.replicate 4 (.parserTakeByte 1)) s).links[1].event = some (.strike 2 60 100) := by decide

/-- Controller 64 with value 127 turns the channel's sustain ON and is not forwarded. -/
theorem test_parser_sustain :
    let s := afterAll (([0xB2, 64, 127] : List Byte).map fun b => .keyLinkCharacter 1 b true) ready
    let t := afterAll (List.replicate 3 (.parserTakeByte 1)) s
    (t.link 1).sustain = 4 ∧ (t.link 1).event = none := by decide

/-- A byte with the gap mark is discarded under WAIT_STATUS. -/
theorem test_parser_gap :
    let s := withLink ready fun k => { k with mode := .normal, running := some (.noteOn, 2), fifo := [⟨64, true, 0⟩] }
    (after (.parserTakeByte 1) s).link 1 = { s.link 1 with fifo := [], running := none, mode := .waitStatus } := by decide

/-- R66: the keep-alive timer's expiry. -/
theorem test_link_silent :
    (after (.keepAliveTimerExpiry 1) (withLink ready fun k => { k with keepAlive := .alive, timer := some ⟨170000, 330000⟩ })).links[1].keepAlive =
      .silent := by decide

/-! ## Zones and the Layer Engine (Section 5.10) -/

/-- Table 5-2 at the strikes of Section 5.10: SOFT 79 at 64 and 28 at 20, HARD 32 at 64 and 3 at 20. -/
theorem test_curves :
    [64, 20, 127].map ({ zone with curve := .soft } : Zone).curved = [79, 28, 127] ∧
      [64, 20, 127].map ({ zone with curve := .hard } : Zone).curved = [32, 3, 127] := by decide

/-- A strike of the one zone joins the key-on queue when the bus is busy. -/
theorem test_strike :
    (after .layerEngineTakeEvent (busBusy (withLink ready fun k => { k with event := some (.strike 0 60 100) }))).layer.keyOns = [⟨0, 0, 100⟩] := by
  decide

/-- Section 5.10: a second value of a controller replaces the first in place. -/
theorem test_controller_replaced :
    let s0 := withLink (busBusy ready) fun k => { k with event := some (.controller 0 1 90) }
    (after .layerEngineTakeEvent { s0 with layer := { s0.layer with controls := [⟨0, 0, .controller 1, 80⟩] } }).layer.controls =
      [⟨0, 0, .controller 1, 90⟩] := by decide

/-- R81: TOGGLE_ZONE OFF; an index at the zone count is refused. -/
theorem test_toggleZone :
    (after (.toggleZone .a 7 0 0) ready).activeBank.enabled = [false] ∧
      (after (.toggleZone .a 7 1 0) ready).portA.sending.map (·.bytes) = some (frameBytes 0x80 7 [5, 1]) := by decide

/-- R85, R101: PANIC empties the table. -/
theorem test_panic :
    (after (.panic .a 1) { ready with notes := { ready.notes with entries := [⟨0, 1, 0, 60, 100, .a, 0, .sounding, []⟩] } }).notes.entries = [] := by
  decide

/-! ## The module bus (Section 7) -/

/-- Table 7-2: PROGRAM 300 goes out as 1 and 44; the address precedes it, 4 characters of 44 µs. -/
theorem test_program_characters :
    let t := after .endOfTransmission { busBusy ready with
      bus := { (busBusy ready).bus with selection := .none, modules := setAt ready.bus.modules 2 ⟨.ready, false, 0, none, 0⟩
                                        pending := [⟨2, 0, 300, none, .program, .resync⟩] } }
    (t.bus.transmission.map fun x => (x.characters, x.timer.micros)) = some ([259, 0x60, 1, 44], 176) ∧ t.bus.cell 2 0 = some 300 := by
  decide

/-- R184: the address 3 with the ninth bit set, then the status 60 hex, least significant bit first between start and stop bit; 9 bit times
after its start the line shows the ninth bit. -/
theorem test_mbtx_bits :
    let x : Transmission := ⟨some 2, true, .program 0 300, false, false, ⟨499964, 176⟩⟩
    x.bits.take 22 = [false, true, true, false, false, false, false, false, false, true, true] ++
        [false, false, false, false, false, false, true, true, false, false, true] ∧
      ({ ready with bus := { ready.bus with transmission := some x } } : State).mbtx = true ∧ ready.mbtx = true := by decide

/-- R104: 4 characters of 11 bits at 250,000 and at 500,000 bit/s; a bus made fast under way keeps the 4 µs of the message on the line. -/
theorem test_bit_rate :
    let x (m : Nat) : Transmission := ⟨some 2, true, .program 0 300, false, false, ⟨499964, m⟩⟩
    (x 176).bitMicros = 4 ∧ (x 88).bitMicros = 2 ∧
      ({ ready with setup := { ready.setup with fastBus := true }, bus := { ready.bus with transmission := some (x 176) } } : State).mbtx =
        ({ ready with bus := { ready.bus with transmission := some (x 176) } } : State).mbtx := by decide

/-- R108: a module that is LOADING at its stall limit is STALLED. -/
theorem test_stall :
    (after (.busyTimerExpiry 1) (ready.setModule 1 ⟨.loading, true, 0, some ⟨0, 500000⟩, 0⟩)).bus.modules[1].mode = .stalled := by decide

/-- R108: the third agreeing sample asserts BUSY. -/
theorem test_busy_samples :
    let s := ready.setModule 1 ⟨.ready, false, 0, none, 0⟩
    ((afterAll [.busyLineSample 2, .busyLineSample 2] s).module 1).mode = .ready ∧
      ((afterAll [.busyLineSample 2, .busyLineSample 2, .busyLineSample 2] s).module 1).mode = .loading := by decide

/-- R120: PASS of LEVEL 127 to module 2 joins the queue of a busy bus; module 9 is refused with field 1. -/
theorem test_pass :
    (after (.pass .a 5 2 3 1 127 0) (busBusy ready)).bus.pass = [⟨1, .level 0 127⟩] ∧
      (after (.pass .a 5 9 3 1 127 0) ready).portA.sending.map (·.bytes) = some (frameBytes 0x80 5 [5, 1]) := by decide

/-- R122: RESTART in PREP waits for its SILENCE; its end gives the initial grid. -/
theorem test_restart :
    let s := after (.restart .a 1) (running 5)
    s.resetting = .silence ∧ (after .restartSilenceEnd s).grid = Grid.initial ∧ (after .restartSilenceEnd s).resetting = .setup := by decide

/-! ## Song changes (Sections 8 and 9.8) -/

/-- R134: TAKE_NOW of an ARMED cue in STOPPED. -/
theorem test_takeNow :
    (after (.takeNow .a 1) (cued ready)).banks.active = .b ∧ (after (.takeNow .a 1) (cued ready)).grid.tempo = 12600 := by decide

/-- Section 1.6: a take at a downbeat ramps from the present tempo. -/
theorem test_take_at_downbeat :
    let t := after .intervalCountdownExpiry (cued (withGrid (running 0) fun g => { g with position := ⟨4, 4, 239⟩ }))
    t.banks.active = .b ∧ t.grid.position = ⟨1, 1, 0⟩ ∧ t.grid.ramp = some ⟨12000, 12600, 4, 0⟩ := by decide

/-- Section 9.8: from position 1 a step forward cues entry 2, slot 7. -/
theorem test_setlistStep :
    (after (.setlistStep .a 1 1) { ready with store := { Store.initial with setlist := [3, 5, 7, 5], position := some 1 } }).seq.cue =
      some ⟨.setlist, 2, 7, .nextBar, .soft, .port .a, .loading⟩ := by decide

/-- Section 9.8: at the last entry a step forward is refused with END_OF_LIST. -/
theorem test_setlistStep_end :
    (after (.setlistStep .a 1 1) { ready with store := { Store.initial with setlist := [3, 5, 7, 5], position := some 3 } }).seq.cue = none := by
  decide

/-- R130: CANCEL_CUE empties the slot. -/
theorem test_cancelCue : (after (.cancelCue .a 1) (cued ready)).seq.cue = none := by decide

/-- R127: an accepted CUE of a slot loads at once when the bank is free. -/
theorem test_cue :
    (after (.cue .b 1 1 12 2 0 1) ready).seq.cue = some ⟨.slot, 12, 12, .nextBar, .firm, .port .b, .loading⟩ := by decide

/-! ## The Song Store (Section 9.7) -/

/-- A READ_SONG during an erase waits; its reply is EMPTY_SLOT where the slot is erased. -/
theorem test_readSong :
    (after (.readSong .b 1 12) (writing .erasing)).store.queue = [⟨.readSong .b, 14⟩] ∧
      (after .fetchEnd (after (.readSong .b 7 12) ready)).portB.sending.map (·.bytes) = some (frameBytes 0x80 7 [7]) := by decide

/-- A write goes by ERASING, the words, the read-back and the marker word to a VALID sector with its record. -/
theorem test_writeSong :
    let t := afterAll [.writeSong .a 1 12 songRecord, .flashEraseEnd, .recordWordsProgrammed, .readBackEnd false, .markerWordProgrammed] ready
    sectorValid t.flash 14 = true ∧ sectorRecord t.flash 14 = songRecord ∧ t.store.activity = .idle := by decide

/-- R150: a read-back that differs leaves the sector WRITING, not VALID. -/
theorem test_verify_fails :
    let t := afterAll [.writeSong .a 1 12 songRecord, .flashEraseEnd, .recordWordsProgrammed, .readBackEnd true] ready
    sectorValid t.flash 14 = false ∧ t.store.activity = .idle := by decide

/-- R148: in SHOW a store request is LOCKED; R156: SHOW is BUSY while the store operates. -/
theorem test_show_locked :
    (after (.eraseSong .a 1 12) (after (.setMode .b 1 1) ready)).store.activity = .idle ∧
      (after (.setMode .b 1 1) (writing .erasing)).store.mode = .prep := by decide

/-- R151: SUPPLY_LOW in VERIFYING ends the operation; in the words it waits for the word's end. -/
theorem test_supplyLow :
    (after .supplyLowAsserted (writing .verifying)).store.activity = .idle ∧
      (after .supplyLowAsserted (writing (.words 2))).store.busy = true ∧
      (afterAll [.supplyLowAsserted, .flashWordProgrammed] (writing (.words 2))).store.busy = false := by decide

/-! ## The pedal board (Sections 10.7, 10.8) -/

/-- Section 10.7: nine CLOSED samples do not press FS4, the tenth does; the hold timer is set for 600 ms. -/
theorem test_debounce :
    let s := after (.footswitchSample 0) ready
    let t := afterAll (List.replicate 9 (.footswitchSample 8)) s
    (t.switch 3).mode = .up ∧ (t.switch 3).count = 9 ∧ ((after (.footswitchSample 8) t).switch 3).mode = .down ∧
      ((after (.footswitchSample 8) t).switch 3).hold = some ⟨500000, 600000⟩ := by decide

/-- Section 10.7: a hold on FS4 performs TAKE_NOW; a press of FS1 starts the transport. -/
theorem test_footswitch_actions :
    (after (.holdTimerExpiry 3) (cued (ready.setSwitch 3 ⟨true, some true, 0, some ⟨0, 500000⟩, .down, false⟩))).banks.active = .b ∧
      (after (.footswitchPress 0) ready).grid.transport = .countIn := by decide

/-- Section 10.8: raw 510 under 40 to 980 gives 64, raw 508 after it keeps 64. -/
theorem test_pedal :
    let s := { (ready.setPedal 0 ⟨some 506, 63, some 506, .normal⟩) with setup := { ready.setup with calibration := #v[(40, 980), (0, 1019)] } }
    let conv (raw : BitVec 10) (s : State) : State := after (.adcConversionEnd raw) { s with board := { s.board with adcBusy := some 0 } }
    ((conv 510 s).pedal 0).output = 64 ∧ ((conv 508 (conv 510 s)).pedal 0).output = 64 ∧ ((conv 506 (conv 510 s)).pedal 0).output = 63 ∧
      ((conv 1023 s).pedal 0).mode = .disconnected := by decide

/-- R166: the first slot drives row 1 for brightness × 125 µs; the downbeat indicator is lit while its flash runs. -/
theorem test_indicator_slot :
    let s := { ready with board := { Board.startAt 500000 with downbeatFlash := some ⟨450000, 100000⟩ } }
    let t := after .indicatorSlotStart s
    t.board.columns.getLsbD 1 = true ∧ t.board.columns.getLsbD 0 = false ∧ t.board.driveTimer = some ⟨500000, 750⟩ := by decide

/-! ## The control ports (Section 11) -/

/-- R170, R182: the ten characters of a SET_TEMPO frame on CP-A, the last of them taken for service. -/
theorem test_frame_assembly :
    (afterAll ((frameBytes 0x03 5 [0x36, 0xB0]).map fun b => .controlPortCharacter .a b true) ready).grid.tempo = 14000 := by decide

/-- R171: the gap timer's expiry returns the assembler to HUNT. -/
theorem test_gap : (afterAll [.controlPortCharacter .a 0x7E true, .gapTimerExpiry .a] ready).portA.phase = .hunt := by decide

/-- R173: an unlisted kind is answered UNKNOWN_KIND; a frame behind it waits in the buffer. -/
theorem test_unknownKind :
    let t := after (.unknownKindRequest .a 4 0x99 []) ready
    t.portA.sending.map (·.bytes) = some (frameBytes 0x80 4 [12]) ∧ (after (.unknownKindRequest .a 5 0x98 []) t).portA.buffer = [⟨0x98, 5, []⟩] := by
  decide

/-- R174: after the reply's last character the port serves the next request. -/
theorem test_portFrameTransmitted :
    let t := afterAll [.start .a 1, .stop .a 2, .portFrameTransmitted .a, .portFrameTransmitted .a] ready
    t.portA.buffer = [] ∧ t.grid.transport = .stopped := by decide

/-- R176: the mask of a kind; NOTICES_LOST cannot be masked; a field of 2 is refused. -/
theorem test_setNoticeMask :
    (after (.setNoticeMask .a 1 (List.replicate 21 0)) ready).portA.mask = 32 ∧
      (after (.setNoticeMask .a 1 (List.replicate 20 0 ++ [2])) ready).portA.mask = BitVec.allOnes 22 := by decide

/-- R175: GET_STATUS of group 13 is refused with field 1, of start index 128 with field 2. -/
theorem test_getStatus :
    (after (.getStatus .b 1 13 0) ready).portB.sending.map (·.bytes) = some (frameBytes 0x80 1 [5, 1]) ∧
      (after (.getStatus .b 1 0 128) ready).portB.sending.map (·.bytes) = some (frameBytes 0x80 1 [5, 2]) := by decide

/-- Section 11.4: a notice leaves a full queue whose flag is set; NOTICES_LOST (2) stands behind the URGENT one left. -/
theorem test_notices_lost :
    let u : Notice := ⟨.storeFault .verify .write 3, true, Position.top, none⟩
    let c : ControlPort := { ControlPort.initial with notices := [u, u] ++ List.replicate 30 ⟨.tempoFallback 1 2, false, Position.top, none⟩,
                                                      lost := 2, overflow := true }
    let d := c.sendNotice u (u :: List.replicate 30 ⟨.tempoFallback 1 2, false, Position.top, none⟩) Position.top 0
    d.notices[1]? = some ⟨.noticesLost 2, true, Position.top, none⟩ ∧ d.notices.length = 32 ∧ d.lost = 0 ∧ d.overflow = false := by decide

/-- R2: a crystal found in the wait; the timeout gives RC. -/
theorem test_crystal :
    (after .crystalFound State.reset).timebase.source = some .crystal ∧ (after .crystalWaitTimeout State.reset).timebase.source = some .rc ∧
      (after .crystalLoss ready).timebase = ⟨.rcOnly, some .rc, 500050, 0⟩ := by decide

/-! ## Witnesses: states and operands that meet the hypotheses of the statements, clause by clause -/

/-- A port that serves at once. -/
theorem ready_serves (p : Port) : ready.serves p := by cases p <;> (unfold State.serves; decide)

theorem witness_StepRunsFront : (ready.withPending [.powerOn, .fetchEnd]).pending = .powerOn :: [.fetchEnd] ∧ ready.pending = [] := by decide

/-- A state in which much is in progress, for the invariants: RUNNING, a note held by the bank that was ACTIVE, a link's event waiting. -/
def show0 : State :=
  let s := withLink (busBusy (running 5)) fun k => { k with event := some (.strike 0 60 100), keepAlive := .alive, timer := some ⟨400000, 330000⟩ }
  { s with
    banks := { s.banks with b := songBank, retained := true }
    seq := { s.seq with retention := some ⟨400000, 10000000⟩ }
    notes := { s.notes with entries := [⟨0, 1, 0, 64, 90, .b, 300000, .sounding, [⟨0, 0, 64, .sent, false⟩]⟩], nextSerial := 1 }
    tap := ⟨some 100000, [480000], none⟩
    portA := { s.portA with notices := [⟨.storeFault .verify .write 3, true, Position.top, none⟩, ⟨.modeChanged .show, false, Position.top, none⟩] }
    flash := [(0, 1), (33791, 2)]
    pending := [.layerEngineTakeEvent] }

theorem witness_FlashStaysSound : FlashSound show0 ∧ ∃ t, step show0 = .next t :=
  ⟨⟨by decide, fun _ h => by cases h⟩, _, rfl⟩

theorem witness_PortsStaySound : PortsSound show0 ∧ ∃ t, step show0 = .next t := by
  refine ⟨fun p => ?_, _, rfl⟩
  cases p <;> constructor <;> decide

theorem witness_CapacitiesHold : WithinCapacity show0 ∧ ProgramsSound show0 ∧ ∃ t, step show0 = .next t := by
  refine ⟨?_, ?_, _, rfl⟩
  · constructor <;> decide
  · unfold ProgramsSound; decide

/-- A song of the range of Table 12-7. -/
theorem song_ok : song.Ok := by unfold Song.Ok TempoOk; decide

theorem witness_GridStaysSound : GridSound show0 ∧ ∃ t, step show0 = .next t := by
  refine ⟨?_, _, rfl⟩
  constructor
  · unfold TempoOk; decide
  · unfold TempoOk; decide
  · decide
  · intro r h; cases h
  · intro r h; cases h
  · decide
  · decide
  · decide
  · decide
  · decide
  · intro x h; cases h; exact song_ok
  · intro x h; cases h; exact song_ok
  · decide

theorem witness_TransportStaysSound : TransportSound show0 ∧ ∃ t, step show0 = .next t := by
  refine ⟨?_, _, rfl⟩
  constructor <;> decide

theorem witness_NotesStaySound : NotesSound show0 ∧ ∃ t, step show0 = .next t := by
  refine ⟨?_, _, rfl⟩
  constructor <;> decide

theorem witness_ChangeStaysSound : ChangeSound show0 ∧ ∃ t, step show0 = .next t := by
  refine ⟨?_, _, rfl⟩
  constructor
  · intro k; cases k <;> decide
  · decide
  · decide
  · decide
  · decide
  · decide
  · decide
  · decide
  · decide
  · decide
  · intro p; cases p <;> decide
  · decide
  · intro p; cases p <;> decide
  · intro p; cases p <;> decide
  · intro t h; cases h; decide

theorem witness_PowerUp : State.reset.running = false ∧ ready.running = true ∧ (writing .erasing).op?.isSome = true := by decide

theorem witness_CrystalLoss :
    ready.timebase.monitor = .crystalWatch ∧ ready.timers.all (fun te => !te.1.elapsed (ready.now + 50)) = true ∧
      State.reset.timebase.monitor ≠ .crystalWatch := by decide

theorem witness_IntervalLaw :
    0 < Grid.initial.tempo ∧ Grid.initial.remainder = 0 ∧ ({ Grid.initial with remainder := 4000, fresh := true } : Grid).fresh = true := by decide

theorem witness_StartRequest :
    ready.serves .a ∧ ready.grid.transport = .stopped ∧ ready.grid.source ≠ .follow ∧
      1 ≤ ready.activeBank.countIn ∧ ready.grid.position = ⟨1, 1, 0⟩ := ⟨ready_serves _, by decide⟩

theorem witness_StartRequest_follow :
    let s := withGrid ready fun g => { g with source := .follow }
    s.serves .b ∧ s.grid.transport = .stopped ∧ s.grid.source = .follow := by
  unfold State.serves; decide

theorem witness_StartRequest_running : (running 239).serves .a ∧ (running 239).grid.transport ≠ .stopped := by
  unfold State.serves; decide

/-- A ramp record that stands in STOPPED: its step at tick 0 and its last one, and no step at tick 5; the count-in's place and the held one. -/
theorem witness_StartRequest_ramp :
    let s (n done : Nat) := withGrid ready fun g => { g with position := ⟨5, 1, n⟩, ramp := some ⟨12000, 12600, 4, done⟩ }
    (s 0 0).serves .a ∧ (s 0 0).grid.transport = .stopped ∧ (s 0 0).grid.source ≠ .follow ∧
      (s 0 0).grid.ramped (s 0 0).startPlace.2 = (12150, some ⟨12000, 12600, 4, 1⟩) ∧
      (s 0 3).grid.ramped (s 0 3).startPlace.2 = (12600, none) ∧
      (s 5 0).grid.ramped (s 5 0).startPlace.2 = (12000, some ⟨12000, 12600, 4, 0⟩) ∧
      ready.startPlace = (.countIn, ⟨-1, 1, 0⟩) ∧ (s 0 0).startPlace = (.running, ⟨5, 1, 0⟩) := by
  unfold State.serves; decide

theorem witness_StopRequest :
    ready.serves .a ∧ ready.armedCue = none ∧ ready.grid.transport = .stopped ∧ (running 239).serves .b ∧ (running 239).armedCue = none ∧
      (running 239).grid.transport ≠ .stopped := by unfold State.serves; decide

theorem witness_StopRequest_cue :
    (cued (running 0)).serves .a ∧ (cued (running 0)).armedCue.isSome = true ∧ (cued (running 0)).standbyBank.image = some song := by
  unfold State.serves; decide

/-- A FOLLOW song taken by a STOP that ends a ramp at its target; a song with its own tempo; a grid that is STOPPED already. -/
theorem witness_StopRequest_tempo :
    let s := withGrid (cued (running 0)) fun g => { g with ramp := some ⟨12000, 13100, 4, 1⟩ }
    let f : State := { s with banks := { s.banks with b := { songBank with image := some { song with source := .follow } } } }
    f.serves .a ∧ f.armedCue.isSome = true ∧ f.standbyBank.image = some { song with source := .follow } ∧ f.stoppedTempo = 13100 ∧
      f.grid.transport ≠ .stopped ∧ song.source ≠ .follow ∧ (cued ready).grid.transport = .stopped ∧ (cued ready).serves .a ∧
      (cued ready).armedCue.isSome = true := by
  unfold State.serves; decide

/-- A plain tick; a tick at a beat boundary with a ramp; a tick that counts for a correction and one that ends it. -/
theorem witness_TickAdvances :
    let r := withGrid (running 239) fun g => { g with ramp := some ⟨12000, 12600, 4, 3⟩ }
    let c (n : Nat) := withGrid (following 0 0) fun g => { g with correction := some ⟨11723, n, true⟩ }
    (running 0).dueAt ((running 0).grid.position.next 4) = none ∧ (running 0).follower.state ≠ .holdover ∧
      r.dueAt (r.grid.position.next 4) = none ∧ (r.grid.position.next 4).tick = 0 ∧ r.grid.correction = none ∧
      (c 234).dueAt ((c 234).grid.position.next 4) = none ∧ (c 1).grid.countdown = some ⟨497917, 2083⟩ ∧ (c 1).grid.ramp = none := by decide

/-- The boundary values 2999, 3000, 30000, 30001 under INTERNAL and TAP, and FOLLOW. -/
theorem witness_SetTempoRequest :
    ready.serves .a ∧ ready.grid.source ≠ .follow ∧ (following 0 0).serves .b ∧ (following 0 0).grid.source = .follow ∧
      (2999 : BitVec 16).toNat < 3000 ∧ ¬ (3000 : BitVec 16).toNat < 3000 ∧ ¬ 30000 < (30000 : BitVec 16).toNat ∧
      30000 < (30001 : BitVec 16).toNat := by unfold State.serves; decide

theorem witness_SetTempoSourceRequest :
    ready.serves .a ∧ 3 ≤ (3 : Byte).toNat ∧ tempoSourceOf 0 = some ready.grid.source ∧ tempoSourceOf 1 = some .follow ∧
      tempoSourceOf 2 = some .tap ∧ .follow ≠ ready.grid.source := ⟨ready_serves _, by decide⟩

theorem witness_SetTempoSourceRequest_pending :
    let s := withGrid (following 0 0) fun g => { g with transport := .startPending, countdown := none }
    s.serves .a ∧ s.grid.source = .follow ∧ tempoSourceOf 2 = some .tap ∧ s.grid.transport = .startPending := by
  unfold State.serves; decide

theorem witness_MarkChecks :
    (following 0 0).serves .b ∧ 15 < (16 : Byte).toNat ∧ (15 : Byte).toNat ≤ 15 ∧ (following 0 0).grid.source = .follow ∧
      (following 0 0).setup.followSource = ofPort .b ∧ ready.serves .b ∧ ready.grid.source ≠ .follow ∧
      (following 0 0).serves .a ∧ (following 0 0).setup.followSource ≠ ofPort .a := by unfold State.serves; decide

theorem witness_MarkInSeeking :
    let s := withFollower (following 500600 0) fun f => { f with state := .seeking, intervals := [500400, 499900] }
    let u := withFollower (following 199999 0) fun f => { f with state := .seeking, intervals := [500400, 499900] }
    s.hears .b 15 ∧ s.follower.state = .seeking ∧ s.follower.listAfter s.setup.tolerance s.now = [500400, 499900, 500600] ∧
      s.grid.transport ≠ .startPending ∧ u.hears .b 0 ∧ (u.follower.listAfter u.setup.tolerance u.now).length < 3 := by
  unfold State.hears State.serves; decide

/-- Accepted at e = 48 (tick 48) and at e = −48 (tick 192); an outlier at tick 49, as the first and as the second. -/
theorem witness_MarkInLocked :
    (following 496000 48).hears .b 3 ∧ (following 496000 48).follower.state = .locked ∧
      (following 496000 48).follower.reference = some 4000 ∧ (following 496000 48).grid.transport ≠ .startPending ∧
      phaseError (following 496000 48).grid.phase = 48 ∧ phaseError (following 496000 192).grid.phase = -48 ∧
      phaseError (following 496000 49).grid.phase = 49 ∧ (following 496000 49).hears .b 3 ∧ (following 496000 49).follower.outliers = 0 := by
  unfold State.hears State.serves; decide

/-- The locking mark, a mark accepted in LOCKED and the mark that returns HOLDOVER to LOCKED, in START_PENDING at ticks 100 and 0. -/
theorem witness_StartMark :
    let p (s : State) (n : Nat) := withGrid s fun g => { g with transport := .startPending, countdown := none, remainder := 0, position := ⟨20, 2, n⟩ }
    let k := withFollower (p (following 500600 0) 100) fun f => { f with state := .seeking, intervals := [500400, 499900] }
    let l := p (following 500000 0) 0
    let h := withFollower (p (following 0 0) 0) fun f => { f with state := .holdover, holdoverTimer := none }
    (k.hears .b 15 ∧ k.grid.transport = .startPending ∧ k.grid.ramp = none ∧ IsStartMark k 11993) ∧
      (l.hears .b 0 ∧ l.grid.transport = .startPending ∧ l.grid.ramp = none ∧ IsStartMark l 12000) ∧
      (h.hears .b 3 ∧ h.grid.transport = .startPending ∧ h.grid.ramp = none ∧ IsStartMark h 12000) := by
  unfold State.hears State.serves
  refine ⟨⟨by decide, by decide, by decide, ?_⟩, ⟨by decide, by decide, by decide, ?_⟩, by decide, by decide, by decide, ?_⟩
  · show ∃ l, l = _ ∧ _
    exact ⟨_, rfl, by decide, by decide⟩
  · show ∃ ref, _ ∧ _
    exact ⟨0, by decide, by decide, by decide⟩
  · show (12000 : Nat) = _
    decide

/-- In HOLDOVER at e = 24, e = −24 and e = 25; in LOST. -/
theorem witness_MarkInHoldoverOrLost :
    let s (x : FollowState) (n : Nat) := withFollower (following 0 n) fun f => { f with state := x, holdoverTimer := none }
    (s .holdover 24).hears .b 0 ∧ (s .holdover 24).grid.transport ≠ .startPending ∧ phaseError (s .holdover 24).grid.phase = 24 ∧
      phaseError (s .holdover 216).grid.phase = -24 ∧ phaseError (s .holdover 25).grid.phase = 25 ∧
      (s .lost 25).hears .b 0 ∧ (s .lost 25).follower.state = .lost := by
  unfold State.hears State.serves; decide

/-- A sample and an edge outside FOLLOW; an edge that is a mark in SEEKING, in LOCKED and in HOLDOVER. -/
theorem witness_RefinLine :
    let s (x : FollowState) : State := { following 496000 0 with
      setup := { Setup.default with followSource := .refin }
      follower := { (following 496000 0).follower with state := x, refinLevel := some false, refinSample := some true } }
    (s .seeking).running = true ∧ (s .seeking).follower.refinSample = some true ∧ (s .seeking).follower.refinLevel = some false ∧
      (s .seeking).grid.source = .follow ∧ (s .seeking).setup.followSource = .refin ∧ (s .seeking).follower.state = .seeking ∧
      (s .locked).follower.state = .locked ∧ (s .locked).follower.reference = some 4000 ∧ (s .holdover).follower.state = .holdover ∧
      ready.running = true ∧ ready.follower.refinSample ≠ some true ∧ ready.follower.refinLevel ≠ some true ∧ ready.grid.source ≠ .follow := by
  decide

theorem witness_HoldoverBegins : (following 500000 6).follower.holdoverTimer = some ⟨0, 1000000⟩ := by decide

/-- The pace timer's beat below H and the H-th, STOPPED and START_PENDING; the grid's beat below H and the H-th, RUNNING and in COUNT_IN. -/
theorem witness_HoldoverBeats :
    let p (n : Nat) (x : Transport) : State := { ready with
      follower := { ready.follower with state := .holdover, holdoverBeats := n, paceTimer := some ⟨0, 500000⟩ }
      grid := { ready.grid with source := .follow, transport := x }, setup := { ready.setup with onLoss := .songTempo } }
    let g (n : Nat) (x : Transport) : State := withFollower (withGrid (following 0 239) fun g => { g with transport := x }) fun f =>
      { f with state := .holdover, holdoverBeats := n, holdoverTimer := none }
    (p 14 .stopped).follower.paceTimer = some ⟨0, 500000⟩ ∧ (p 14 .stopped).follower.holdoverBeats + 1 < (p 14 .stopped).setup.holdoverBeats ∧
      (p 15 .stopped).setup.holdoverBeats ≤ (p 15 .stopped).follower.holdoverBeats + 1 ∧ (p 15 .stopped).grid.source = .follow ∧
      (p 15 .startPending).setup.onLoss = .songTempo ∧ (p 15 .startPending).activeBank.image = some song ∧
      (g 15 .running).grid.countdown = some ⟨497917, 2083⟩ ∧ (g 15 .running).dueAt ((g 15 .running).grid.position.next 4) = none ∧
      (g 15 .countIn).dueAt ((g 15 .countIn).grid.position.next 4) = none ∧ (g 15 .countIn).grid.transport.emits = true ∧
      (g 15 .running).follower.state = .holdover ∧ (g 15 .running).grid.ramp = none ∧ (g 15 .running).grid.correction = none ∧
      ((g 15 .running).grid.position.next 4).tick = 0 ∧ (g 15 .running).setup.holdoverBeats ≤ (g 15 .running).follower.holdoverBeats + 1 ∧
      (g 14 .running).follower.holdoverBeats + 1 < (g 14 .running).setup.holdoverBeats := by decide

/-- The grid's ticks in HOLDOVER: the H-th beat under FREEWHEEL, one short of it, no beat; the end of a count-in; the fallback, which alone falls
back. -/
theorem witness_HoldoverBeats_grid :
    let g (b n : Nat) (l : OnLoss) : State := { withFollower (following 0 n) (fun f => { f with state := .holdover, holdoverBeats := b }) with
      setup := { (following 0 n).setup with onLoss := l } }
    let e : State := withGrid (g 15 239 .freewheel) fun x => { x with transport := .countIn, position := ⟨0, 4, 239⟩ }
    (g 15 239 .freewheel).dueAt ⟨20, 3, 0⟩ = none ∧ (g 15 239 .freewheel).grid.position.next 4 = ⟨20, 3, 0⟩ ∧
      ¬ (g 15 239 .freewheel).FallsBack ⟨20, 3, 0⟩ ∧ ((g 15 239 .freewheel).tickedFollower ⟨20, 3, 0⟩).state = .lost ∧
      ((g 14 239 .songTempo).tickedFollower ⟨20, 3, 0⟩).holdoverBeats = 15 ∧ ¬ (g 14 239 .songTempo).FallsBack ⟨20, 3, 0⟩ ∧
      (g 15 100 .songTempo).grid.position.next 4 = ⟨20, 2, 101⟩ ∧ ¬ (g 15 100 .songTempo).FallsBack ⟨20, 2, 101⟩ ∧
      (g 15 239 .songTempo).FallsBack ⟨20, 3, 0⟩ ∧ (g 15 239 .songTempo).grid.source = .follow ∧
      (g 15 239 .songTempo).activeBank.image = some song ∧ e.grid.position.next 4 = ⟨1, 1, 0⟩ ∧ e.dueAt ⟨1, 1, 0⟩ = none ∧
      e.grid.countdown = some ⟨497917, 2083⟩ ∧ e.grid.ramp = none ∧ e.grid.correction = none := by decide

/-- R35, R38: the H-th beat under FREEWHEEL is told URGENT, and the grid's tick stands. -/
theorem test_holdover_freewheel :
    let s := withFollower (following 0 239) fun f => { f with state := .holdover, holdoverBeats := 15 }
    (after .intervalCountdownExpiry s).follower.state = .lost ∧ (after .intervalCountdownExpiry s).grid.tempo = 12000 ∧
      (after .intervalCountdownExpiry s).grid.position = ⟨20, 3, 0⟩ ∧ (after .intervalCountdownExpiry s).grid.source = .follow := by decide

/-- No last tap; t = 199,999, 200,000, 2,000,000 and 2,000,001; under TAP. -/
theorem witness_TapRequest :
    let s (t : Nat) : State := { running 7 with tap := ⟨some (500000 - BitVec.ofNat 32 t), [480000], none⟩
                                                grid := { (running 7).grid with source := .tap } }
    ready.serves .a ∧ ready.tap.last = none ∧ (s 0).serves .a ∧ (s 0).tap.intervals.length ≤ 4 ∧
      since (s 199999).now (500000 - BitVec.ofNat 32 199999) < 200000 ∧ (s 199999).tap.last = some (500000 - BitVec.ofNat 32 199999) ∧
      since (s 200000).now (500000 - BitVec.ofNat 32 200000) = 200000 ∧ since (s 0).now (500000 - BitVec.ofNat 32 2000000) = 2000000 ∧
      2000000 < since (s 0).now (500000 - BitVec.ofNat 32 2000001) ∧ 2 ≤ ((s 200000).tap.lastFour 200000).length ∧
      (s 0).grid.source = .tap := by unfold State.serves; decide

theorem witness_PulsesEnd :
    let tm : Timer := ⟨490000, 10000⟩
    let s : State := { ready with
      click := { ready.click with accentLine := some tm, beatLine := some tm, subLine := some tm, clkout := some tm }
      board := { ready.board with beatFlash := some tm, downbeatFlash := some tm, driveTimer := some tm }
      bus := { ready.bus with idleTimer := some tm } }
    s.click.accentLine = some tm ∧ s.click.clkout = some tm ∧ s.board.beatFlash = some tm ∧ s.board.driveTimer = some tm ∧
      s.bus.idleTimer = some tm := by decide

/-- A downbeat that clicks, told as POSITION under BEAT and BAR; a CLICK message for a busy bus, with room and with 8 waiting. -/
theorem witness_TickClicks :
    let s := busBusy (withGrid (running 0) fun g => { g with position := ⟨4, 4, 239⟩ })
    let t : State := { s with setup := { s.setup with clickModule := some 2 }, portA := { s.portA with positions := .beat }
                              portB := { s.portB with positions := .bar } }
    t.grid.countdown = some ⟨497917, 2083⟩ ∧ t.grid.position.next t.grid.meter = ⟨5, 1, 0⟩ ∧ t.dueAt ⟨5, 1, 0⟩ = none ∧
      t.follower.state ≠ .holdover ∧ t.grid.transport.emits = true ∧ t.click.entry 1 = .accent ∧ t.bus.transmission.isSome = true ∧
      t.setup.clickModule = some 2 ∧ t.bus.realtime.length < 8 ∧ t.portB.mask.getLsbD 7 = true := by decide

theorem witness_LinkReception :
    let s := withLink ready fun k => { k with keepAlive := .silent, timer := some ⟨0, 330000⟩, fifo := List.replicate 16 ⟨0xF8, false, 0⟩ }
    ready.running = true ∧ ready.setup.linkEnable.getLsbD 3 = true ∧ ready.links[1].fifo.length < 16 ∧
      s.running = true ∧ (s.link 1).keepAlive = .silent ∧ ¬ (s.link 1).fifo.length < 16 ∧
      ({ ready with setup := { ready.setup with linkEnable := 7 } } : State).setup.linkEnable.getLsbD 3 = false := by decide

theorem witness_LinkSilence :
    (show0.link 1).timer = some ⟨400000, 330000⟩ ∧ show0.bus.transmission.isSome = true ∧ show0.notes.entries ≠ [] := by decide

/-- Bytes of every sort: the channel statuses 80 and EF, the system common F1 and F7, F0, F8, FE, and data bytes by the parser's state. -/
theorem witness_ParserTakes :
    let s (b : Byte) (k : KeyLink → KeyLink) := withLink ready fun x => k { x with fifo := [⟨b, false, 450000⟩], mode := .normal }
    (s 0xF8 id).links[1].event = none ∧ (s 0xFE id).links[1].fifo = [⟨0xFE, false, 450000⟩] ∧ 248 ≤ (0xF8 : Byte).toNat ∧
      (0x80 : Byte).toNat = 16 * 8 + (0 : Channel).val ∧ (0xEF : Byte).toNat = 16 * 14 + (15 : Channel).val ∧ (0xF1 : Byte).toNat = 241 ∧
      (0xF7 : Byte).toNat = 247 ∧ (0x7F : Byte).toNat < 128 ∧
      ((s 1 fun k => { k with running := some (.noteOn, 2), collected := some 60 }).link 1).collected = some 60 ∧
      ((s 5 fun k => { k with running := some (.bend, 2), collected := some 0 }).link 1).running = some (.bend, 2) ∧
      ((s 5 fun k => { k with running := some (.keyPressure, 2), collected := some 0 }).link 1).running = some (.keyPressure, 2) ∧
      ((s 5 fun k => { k with running := some (.channelPressure, 2) }).link 1).running = some (.channelPressure, 2) ∧
      ((s 1 fun k => { k with commonLeft := 1 }).link 1).commonLeft ≠ 0 ∧ ((s 1 fun k => { k with mode := .exclusive }).link 1).mode ≠ .normal := by
  decide

/-- A PROGRAM under program-as-cue: with an empty slot, with a SOFT cue held, and with a FIRM one of another origin; past the setlist. -/
theorem witness_ParserTakes_program :
    let s (c : Option Cue) : State := { withLink ready fun x => { x with fifo := [⟨1, false, 450000⟩], mode := .normal, running := some (.program, 0) } with
      setup := { ready.setup with programAsCue := 2 }, store := { Store.initial with setlist := [3, 5] }, seq := { ready.seq with cue := c } }
    let soft : Cue := ⟨.slot, 3, 3, .nextBar, .soft, .port .a, .loading⟩
    let firm : Cue := ⟨.slot, 3, 3, .nextBar, .firm, .port .a, .waiting⟩
    ((s none).link 1).running = some (.program, 0) ∧ (s none).setup.programAsCue.getLsbD 1 = true ∧ (s none).resetting = .none ∧
      (s none).store.setlist[(1 : Byte).toNat]? = some 5 ∧ (s none).Quiet ∧ (s none).mayLoad = true ∧ Yields soft (.link 1) ∧
      (s (some soft)).seq.cue = some soft ∧ ¬ Yields firm (.link 1) ∧ (s (some firm)).seq.cue = some firm ∧
      ready.setup.programAsCue.getLsbD 1 = false ∧ ready.store.setlist.length ≤ (0 : Byte).toNat := by
  unfold State.Quiet Yields; decide

/-- A note-off and a note-on of velocity 0, with and without sustain. -/
theorem witness_NoteReleases :
    let s (kind : ChannelKind) (x : BitVec 16) := withLink show0 fun k => { k with
      event := none, fifo := [⟨0, false, 0⟩], mode := .normal, running := some (kind, 0), collected := some 64, sustain := x }
    ((s .noteOff 0).link 1).event = none ∧ ((s .noteOff 0).link 1).fifo = [⟨0, false, 0⟩] ∧ ((s .noteOff 0).link 1).commonLeft = 0 ∧
      ((s .noteOff 0).link 1).running = some (.noteOff, 0) ∧ ((s .noteOn 0).link 1).running = some (.noteOn, 0) ∧
      ((s .noteOff 0).link 1).collected = some 64 ∧ (s .noteOff 0).bus.transmission.isSome = true ∧
      ((s .noteOff 1).link 1).sustain.getLsbD 0 = true ∧ ((s .noteOff 0).link 1).sustain.getLsbD 0 = false ∧
      ((s .noteOff 0).link 1).footSustain = false := by decide

/-- Controller 64 with values 63 and 64: with the channel's sustain ON and OFF, and under the footswitch's flag. -/
theorem witness_NoteReleases_sustain :
    let s (v : Byte) (x : BitVec 16) (foot : Bool) := withLink show0 fun k => { k with
      event := none, fifo := [⟨v, false, 0⟩], mode := .normal, running := some (.controller, 0), collected := some 64, sustain := x
      footSustain := foot }
    ((s 63 1 false).link 1).fifo = [⟨63, false, 0⟩] ∧ ((s 63 1 false).link 1).running = some (.controller, 0) ∧
      ((s 63 1 false).link 1).collected = some 64 ∧ (64 : Byte).toNat = 64 ∧ (63 : Byte).toNat < 64 ∧
      ((s 63 1 false).link 1).sustain.getLsbD 0 = true ∧ ((s 63 1 false).link 1).footSustain = false ∧
      ((s 63 1 true).link 1).footSustain = true ∧ ((s 64 0 false).link 1).sustain.getLsbD 0 = false ∧
      (s 63 1 false).bus.transmission.isSome = true := by decide

/-! Which link the Layer Engine serves next, of links that hold an event or none. -/

theorem takeable_strike {s : State} {l : LinkId} {c : Channel} {k v : Nat} (h : (s.link l).event = some (.strike c k v))
    (r : s.notes.entries.length < 128 ∨ ∀ e ∈ s.notes.entries, e.releasing = false) : s.Takeable l := by
  unfold State.Takeable; rw [h]; exact r

theorem takeable_bend {s : State} {l : LinkId} {c : Channel} {v : Nat} (h : (s.link l).event = some (.bend c v)) : s.Takeable l := by
  unfold State.Takeable; rw [h]; trivial

theorem takeable_controller {s : State} {l : LinkId} {c : Channel} {n v : Nat} (h : (s.link l).event = some (.controller c n v)) :
    s.Takeable l := by unfold State.Takeable; rw [h]; trivial

theorem not_takeable {s : State} {l : LinkId} (h : (s.link l).event = none) : ¬ s.Takeable l := by unfold State.Takeable; rw [h]; exact id

theorem takesNext_only {s : State} {l : LinkId} (h : s.Takeable l) (n : ∀ k, k ≠ l → (s.link k).event = none) : s.TakesNext l :=
  ⟨h, fun k hk => if e : k = l then e ▸ Nat.le_refl _ else absurd hk (not_takeable (n k e))⟩

/-- With the links KL0 and KL2 holding events after KL3, KL0 is next; after KL0, KL2 is; and none where no link holds an event. -/
theorem witness_EngineTakes_order :
    let e : KeyEvent := .bend 0 8192
    let s (x : LinkId) : State := { (ready.setLink 0 { KeyLink.initial with event := some e }).setLink 2 { KeyLink.initial with event := some e } with
      layer := { ready.layer with lastServed := x } }
    (s 3).TakesNext 0 ∧ (s 0).TakesNext 2 ∧ (∀ l, ¬ ready.Takeable l) := by
  refine ⟨⟨takeable_bend (c := 0) (v := 8192) (by decide), by intro k hk; clear hk; revert k; decide⟩,
    ⟨takeable_bend (c := 0) (v := 8192) (by decide), fun k hk => ?_⟩, fun l => not_takeable (by revert l; decide)⟩
  by_cases h : k = 1
  · subst h; exact absurd hk (not_takeable (by decide))
  · clear hk; revert h; revert k; decide

/-- R70: a strike waits while the table holds 128 entries and one of them is RELEASING. -/
theorem not_takeable_full (s : State) (l : LinkId) (c : Channel) (k v : Nat) (h : (s.link l).event = some (.strike c k v))
    (n : s.notes.entries = ⟨9, 0, 0, 1, 1, .a, 0, .releasing 3, []⟩ :: List.replicate 127 ⟨9, 0, 0, 1, 1, .a, 0, .sounding, []⟩) :
    ¬ s.Takeable l := by
  unfold State.Takeable; rw [h, n]
  simp only [List.length_cons, List.length_replicate]
  rintro (x | x)
  · exact absurd x (by decide)
  · exact absurd (x _ List.mem_cons_self) (by decide)

/-- The link KL1 of `show0` alone holds an event. -/
theorem show0_next {s : State} (h : (s.link 1).event = some (.strike 0 60 100)) (o : ∀ k, k ≠ 1 → (s.link k).event = none)
    (r : s.notes.entries.length < 128 ∨ ∀ e ∈ s.notes.entries, e.releasing = false) : s.TakesNext 1 :=
  takesNext_only (takeable_strike h r) o

/-- A strike of one zone, of five (the fifth is overflow) and of none; with 31 and 32 items in the key-on queue. -/
theorem witness_EngineTakes :
    let five : Bank := { songBank with
      image := some { song with zones := (List.range 5).map (fun i => { zone with channel := Fin.ofNat 16 i }) }, enabled := List.replicate 5 true }
    let s (b : Bank) : State := { show0 with banks := { show0.banks with a := b } }
    ((s songBank).TakesNext 1 ∧ (s five).TakesNext 1) ∧ ((s songBank).link 1).event = some (.strike 0 60 100) ∧
      (s songBank).bus.transmission.isSome = true ∧
      destinations 60 100 (((s songBank).activeBank.struck 1 0 60 100).take 4) = [(⟨0, 0, 60, .queued, false⟩, 100)] ∧
      ((s five).activeBank.struck 1 0 60 100).length = 5 ∧ (destinations 60 100 (((s five).activeBank.struck 1 0 60 100).take 4)).length = 4 ∧
      (s { songBank with enabled := [false] }).activeBank.struck 1 0 60 100 = [] ∧ show0.notes.entries.length < 128 ∧
      32 - (List.replicate 31 (⟨0, 0, 1⟩ : KeyOnItem)).length = 1 ∧ 32 - (List.replicate 32 (⟨0, 0, 1⟩ : KeyOnItem)).length = 0 :=
  ⟨⟨show0_next (by decide) (by decide) (.inl (by decide)), show0_next (by decide) (by decide) (.inl (by decide))⟩, by decide⟩

/-- A table of 127 and of 128 entries, with NOTE_TABLE_FULL already told in this bar and not yet told. -/
theorem witness_EngineTakes_full :
    let n (k : Nat) (b : Option Int) : State := { show0 with notes := { show0.notes with
      entries := List.replicate k ⟨9, 0, 0, 1, 1, .a, 0, .sounding, [⟨0, 0, 1, .sent, false⟩]⟩, lastBar := b } }
    (n 127 none).notes.entries.length = 127 ∧ (n 128 none).notes.entries.length = 128 ∧ (n 128 none).TakesNext 1 ∧
      (n 128 none).notes.lastBar ≠ some (n 128 none).grid.position.bar ∧ (n 128 (some 5)).notes.lastBar = some (n 128 (some 5)).grid.position.bar := by
  intro n
  have len : ∀ k b, (n k b).notes.entries.length = k := fun k b => List.length_replicate
  have one : (show0.link 1).event = some (.strike 0 60 100) := by decide
  have rest : ∀ k, k ≠ 1 → (show0.link k).event = none := by decide
  have told : show0.grid.position.bar = 5 := by decide
  refine ⟨len 127 none, len 128 none, show0_next one rest (.inr fun e h => ?_), nofun, congrArg some told.symm⟩
  rw [(List.mem_replicate.1 h).2]
  decide

theorem witness_EngineTakes_controller :
    let s (e : KeyEvent) := withLink show0 fun k => { k with event := some e }
    ((s (.controller 0 1 90)).TakesNext 1 ∧ (s (.bend 0 8192)).TakesNext 1) ∧ ((s (.bend 0 8192)).link 1).event = some (.bend 0 8192) ∧
      (s (.bend 0 8192)).bus.transmission.isSome = true ∧ (s (.bend 0 8192)).activeBank.passing 1 0 = [zone] := by
  refine ⟨⟨takesNext_only (takeable_controller (c := 0) (n := 1) (v := 90) (by decide)) (by decide),
    takesNext_only (takeable_bend (c := 0) (v := 8192) (by decide)) (by decide)⟩, by decide⟩

theorem witness_StrikeDestinations :
    (∀ z ∈ songBank.zones, z.level ≤ 127 ∧ z.fixedVelocity ≤ 127) ∧
      formDests 127 1 [] ((songBank.matching 1 0 127 1).take 4) = [(⟨0, 0, 127, .queued, false⟩, 1)] := by decide

/-- R72, R73 and the strikes of Section 5.10: SOFT at 64 sends 79, a twin of an earlier destination is left out, a key of 128 and level 0 too. -/
theorem test_destinations :
    let soft : Zone := { zone with curve := .soft }
    let up : Zone := { zone with transpose := 68 }
    let mute : Zone := { zone with level := 0, channel := 1 }
    let two : Zone := { zone with channel := 2, level := 64 }
    destinations 60 64 [soft, zone, up, mute, two] = [(⟨0, 0, 60, .queued, false⟩, 79), (⟨0, 2, 60, .queued, false⟩, 32)] ∧
      formDests 60 64 [] [soft, zone, up, mute, two] = destinations 60 64 [soft, zone, up, mute, two] := by decide

theorem witness_ToggleZoneRequest :
    ready.serves .a ∧ ready.activeBank.enabled.length = ready.activeBank.zones.length ∧ ready.activeBank.zones.length ≤ (1 : Byte).toNat ∧
      (0 : Byte).toNat < ready.activeBank.zones.length ∧ 2 < (3 : Byte).toNat ∧ (2 : Byte).toNat ≤ 2 ∧
      (busBusy ready).bus.transmission.isSome = true ∧ ready.activeBank.zones[0]? = some zone := ⟨ready_serves _, by decide⟩

/-- The 14 bytes of a zone record. -/
def zoneRecord : List Byte := [1, 15, 0, 0, 127, 1, 127, 1, 1, 0, 0, 100, 127, 0x80]

theorem witness_EditZoneRequest :
    ready.serves .a ∧ zoneRecord.length = 14 ∧ firstFailing (ready.editChecks 2 0 zoneRecord) = some 1 ∧
      firstFailing (ready.editChecks 0 0 zoneRecord) = none ∧ firstFailing (ready.editChecks 0 1 zoneRecord) = none ∧
      firstFailing (ready.editChecks 0 2 zoneRecord) = some 2 ∧ firstFailing (ready.editChecks 1 0 zoneRecord) = none ∧
      firstFailing (ready.editChecks 0 0 (zoneRecord.set 13 0x84)) = some 17 ∧ (busBusy ready).bus.transmission.isSome = true ∧
      (busBusy ready).serves .a ∧ (cued ready).serves .a ∧
      ready.activeBank.image = some song ∧ ready.standbyBank.image = none ∧ (cued ready).cueIs .armed = true ∧
      ready.cueIs .loading = false ∧ ready.cueIs .armed = false ∧ ready.banks.retained = false := by
  unfold State.serves; decide

/-- An idle bus and a busy one; a SILENCE that waits and one that is being transmitted; 7 and 8 items waiting; a cue that waits for the bank. -/
theorem witness_PanicRequest :
    let q (n : Nat) (x : List RealtimeItem) : State := { busBusy ready with
      bus := { (busBusy ready).bus with realtime := List.replicate n (.click ⟨2, .click 0 2⟩) ++ x } }
    let z : State := { ready with bus := { ready.bus with transmission := some ⟨none, true, .silence 15, true, false, ⟨499900, 88⟩⟩ } }
    let w : State := { show0 with seq := { show0.seq with cue := some ⟨.slot, 3, 3, .nextBar, .soft, .port .a, .waiting⟩ } }
    ready.serves .a ∧ ready.bus.transmission = none ∧ ready.silencePlaced = ([.silence], 0) ∧ (busBusy ready).serves .b ∧
      (q 1 [.silence]).silencePlaced = ([.click ⟨2, .click 0 2⟩, .silence], 0) ∧ (q 7 []).silencePlaced.1.length = 8 ∧
      (q 8 []).silencePlaced.1.length = 8 ∧ (q 8 []).silencePlaced.2 = 1 ∧ z.serves .a ∧ z.silencePlaced = ([.silence], 0) ∧
      w.serves .b ∧ w.cueIs .waiting = true ∧ w.banks.retained = true ∧ w.seq.phase = .none ∧ w.store.busy = false := by
  unfold State.serves; decide

theorem witness_TransmissionEnds :
    let s := busBusy (ready.setModule 2 ⟨.ready, false, 0, none, 0⟩)
    let c : State := { s with bus := { s.bus with realtime := [.click ⟨2, .click 0 2⟩] } }
    let o : State := { s with bus := { s.bus with pending := [⟨2, 0, 300, none, .program, .resync⟩], pass := [⟨2, .level 0 9⟩] } }
    s.bus.transmission = some ⟨some 0, true, .keyOn 0 60 100, false, false, ⟨499900, 176⟩⟩ ∧ s.resetting ≠ .silence ∧
      s.notes.candidates = [] ∧ s.layer.keyOns = [] ∧ s.bus.pass = [] ∧ c.bus.realtime = [.click ⟨2, .click 0 2⟩] ∧
      (c.module 2).mode = .ready ∧ o.bus.realtime = [] ∧ (∀ v ∈ o.layer.levels, v = none) ∧ (o.module 2).mode = .ready ∧
      o.setup.classOrder ≤ 5 := by decide

/-- A released note of module 1, with its destination's key-on sent or queued, in a module state; the bus carries a message. -/
def releasing (flag : KeyOnFlag) (mode : ModuleMode) : State :=
  let s := busBusy (ready.setModule 0 ⟨mode, false, 0, none, 0⟩)
  { s with notes := { s.notes with entries := [⟨4, 1, 0, 60, 100, .a, 0, .releasing 7, [⟨0, 0, 60, flag, false⟩]⟩], nextRelease := 8 } }

/-- LIVE: a candidate that is due; a key-on, a controller item and a level slot with nothing ahead; a SILENCE at the head of REALTIME. -/
theorem witness_TransmissionEnds_live :
    let r := releasing .sent .ready
    let k : State := { r with notes := { r.notes with entries := [⟨4, 1, 0, 60, 100, .a, 0, .sounding, [⟨0, 0, 60, .queued, false⟩]⟩] }
                              layer := { r.layer with keyOns := [⟨4, 0, 100⟩] } }
    let c : State := { r with notes := Notes.initial, layer := { r.layer with controls := [⟨0, 0, .bend, 8192⟩] } }
    let v : State := { r with notes := Notes.initial, layer := { r.layer with levels := [some 90] } }
    (r.LiveNext ∧ r.notes.candidates = [⟨4, 0⟩] ∧ findDest 4 0 r.notes.entries = some ⟨0, 0, 60, .sent, false⟩ ∧
        ¬ TwinQueued r ⟨4, 0⟩ ⟨0, 0, 60, .sent, false⟩ ∧ ¬ StillHeld r ⟨4, 0⟩ ⟨0, 0, 60, .sent, false⟩ ∧ (r.module 0).mode = .ready) ∧
      (k.LiveNext ∧ k.notes.candidates = [] ∧ k.layer.keyOns = [⟨4, 0, 100⟩] ∧
        findDest 4 0 k.notes.entries = some ⟨0, 0, 60, .queued, false⟩ ∧ (k.module 0).mode = .ready) ∧
      (c.LiveNext ∧ c.notes.candidates = [] ∧ c.layer.keyOns = [] ∧ c.layer.controls = [⟨0, 0, .bend, 8192⟩] ∧ (c.module 0).mode = .ready) ∧
      (v.LiveNext ∧ v.layer.controls = [] ∧ v.layer.levels[0]? = some (some 90) ∧ v.activeBank.zones[0]? = some zone) ∧
      ({ r.bus with realtime := [.silence] } : Bus).realtime = .silence :: [] := by
  unfold State.LiveNext TwinQueued StillHeld; decide

/-- A candidate whose key-on is queued, whose module is STALLED or LOADING, whose note another entry holds; no module READY. -/
theorem witness_TransmissionEnds_ends :
    let q : State := { releasing .queued .ready with layer := { Layer.initial with keyOns := [⟨4, 0, 100⟩] } }
    let h : State := { releasing .sent .ready with notes := { ready.notes with entries := (releasing .sent .ready).notes.entries ++
      [⟨5, 1, 0, 60, 100, .a, 0, .sounding, [⟨0, 0, 60, .sent, false⟩]⟩] } }
    let n : State := { q with notes := { q.notes with entries := [⟨4, 1, 0, 60, 100, .a, 0, .sounding, [⟨0, 0, 60, .queued, false⟩]⟩] }
                              bus := { (releasing .sent .loading).bus with realtime := [.click ⟨0, .click 0 2⟩], pass := [⟨1, .level 0 9⟩] } }
    (q.OnlyKeys ∧ q.notes.candidates = [⟨4, 0⟩] ∧ findDest 4 0 q.notes.entries = some ⟨0, 0, 60, .queued, false⟩ ∧ q.layer.keyOns = [⟨4, 0, 100⟩]) ∧
      (h.OnlyKeys ∧ h.notes.candidates = [⟨4, 0⟩] ∧ StillHeld h ⟨4, 0⟩ ⟨0, 0, 60, .sent, false⟩ ∧ ¬ TwinQueued h ⟨4, 0⟩ ⟨0, 0, 60, .sent, false⟩) ∧
      ((releasing .sent .stalled).OnlyKeys ∧ ((releasing .sent .stalled).module 0).mode = .stalled ∧
        ((releasing .sent .loading).module 0).mode = .loading ∧ (releasing .sent .loading).layer.keyOns = []) ∧
      ((∀ m, (n.module m).mode ≠ .ready) ∧ n.notes.candidates = [] ∧ .silence ∉ n.bus.realtime ∧ n.setup.classOrder ≤ 5) := by
  unfold State.OnlyKeys StillHeld TwinQueued; decide

/-- A pending program entry with a preset, before its PROGRAM and before its LEVEL; two releases, the older first. -/
theorem witness_TransmissionEnds_change :
    let s (x : NextMessage) : State := { releasing .sent .ready with
      notes := Notes.initial, bus := { (releasing .sent .ready).bus with pending := [⟨0, 0, 300, some 90, x, .take⟩] } }
    let n : Notes := { Notes.initial with entries := [⟨5, 1, 0, 60, 100, .a, 0, .releasing 1, [⟨0, 0, 60, .sent, false⟩]⟩,
      ⟨4, 1, 0, 61, 100, .a, 0, .releasing 0xFFFFFFFF, [⟨0, 0, 61, .sent, true⟩, ⟨1, 0, 61, .sent, false⟩]⟩] }
    (s .program).bus.pending = [⟨0, 0, 300, some 90, .program, .take⟩] ∧ (s .level).bus.pending = [⟨0, 0, 300, some 90, .level, .take⟩] ∧
      (s .program).bus.realtime = [] ∧ (s .program).notes.candidates = [] ∧ (∀ v ∈ (s .program).layer.levels, v = none) ∧
      ((s .level).module 0).mode = .ready ∧ (s .level).seq.settle ≠ .expired ∧ n.candidates = [⟨4, 1⟩, ⟨5, 0⟩] ∧
      ((1 : Count) - 0xFFFFFF00).toNat < 2147483648 ∧ ((0xFFFFFFFF : Count) - 0xFFFFFF00).toNat < 2147483648 := by decide

theorem witness_ModuleStates :
    let s (x : ModuleMode) (b : Bool) := busBusy (ready.setModule 1 ⟨x, b, 0, some ⟨0, 3000000⟩, 0⟩)
    (s .ready false).running = true ∧ ((s .ready false).module 1).busy = false ∧ ((s .ready false).module 1).mode = .ready ∧
      ((s .stalled false).module 1).mode ≠ .ready ∧ ((s .loading true).module 1).busy = true ∧ ((s .loading true).module 1).mode = .loading ∧
      ((s .stalled true).module 1).mode = .stalled ∧ (s .stalled true).bus.transmission.isSome = true ∧ (s .stalled true).seq.phase = .none ∧
      ((s .disabled true).module 1).mode = .disabled ∧ ((s .loading true).module 1).timer = some ⟨0, 3000000⟩ := by decide

/-- A stall with two PASS items of the module among three; a return from STALLED with one resync post, its cell holding a program, and with none. -/
theorem witness_ModuleStates_stall :
    let i (m : ModuleId) : Addressed := ⟨m, .level 0 9⟩
    let s (x : ModuleMode) : State := busBusy (ready.setModule 0 ⟨x, true, 0, some ⟨0, 3000000⟩, 7⟩)
    let p : State := { s .loading with bus := { (s .loading).bus with pass := [i 0, i 1, i 0] } }
    let r : State := { s .stalled with bus := { (s .stalled).bus with cells := Vector.replicate 8 (Vector.replicate 16 (some 44)) } }
    p.bus.transmission.isSome = true ∧ (p.module 0).timer = some ⟨0, 3000000⟩ ∧ (p.module 0).discards ≤ 65535 ∧
      p.bus.pass.countP (fun i => i.module == 0) = 2 ∧ ((after (.busyTimerExpiry 0) p).module 0).discards = 9 ∧
      r.running = true ∧ (r.module 0).busy = true ∧ (r.module 0).mode = .stalled ∧ (r.resyncs 0).length = 1 ∧
      ((s .stalled).resyncs 0).length = 0 := by decide

/-- Module addresses 0, 1, 8 and 9, kinds 2, 3, 8 and 9, channels 0, 1, 16 and 17, and each kind's values at their bounds; a full queue. -/
theorem witness_PassRequest :
    let f (m k c : Byte) (v1 : Nat) (v2 : Byte) := firstFailing (passChecks m k c v1 v2)
    let s : State := { busBusy ready with bus := { (busBusy ready).bus with pass := List.replicate 16 ⟨1, .level 0 1⟩ } }
    ready.serves .a ∧ [f 0 3 1 0 0, f 9 3 1 0 0, f 1 2 1 0 0, f 1 9 1 0 0, f 1 3 0 0 0, f 8 3 17 0 0] = [1, 1, 2, 2, 3, 3].map some ∧
      [f 1 3 1 128 0, f 1 4 1 64 0, f 1 4 1 128 0, f 1 5 1 16384 0, f 1 6 1 1024 0, f 1 8 1 3 0] = List.replicate 6 (some 4) ∧
      f 1 4 1 63 128 = some 5 ∧
      [f 8 3 16 127 255, f 1 4 1 65 127, f 1 5 1 16383 0, f 1 6 1 1023 0, f 1 7 1 65535 0, f 1 8 1 2 0] = List.replicate 6 none ∧
      16 ≤ s.bus.pass.length ∧ s.serves .b ∧ ready.bus.pass.length < 16 ∧ (busBusy ready).bus.transmission.isSome = true := by
  unfold State.serves; decide

theorem witness_Restart :
    let x : Transmission := ⟨none, true, .silence 15, false, true, ⟨499956, 44⟩⟩
    ready.serves .a ∧ ready.store.mode = .prep ∧ ({ ready with store := { Store.initial with mode := .show } } : State).serves .a ∧
      ready.bus.transmission = none ∧ (busBusy ready).bus.transmission.isSome = true ∧
      ({ ready with resetting := .silence, bus := { ready.bus with transmission := some x } } : State).bus.transmission = some x ∧
      x.forRestart = true := by unfold State.serves; decide

/-- A restart that waits behind an ordinary message; a calibration of 64 and one of 63 for the pedals' states at its end. -/
theorem witness_Restart_busy :
    let s : State := { busBusy ready with resetting := .silence }
    let x : Transmission := ⟨some 0, true, .keyOn 0 60 100, false, false, ⟨499900, 176⟩⟩
    let c : State := { s with setup := { s.setup with calibration := #v[(40, 104), (40, 103)] } }
    s.bus.transmission = some x ∧ x.forRestart = false ∧ s.resetting = .silence ∧ s.bus.selection ≠ .all ∧
      getAt c.setup.calibration 0 = (40, 104) ∧ ¬ 104 - 40 < 64 ∧ getAt c.setup.calibration 1 = (40, 103) ∧ 103 - 40 < 64 := by decide

/-- A LOADING cue whose fetch is in progress, with a READ_SONG behind it; the end of the SILENCE with an IDLE store and with a busy one. -/
theorem witness_Restart_fetches :
    let s : State := { ready with
      seq := { ready.seq with cue := some ⟨.slot, 3, 3, .nextBar, .soft, .port .a, .loading⟩ }
      store := { Store.initial with activity := .fetching ⟨.cue, 5⟩, queue := [⟨.readSong .b, 9⟩] } }
    s.serves .a ∧ s.store.mode = .prep ∧ s.fetchCount .cue = (s.cueIs .loading).toNat ∧ s.otherFetches = [⟨.readSong .b, 9⟩] ∧
      (after (.restart .a 1) s).store.activity = .fetching ⟨.readSong .b, 9⟩ ∧ ready.cueIs .loading = false ∧ ready.store.activity = .idle ∧
      (writing .erasing).store.activity ≠ .idle := by unfold State.serves; decide

theorem witness_CueRequests :
    ready.serves .a ∧ firstFailing (ready.cueChecks 1 63 0 0 1) = none ∧ firstFailing (ready.cueChecks 1 64 0 0 1) = some 2 ∧
      firstFailing (ready.cueChecks 2 0 0 0 1) = some 1 ∧ firstFailing (ready.cueChecks 1 0 4 0 1) = some 3 ∧
      firstFailing (ready.cueChecks 1 0 3 0 1) = some 4 ∧ firstFailing (ready.cueChecks 1 0 3 9999 1) = none ∧
      firstFailing (ready.cueChecks 1 0 0 10000 2) = some 5 ∧ firstFailing (ready.cueChecks 0 0 0 0 1) = some 2 ∧
      ready.seq.cue = none ∧ ready.mayLoad = true ∧ ready.fetchCount .cue = (ready.cueIs .loading).toNat ∧
      (writing .erasing).mayLoad = false ∧ (writing .erasing).serves .a ∧ (writing .erasing).seq.cue = none := by
  unfold State.serves; decide

/-- A SOFT cue of CP-A is held: CP-B may replace or cancel it; a FIRM one it may not. -/
theorem witness_CueRequests_held :
    let soft : Cue := ⟨.slot, 3, 3, .nextBar, .soft, .port .a, .armed⟩
    let firm : Cue := ⟨.slot, 3, 3, .nextBar, .firm, .port .a, .armed⟩
    let s : State := { cued ready with seq := { (cued ready).seq with cue := some firm } }
    (cued ready).serves .b ∧ (cued ready).seq.cue = some soft ∧ Yields soft (.port .b) ∧ firstFailing ((cued ready).cueChecks 1 5 1 0 0) = none ∧
      (cued ready).mayLoad = true ∧ s.serves .b ∧ s.seq.cue = some firm ∧ ¬ Yields firm (.port .b) ∧ Yields firm (.port .a) := by
  unfold State.serves Yields; decide

/-- SETLIST_STEP at the first and last entries and off the list, from a held cue's entry, with and without a load allowed. -/
theorem witness_CueRequests_step :
    let s (p : Option Nat) : State := { writing .erasing with store := { (writing .erasing).store with setlist := [3, 5, 7, 5], position := p } }
    let h : State := { ready with store := { Store.initial with setlist := [3, 5, 7, 5] }
                                  seq := { ready.seq with cue := some ⟨.setlist, 2, 7, .nextBar, .soft, .pedal, .waiting⟩ } }
    (s (some 3)).serves .a ∧ (s (some 3)).seq.cue = none ∧ (s (some 3)).mayLoad = false ∧ (s (some 3)).stepEntry true = 4 ∧
      (s (some 0)).stepEntry true = 1 ∧ (s (some 0)).stepEntry false = -1 ∧ (s none).stepEntry true = 0 ∧ (s none).stepEntry false = 3 ∧
      (s none).store.setlist[3]? = some 5 ∧ h.serves .a ∧ h.stepEntry true = 3 ∧ h.mayLoad = true ∧ (3 : Byte) ≠ 1 ∧ (3 : Byte) ≠ 0xFF := by
  unfold State.serves; decide

/-- An empty slot; a cue that waits; an ARMED one in STOPPED, RUNNING and COUNT_IN, and in START_PENDING under FOLLOW into both sorts of song. -/
theorem witness_TakeNowRequest :
    let w : State := { ready with seq := { ready.seq with cue := some ⟨.slot, 3, 3, .atBar 9, .soft, .port .a, .waiting⟩ } }
    let p := cued (withGrid (following 0 0) fun g => { g with transport := .startPending, countdown := none })
    let f : State := { p with banks := { p.banks with b := { songBank with image := some { song with source := .follow } } } }
    ready.serves .a ∧ ready.seq.cue = none ∧ w.serves .a ∧ w.seq.cue = some ⟨.slot, 3, 3, .atBar 9, .soft, .port .a, .waiting⟩ ∧
      (busBusy w).bus.transmission.isSome = true ∧ (cued ready).serves .a ∧ (cued ready).standbyBank.image = some song ∧
      (cued ready).grid.transport = .stopped ∧ (cued (running 5)).serves .b ∧ (cued (running 5)).grid.transport.emits = true ∧
      (cued (running 5)).grid.correction = none ∧ (cued (running 5)).follower.state ≠ .holdover ∧
      (withGrid (cued (running 5)) fun g => { g with transport := .countIn }).grid.transport = .countIn ∧
      p.serves .a ∧ p.grid.transport = .startPending ∧ p.grid.source = .follow ∧ p.standbyBank.image = some song ∧
      f.standbyBank.image = some { song with source := .follow } := by
  unfold State.serves; decide

/-- A take at a downbeat in RUNNING; one in the count-in, at bar 0 and at its end. -/
theorem witness_TakeAtTick :
    let s := cued (withGrid (running 0) fun g => { g with position := ⟨4, 4, 239⟩ })
    let u (b : Int) := cued (withGrid (running 0) fun g => { g with position := ⟨b, 4, 239⟩, transport := .countIn })
    (s.dueAt (s.grid.position.next s.grid.meter)).isSome = true ∧ s.grid.countdown = some ⟨497917, 2083⟩ ∧ s.standbyBank.image = some song ∧
      s.follower.state ≠ .holdover ∧ s.grid.transport.emits = true ∧ s.grid.correction = none ∧
      ((u (-1)).dueAt ⟨0, 1, 0⟩).isSome = true ∧ (u (-1)).grid.position.next 4 = ⟨0, 1, 0⟩ ∧ ((u 0).dueAt ⟨1, 1, 0⟩).isSome = true ∧
      (u 0).grid.position.next 4 = ⟨1, 1, 0⟩ := by decide

/-- Takes at a downbeat by the source they find and the one they bring: TAP, FOLLOW kept with a correction and in HOLDOVER, FOLLOW entered and left. -/
theorem witness_TakeAtTick_sources :
    let s (y x : TempoSource) (f : FollowState) (c : Option Correction) : State :=
      let r := cued (withGrid (running 0) fun g => { g with position := ⟨4, 4, 239⟩, source := y, correction := c })
      { r with banks := { r.banks with b := { songBank with image := some { song with source := x } } }
               follower := { r.follower with state := f, tempo := 11900, holdoverBeats := 14 } }
    let c : Correction := ⟨11723, 1, true⟩
    let t (q : State) : State := after .intervalCountdownExpiry q
    ¬ (s .internal .tap .off none).TakeFallsBack { song with source := .tap } ∧ (s .internal .tap .off none).dueAt ⟨5, 1, 0⟩ ≠ none ∧
      (s .internal .tap .off none).grid.position.next 4 = ⟨5, 1, 0⟩ ∧ (s .internal .tap .off none).takenTick { song with source := .tap } = (12600, none) ∧
      (t (s .internal .tap .off none)).follower.tempo = 12600 ∧
      (s .follow .follow .locked (some c)).takenTick { song with source := .follow } = (11900, none) ∧
      ¬ (s .follow .follow .locked (some c)).TurnsFollower { song with source := .follow } ∧
      (t (s .follow .follow .holdover none)).follower.holdoverBeats = 15 ∧
      (s .internal .follow .off none).TurnsFollower { song with source := .follow } ∧
      (t (s .internal .follow .off none)).follower.state = .seeking ∧ (t (s .internal .follow .off none)).follower.tempo = 12000 ∧
      (t (s .follow .internal .locked (some c))).follower.state = .off ∧ (t (s .follow .internal .locked (some c))).follower.tempo = 11900 := by
  decide

/-- A FOLLOW song taken in HOLDOVER at the tick of the H-th beat under SONG_TEMPO: the fallback goes to the tempo of the song just taken. -/
theorem witness_TakeAtTick_fallback :
    let x : Song := { song with source := .follow, tempo := 9000 }
    let r := cued (withGrid (running 0) fun g => { g with position := ⟨4, 4, 239⟩, source := .follow })
    let s : State := { r with
      banks := { r.banks with b := { songBank with image := some x } }, setup := { r.setup with onLoss := .songTempo }
      follower := { r.follower with state := .holdover, tempo := 11900, holdoverBeats := 15 } }
    s.TakeFallsBack x ∧ (s.dueAt (s.grid.position.next s.grid.meter)).isSome = true ∧ s.standbyBank.image = some x ∧
      s.grid.countdown = some ⟨497917, 2083⟩ ∧ s.grid.transport.emits = true ∧ s.grid.source = .follow ∧ s.grid.correction = none ∧
      (after .intervalCountdownExpiry s).grid.ramp = some ⟨12000, 9000, 4, 0⟩ := by decide

theorem witness_SettleAndRetention :
    let s : State := { busBusy ready with seq := { ready.seq with phase := .switching, settle := .running ⟨480000, 20000⟩, takeModules := 1 } }
    let u : State := s.setModule 0 ⟨.loading, true, 0, none, 0⟩
    s.seq.settle = .running ⟨480000, 20000⟩ ∧ s.bus.transmission.isSome = true ∧ s.seq.phase = .switching ∧
      (∀ m, s.seq.takeModules.getLsbD m.val = true → (s.module m).mode ≠ .loading) ∧ (∀ e ∈ s.bus.pending, e.kind = .take → False) ∧
      u.seq.takeModules.getLsbD 0 = true ∧ (u.module 0).mode = .loading ∧
      show0.seq.retention = some ⟨400000, 10000000⟩ ∧ show0.banks.retained = true ∧
      show0.notes.entries.countP (fun e => e.bank != show0.banks.active && !e.releasing) ≠ 0 := by decide

/-- The settle timer expired: the last LOADING module READY again, stalled, or returning from STALLED; another entering LOADING; the last TAKE
entry beginning its PROGRAM, or its LEVEL; a TAKE entry that still waits. -/
theorem witness_SettleAndRetention_modules :
    let s (x : ModuleMode) (b : Bool) (l : List PendingProgram) : State := { busBusy (ready.setModule 0 ⟨x, b, 0, some ⟨0, 3000000⟩, 0⟩) with
      seq := { ready.seq with phase := .switching, settle := .expired, takeModules := 1 }, bus := { (busBusy (ready.setModule 0 ⟨x, b, 0, some ⟨0, 3000000⟩, 0⟩)).bus with pending := l } }
    let e (n : NextMessage) (v : Option Nat) : PendingProgram := ⟨0, 0, 300, v, n, .take⟩
    (s .loading true []).running = true ∧ ((s .loading true []).module 0).busy = true ∧ ((s .loading true []).module 0).mode = .loading ∧
      (s .loading true []).bus.transmission.isSome = true ∧ (s .loading true []).seq.phase = .switching ∧
      ¬ ((s .loading true []).setModule 0 { (s .loading true []).module 0 with mode := .ready }).Owes ∧
      ¬ ((s .loading true []).setModule 0 { (s .loading true []).module 0 with mode := .stalled }).Owes ∧
      ((s .loading true [e .program none]).setModule 0 { (s .loading true [e .program none]).module 0 with mode := .ready }).Owes ∧
      ((s .ready false []).setModule 0 { (s .ready false []).module 0 with mode := .loading }).Owes ∧
      ((s .stalled true []).module 0).mode = .stalled ∧ ((s .stalled true []).activeBank.programs.map (fun e => (e.module, e.channel))).Nodup ∧
      (after (.moduleBusyDeasserted 0) (s .loading true [])).seq.phase = .none ∧
      (after (.busyTimerExpiry 0) (s .loading true [])).seq.phase = .none ∧
      (s .ready false [e .program none]).bus.pending = [e .program none] ∧ (s .ready false [e .level (some 90)]).bus.pass = [] ∧
      (∀ v ∈ (s .ready false []).layer.levels, v = none) ∧ (s .ready false []).notes.candidates = [] ∧
      (after .endOfTransmission (s .ready false [e .program none])).seq.phase = .none ∧
      (after .endOfTransmission (s .ready false [e .level (some 90)])).seq.phase = .none ∧
      (after .endOfTransmission (s .ready false [e .program (some 90)])).seq.phase = .switching := by
  unfold State.Owes; decide

/-- A cue that waits when the change settles, with a bank that is free and one that is RETAINED; and one that waits for the RETAINED bank, which
comes free where the key-on of its only entry was never sent, and does not where it was. -/
theorem witness_SettleAndRetention_cue :
    let w : Option Cue := some ⟨.slot, 3, 3, .nextBar, .soft, .port .a, .waiting⟩
    let s : State := { busBusy ready with seq := { ready.seq with phase := .switching, settle := .running ⟨480000, 20000⟩, cue := w } }
    let r (x : KeyOnFlag) : State := { show0 with
      seq := { show0.seq with cue := w }
      notes := { show0.notes with entries := [⟨0, 1, 0, 64, 90, .b, 300000, .sounding, [⟨0, 0, 64, x, false⟩]⟩] } }
    s.cueIs .waiting = true ∧ s.banks.retained = false ∧ s.store.busy = false ∧ s.resetting = .none ∧ s.seq.phase = .switching ∧
      s.bus.pending = [] ∧ s.seq.takeModules = 0 ∧ show0.banks.retained = true ∧
      (r .dropped).seq.phase = .none ∧ (r .dropped).store.busy = false ∧ (r .dropped).resetting = .none ∧
      (after .retentionTimerExpiry (r .dropped)).notes.entries = [] ∧ (after .retentionTimerExpiry (r .dropped)).cueIs .loading = true ∧
      (after .retentionTimerExpiry (r .sent)).banks.retained = true := by decide

theorem witness_Fetches_read :
    ready.serves .a ∧ (ready.port .a).reply = none ∧ 63 < (64 : Byte).toNat ∧ (63 : Byte).toNat ≤ 63 ∧ (65 : Sector).val = (63 : Byte).toNat + 2 ∧
      ready.store.activity = .idle ∧ (writing .erasing).serves .b ∧ (writing .erasing).store.activity ≠ .idle := by
  unfold State.serves; decide

/-- A cue's fetch of a VALID song and of an erased sector; armed while RUNNING, and taken at once in STOPPED and with boundary IMMEDIATE. -/
theorem witness_Fetches_cue :
    let f := (afterAll [.writeSong .a 1 12 songRecord, .flashEraseEnd, .recordWordsProgrammed, .readBackEnd false, .markerWordProgrammed] ready).flash
    let s (x : State) (b : Boundary) (k : Sector) : State := { busBusy x with
      seq := { ready.seq with cue := some ⟨.slot, 12, 12, b, .soft, .pedal, .loading⟩ }
      store := { Store.initial with activity := .fetching ⟨.cue, k⟩, queue := [⟨.readSong .a, 3⟩] }, flash := f }
    (s (running 5) .nextBar 14).store.activity = .fetching ⟨.cue, 14⟩ ∧
      (s (running 5) .nextBar 14).seq.cue = some ⟨.slot, 12, 12, .nextBar, .soft, .pedal, .loading⟩ ∧
      (s (running 5) .nextBar 14).grid.transport.emits = true ∧ ((s (running 5) .nextBar 14).fetchedSong 14).isSome = true ∧
      (s (running 5) .nextBar 15).fetchedSong 15 = none ∧ ((s ready .nextBar 14).fetchedSong 14).isSome = true ∧
      (s ready .nextBar 14).grid.transport.emits = false ∧ ((s (running 5) .immediate 14).fetchedSong 14).isSome = true ∧
      (s (running 5) .immediate 14).follower.state ≠ .holdover ∧ (s ready .nextBar 14).store.queue = [⟨.readSong .a, 3⟩] ∧
      (s ready .nextBar 14).bus.transmission.isSome = true := by decide

/-- The setlist's reading with a record of two entries and with none; the initial song's reading with a VALID song and with none. -/
theorem witness_Fetches_reset :
    let l := (afterAll [.writeSetlist .a 1 2 [12, 13], .flashEraseEnd, .recordWordsProgrammed, .readBackEnd false, .markerWordProgrammed] ready).flash
    let f := (afterAll [.writeSong .a 1 12 songRecord, .flashEraseEnd, .recordWordsProgrammed, .readBackEnd false, .markerWordProgrammed] ready).flash
    let s (x : Fetch) (m : List Host.Cell) (r : ResetPhase) : State := { ready with
      resetting := r, store := { Store.initial with activity := .fetching x }, flash := m }
    (s ⟨.setlist, 1⟩ l .setlist).store.activity = .fetching ⟨.setlist, 1⟩ ∧
      ((s ⟨.setlist, 1⟩ l .setlist).fetched 1).map decodeSetlist = some [12, 13] ∧ (s ⟨.setlist, 1⟩ [] .setlist).fetched 1 = none ∧
      (s ⟨.initial, 14⟩ f (.song 0)).store.activity = .fetching ⟨.initial, 14⟩ ∧ (14 : Sector).val = (12 : Slot).val + 2 ∧
      (s ⟨.initial, 14⟩ f (.song 0)).resetting = .song 0 ∧ ((s ⟨.initial, 14⟩ f (.song 0)).fetchedSong 14).isSome = true ∧
      (s ⟨.initial, 15⟩ f (.song 0)).fetchedSong 15 = none ∧ ready.banks.active = .a ∧ ready.banks.retained = false ∧ ready.seq.cue = none := by
  decide

theorem witness_Fetches_others :
    let s := after (.readSong .b 7 12) ready
    s.store.activity = .fetching ⟨.readSong .b, 14⟩ ∧ (s.port .b).inService = some ⟨0x32, 7, [12]⟩ ∧
      (after .crystalFound State.reset).store.activity = .fetching ⟨.setup, 0⟩ ∧ (after .crystalFound State.reset).fetched 0 = none ∧
      ready.store.activity = .idle := by decide

theorem witness_StoreRequests :
    ready.serves .a ∧ 32 ≤ songRecord.length ∧ songRecord.length ≤ 320 ∧ firstFailing (songChecks songRecord) = none ∧
      firstFailing (songChecks (songRecord ++ [0])) = some 2 ∧ firstFailing (songChecks (songRecord.set 26 0x55)) = some 24 ∧
      firstFailing (songChecks (songRecord.set 46 0x90)) = some 43 ∧ (65 : Sector).val = (63 : Byte).toNat + 2 ∧
      firstFailing (setlistChecks 0 []) = none ∧ firstFailing (setlistChecks 1 [63]) = none ∧ firstFailing (setlistChecks 1 [64]) = some 2 ∧
      firstFailing (setlistChecks 2 [1]) = some 1 ∧ ready.store.mode = .prep ∧ ready.store.activity = .idle ∧
      ready.store.supplyLow = false := ⟨ready_serves _, by decide⟩

/-- Table 12-9 by the defaults of Section 10 and of the other sections' setup tables. -/
def setupRecord : List Byte :=
  [2, 4, 16, 0, 0, 1, 1, 15, 0, 2, 0, 0, 255] ++ word2 3000 ++ word2 10000 ++ [10] ++ word2 600 ++
    [1, 0, 0, 0, 2, 0, 0, 0, 6, 255, 8, 0, 6, 1, 9, 0, 3, 0, 0, 0, 4, 1, 0, 0, 4, 2, 0, 0, 5, 15, 0, 0] ++
    word2 0 ++ word2 1019 ++ word2 0 ++ word2 1019 ++ [6] ++ [1, 0, 2, 0, 3, 0, 5, 0, 8, 0, 9, 0, 12, 0, 16, 0] ++
    [15, 1, 15, 2, 15, 3, 15, 4, 15, 5, 15, 6, 15, 7, 15, 8, 10, 0, 10, 1, 10, 2, 10, 3, 10, 4, 10, 5, 10, 6, 10, 7,
     10, 8, 10, 9, 10, 10, 10, 11, 10, 12, 10, 13, 10, 14, 10, 15] ++ [0]

set_option maxRecDepth 8000 in
/-- That record decodes to the defaults. -/
theorem test_setup_defaults : decodeSetup setupRecord = some Setup.default := by decide

set_option maxRecDepth 8000 in
theorem witness_StoreRequests_setup :
    ready.serves .b ∧ setupRecord.length = 126 ∧ firstFailing (setupChecks setupRecord) = none ∧
      firstFailing (setupChecks (setupRecord.set 125 2)) = some 119 := ⟨ready_serves _, by decide, by decide, by decide⟩

theorem witness_StorePhases :
    (writing .erasing).store.activity = .operating ⟨.write, 14, .a, .erasing, songRecord, false, some ⟨499940, 60⟩⟩ ∧
      songRecord.length ≤ 508 ∧ (writing (.words 0)).store.busy = true ∧ (0 : Nat) < (⟨.write, 14, .a, .words 0, songRecord, false, none⟩ : StoreOp).words ∧
      (writing .verifying).store.busy = true ∧ (writing .marker).store.busy = true := by decide

/-- From an erased sector the words lead to a read-back that matches, and that to the marker word. -/
theorem witness_StorePhases_sequence :
    let s := afterAll [.writeSong .a 1 12 songRecord, .flashEraseEnd, .recordWordsProgrammed] ready
    let t := after (.readBackEnd false) s
    s.op?.map (·.phase) = some .verifying ∧ (s.op?.map fun op => readsBack op s.flash) = some true ∧
      t.op?.map (·.phase) = some .marker ∧ (t.op?.map fun op => readsBack op t.flash) = some true := by decide

/-- The marker word of a setlist write: the entry at the setlist position names the active slot, or does not. -/
theorem witness_StorePhases_setlist :
    let s (n : Byte) : State := afterAll [.writeSetlist .a 1 1 [n], .flashEraseEnd, .recordWordsProgrammed, .readBackEnd false]
      { ready with store := { Store.initial with activeSlot := some 3 } }
    (s 3).op?.map (fun op => (op.phase, op.kind, op.sector, readsBack op (s 3).flash)) = some (.marker, .write, 1, true) ∧
      (after .markerWordProgrammed (s 3)).store.position = some 0 ∧ (after .markerWordProgrammed (s 4)).store.position = none := by decide

/-- R151: a level of 100 µs, which one sample sees, changes nothing; the second of two samples does, 100 µs after the first. -/
theorem test_supply_filter :
    let at_ (c : Count) (s : State) : State := (s.atCount c).withPending []
    let s : State := { ready with store := { Store.startAt 499900 with supplyLine := true } }
    let t := idle s
    let u := idle (at_ 500000 t)
    t.store.supplySample = some true ∧ t.store.supplyLow = false ∧ t.store.supplyTimer = some ⟨499900, 100⟩ ∧ u.store.supplyLow = true ∧
      u.store.supplyTimer = some ⟨500000, 100⟩ ∧
      (idle { at_ 500000 t with store := { t.store with supplyLine := false } }).store.supplyLow = false := by decide

/-- A sample that is due: the first, one that differs from the last, one that agrees with the last and with the level, and one that changes the
level, up and down; and a step on an empty queue takes it. -/
theorem witness_SupplyLow_samples :
    let s (line low : Bool) (x : Option Bool) : State := { ready with store := { Store.initial with
      supplyLine := line, supplyLow := low, supplySample := x, supplyTimer := some ⟨499900, 100⟩ } }
    (s true false none).pending = [] ∧ (s true false none).running = true ∧ (s true false none).store.supplyTimer = some ⟨499900, 100⟩ ∧
      (⟨499900, 100⟩ : Timer).elapsed (s true false none).now = true ∧ (⟨499900, 101⟩ : Timer).elapsed (s true false none).now = false ∧
      (s true false none).store.supplySample ≠ some true ∧ (s false true (some true)).store.supplySample ≠ some false ∧
      (s false false (some false)).store.supplyLow = (s false false (some false)).store.supplyLine ∧
      (s true false (some true)).store.supplyLow ≠ true ∧ (s false true (some false)).store.supplyLow ≠ false ∧
      (s true false (some true)).supplyDue = some ⟨499900, 100⟩ := by decide

theorem witness_SupplyLow :
    let s (x : OpPhase) (k : Sector) : State := { ready with store := { Store.initial with
      supplyLow := true, activity := .operating ⟨.write, k, .a, x, [2, 3, 5], true, some ⟨499940, 60⟩⟩ } }
    ready.running = true ∧ ready.store.supplyLow = false ∧ ready.store.busy = false ∧ (busBusy ready).bus.transmission.isSome = true ∧
      (s .marker 1).running = true ∧ (s .marker 1).store.supplyLow = true ∧
      (writing .verifying).op?.map (·.phase) = some .verifying ∧ (writing .erasing).op?.map (·.phase) = some .erasing ∧
      (after .supplyLowAsserted (writing .erasing)).op?.map (·.stopping) = some true ∧ (s .erasing 1).op?.map (·.phase) = some .erasing ∧
      (s (.words 1) 1).op?.map (fun op => (op.phase, decide (1 < op.words))) = some (.words 1, true) ∧
      (s .marker 1).op?.map (fun op => (op.kind, op.sector)) = some (.write, 1) := by decide

theorem witness_MuteAndMode :
    ready.serves .a ∧ 2 < (3 : Byte).toNat ∧ (2 : Byte).toNat ≤ 2 ∧ 1 < (2 : Byte).toNat ∧ (writing .erasing).serves .a ∧
      (writing .erasing).store.busy = true ∧ ready.store.busy = false ∧ PartMode.prep = ready.store.mode ∧ PartMode.show ≠ ready.store.mode := by
  unfold State.serves; decide

/-- A press with and without a hold action; a release from DOWN, from HELD and of an inert switch; a hold timer's expiry. -/
theorem witness_Footswitches :
    let s : State := { ready with setup := { ready.setup with switches := setAt ready.setup.switches 2 (.clickMute, .clickMute) } }
    let d (f : SwitchId) (x : SwitchMode) (i : Bool) := s.setSwitch f ⟨true, some true, 0, some ⟨0, 500000⟩, x, i⟩
    s.running = true ∧ (s.switch 4).level ≠ some true ∧ getAt s.setup.switches 4 = (.clickMute, .none) ∧
      getAt s.setup.switches 2 = (.clickMute, .clickMute) ∧ ((d 2 .down false).switch 2).level = some true ∧
      ((d 2 .down false).switch 2).mode = .down ∧ ((d 2 .down false).switch 2).inert = false ∧ ((d 2 .held true).switch 2).inert = true ∧
      ((d 2 .down false).switch 2).hold = some ⟨0, 500000⟩ := by decide

/-- What the actions ask of the state: a transport to start and to stop, a zone below the count and at it, a setlist, a held cue; and a
SUSTAIN release of links KL0 and KL1, another switch holding KL0. -/
theorem witness_Footswitches_actions :
    let c : State := { cued ready with store := { Store.initial with setlist := [3, 5] } }
    let u : State := { withLink (busBusy ready) fun k => { k with footSustain := true, sustain := 2 } with
      setup := { ready.setup with switches := setAt (setAt ready.setup.switches 0 (.sustain 3, .none)) 1 (.sustain 1, .none) }
      notes := { ready.notes with entries := [⟨0, 1, 0, 64, 90, .a, 0, .sustained, [⟨0, 0, 64, .sent, false⟩]⟩,
        ⟨1, 1, 1, 64, 90, .a, 0, .sustained, [⟨0, 0, 64, .sent, false⟩]⟩], nextSerial := 2 } }
    let v := u.setSwitch 1 ⟨true, some true, 0, none, .down, false⟩
    (ready.grid.transport = .stopped ∧ ready.grid.ramp = none ∧ (running 5).grid.transport ≠ .stopped ∧ ready.tap.intervals.length ≤ 4 ∧
        0 < ready.activeBank.zones.length ∧ ready.activeBank.zones.length ≤ 1 ∧ ready.activeBank.enabled.length = ready.activeBank.zones.length) ∧
      (c.resetting = .none ∧ c.Quiet ∧ c.seq.cue.isSome = true ∧ c.stepEntry true = 1 ∧ c.stepEntry false = -1 ∧ c.store.setlist[1]? = some 5 ∧
        c.store.setlist.length ≤ 2 ∧ ready.seq.cue = none) ∧
      (v.bus.transmission.isSome = true ∧ getAt v.setup.switches 0 = (.sustain 3, .none) ∧ (v.link 1).footSustain = true ∧
        (v.link 1).sustain.getLsbD 0 = false ∧ (v.link 1).sustain.getLsbD 1 = true) ∧
      FootHeld 0 0 v ∧ ¬ FootHeld 0 1 u := by
  refine ⟨by decide, by unfold State.Quiet; decide, by decide, ⟨1, by decide, ⟨1, by decide, by decide⟩, .inl (by decide)⟩, ?_⟩
  rintro ⟨g, -, -, h⟩
  revert g
  decide

/-- BUSY lines below their third sample, at it and on both sides of it; footswitches below the debounce time, at it and before a first sample. -/
theorem witness_LineSamples :
    let s := ready.setModule 1 ⟨.ready, false, 2, none, 0⟩
    let f (n : Nat) := ready.setSwitch 3 ⟨true, some false, n, none, .up, false⟩
    s.running = true ∧ (∀ m, (s.module m).agreeing ≤ 2) ∧ (s.module 1).agreeing = 2 ∧ (∀ m, (ready.module m).agreeing < 2) ∧
      (2 : BitVec 8).getLsbD 1 ≠ (s.module 1).busy ∧ (∀ n, n ≠ 1 → (s.module n).agreeing < 2) ∧
      ((ready.setModule 1 ⟨.loading, true, 2, none, 0⟩).module 1).busy ≠ (0 : BitVec 8).getLsbD 1 ∧
      (∀ i, ((f 8).switch i).level = none ∨ ((f 8).switch i).level = some ((8 : BitVec 8).getLsbD i.val) ∨ ((f 8).switch i).count + 1 < (f 8).setup.debounce) ∧
      ((f 9).switch 3).level = some (!(8 : BitVec 8).getLsbD 3) ∧ (f 9).setup.debounce ≤ ((f 9).switch 3).count + 1 ∧
      (∀ g, g ≠ 3 → ((f 9).switch g).level = none) ∧
      (ready.switch 0).counted true = ⟨true, some true, 0, none, .held, true⟩ ∧ ((f 8).switch 3).counted true = ⟨true, some false, 9, none, .up, false⟩ ∧
      ((f 8).switch 3).counted false = ⟨false, some false, 0, none, .up, false⟩ := by decide

/-- Raw 1019 and 1020; calibrations of width 63 and 64; a last raw value 2 and 3 away; a zone that names the pedal, its slot empty. -/
theorem witness_PedalConversions :
    let s (lo hi : Nat) : State := { (ready.setPedal 0 ⟨some 506, 63, some 506, .normal⟩) with
      setup := { ready.setup with calibration := #v[(lo, hi), (0, 1019)] }
      layer := { ready.layer with levels := [none] }
      board := { (ready.setPedal 0 ⟨some 506, 63, some 506, .normal⟩).board with adcBusy := some 0, adcTimer := some ⟨498000, 2000⟩ } }
    (s 40 980).board.adcTimer = some ⟨498000, 2000⟩ ∧ ready.board.adcBusy = none ∧ (s 40 980).board.adcBusy = some 0 ∧
      getAt (s 40 103).setup.calibration 0 = (40, 103) ∧ 103 - 40 < 64 ∧ 64 ≤ 104 - 40 ∧ 1020 ≤ (1020 : BitVec 10).toNat ∧
      (1019 : BitVec 10).toNat < 1020 ∧ 506 + 3 ≤ (509 : BitVec 10).toNat ∧ (508 : BitVec 10).toNat < 506 + 3 ∧
      ((s 40 980).pedal 0).rawAtChange = some 506 ∧ ((s 40 980).pedal 0).mode ≠ .disconnected ∧ (busBusy (s 40 980)).bus.transmission.isSome = true ∧
      (s 40 980).activeBank.zones[0]? = some zone ∧ (s 40 980).layer.levels[0]? = some none ∧ zone.pedal = some 0 := by decide

/-- R164: raw 512 has candidate 64: from 63 it is taken, and becomes the raw value at last change, where that was 506, and not where it was 510; 1020
leaves it; out of DISCONNECTED it is none first, so 512 is taken, and 506, whose candidate is 63, leaves none. -/
theorem test_pedal_raw_at_change :
    let s (m : PedalMode) (last : Nat) : State := { (ready.setPedal 0 ⟨some 506, 63, some last, m⟩) with
      setup := { ready.setup with calibration := #v[(40, 980), (0, 1019)] }
      board := { (ready.setPedal 0 ⟨some 506, 63, some last, m⟩).board with adcBusy := some 0 } }
    let r (m : PedalMode) (last : Nat) (raw : BitVec 10) := ((after (.adcConversionEnd raw) (s m last)).pedal 0).rawAtChange
    r .normal 506 512 = some 512 ∧ r .normal 510 512 = some 510 ∧ r .normal 506 1020 = some 506 ∧ r .disconnected 512 512 = some 512 ∧
      r .disconnected 512 506 = none := by decide

theorem witness_IndicatorMatrix :
    (Board.startAt 0).slotTimer = some ⟨0, 0⟩ ∧ 1 ≤ (Board.startAt 0).row ∧ (Board.startAt 0).row ≤ 4 ∧ Setup.default.brightness < 8 ∧
      (Board.startAt 0).blinkTimer = some ⟨0, 250000⟩ ∧ ready.activeBank.enabled.length = ready.activeBank.zones.length := by decide

/-- Brightness 8, at which no drive timer runs (log entry 29), and 7, with the board in row 4. -/
theorem witness_IndicatorMatrix_brightness :
    let s (n : Nat) : State := { ready with
      setup := { ready.setup with brightness := n }, board := { Board.startAt 499000 with row := 4, scanned := true } }
    (s 8).board.slotTimer = some ⟨499000, 0⟩ ∧ (s 8).board.row = 4 ∧ ¬ (s 8).setup.brightness < 8 ∧ (s 7).setup.brightness < 8 ∧
      (after .indicatorSlotStart (s 8)).board.driveTimer = none ∧
      (after .indicatorSlotStart (s 7)).board.driveTimer = some ⟨499000, 875⟩ ∧ (after .indicatorSlotStart (s 8)).board.row = 1 := by decide

/-- Table 10-6 at states on both sides of a source: TRANSPORT, CUE and FOLLOW by the blink phase, a zone below the zone count and at it, a module. -/
theorem witness_IndicatorMatrix_sources :
    let b (x : Bool) (s : State) : State := { s with board := { s.board with blink := x } }
    let p := withGrid ready fun g => { g with transport := .startPending }
    (b true p).Shows .transport ∧ ¬ (b false p).Shows .transport ∧ (running 0).Shows .transport ∧ (cued ready).Shows .cue ∧ ¬ ready.Shows .cue ∧
      (following 0 0).Shows .follow ∧ ready.Shows (.zone 0) ∧ ¬ ready.Shows (.zone 1) ∧
      (ready.setModule 2 ⟨.stalled, true, 0, none, 0⟩).Shows .anyStall ∧ ¬ (b false (ready.setModule 2 ⟨.loading, true, 0, none, 0⟩)).Shows (.module 2) := by
  unfold State.Shows; decide

/-- A port in each phase; the first LENGTH character, a length of 336 and of 337; the kind and the tag in HEADER. -/
theorem witness_FrameAssembly :
    let s (x : AssemblerPhase) (a : Assembly) : State := ready.setPort .a { ready.portA with phase := x, assembly := a, gapTimer := some ⟨499000, 2000⟩ }
    ready.running = true ∧ ready.portA.phase = .hunt ∧ (s .length Assembly.none).portA.assembly.lengthHigh = none ∧
      (s .length { Assembly.none with lengthHigh := some 1 }).portA.assembly.lengthHigh = some 1 ∧
      be16 1 0x50 = 336 ∧ be16 1 0x51 = 337 ∧ (s .header Assembly.none).portA.assembly.kind = none ∧
      (s .header { Assembly.none with kind := some 1 }).portA.assembly.kind = some 1 ∧ (s .payload Assembly.none).portA.phase = .payload ∧
      (s .check { Assembly.none with kind := some 1, tag := some 2, sum := 0xFD }).portA.phase = .check ∧ (0xFD : Byte) + 3 = 0 ∧
      (0xFD : Byte) + 4 ≠ 0 ∧ (s .check Assembly.none).portA.gapTimer = some ⟨499000, 2000⟩ ∧ ready.portA.mask.getLsbD 21 = true ∧
      ready.portA.notices.length < 32 := by decide

/-- R171: a framing error in PAYLOAD loses the frame with cause FRAMING, and the gap timer is idle. -/
theorem test_framing_loses_frame :
    let s : State := ready.setPort .a { ready.portA with
      phase := .payload, assembly := ⟨some 0, 2, some 3, some 9, [1], 0⟩, gapTimer := some ⟨499000, 2000⟩ }
    let t := after (.controlPortCharacter .a 0 false) s
    t.portA.phase = .hunt ∧ t.portA.gapTimer = none ∧ t.portA.sending.map (·.bytes) = some (frameBytes 0x81 0
      (Notice.bytes ⟨.requestLost .framing (some 3) (some 9), false, ready.grid.position, some (.port .a)⟩)) := by decide

/-- During a reset: the lengths of WRITE_SONG at their bounds, a GET_STATUS, a RESTART; and the frame of a CUE. -/
theorem witness_RequestService_reset :
    let s : State := { ready with resetting := .setup }
    s.running = true ∧ (s.port .a).inService = none ∧ (s.port .a).buffer = [] ∧ s.resetting ≠ .none ∧ (0x30, 33, 321) ∈ requestLengths ∧
      (0x43, 0, 0) ∈ requestLengths ∧ (0x40, 2, 2) ∈ requestLengths ∧ (0x99, 0, 0) ∉ requestLengths ∧ requestKinds = requestLengths.map (·.1) ∧
      ((after (.unknownKindRequest .a 9 0x43 []) s).portA.sending.map (·.bytes)) = some (frameBytes 0x80 9 Reply.busy.bytes) ∧
      ((after (.unknownKindRequest .a 9 0x43 [0]) s).portA.sending.map (·.bytes)) = some (frameBytes 0x80 9 (Reply.badField 0).bytes) ∧
      ((after (.unknownKindRequest .a 9 0x40 [13, 0]) s).portA.sending.map (·.bytes)) = some (frameBytes 0x80 9 (Reply.badField 1).bytes) ∧
      requestFrame (.cue .a 9 1 3 2 0x0102 0) = some (.a, 9, 0x10, [1, 3, 2, 1, 2, 0]) := by decide

/-- The end of a reply with notices waiting, the last frame sent a reply: nothing else waits; an unlisted request waits. -/
theorem witness_FrameTransmitted_notices :
    let n : Notice := ⟨.modeChanged .show, false, Position.top, none⟩
    let s (l : List Frame) : State := ready.setPort .a { ready.portA with
      sending := some ⟨.reply, [], ⟨499000, 1000⟩⟩, inService := some ⟨1, 9, []⟩, notices := [n], lastSent := some .reply, buffer := l }
    let t (l : List Frame) := after (.portFrameTransmitted .a) (s l)
    (s []).portA.buffer = [] ∧ (s []).portA.reply = none ∧ (s []).portA.notices = [n] ∧ (s []).portA.overflow = false ∧
      (t []).portA.sending.map (·.sort) = some .notice ∧ requestKinds.contains (0x99 : Byte).toNat = false ∧
      (t [⟨0x99, 5, []⟩]).portA.sending.map (·.sort) = some .notice ∧ (t [⟨0x99, 5, []⟩]).portA.reply = some Reply.unknownKind.bytes := by decide

theorem witness_RequestService :
    let f : Frame := ⟨1, 9, []⟩
    let s (n : Nat) : State := ready.setPort .a { ready.portA with inService := some f, buffer := List.replicate n f }
    ready.running = true ∧ ready.serves .a ∧ requestKinds.contains 0x99 = false ∧
      ({ ready with resetting := .setup } : State).resetting ≠ .none ∧ (s 3).portA.inService = some f ∧ (s 3).portA.buffer.length < 4 ∧
      4 ≤ (s 4).portA.buffer.length := by unfold State.serves; decide

/-- A notice, a reply and nothing waiting behind the frame on the line. -/
theorem witness_FrameTransmitted :
    let n : Notice := ⟨.modeChanged .show, false, Position.top, none⟩
    let s (x : SentKind) (r : Option (List Byte)) (l : List Notice) : State := ready.setPort .a { ready.portA with
      sending := some ⟨x, [], ⟨499000, 1000⟩⟩, inService := some ⟨1, 9, []⟩, reply := r, notices := l, lastSent := some x }
    (s .notice none [n]).portA.sending = some ⟨.notice, [], ⟨499000, 1000⟩⟩ ∧ (s .notice none [n]).portA.notices = [n] ∧
      (s .notice none [n]).portA.overflow = false ∧ (s .reply none []).portA.sending = some ⟨.reply, [], ⟨499000, 1000⟩⟩ ∧
      (s .reply none []).portA.buffer = [] ∧ (s .reply none []).running = true ∧ (s .reply none []).portA.reply = none ∧ (s .notice (some [0]) [n]).portA.reply = some [0] ∧
      (s .notice (some [0]) [n]).portA.lastSent = some .notice := by decide

/-- A reply's end with a START and a STOP waiting: the START is served in the same work, and the STOP waits on. -/
theorem witness_FrameTransmitted_buffer :
    let s : State := ready.setPort .a { ready.portA with
      sending := some ⟨.reply, [], ⟨499000, 1000⟩⟩, inService := some ⟨0x40, 9, []⟩, lastSent := some .reply, buffer := [⟨1, 5, []⟩, ⟨2, 6, []⟩] }
    let t := after (.portFrameTransmitted .a) s
    s.portA.sending.map (·.sort) = some .reply ∧ s.portA.buffer = ⟨1, 5, []⟩ :: [⟨2, 6, []⟩] ∧ s.running = true ∧ (1 : Byte) ≠ 0x40 ∧
      t.portA.inService = some ⟨1, 5, []⟩ ∧ t.portA.buffer = [⟨2, 6, []⟩] ∧ t.grid.transport = .countIn := by decide

/-- Groups 12 and 13, start indices 127 and 128; mask fields of 0, 1 and 2; settings 2 and 3. -/
theorem witness_PortRequests :
    ready.serves .a ∧ 12 < (13 : Byte).toNat ∧ (12 : Byte).toNat ≤ 12 ∧ 127 < (128 : Byte).toNat ∧ (127 : Byte).toNat ≤ 127 ∧
      (List.replicate 21 (1 : Byte)).length = 21 ∧ (∀ i, i < 21 → (byteAt (List.replicate 21 1) i).toNat ≤ 1) ∧
      1 < (byteAt (List.replicate 20 0 ++ [2]) 20).toNat ∧ 2 < (3 : Byte).toNat ∧ (2 : Byte).toNat ≤ 2 := ⟨ready_serves _, by decide⟩

/-- A port with an URGENT and a NORMAL notice; one with 32 and the overflow flag set. -/
theorem witness_NoticeQueue :
    let u : Notice := ⟨.storeFault .verify .write 3, true, Position.top, none⟩
    let n : Notice := ⟨.modeChanged .show, false, Position.top, none⟩
    let c : ControlPort := { ControlPort.initial with notices := [u, n] }
    let d : ControlPort := { ControlPort.initial with notices := u :: List.replicate 31 n, overflow := true, lost := 2 }
    c.Sound ∧ d.Sound ∧ n.urgent = n.body.urgent ∧ u.urgent = u.body.urgent ∧ c.admits n.body = true ∧
      ({ c with mask := 32 } : ControlPort).admits n.body = false ∧ 32 ≤ d.notices.length ∧ c.notices.length < 32 ∧
      c.notices = [u] ++ [n] ∧ d.notices = u :: List.replicate 31 n ∧ d.overflow = true := by
  refine ⟨by constructor <;> decide, by constructor <;> decide, ?_⟩
  decide

end Sys2Proof.Tests
end

