-- ==== Sys2Proof/Proofs/TempoRequests.lean ====
section
/-! PROOF. SET_TEMPO and SET_TEMPO_SOURCE (R16, R17): what the changes of tempo and of source write in each field, and that a notice once
posted stays until it is transmitted. -/

namespace Sys2Proof.Machine

/-! ## Notice queues: a posted notice stays in its queue until the transmitter takes it (R174, R178, R179) -/

theorem mem_placeNotice {queue : List Notice} {n x : Notice} : x ∈ placeNotice queue n ↔ x = n ∨ x ∈ queue := by
  unfold placeNotice
  split
  · have parts : x ∈ queue ↔ x ∈ queue.takeWhile (·.urgent) ∨ x ∈ queue.dropWhile (·.urgent) := by
      rw [← List.mem_append, List.takeWhile_append_dropWhile]
    rw [parts, List.mem_append, List.mem_cons]
    tauto
  · rw [List.mem_append, List.mem_singleton, or_comm]

theorem length_placeNotice (queue : List Notice) (n : Notice) : (placeNotice queue n).length = queue.length + 1 := by
  unfold placeNotice
  split
  · have parts := congrArg List.length (List.takeWhile_append_dropWhile (p := (·.urgent)) (l := queue))
    simp only [List.length_append, List.length_cons] at parts ⊢
    omega
  · simp

theorem ControlPort.post_keeps (c : ControlPort) (n : Notice) : c.notices ⊆ (c.post n).notices := by
  intro x hx
  unfold ControlPort.post
  repeat' split
  · exact hx
  · exact mem_placeNotice.2 (.inr hx)
  · exact hx

theorem ControlPort.post_length_le (c : ControlPort) (n : Notice) : (c.post n).notices.length ≤ c.notices.length + 1 := by
  unfold ControlPort.post
  repeat' split
  · exact Nat.le_succ _
  · exact (length_placeNotice _ _).le
  · exact Nat.le_succ _

theorem ControlPort.mem_post {c : ControlPort} {n : Notice} (ha : c.admits n.body = true) (hl : c.notices.length < 32) :
    n ∈ (c.post n).notices := by
  simp [ControlPort.post, ha, hl, mem_placeNotice]

theorem post_port (b : NoticeBody) (o : Option Origin) (s : State) (q : Port) :
    (post b o s).port q = (s.port q).post (s.notice b o) := by cases q <;> rfl

/-- Two states that agree in a port's notices. -/
theorem SameBut.queue {ps : List Part} {s t : State} (h : SameBut ps s t) (q : Port) (ha : Part.noticesA ∉ ps := by decide)
    (hb : Part.noticesB ∉ ps := by decide) : (t.port q).queue = (s.port q).queue := by
  cases q
  · exact h.same .noticesA ha
  · exact h.same .noticesB hb

/-- A port's mask is of its receiving side. -/
theorem SameBut.admits {ps : List Part} {s t : State} (h : SameBut ps s t) (q : Port) (b : NoticeBody)
    (ha : Part.serviceA ∉ ps := by decide) (hb : Part.serviceB ∉ ps := by decide) :
    (t.port q).admits b = (s.port q).admits b := by
  have mask : (t.port q).mask = (s.port q).mask := congrArg (fun y => y.2.2.2.2.2.1) (h.service q ha hb)
  simp only [ControlPort.admits, mask]

/-- No notice leaves a queue from `s` to `t`. -/
def KeepsNotices (s t : State) : Prop := ∀ q : Port, (s.port q).notices ⊆ (t.port q).notices

theorem KeepsNotices.then {s t u : State} (h : KeepsNotices s t) (k : KeepsNotices t u) : KeepsNotices s u :=
  fun q _ hx => k q (h q hx)

theorem SameBut.keepsNotices {ps : List Part} {s t : State} (h : SameBut ps s t) (ha : Part.noticesA ∉ ps := by decide)
    (hb : Part.noticesB ∉ ps := by decide) : KeepsNotices s t := fun q =>
  have same : (t.port q).notices = (s.port q).notices := congrArg Prod.fst (h.queue q ha hb)
  same ▸ List.Subset.refl _

theorem KeepsNotices.refl (s : State) : KeepsNotices s s := (SameBut.refl [] s).keepsNotices

theorem postTo_keepsNotices (p : Port) (b : NoticeBody) (o : Option Origin) (s : State) : KeepsNotices s (postTo p b o s) := by
  intro q
  by_cases hq : q = p
  · subst hq
    rw [postTo, State.setPort_port_same]
    exact ControlPort.post_keeps _ _
  · rw [postTo, State.setPort_port_other _ _ hq]
    exact List.Subset.refl _

theorem post_keepsNotices (b : NoticeBody) (o : Option Origin) (s : State) : KeepsNotices s (post b o s) :=
  (postTo_keepsNotices .a b o s).then (postTo_keepsNotices .b b o _)

theorem examineSettle_keepsNotices (s : State) : KeepsNotices s (examineSettle s) := by
  unfold examineSettle
  split
  · unfold settle
    refine KeepsNotices.then ?_ (examineLoad_frame _).keepsNotices
    refine KeepsNotices.then ?_ (seqUpdate_frame _ _).keepsNotices
    refine KeepsNotices.then ?_ (post_keepsNotices _ _ _)
    exact fun q => by cases q <;> exact List.Subset.refl _
  · exact .refl s

theorem choices_keepsNotices : ∀ (n : Nat) (s : State), KeepsNotices s (choices n s)
  | 0, s => .refl s
  | n + 1, s => by
    have chosen := (choose_frame s).keepsNotices
    unfold choices
    split
    · next t c h =>
      rw [h] at chosen
      have begun := chosen.then (beginTransmission_frame c.target c.message c.fromTake false t).keepsNotices
      dsimp only
      split
      · exact begun.then (examineSettle_keepsNotices _)
      · exact begun
    · next t h =>
      rw [h] at chosen
      split
      · exact chosen.then (choices_keepsNotices n t)
      · exact chosen

theorem arbitrate_keepsNotices (s : State) : KeepsNotices s (arbitrate s) := by
  unfold arbitrate
  split
  · exact .refl s
  · exact choices_keepsNotices _ s

theorem ControlPort.reportLost_keeps (c : ControlPort) (x : Position) : c.notices ⊆ (c.reportLost x).notices := by
  unfold ControlPort.reportLost
  split
  · exact fun n h => by simp [mem_placeNotice, h]
  · exact List.Subset.refl _

theorem ControlPort.reportLost_sending (c : ControlPort) (x : Position) : (c.reportLost x).sending = c.sending := by
  unfold ControlPort.reportLost
  split <;> rfl

/-- A waiting notice still waits after its transmitter's choice, or is the one that begins (R174); NOTICES_LOST displaces none (R179). -/
theorem ControlPort.transmit_told {c : ControlPort} {n : Notice} (x : Position) (now : Count) (h : n ∈ c.notices) :
    n ∈ (c.transmit x now).notices ∨ ∃ tm, (c.transmit x now).sending = some ⟨.notice, frameBytes 0x81 0 n.bytes, tm⟩ := by
  have sent (m : Notice) (rest : List Notice) (hm : n ∈ m :: rest) :
      n ∈ (c.sendNotice m rest x now).notices ∨
        ∃ tm, (c.sendNotice m rest x now).sending = some ⟨.notice, frameBytes 0x81 0 n.bytes, tm⟩ := by
    rcases List.mem_cons.1 hm with rfl | hr
    · exact .inr ⟨_, ControlPort.reportLost_sending _ x⟩
    · exact .inl (ControlPort.reportLost_keeps _ x hr)
  unfold ControlPort.transmit
  split
  · exact .inl h
  · split
    · next _ hn =>
      split
      · exact sent _ _ (hn ▸ h)
      · exact .inl h
    · exact .inl h
    · next _ hn => exact sent _ _ (hn ▸ h)
    · exact .inl h

/-- A notice that waits when a request is decided is told (R174). -/
theorem finish_told {u : State} {q : Port} {n : Notice} (p : Port) (r : Reply) (h : n ∈ (u.port q).notices) :
    Told q n (finish p (u, some r)) := by
  have keeps : KeepsNotices u (decideReply p r u) := (decideReply_frame p r u).keepsNotices
  show n ∈ ((transmitAll (decideReply p r u)).port q).notices ∨ ∃ tm, ((transmitAll (decideReply p r u)).port q).sending = _
  rw [transmitAll_port]
  exact ControlPort.transmit_told _ _ (keeps q h)

/-! ## A request's frame, taken and closed -/

@[simp] theorem taking_grid (s : State) (p : Port) (f : Frame) : (s.taking p f).grid = s.grid := State.setPort_grid ..
@[simp] theorem taking_follower (s : State) (p : Port) (f : Frame) : (s.taking p f).follower = s.follower := State.setPort_follower ..
@[simp] theorem taking_click (s : State) (p : Port) (f : Frame) : (s.taking p f).click = s.click := State.setPort_click ..
@[simp] theorem taking_bus (s : State) (p : Port) (f : Frame) : (s.taking p f).bus = s.bus := State.setPort_bus ..
@[simp] theorem taking_board (s : State) (p : Port) (f : Frame) : (s.taking p f).board = s.board := State.setPort_board ..
@[simp] theorem taking_now (s : State) (p : Port) (f : Frame) : (s.taking p f).now = s.now :=
  congrArg Timebase.count (State.setPort_timebase ..)

theorem taking_admits (s : State) (p q : Port) (f : Frame) (b : NoticeBody) :
    ((s.taking p f).port q).admits b = (s.port q).admits b := by cases p <;> cases q <;> rfl

theorem taking_notices (s : State) (p q : Port) (f : Frame) : ((s.taking p f).port q).notices = (s.port q).notices := by
  cases p <;> cases q <;> rfl

theorem ClosedRequest.mono {p : Port} {f : Frame} {r : Reply} {ps qs : List Part} {s t : State} (h : ClosedRequest p f r ps s t)
    (hs : ∀ q ∈ ps, q ∈ qs ++ portParts := by decide) : ClosedRequest p f r qs s t := by
  refine ⟨h.completed.mono fun q hq => ?_, fun hb => (h.busy hb).mono fun q hq => ?_⟩
  · have widened := hs q
    simp only [List.mem_append] at hq widened ⊢
    tauto
  · have widened := hs q
    simp only [List.mem_append] at hq widened ⊢
    tauto

/-- What the close of a request may change beside the effects of its rule. -/
theorem finish_arbitrate_frame (p : Port) (u : State) (r : Reply) : SameBut closeParts u (finish p (arbitrate u, some r)) :=
  (arbitrate_frame u).chain (finish_frame _ _ _)

/-! ## SET_TEMPO (R7, R16) -/

theorem word16At_word2 (v : BitVec 16) : word16At (word2 v) 0 = v.toNat := by
  have high : (v >>> 8).toNat % 256 = v.toNat / 256 := by
    rw [BitVec.toNat_ushiftRight, Nat.shiftRight_eq_div_pow]
    omega
  show ((v >>> 8).setWidth 8).toNat * 256 + (v.setWidth 8).toNat = v.toNat
  rw [BitVec.toNat_setWidth, BitVec.toNat_setWidth, high]
  omega

theorem setTempo_grid (n : Nat) (s : State) : (setTempo n s).grid = s.grid.retuned n := by
  unfold setTempo Grid.retuned
  split
  · next h => subst h; rfl
  · rfl

theorem applyTempo_grid (n : Nat) (s : State) :
    (applyTempo n s).grid = { s.grid.retuned (clampTempo n) with
      ramp := none, correction := if s.grid.source = .tap then none else s.grid.correction } := by
  unfold applyTempo
  split <;> simp [setTempo_grid, Grid.retuned, *]

theorem applyTempo_follower (n : Nat) (s : State) :
    (applyTempo n s).follower = if s.grid.source = .tap then { s.follower with tempo := clampTempo n } else s.follower := by
  have kept : (setTempo (clampTempo n) { s with grid := { s.grid with ramp := none } }).follower = s.follower :=
    (setTempo_frame _ _).at .follower
  unfold applyTempo
  split <;> simp only [kept]

/-- Settles O17: under FOLLOW the request is refused; otherwise the grid and the Follower are those of `applyTempo`, which the reply and the
transmitters leave. -/
theorem setTempoRequest : Obligations.SetTempoRequest := by
  intro p tag v s h
  set u := s.taking p ⟨0x03, tag, word2 v⟩ with hu
  have run : exec (.setTempo p tag v) s = .next (finish p (requestSetTempo v.toNat u)) := by
    rw [← word16At_word2 v]
    exact congrArg _ (arrive_known (k := .setTempo) h rfl)
  refine ⟨_, run, fun hf => ?_, fun hf => ⟨clampTempo v.toNat, rfl, ?_⟩⟩
  · have refused : requestSetTempo v.toNat u = (u, some .wrongSource) := by simp [requestSetTempo, refuse, hu, hf]
    rw [refused]
    exact finish_completed (.refl [] u)
  · have applied : requestSetTempo v.toNat u =
        (applyTempo v.toNat u, some (if clampTempo v.toNat = v.toNat then .ok else .appliedClamped (clampTempo v.toNat))) := by
      simp [requestSetTempo, hu, hf]
    rw [applied]
    have kept := finish_frame p (applyTempo v.toNat u)
      (if clampTempo v.toNat = v.toNat then .ok else .appliedClamped (clampTempo v.toNat))
    have grid := (kept.at .grid).trans (applyTempo_grid v.toNat u)
    have follower := (kept.at .follower).trans (applyTempo_follower v.toNat u)
    simp only [hu, taking_grid, taking_follower] at grid follower
    refine ⟨finish_completed (applyTempo_frame _ u), ?_, fun hne => ?_, follower⟩
    · rw [grid]; rfl
    · rw [grid]; simp [Grid.retuned, hne]

/-! ## The change of source (R17, R36, R37) -/

theorem changeSource_follower (new : TempoSource) (s : State) : (changeSource new s).follower = (switchSource new s).follower := by
  unfold changeSource
  dsimp only
  split
  · rfl
  · exact (followNotice_frame _ _).at .follower

theorem switchSource_follower_follow (s : State) : (switchSource .follow s).follower = s.follower.seekFrom s.grid.tempo := rfl

/-- Outside FOLLOW the Follower is OFF, and T_f takes T_g on entry to TAP. -/
theorem switchSource_follower_off {new : TempoSource} (s : State) (hn : new ≠ .follow) (hs : s.grid.source = .follow) :
    (switchSource new s).follower =
      { s.follower.turnOff with tempo := if new = .tap then s.grid.tempo else s.follower.tempo } := by
  cases new with
  | follow => exact absurd rfl hn
  | internal => simp [switchSource, hs, Follower.turnOff]
  | tap => simp [switchSource, hs]

theorem switchSource_follower_other {new : TempoSource} (s : State) (hn : new ≠ .follow) (hs : s.grid.source ≠ .follow) :
    (switchSource new s).follower = { s.follower with tempo := if new = .tap then s.grid.tempo else s.follower.tempo } := by
  cases new with
  | follow => exact absurd rfl hn
  | internal => simp [switchSource, hs]
  | tap => simp [switchSource, hs]

theorem changeSource_grid (new : TempoSource) (s : State) :
    (changeSource new s).grid = { s.grid with source := new, ramp := none, correction := none } := by
  unfold changeSource
  dsimp only
  split
  · rfl
  · exact (followNotice_frame _ _).at .grid

/-- A change of source posts at most FOLLOW_STATE. -/
theorem changeSource_notices_le (new : TempoSource) (s : State) (q : Port) :
    ((changeSource new s).port q).notices.length ≤ (s.port q).notices.length + 1 := by
  have same : (switchSource new s).port q = s.port q := by cases q <;> rfl
  unfold changeSource
  dsimp only
  split
  · rw [same]; exact Nat.le_succ _
  · rw [followNotice, post_port, same]; exact ControlPort.post_length_le _ _

/-! ## The start of a pending transport (R12, R15) -/

theorem enterTransport_grid (new : Transport) (o : Option Origin) (s : State) :
    (enterTransport new o s).grid = { s.grid with transport := new } :=
  (post_frame (.transport new s.grid.position) o { s with grid := { s.grid with transport := new } }).at .grid

theorem enterTransport_port (new : Transport) (o : Option Origin) (s : State) (q : Port) :
    (enterTransport new o s).port q = (s.port q).post ⟨.transport new s.grid.position, false, s.grid.position, o⟩ := by
  cases q <;> rfl

theorem offerClick_transmission (k : ClickLine) (s : State) : (offerClick k s).bus.transmission = s.bus.transmission := by
  unfold offerClick
  repeat' split
  all_goals rfl

theorem clickTick_transmission (s : State) : (clickTick s).bus.transmission = s.bus.transmission := by
  unfold clickTick
  split
  · next k _ =>
    have line : (pulseLine k s).bus = s.bus := (pulseLine_frame k s).at .bus
    rw [offerClick_transmission, line]
  · rfl

theorem positionNotice_keepsNotices (p : Port) (s : State) : KeepsNotices s (positionNotice p s) := by
  unfold positionNotice
  split
  · exact postTo_keepsNotices _ _ _ s
  · exact .refl s

/-- The clicks, CLKOUT and the ramp step of a tick, which all come ahead of its flashes and POSITION notices (R9). -/
theorem tickStart_frame (s : State) : SameBut [.grid, .click, .bus] s (rampStep (clkoutTick (clickTick s))) :=
  ((clickTick_frame s).chain (clkoutTick_frame _) (rs := [.grid, .click, .bus])).chain (rampStep_frame _)

/-- The flashes and the POSITION notices of a tick. -/
theorem tickEnd_frame (s : State) :
    SameBut [.board, .noticesA, .noticesB] s (positionNotice .b (positionNotice .a (flashTick s))) :=
  ((flashTick_frame s).chain (positionNotice_frame .a _) (rs := [.board, .noticesA, .noticesB])).chain (positionNotice_frame .b _)

/-- A tick that finds no ramp record and ends no interval leaves the grid (R9). -/
theorem tickReceivers_grid {s : State} (h : s.grid.ramp = none) : (tickReceivers false false s).grid = s.grid := by
  have clicked : (clkoutTick (clickTick s)).grid = s.grid :=
    ((clickTick_frame s).chain (clkoutTick_frame _) (rs := [.click, .bus])).at .grid
  have noStep : rampStep (clkoutTick (clickTick s)) = clkoutTick (clickTick s) := by simp [rampStep, clicked, h]
  calc (tickReceivers false false s).grid
      = (rampStep (clkoutTick (clickTick s))).grid := (tickEnd_frame _).at .grid
    _ = s.grid := by rw [noStep, clicked]

/-- A tick offers its CLICK message to the REALTIME queue and leaves the message on the bus (R48). -/
theorem tickReceivers_transmission (s : State) : (tickReceivers false false s).bus.transmission = s.bus.transmission := by
  have bus : (tickReceivers false false s).bus = (clickTick s).bus :=
    (((clkoutTick_frame (clickTick s)).chain (rampStep_frame _) (rs := [.grid, .click])).chain (tickEnd_frame _)
      (rs := [.grid, .click, .board, .noticesA, .noticesB])).at .bus
  rw [bus, clickTick_transmission]

theorem tickReceivers_keepsNotices (s : State) : KeepsNotices s (tickReceivers false false s) :=
  (((tickStart_frame s).chain (flashTick_frame _) (rs := [.grid, .click, .bus, .board])).keepsNotices.then
    (positionNotice_keepsNotices .a _)).then (positionNotice_keepsNotices .b _)

/-- What a first tick is preceded by: the pace timer idle, r = 0 (R6, R34). -/
def State.readied (s : State) : State :=
  { s with follower := { s.follower with paceTimer := none }, grid := { s.grid with remainder := 0 } }

theorem readied_frame (s : State) : SameBut [.grid, .follower] s s.readied :=
  (setFollower_frame { s.follower with paceTimer := none } s).chain (gridUpdate_frame _ { s.grid with remainder := 0 })

theorem firstTick_eq (s : State) : firstTick false s = nextInterval (tickReceivers false false s.readied) := rfl

theorem firstTick_grid {s : State} (h : s.grid.ramp = none) :
    (firstTick false s).grid = { s.grid with remainder := 0 }.interval s.now := by
  have ticked : (tickReceivers false false s.readied).grid = s.readied.grid := tickReceivers_grid h
  have timebase : (tickReceivers false false s.readied).timebase = s.timebase := (tickReceivers_frame false false s.readied).at .timebase
  rw [firstTick_eq, nextInterval, ticked, State.now, timebase]
  rfl

theorem firstTick_follower (s : State) : (firstTick false s).follower = { s.follower with paceTimer := none } :=
  ((tickReceivers_frame false false s.readied).chain (nextInterval_frame _) (rs := tickParts)).at .follower

theorem firstTick_transmission (s : State) : (firstTick false s).bus.transmission = s.bus.transmission :=
  tickReceivers_transmission s.readied

theorem firstTick_keepsNotices (s : State) : KeepsNotices s (firstTick false s) :=
  ((readied_frame s).keepsNotices.then (tickReceivers_keepsNotices _)).then (nextInterval_frame _).keepsNotices

/-! ## SET_TEMPO_SOURCE (R17) -/

/-- A change of source out of FOLLOW starts a transport in START_PENDING (R12). -/
theorem setSource_starts {new : TempoSource} {o : Origin} {s : State} (hs : new ≠ s.grid.source)
    (h : s.grid.transport = .startPending ∧ new ≠ .follow) :
    setSource new o s = firstTick false (enterTransport .running (some o) (changeSource new s)) := by
  simp [setSource, endPending, changeSource_grid, hs, h]

/-- Any other change of source leaves the transport. -/
theorem setSource_holds {new : TempoSource} {o : Origin} {s : State} (hs : new ≠ s.grid.source)
    (h : ¬ (s.grid.transport = .startPending ∧ new ≠ .follow)) : setSource new o s = changeSource new s := by
  simp [setSource, endPending, changeSource_grid, hs, h]

theorem setSource_transmission (new : TempoSource) (o : Origin) (s : State) :
    (setSource new o s).bus.transmission = s.bus.transmission := by
  by_cases hs : new = s.grid.source
  · simp [setSource, hs]
  have changed : (changeSource new s).bus = s.bus := (changeSource_frame new s).at .bus
  by_cases h : s.grid.transport = .startPending ∧ new ≠ .follow
  · have entered : (enterTransport .running (some o) (changeSource new s)).bus = (changeSource new s).bus :=
      (enterTransport_frame ..).at .bus
    rw [setSource_starts hs h, firstTick_transmission, entered, changed]
  · rw [setSource_holds hs h, changed]

/-- The interval of the first tick of a start: r = 0, so that no part of an earlier interval is carried into it (R6, R7). -/
theorem setSource_grid_starts {new : TempoSource} {o : Origin} {s : State} (hs : new ≠ s.grid.source)
    (h : s.grid.transport = .startPending ∧ new ≠ .follow) :
    (setSource new o s).grid = { s.grid with
      source := new, ramp := none, correction := none, transport := .running, fresh := false
      countdown := some ⟨s.now, 25000000 / s.grid.tempo⟩
      remainder := 25000000 - 25000000 / s.grid.tempo * s.grid.tempo } := by
  have timebase : (enterTransport .running (some o) (changeSource new s)).timebase = s.timebase :=
    ((changeSource_frame new s).chain (enterTransport_frame _ _ _) (rs := sourceParts)).at .timebase
  rw [setSource_starts hs h, firstTick_grid (by rw [enterTransport_grid, changeSource_grid]), State.now, timebase,
    enterTransport_grid, changeSource_grid]
  simp [Grid.interval, State.now]

theorem setSource_grid_holds {new : TempoSource} {o : Origin} {s : State} (hs : new ≠ s.grid.source)
    (h : ¬ (s.grid.transport = .startPending ∧ new ≠ .follow)) :
    (setSource new o s).grid = { s.grid with source := new, ramp := none, correction := none } := by
  rw [setSource_holds hs h, changeSource_grid]

theorem setSource_holds_click {new : TempoSource} {o : Origin} {s : State} (hs : new ≠ s.grid.source)
    (h : ¬ (s.grid.transport = .startPending ∧ new ≠ .follow)) : (setSource new o s).click = s.click := by
  rw [setSource_holds hs h]
  exact (changeSource_frame new s).at .click

theorem setSource_holds_board {new : TempoSource} {o : Origin} {s : State} (hs : new ≠ s.grid.source)
    (h : ¬ (s.grid.transport = .startPending ∧ new ≠ .follow)) : (setSource new o s).board = s.board := by
  rw [setSource_holds hs h]
  exact (changeSource_frame new s).at .board

/-- The records and the position after any change of source, whether or not a transport starts (R17). -/
theorem setSource_records {new : TempoSource} {o : Origin} {s : State} (hs : new ≠ s.grid.source) :
    (setSource new o s).grid.source = new ∧ (setSource new o s).grid.tempo = s.grid.tempo ∧
      (setSource new o s).grid.ramp = none ∧ (setSource new o s).grid.correction = none ∧
      (setSource new o s).grid.position = s.grid.position := by
  by_cases h : s.grid.transport = .startPending ∧ new ≠ .follow
  · rw [setSource_grid_starts hs h]; exact ⟨rfl, rfl, rfl, rfl, rfl⟩
  · rw [setSource_grid_holds hs h]; exact ⟨rfl, rfl, rfl, rfl, rfl⟩

/-- The Follower after a change of source: as the change leaves it, and its pace timer idle after a start (R6). -/
theorem setSource_follower {new : TempoSource} {o : Origin} {s : State} (hs : new ≠ s.grid.source) :
    (setSource new o s).follower =
      if s.grid.transport = .startPending ∧ new ≠ .follow then { (switchSource new s).follower with paceTimer := none }
      else (switchSource new s).follower := by
  split
  · next h =>
    have entered : (enterTransport .running (some o) (changeSource new s)).follower = (changeSource new s).follower :=
      (enterTransport_frame ..).at .follower
    rw [setSource_starts hs h, firstTick_follower, entered, changeSource_follower]
  · next h => rw [setSource_holds hs h, changeSource_follower]

theorem setSource_follower_seeks {o : Origin} {s : State} (hs : .follow ≠ s.grid.source) :
    (setSource .follow o s).follower = s.follower.seekFrom s.grid.tempo := by
  simp [setSource_follower hs, switchSource_follower_follow]

theorem setSource_follower_off {new : TempoSource} {o : Origin} {s : State} (hn : new ≠ .follow) (hs : s.grid.source = .follow) :
    (setSource new o s).follower =
      { s.follower.turnOff with tempo := if new = .tap then s.grid.tempo else s.follower.tempo } := by
  rw [setSource_follower (by rwa [hs]), switchSource_follower_off s hn hs]
  split <;> rfl

theorem setSource_follower_other {new : TempoSource} {o : Origin} {s : State} (hne : new ≠ s.grid.source) (hn : new ≠ .follow)
    (hs : s.grid.source ≠ .follow) :
    (setSource new o s).follower = { s.follower with
      tempo := if new = .tap then s.grid.tempo else s.follower.tempo
      paceTimer := if s.grid.transport = .startPending then none else s.follower.paceTimer } := by
  rw [setSource_follower hne, switchSource_follower_other s hn hs]
  by_cases h : s.grid.transport = .startPending <;> simp [h, hn]

/-- Below 24 notices the queue has room for FOLLOW_STATE and then for TRANSPORT (R15, R38, R178). -/
theorem setSource_notice {new : TempoSource} {o : Origin} {s : State} {q : Port} (hs : new ≠ s.grid.source)
    (h : s.grid.transport = .startPending ∧ new ≠ .follow)
    (ha : (s.port q).admits (.transport .running s.grid.position) = true) (hl : (s.port q).notices.length < 24) :
    ⟨.transport .running s.grid.position, false, s.grid.position, some o⟩ ∈ ((setSource new o s).port q).notices := by
  have position : (changeSource new s).grid.position = s.grid.position := by rw [changeSource_grid]
  have room := changeSource_notices_le new s q
  rw [setSource_starts hs h]
  refine firstTick_keepsNotices _ q ?_
  rw [enterTransport_port, position]
  refine ControlPort.mem_post ?_ (by omega)
  rw [(changeSource_frame new s).admits q]
  exact ha

theorem tempoSourceOf_eq_none {n : Nat} (h : 3 ≤ n) : tempoSourceOf n = none := by
  obtain ⟨k, rfl⟩ := Nat.exists_eq_add_of_le' h
  rfl

/-- What a request that changes the source has changed when it is closed, beside the arbiter's parts and the ports' lines. -/
theorem setSource_closed {p : Port} {f : Frame} (new : TempoSource) (s : State) :
    ClosedRequest p f .ok [.grid, .follower, .click, .bus, .board] s
      (finish p (arbitrate (setSource new (.port p) (s.taking p f)), some .ok)) :=
  (finish_closed (setSource_frame new _ _) (by rw [setSource_transmission, taking_bus])).mono

/-- Every port with room is told TRANSPORT by the close of a request that starts a pending transport (R15, R178). -/
theorem setSource_tells {p : Port} {f : Frame} {new : TempoSource} {s : State} (hs : new ≠ s.grid.source)
    (h : s.grid.transport = .startPending ∧ new ≠ .follow) :
    Tells ⟨.transport .running s.grid.position, false, s.grid.position, some (.port p)⟩ s
      (finish p (arbitrate (setSource new (.port p) (s.taking p f)), some .ok)) := by
  intro q ha hl
  have posted := setSource_notice (o := .port p) (s := s.taking p f) (q := q) (by rwa [taking_grid]) (by rwa [taking_grid])
    (by rwa [taking_admits, taking_grid]) (by rwa [taking_notices])
  rw [taking_grid] at posted
  exact finish_told p .ok (arbitrate_keepsNotices _ q posted)

/-- Settles O18: SET_TEMPO_SOURCE is a change of source, whose grid and Follower the close of the request leaves; whether it starts the
transport splits the transport's clause alone. -/
theorem setTempoSourceRequest : Obligations.SetTempoSourceRequest := by
  intro p tag x s h
  set u := s.taking p ⟨0x04, tag, [x]⟩ with hu
  have run : exec (.setTempoSource p tag x) s = .next (finish p (requestSetSource p x u)) :=
    congrArg _ (arrive_known (k := .setTempoSource) h rfl)
  refine ⟨_, run, fun hx => ?_, fun new hnew => ?_⟩
  · have refused : requestSetSource p x u = (u, some (.badField 1)) := by
      simp [requestSetSource, tempoSourceOf_eq_none hx, pick, checked, refuse]
    rw [refused]
    exact finish_completed (.refl [] u)
  have served : requestSetSource p x u = (arbitrate (setSource new (.port p) u), some .ok) := by
    simp [requestSetSource, hnew, pick, checked, done]
  have ug : u.grid = s.grid := taking_grid ..
  have uf : u.follower = s.follower := taking_follower ..
  rw [served]
  refine ⟨fun hsame => ?_, fun hne => ?_⟩
  · have unchanged : setSource new (.port p) u = u := by simp [setSource, ug, hsame]
    rw [unchanged]
    exact finish_closed (.refl [] u) (by rw [hu, taking_bus])
  have hne' : new ≠ u.grid.source := by rwa [ug]
  have kept := finish_arbitrate_frame p (setSource new (.port p) u) .ok
  have grid := kept.at .grid
  have follower := kept.at .follower
  obtain ⟨source, tempo, ramp, correction, position⟩ := setSource_records (o := .port p) hne'
  rw [← grid] at source tempo ramp correction position
  rw [ug] at tempo position
  refine ⟨setSource_closed new s, source, tempo, ramp, correction, position, ?_, ?_, ?_, ?_⟩
  · split
    · next starts =>
      rw [grid, setSource_grid_starts hne' (by rwa [ug]), ug, hu, taking_now]
      exact ⟨rfl, rfl, rfl, setSource_tells hne starts⟩
    · next holds =>
      have holds' : ¬ (u.grid.transport = .startPending ∧ new ≠ .follow) := by rwa [ug]
      have click := ((kept.at .click).trans (setSource_holds_click hne' holds')).trans (taking_click ..)
      have board := ((kept.at .board).trans (setSource_holds_board hne' holds')).trans (taking_board ..)
      rw [grid, setSource_grid_holds hne' holds', ug]
      exact ⟨rfl, rfl, rfl, click, board⟩
  · rintro rfl
    rw [follower, setSource_follower_seeks hne', ug, uf]
    rfl
  · intro hs
    rw [follower, setSource_follower_off (hs ▸ hne) (by rw [ug, hs]), ug, uf]
    rfl
  · intro hs hn
    rw [follower, setSource_follower_other hne' hn (by rwa [ug]), ug, uf]

end Sys2Proof.Machine
end

section
/-! PROOF. What a step is made of, said once: `Block` lists every work of a block of Table 0-1 on the state, `GridWork` the works of the grid
and the Follower, `PortEvent` those of the ports, the fetches and the resets; every step is a run of them. The invariants of Safety.lean are
shown of these works alone. -/

namespace Sys2Proof.Machine

/-! ## The works of a block -/

/-- At most one pending program entry for a module and channel (R117). -/
abbrev DistinctPosts (l : List PendingProgram) : Prop := l.Pairwise (fun e f => ¬ (e.module = f.module ∧ e.channel = f.channel))

/-- A change of the bus: REALTIME and PASS grow only below their capacity, posts stay distinct, and a restart's SILENCE begins only in a
restart that waits for it. -/
structure BusStep (s : State) (x : Bus) : Prop where
  realtime : x.realtime.length ≤ max 8 s.bus.realtime.length
  pass : x.pass.length ≤ max 16 s.bus.pass.length
  pending : DistinctPosts s.bus.pending → DistinctPosts x.pending
  silence : ∀ tr, x.transmission = some tr → tr.forRestart = true → s.bus.transmission = some tr ∨ s.resetting = .silence

/-- A change of the Change Sequencer that leaves the cue in its state, ends a phase at most and stops the retention timer at most. -/
structure SeqStep (s : State) (x : Sequencer) : Prop where
  cue : x.cue.map (·.state) = s.seq.cue.map (·.state)
  phase : x.phase = s.seq.phase ∨ x.phase = .none
  retention : x.retention = s.seq.retention ∨ x.retention = none

/-- A change of a bank's song in place: its zones and enabled states, its overflow count. -/
structure BankStep (b x : Bank) : Prop where
  zones : b.enabled.length = b.zones.length → x.enabled.length = x.zones.length
  image : x.image.isSome = b.image.isSome
  song : ∀ y, x.image = some y → ∃ z, b.image = some z ∧ (z.Ok → y.Ok)

/-- A held cue leaves the slot, apart from the notice of it (R129). -/
def cueLeft (c : Cue) (s : State) : State :=
  let s1 := { s with seq := { s.seq with cue := none } }
  match c.state with
  | .waiting => s1
  | .loading => abandonCueFetch s1
  | .armed => emptyStandby s1

theorem displaceCue_eq (c : Cue) (o : Origin) (r : Bool) (s : State) : displaceCue c o r s =
    post (.cueSuperseded c.target c.slot c.origin c.state r) (some o) (cueLeft c s) := by
  unfold displaceCue cueLeft
  cases c.state <;> rfl

/-- The taking of a RESTART, apart from its SILENCE (R142). -/
def restartTaken (s : State) : State :=
  let s1 :=
    match s.seq.cue with
    | some c => if c.state = CueState.loading then abandonCueFetch s else s
    | none => s
  { s1 with seq := { s1.seq with cue := none, settle := .idle, retention := none }, resetting := .silence }

theorem beginRestart_eq (s : State) : beginRestart s =
    if (restartTaken s).bus.transmission.isNone then beginRestartSilence (restartTaken s) else restartTaken s := rfl

/-- One work of a block on the state. `G` is what may happen to the grid and the Follower. -/
inductive Block (G : State → State → Prop) (s : State) : State → Prop where
  | grid {t : State} (h : G s t) : Block G s t
  | quiet {t : State} (h : SameBut [.timebase, .setup, .click, .board, .draws, .pending] s t) : Block G s t
  | tell (p : Port) (b : NoticeBody) (o : Option Origin) : Block G s (postTo p b o s)
  | layer (x : Layer) (hk : x.keyOns.length ≤ max 32 s.layer.keyOns.length) (hc : x.controls.length ≤ max 16 s.layer.controls.length) :
      Block G s { s with layer := x }
  | bus (x : Bus) (h : BusStep s x) : Block G s { s with bus := x }
  | links (x : Vector KeyLink 4) (h : ∀ l : LinkId, (getAt x l).fifo.length ≤ max 16 (s.link l).fifo.length) :
      Block G s { s with links := x }
  | release (w : Entry → Bool) : Block G s (releaseEntries w s).1
  | sustain (l : LinkId) (c : Channel) (key : Nat) : Block G s (noteRelease l c key true s)
  | flag (n i : Nat) (f : KeyOnFlag) : Block G s (flagDest n i f s)
  | ended (n i : Nat) : Block G s (endDest n i s)
  | make (k : Strike) (h : s.notes.entries.length < 128) (hd : 1 ≤ k.dests.length ∧ k.dests.length ≤ 4) : Block G s (makeEntry k s)
  | counts (x : Notes) (he : x.entries = s.notes.entries) (hn : x.nextSerial = s.notes.nextSerial) : Block G s { s with notes := x }
  | panic : Block G s (panicNotes s)
  | bank (k : BankId) (x : Bank) (h : BankStep (s.bank k) x) : Block G s (s.setBank k x)
  | roles (x : Song) (h : s.cueIs .armed = true) : Block G s (changeRoles x s)
  | load : Block G s (examineLoad s)
  | displace (c : Cue) (h : s.seq.cue = some c) : Block G s (cueLeft c s)
  | offer (c : Cue) (hn : s.seq.cue = none) (hr : s.inReset = false) :
      Block G s { s with seq := { s.seq with cue := some { c with state := .waiting } } }
  | seq (x : Sequencer) (h : SeqStep s x) : Block G s { s with seq := x }
  | store (x : Store) (ha : x.activity = s.store.activity) (hq : x.queue = s.store.queue) : Block G s { s with store := x }
  | opNext (op : StoreOp) (h : s.store.activity = .operating op) : Block G s (storeNext s)
  | opSet (op new : StoreOp) (h : s.store.activity = .operating op) (hr : new.record = op.record) : Block G s (setOp new s)
  | opBegin (op : StoreOp) (h : s.store.activity = .idle) (hr : op.record.length ≤ 508) : Block G s (setOp op s)
  | flash (x : List Host.Cell) (h : FlashSound s → flashWf x = true) : Block G s { s with flash := x }
  | restart (h : s.inReset = false) : Block G s (restartTaken s)

/-- The works of the grid and the Follower, each with the ticks, takes and notices that belong to it. -/
inductive GridWork (s : State) : State → Prop where
  | start (o : Origin) : GridWork s (start o s)
  | stop (o : Origin) : GridWork s (stopGrid o s)
  | source (x : TempoSource) (o : Origin) : GridWork s (setSource x o s)
  | tempo (v : Nat) (h : s.grid.source ≠ .follow) : GridWork s (applyTempo v s)
  | tap : GridWork s (takeTap s)
  | mark (b : Nat) (o : Option Origin) (h : s.grid.source = .follow) : GridWork s (takeMark b o s)
  | refin (x y : Option Bool) : GridWork s (setFollower { s.follower with refinSample := x, refinLevel := y } s)
  | holdover (h : s.follower.holdoverTimer.isSome = true) : GridWork s (enterHoldover s)
  | pace (h : s.follower.paceTimer.isSome = true) : GridWork s (paceExpiry s)
  | tick (h : s.grid.countdown.isSome = true) : GridWork s (tickExpiry s)
  | due : GridWork s (takeIfDue s)
  | takeNow : GridWork s (takeNow s)

/-- A port's receiving side with another assembler. -/
def ControlPort.withAssembler (c : ControlPort) (x : AssemblerPhase) (a : Assembly) (t : Option Timer) : ControlPort :=
  { c with phase := x, assembly := a, gapTimer := t }

/-- The works of the ports, the ends of fetches and the resets. -/
inductive PortEvent (s : State) : State → Prop where
  | transmit (p : Port) : PortEvent s (transmitOn p s)
  | assembler (p : Port) (x : AssemblerPhase) (a : Assembly) (t : Option Timer) :
      PortEvent s (s.setPort p ((s.port p).withAssembler x a t))
  | buffered (p : Port) (f : Frame) (h : (s.port p).buffer.length < 4) :
      PortEvent s (s.setPort p { s.port p with buffer := (s.port p).buffer ++ [f] })
  | serve (p : Port) : PortEvent s (serve p s)
  | sent (p : Port) (fr : PortFrame) (h : (s.port p).sending = some fr) : PortEvent s (s.setPort p { s.port p with
      sending := none, inService := if fr.sort = .reply then none else (s.port p).inService })
  | fetched (f : Fetch) (h : s.store.activity = .fetching f) : PortEvent s (fetchEnded f s)
  | restarted (tr : Transmission) (h : s.bus.transmission = some tr) (hr : tr.forRestart = true) : PortEvent s (restartReset s)
  | powered : PortEvent s (powerUp s)
  | counted (m : Monitor) (x : Source) : PortEvent s (countStart m x s)

/-- A run of works, one after another. -/
abbrev Runs (R : State → State → Prop) : State → State → Prop := Relation.ReflTransGen R

/-- What a predicate keeps at each work it keeps at a run. -/
theorem Runs.keeps {R : State → State → Prop} {P : State → Prop} (h : ∀ s t, R s t → P s → P t) {s t : State} (r : Runs R s t) :
    P s → P t := by
  induction r with
  | refl => exact id
  | tail _ hb ih => exact fun hs => h _ _ hb (ih hs)

theorem Block.run {G : State → State → Prop} {s t : State} (h : Block G s t) : Runs (Block G) s t := .single h

/-! ## Notices -/

variable {G : State → State → Prop}

theorem post_runs (b : NoticeBody) (o : Option Origin) (s : State) : Runs (Block G) s (post b o s) :=
  (Block.tell .a b o).run.tail (.tell .b b o)

theorem quiet_runs {s t : State} (h : SameBut [.timebase, .setup, .click, .board, .draws, .pending] s t) : Runs (Block G) s t :=
  (Block.quiet h).run

/-- One work after another, folded over a list. -/
theorem foldl_runs {α : Type} {R : State → State → Prop} {f : State → α → State} (h : ∀ s x, Runs R s (f s x)) :
    ∀ (l : List α) (s : State), Runs R s (l.foldl f s)
  | [], _ => .refl
  | x :: xs, s => (h s x).trans (foldl_runs h xs (f s x))

/-! ## Changes of the bus -/

/-- A change that leaves the queues and the transmission. -/
theorem BusStep.kept {s : State} {x : Bus} (hr : x.realtime = s.bus.realtime) (hp : x.pass = s.bus.pass) (hl : x.pending = s.bus.pending)
    (ht : x.transmission = s.bus.transmission) : BusStep s x :=
  ⟨by rw [hr]; exact le_max_right .., by rw [hp]; exact le_max_right .., by rw [hl]; exact id, fun tr h _ => .inl (ht ▸ h)⟩

theorem bus_runs (s : State) (x : Bus) (h : BusStep s x) : Runs (Block G) s { s with bus := x } := (Block.bus x h).run

theorem setModule_runs (m : ModuleId) (x : ModuleState) (s : State) : Runs (Block G) s (s.setModule m x) :=
  bus_runs s _ (.kept rfl rfl rfl rfl)

theorem discardAll_runs (ms : List ModuleId) (s : State) : Runs (Block G) s (discardAll ms s) :=
  foldl_runs (fun s m => setModule_runs m _ s) ms s

theorem recordProgram_runs (m : ModuleId) (x : Message) (s : State) : Runs (Block G) s (recordProgram m x s) := by
  unfold recordProgram
  split
  · exact bus_runs s _ (.kept rfl rfl rfl rfl)
  · exact .refl

/-- Going through a queue leaves no more than it held. -/
theorem scanQueue_rest_le {α : Type} (judge : α → Verdict) : ∀ l : List α, (scanQueue judge l).rest.length ≤ l.length
  | [] => Nat.le_refl _
  | x :: xs => by
    have ih := scanQueue_rest_le judge xs
    unfold scanQueue
    split <;> simp <;> omega

theorem realtime_runs (s : State) (l : List RealtimeItem) (h : l.length ≤ max 8 s.bus.realtime.length) :
    Runs (Block G) s { s with bus := { s.bus with realtime := l } } :=
  bus_runs s _ ⟨h, le_max_right .., id, fun _ ht _ => .inl ht⟩

theorem pass_runs (s : State) (l : List Addressed) (h : l.length ≤ max 16 s.bus.pass.length) :
    Runs (Block G) s { s with bus := { s.bus with pass := l } } :=
  bus_runs s _ ⟨le_max_right .., h, id, fun _ ht _ => .inl ht⟩

theorem pending_runs (s : State) (l : List PendingProgram) (h : DistinctPosts s.bus.pending → DistinctPosts l) :
    Runs (Block G) s { s with bus := { s.bus with pending := l } } :=
  bus_runs s _ ⟨le_max_right .., le_max_right .., h, fun _ ht _ => .inl ht⟩

/-- A message that is not the restart's SILENCE begins. -/
theorem beginTransmission_runs (m : Option ModuleId) (x : Message) (a : Bool) (s : State) :
    Runs (Block G) s (beginTransmission m x a false s) :=
  bus_runs s _ ⟨le_max_right .., le_max_right .., id, fun tr h hr => by cases h; cases hr⟩

theorem beginRestartSilence_runs {s : State} (h : s.resetting = .silence) : Runs (Block G) s (beginRestartSilence s) :=
  bus_runs s _ ⟨le_max_right .., le_max_right .., id, fun _ _ _ => .inr h⟩

theorem placeSilence_runs (s : State) : Runs (Block G) s (placeSilence s) := by
  unfold placeSilence
  split
  · exact .refl
  · split
    · next h => exact realtime_runs s _ (by simp only [List.length_cons]; omega)
    · next h =>
      refine (realtime_runs s (.silence :: s.bus.realtime.dropLast) (by simp only [List.length_cons, List.length_dropLast]; omega)).tail
        (.quiet (clickUpdate_frame _ _ |>.mono))

/-! ## Posts (R117) -/

theorem DistinctPosts.map {l : List PendingProgram} {f : PendingProgram → PendingProgram}
    (hf : ∀ e, (f e).module = e.module ∧ (f e).channel = e.channel) (h : DistinctPosts l) : DistinctPosts (l.map f) :=
  List.pairwise_map.2 (h.imp (fun {a b} hn he => hn (by simpa [hf] using he)))

theorem postProgram_distinct (e : PendingProgram) {l : List PendingProgram} (h : DistinctPosts l) : DistinctPosts (postProgram e l) := by
  unfold postProgram
  split
  · refine h.map fun x => ?_
    by_cases hx : (x.module == e.module && x.channel == e.channel) = true
    · simp only [hx, if_true]
      simp only [Bool.and_eq_true, beq_iff_eq] at hx
      exact ⟨hx.1.symm, hx.2.symm⟩
    · simp [hx]
  · next hany =>
    refine List.pairwise_append.2 ⟨h, List.pairwise_singleton .., fun x hx y hy => ?_⟩
    cases List.mem_singleton.1 hy
    rintro ⟨hm, hc⟩
    exact hany (List.any_eq_true.2 ⟨x, hx, by simp [hm, hc]⟩)

theorem foldl_postProgram_distinct {α : Type} (f : α → PendingProgram) : ∀ (es : List α) {l : List PendingProgram},
    DistinctPosts l → DistinctPosts (es.foldl (fun l e => postProgram (f e) l) l)
  | [], _, h => h
  | e :: es, _, h => foldl_postProgram_distinct f es (postProgram_distinct (f e) h)

/-- What is left of an entry is for its own module and channel. -/
theorem mem_left {e x : PendingProgram} (h : x ∈ e.left) : x.module = e.module ∧ x.channel = e.channel := by
  unfold PendingProgram.left at h
  split at h
  · cases List.mem_singleton.1 h; exact ⟨rfl, rfl⟩
  · cases h

theorem left_length_le (e : PendingProgram) : e.left.length ≤ 1 := by
  unfold PendingProgram.left
  split <;> simp

theorem mem_scanPending {mode : ModuleId → ModuleMode} : ∀ {l : List PendingProgram} {x : PendingProgram},
    x ∈ (scanPending mode l).1 → ∃ e ∈ l, x.module = e.module ∧ x.channel = e.channel
  | [], _, h => by cases h
  | e :: es, x, h => by
    unfold scanPending at h
    split at h
    · rcases List.mem_append.1 h with h | h
      · exact ⟨e, List.mem_cons_self, mem_left h⟩
      · exact ⟨x, List.mem_cons_of_mem _ h, rfl, rfl⟩
    · rcases List.mem_cons.1 h with rfl | h
      · exact ⟨x, List.mem_cons_self, rfl, rfl⟩
      · obtain ⟨y, hy, hs⟩ := mem_scanPending h
        exact ⟨y, List.mem_cons_of_mem _ hy, hs⟩

theorem scanPending_distinct {mode : ModuleId → ModuleMode} : ∀ {l : List PendingProgram},
    DistinctPosts l → DistinctPosts (scanPending mode l).1
  | [], h => h
  | e :: es, h => by
    obtain ⟨he, hes⟩ := List.pairwise_cons.1 h
    unfold scanPending
    split
    · refine List.pairwise_append.2 ⟨?_, hes, fun x hx y hy => ?_⟩
      · have short := left_length_le e
        match hl : e.left, short with
        | [], _ => exact .nil
        | [_], _ => exact List.pairwise_singleton ..
      · obtain ⟨hm, hc⟩ := mem_left hx
        rw [hm, hc]
        exact he y hy
    · refine List.pairwise_cons.2 ⟨fun x hx => ?_, scanPending_distinct hes⟩
      obtain ⟨y, hy, hm, hc⟩ := mem_scanPending hx
      rw [hm, hc]
      exact he y hy

/-! ## Loading, settling and the cue slot -/

theorem examineSettle_runs (s : State) : Runs (Block G) s (examineSettle s) := by
  unfold examineSettle
  split
  · refine (((pending_runs s _ (fun h => h.filter _)).tail (.seq _ ?_)).trans ((post_runs _ _ _).tail (.seq _ ?_))).tail .load
    · exact ⟨rfl, .inr rfl, .inl rfl⟩
    · exact ⟨rfl, .inl rfl, .inl rfl⟩
  · exact .refl

theorem acceptCue_runs (c : Cue) {s : State} (hn : s.seq.cue = none) (hr : s.inReset = false) : Runs (Block G) s (acceptCue c s) :=
  ((Block.offer c hn hr).run.trans (post_runs _ _ _)).tail .load

theorem displaceCue_cue (c : Cue) (o : Origin) (r : Bool) (s : State) : (displaceCue c o r s).seq.cue = none := by
  unfold displaceCue
  refine (congrArg Sequencer.cue ((post_frame _ _ _).at .seq)).trans ?_
  split
  · rfl
  · exact congrArg Sequencer.cue ((abandonCueFetch_frame _).at .seq)
  · exact congrArg Sequencer.cue ((emptyStandby_frame _).at .seq)

theorem displaceCue_inReset (c : Cue) (o : Origin) (r : Bool) (s : State) : (displaceCue c o r s).inReset = s.inReset :=
  congrArg (fun x => decide (x ≠ ResetPhase.none)) ((displaceCue_frame c o r s).at .resetting)

theorem displaceCue_runs {c : Cue} (o : Origin) (r : Bool) {s : State} (h : s.seq.cue = some c) :
    Runs (Block G) s (displaceCue c o r s) := by
  rw [displaceCue_eq]
  exact (Block.displace c h).run.trans (post_runs ..)

theorem offerCue_runs (c : Cue) {s : State} (hr : s.inReset = false) : Runs (Block G) s (offerCue c s).1 := by
  unfold offerCue
  split
  · next h => exact acceptCue_runs c h hr
  · next held h =>
    split
    · exact (displaceCue_runs _ _ h).trans (acceptCue_runs c (displaceCue_cue ..) ((displaceCue_inReset ..).trans hr))
    · split
      · exact post_runs ..
      · exact .refl

theorem cancelCue_runs (o : Origin) (s : State) : Runs (Block G) s (cancelCue o s).1 := by
  unfold cancelCue
  split
  · exact .refl
  · next held h =>
    split
    · exact displaceCue_runs _ _ h
    · exact .refl

/-! ## The Held-Note Table -/

theorem noteRelease_runs (l : LinkId) (c : Channel) (key : Nat) (on : Bool) (s : State) :
    Runs (Block G) s (noteRelease l c key on s) := by
  cases on
  · exact (Block.release (fun e => e.isFrom l c key)).run
  · exact (Block.sustain l c key).run

theorem sustainLift_runs (l : LinkId) (c : Channel) (s : State) : Runs (Block G) s (sustainLift l c s) := (Block.release _).run

theorem forcedRelease_runs (k : BankId) (s : State) : Runs (Block G) s (forcedRelease k s) := by
  unfold forcedRelease
  dsimp only
  split
  · exact (Block.release _).run
  · exact (Block.release _).run.trans (post_runs _ _ _)

theorem counts_runs (s : State) (x : Notes) (he : x.entries = s.notes.entries) (hn : x.nextSerial = s.notes.nextSerial) :
    Runs (Block G) s { s with notes := x } := (Block.counts x he hn).run

theorem dropStrike_runs (k : Strike) (s : State) : Runs (Block G) s (dropStrike k s) := by
  unfold dropStrike
  dsimp only
  split
  · exact counts_runs s _ rfl rfl
  · exact ((counts_runs s _ (by rfl) (by rfl)).trans (post_runs _ _ _)).trans (counts_runs _ _ (by rfl) (by rfl))

/-! ## The module bus -/

/-- A change of the layer's queues that only shortens them. -/
theorem layer_runs (s : State) (x : Layer) (hk : x.keyOns.length ≤ s.layer.keyOns.length)
    (hc : x.controls.length ≤ s.layer.controls.length) : Runs (Block G) s { s with layer := x } :=
  (Block.layer x (by omega) (by omega)).run

theorem keyOns_runs (s : State) (l : List KeyOnItem) (h : l.length ≤ s.layer.keyOns.length) :
    Runs (Block G) s { s with layer := { s.layer with keyOns := l } } := layer_runs s _ h (Nat.le_refl s.layer.controls.length)

theorem controls_runs (s : State) (l : List ControlItem) (h : l.length ≤ s.layer.controls.length) :
    Runs (Block G) s { s with layer := { s.layer with controls := l } } := layer_runs s _ (Nat.le_refl s.layer.keyOns.length) h

theorem levels_runs (s : State) (l : List (Option Nat)) : Runs (Block G) s { s with layer := { s.layer with levels := l } } :=
  layer_runs s _ (Nat.le_refl s.layer.keyOns.length) (Nat.le_refl s.layer.controls.length)

theorem serveRealtime_runs (s : State) : Runs (Block G) s (serveRealtime s).1 := by
  have served : Runs (Block G) s (discardAll ((scanQueue (RealtimeItem.verdict s) s.bus.realtime).dropped.filterMap RealtimeItem.module?)
      { s with bus := { s.bus with realtime := (scanQueue (RealtimeItem.verdict s) s.bus.realtime).rest } }) :=
    (realtime_runs s _ (le_max_of_le_right (scanQueue_rest_le ..))).trans (discardAll_runs _ _)
  unfold serveRealtime
  dsimp only
  split <;> exact served

theorem cancelKeyOn_runs (c : Candidate) (s : State) : Runs (Block G) s (cancelKeyOn c s) :=
  ((keyOns_runs s _ (List.length_filter_le ..)).tail (.flag _ _ _)).tail (.ended _ _)

theorem decideCandidate_runs (c : Candidate) (s : State) : Runs (Block G) s (decideCandidate c s).1 := by
  have ended : Runs (Block G) s (endDest c.serial c.dest s) := (Block.ended _ _).run
  unfold decideCandidate
  repeat' split
  all_goals first | exact .refl | exact ended | exact cancelKeyOn_runs c s

theorem serveKeyOffs_runs : ∀ (cs : List Candidate) (s : State), Runs (Block G) s (serveKeyOffs cs s).1
  | [], s => .refl
  | c :: cs, s => by
    have h := decideCandidate_runs (G := G) c s
    unfold serveKeyOffs
    split
    · next h' => rw [h'] at h; exact h
    · next h' => rw [h'] at h; exact h.trans (serveKeyOffs_runs cs _)

theorem dropKeyOn_runs (s : State) (k : KeyOnItem) : Runs (Block G) s (dropKeyOn s k) := by
  unfold dropKeyOn
  split
  · exact (Block.flag _ _ _).run.trans (setModule_runs _ _ _)
  · exact .refl

theorem serveKeyOns_runs (s : State) : Runs (Block G) s (serveKeyOns s).1 := by
  have dropped : Runs (Block G) s ((scanQueue (KeyOnItem.verdict s) s.layer.keyOns).dropped.foldl dropKeyOn
      { s with layer := { s.layer with keyOns := (scanQueue (KeyOnItem.verdict s) s.layer.keyOns).rest } }) :=
    (keyOns_runs s _ (scanQueue_rest_le ..)).trans (foldl_runs dropKeyOn_runs _ _)
  unfold serveKeyOns
  dsimp only
  split
  · exact dropped
  · split
    · exact dropped.tail (.flag _ _ _)
    · exact dropped

theorem serveControls_runs (s : State) : Runs (Block G) s (serveControls s).1 := by
  unfold serveControls
  dsimp only
  split <;> exact (controls_runs s _ (scanQueue_rest_le ..)).trans (discardAll_runs _ _)

theorem serveLevels_runs (s : State) : Runs (Block G) s (serveLevels s).1 := by
  unfold serveLevels
  dsimp only
  split <;> exact (levels_runs s _).trans (discardAll_runs _ _)

theorem orElseServe_runs {s : State} {a : State × Option Choice} {g : State → State × Option Choice}
    (ha : Runs (Block G) s a.1) (hg : ∀ x, Runs (Block G) x (g x).1) : Runs (Block G) s (orElseServe a g).1 := by
  obtain ⟨x, _ | c⟩ := a
  · exact ha.trans (hg x)
  · exact ha

theorem serveLive_runs (s : State) : Runs (Block G) s (serveLive s).1 :=
  orElseServe_runs (serveKeyOffs_runs _ s) fun x =>
    orElseServe_runs (serveKeyOns_runs x) fun y => orElseServe_runs (serveControls_runs y) serveLevels_runs

theorem serveChange_runs (s : State) : Runs (Block G) s (serveChange s).1 := by
  unfold serveChange
  dsimp only
  split
  · exact .refl
  · exact (pending_runs s _ scanPending_distinct).trans (recordProgram_runs _ _ _)

theorem servePass_runs (s : State) : Runs (Block G) s (servePass s).1 := by
  have served : Runs (Block G) s (discardAll
      ((scanQueue (fun i : Addressed => (s.module i.module).mode.waitVerdict) s.bus.pass).dropped.map (·.module))
      { s with bus := { s.bus with pass := (scanQueue (fun i : Addressed => (s.module i.module).mode.waitVerdict) s.bus.pass).rest } }) :=
    (pass_runs s _ (le_max_of_le_right (scanQueue_rest_le ..))).trans (discardAll_runs _ _)
  unfold servePass
  dsimp only
  split
  · exact served
  · exact served.trans (recordProgram_runs _ _ _)

theorem choose_runs (s : State) : Runs (Block G) s (choose s).1 := by
  refine orElseServe_runs (serveRealtime_runs s) fun x => ?_
  split
  · exact orElseServe_runs (serveLive_runs x) fun y => orElseServe_runs (servePass_runs y) serveChange_runs
  · exact orElseServe_runs (serveChange_runs x) fun y => orElseServe_runs (serveLive_runs y) servePass_runs
  · exact orElseServe_runs (serveChange_runs x) fun y => orElseServe_runs (servePass_runs y) serveLive_runs
  · exact orElseServe_runs (servePass_runs x) fun y => orElseServe_runs (serveLive_runs y) serveChange_runs
  · exact orElseServe_runs (servePass_runs x) fun y => orElseServe_runs (serveChange_runs y) serveLive_runs
  · exact orElseServe_runs (serveLive_runs x) fun y => orElseServe_runs (serveChange_runs y) servePass_runs

theorem choices_runs : ∀ (n : Nat) (s : State), Runs (Block G) s (choices n s)
  | 0, _ => .refl
  | n + 1, s => by
    have chosen := choose_runs (G := G) s
    unfold choices
    split
    · next t c h =>
      rw [h] at chosen
      have begun := chosen.trans (beginTransmission_runs c.target c.message c.fromTake t)
      dsimp only
      split
      · exact begun.trans (examineSettle_runs _)
      · exact begun
    · next t h =>
      rw [h] at chosen
      split
      · exact chosen.trans (choices_runs n t)
      · exact chosen

theorem arbitrate_runs (s : State) : Runs (Block G) s (arbitrate s) := by
  unfold arbitrate
  split
  · exact .refl
  · exact choices_runs _ s

theorem enterMode_runs (m : ModuleId) (x : ModuleMode) (t : Option Timer) (n : Option Nat) (s : State) :
    Runs (Block G) s (enterMode m x t n s) := (setModule_runs _ _ s).trans (post_runs _ _ _)

theorem busyAsserted_runs (m : ModuleId) (s : State) : Runs (Block G) s (busyAsserted m s) := by
  unfold busyAsserted
  dsimp only
  split
  · exact (((setModule_runs _ _ s).trans (enterMode_runs ..)).trans (examineSettle_runs _)).trans (arbitrate_runs _)
  · exact setModule_runs _ _ s

theorem busyDeasserted_runs (m : ModuleId) (s : State) : Runs (Block G) s (busyDeasserted m s) := by
  unfold busyDeasserted
  dsimp only
  split
  · exact (((setModule_runs _ _ s).trans (enterMode_runs ..)).trans (examineSettle_runs _)).trans (arbitrate_runs _)
  · exact ((((setModule_runs _ _ s).trans (pending_runs _ _ (foldl_postProgram_distinct id _))).trans (enterMode_runs ..)).trans
      (examineSettle_runs _)).trans (arbitrate_runs _)
  · exact setModule_runs _ _ s

theorem enterStalled_runs (m : ModuleId) (s : State) : Runs (Block G) s (enterStalled m s) :=
  ((((pass_runs s _ (le_max_of_le_right (List.length_filter_le ..))).trans (discardAll_runs _ _)).trans (enterMode_runs ..)).trans
    (examineSettle_runs _)).trans (arbitrate_runs _)

theorem setupModule_runs (s : State) (m : ModuleId) : Runs (Block G) s (setupModule s m) := by
  unfold setupModule
  dsimp only
  split
  · exact (setModule_runs _ _ s).trans (enterMode_runs ..)
  · exact setModule_runs _ _ s

theorem endOfMessage_runs (t : Transmission) (s : State) : Runs (Block G) s (endOfMessage t s) := by
  have ended : Runs (Block G) s { s with bus := { s.bus with transmission := none, idleTimer := some (s.timer 100000) } } :=
    bus_runs s _ ⟨le_max_right .., le_max_right .., id, fun _ h => by cases h⟩
  unfold endOfMessage
  dsimp only
  split
  · exact ended.tail (.seq _ ⟨rfl, .inl rfl, .inl rfl⟩)
  · exact ended

/-! ## The Layer Engine -/

theorem layerUpdate_runs (s : State) (x : Layer) (hk : x.keyOns.length ≤ max 32 s.layer.keyOns.length)
    (hc : x.controls.length ≤ max 16 s.layer.controls.length) : Runs (Block G) s { s with layer := x } := (Block.layer x hk hc).run

theorem placeKeyOn_runs (n i v : Nat) (s : State) : Runs (Block G) s (placeKeyOn n i v s) := by
  unfold placeKeyOn
  split
  · next room =>
    have placed : Runs (Block G) s { s with layer := { s.layer with keyOns := s.layer.keyOns ++ [⟨n, i, v⟩] } } :=
      layerUpdate_runs s _ (by simp; omega) (Nat.le_max_right 16 s.layer.controls.length)
    exact placed.tail (.flag _ _ _)
  · have counted : Runs (Block G) s { s with layer := { s.layer with keyOnDrops := saturate (s.layer.keyOnDrops + 1) } } :=
      layer_runs s _ (Nat.le_refl s.layer.keyOns.length) (Nat.le_refl s.layer.controls.length)
    exact counted.tail (.flag _ _ _)

theorem placeKeyOns_runs (n : Nat) : ∀ (i : Nat) (vs : List Nat) (s : State), Runs (Block G) s (placeKeyOns n i vs s)
  | _, [], _ => .refl
  | i, v :: vs, s => (placeKeyOn_runs n i v s).trans (placeKeyOns_runs n (i + 1) vs _)

/-- At most one destination is formed of each zone. -/
theorem formDests_length_le (key v : Nat) : ∀ (formed : List (Dest × Nat)) (zs : List Zone),
    (formDests key v formed zs).length ≤ formed.length + zs.length
  | _, [] => Nat.le_refl _
  | formed, z :: zs => by
    unfold formDests
    split
    · exact (formDests_length_le key v formed zs).trans (by simp)
    · dsimp only
      split
      · exact (formDests_length_le key v formed zs).trans (by simp)
      · exact (formDests_length_le key v _ zs).trans (by simp; omega)

theorem bank_runs (k : BankId) (x : Bank) (s : State) (h : BankStep (s.bank k) x) : Runs (Block G) s (s.setBank k x) := (Block.bank k x h).run

theorem countOverflow_runs (n : Nat) (s : State) : Runs (Block G) s (countOverflow n s) :=
  bank_runs _ _ s ⟨id, rfl, fun y h => ⟨y, h, id⟩⟩

theorem takeStrike_runs (l : LinkId) (c : Channel) (key v : Nat) (s : State) : Runs (Block G) s (takeStrike l c key v s) := by
  have counted : Runs (Block G) s (if (s.activeBank.matching l c key v).length ≤ 4 then s
      else countOverflow ((s.activeBank.matching l c key v).length - 4) s) := by
    split
    · exact .refl
    · exact countOverflow_runs _ s
  unfold takeStrike
  dsimp only
  generalize (if (s.activeBank.matching l c key v).length ≤ 4 then s
      else countOverflow ((s.activeBank.matching l c key v).length - 4) s) = x at counted ⊢
  have few := formDests_length_le key v [] ((s.activeBank.matching l c key v).take 4)
  generalize formDests key v [] ((s.activeBank.matching l c key v).take 4) = dests at few ⊢
  split
  · exact counted
  · next some =>
    have four : dests.length ≤ 4 := few.trans (by simp)
    have one : 1 ≤ dests.length := by
      cases dests with
      | nil => exact absurd rfl some
      | cons _ _ => simp
    split
    · next room => exact (counted.tail (.make _ room ⟨one, four⟩)).trans (placeKeyOns_runs _ _ _ _)
    · exact counted.trans (dropStrike_runs _ _)

theorem offerControl_runs (c : ControlItem) (s : State) : Runs (Block G) s (offerControl c s) := by
  unfold offerControl
  split
  · exact controls_runs s _ (by simp)
  · split
    · exact layerUpdate_runs s _ (le_max_right ..) (by simp only [List.length_append, List.length_singleton]; omega)
    · exact layer_runs s _ (Nat.le_refl s.layer.keyOns.length) (Nat.le_refl s.layer.controls.length)

theorem takeControl_runs (l : LinkId) (c : Channel) (x : ControlId) (v : Nat) (s : State) : Runs (Block G) s (takeControl l c x v s) :=
  foldl_runs (fun t (zo : Zone × Bool) => offerControl_runs ⟨zo.1.module, zo.1.channel, x, v⟩ t) _ s

theorem takeEvent_runs (l : LinkId) (e : KeyEvent) (s : State) : Runs (Block G) s (takeEvent l e s) := by
  cases e
  · exact takeStrike_runs ..
  · exact takeControl_runs ..
  · exact takeControl_runs ..

theorem setZoneOn_runs (i : Nat) (on : Bool) (s : State) : Runs (Block G) s (setZoneOn i on s) := by
  have set : Runs (Block G) s (s.setBank s.banks.active { s.activeBank with enabled := s.activeBank.enabled.set i on }) :=
    bank_runs _ _ s ⟨fun h => (List.length_set ..).trans h, rfl, fun y h => ⟨y, h, id⟩⟩
  have level (v : Option Nat) (x : State) : Runs (Block G) x (setLevel i v x) := levels_runs x _
  unfold setZoneOn
  dsimp only
  repeat' split
  all_goals first | exact .refl | exact set.trans (level _ _) | exact set

theorem putAt_length {α β : Type} (i : Nat) (x : α) (y : β) {l : List α} {m : List β} (h : l.length = m.length) :
    (putAt i x l).length = (putAt i y m).length := by
  unfold putAt
  rw [h]
  split <;> simp [h]

/-- A zone record enters a bank in place of a zone or at the end: the song keeps its header. -/
theorem putZone_step (b : Bank) (i : Nat) (z : Zone) : BankStep b (b.putZone i z) := by
  unfold Bank.putZone
  split
  · next song hs =>
    refine ⟨fun h => ?_, by simp [hs], fun y hy => ⟨song, hs, ?_⟩⟩
    · simp only [Bank.zones, hs] at h
      exact putAt_length i _ _ h
    · cases hy
      exact id
  · exact ⟨id, rfl, fun y h => ⟨y, h, id⟩⟩

theorem editActive_runs (i : Nat) (z : Zone) (s : State) : Runs (Block G) s (editActive i z s) :=
  (bank_runs _ _ s (putZone_step ..)).trans (levels_runs _ _)

theorem editStandby_runs (i : Nat) (z : Zone) (s : State) : Runs (Block G) s (editStandby i z s) := bank_runs _ _ s (putZone_step ..)

/-- A change of every link's receiver that leaves the FIFOs or shortens them. -/
theorem links_runs (s : State) (x : Vector KeyLink 4) (h : ∀ l : LinkId, (getAt x l).fifo.length ≤ (s.link l).fifo.length) :
    Runs (Block G) s { s with links := x } := (Block.links x (fun l => le_max_of_le_right (h l))).run

theorem panicAll_runs (s : State) : Runs (Block G) s (panicAll s) := by
  have emptied (x : State) : Runs (Block G) x { x with
      layer := { x.layer with keyOns := [], controls := [], levels := x.layer.levels.map (fun _ => none) }
      links := x.links.map KeyLink.atPanic } :=
    (layer_runs x { x.layer with keyOns := [], controls := [], levels := x.layer.levels.map (fun _ => none) } (Nat.zero_le _)
      (Nat.zero_le _)).trans (links_runs _ (x.links.map KeyLink.atPanic) (fun l => by simp [getAt, State.link, KeyLink.atPanic]))
  exact (((placeSilence_runs s).trans (emptied _)).tail .panic).trans (arbitrate_runs _)

/-! ## The key links -/

theorem setLink_runs (l : LinkId) (x : KeyLink) (s : State) (h : x.fifo.length ≤ max 16 (s.link l).fifo.length) :
    Runs (Block G) s (s.setLink l x) := by
  refine (Block.links _ fun k => ?_).run
  by_cases hk : k = l
  · subst hk; rw [getAt_setAt_same]; exact h
  · rw [getAt_setAt_other _ _ hk]; exact le_max_right ..

/-- A change of a link that leaves its FIFO. -/
theorem setLink_same_runs (l : LinkId) (x : KeyLink) (s : State) (h : x.fifo = (s.link l).fifo) : Runs (Block G) s (s.setLink l x) :=
  setLink_runs l x s (h ▸ le_max_right ..)

theorem enterKeepAlive_runs (l : LinkId) (x : KeepAlive) (t : Option Timer) (n : Option Nat) (s : State) :
    Runs (Block G) s (enterKeepAlive l x t n s) := (setLink_same_runs l _ s (by rfl)).trans (post_runs _ _ _)

theorem goodByte_runs (l : LinkId) (s : State) : Runs (Block G) s (goodByte l s) := by
  unfold goodByte
  split
  · exact .refl
  · exact setLink_same_runs l _ s rfl
  · exact enterKeepAlive_runs ..

theorem offer_fifo_le (k : KeyLink) (b : Byte) (now : Count) : (k.offer b now).fifo.length ≤ max 16 k.fifo.length := by
  unfold KeyLink.offer
  split
  · simp only [List.length_append, List.length_singleton]; omega
  · exact le_max_right ..

theorem linkCharacter_runs (l : LinkId) (b : Byte) (x : Bool) (s : State) : Runs (Block G) s (linkCharacter l b x s) := by
  unfold linkCharacter
  split
  · exact .refl
  · split
    · exact setLink_same_runs l _ s rfl
    · exact (goodByte_runs l s).trans (setLink_runs l _ _ (offer_fifo_le ..))

theorem pend_runs (l : LinkId) (e : KeyEvent) (s : State) : Runs (Block G) s (pend l e s) := setLink_same_runs l _ s rfl

theorem setSustain_runs (l : LinkId) (c : Channel) (on : Bool) (s : State) : Runs (Block G) s (setSustain l c on s) := by
  have lifted (k : KeyLink) (lift : Bool) (h : k.fifo = (s.link l).fifo) :
      Runs (Block G) s (if lift then sustainLift l c (s.setLink l k) else s.setLink l k) := by
    split
    · exact (setLink_same_runs l k s h).trans (sustainLift_runs _ _ _)
    · exact setLink_same_runs l k s h
  exact lifted _ _ rfl

theorem programAsCue_runs (l : LinkId) (n : Nat) (s : State) : Runs (Block G) s (programAsCue l n s) := by
  unfold programAsCue
  split
  · next on =>
    split
    · exact offerCue_runs _ (by simpa using (Bool.and_eq_true_iff.1 on).2)
    · exact .refl
  · exact .refl

theorem linkMessage_runs (l : LinkId) (m : LinkMessage) (s : State) : Runs (Block G) s (linkMessage l m s) := by
  unfold linkMessage
  repeat' split
  all_goals first
    | exact .refl
    | exact noteRelease_runs ..
    | exact pend_runs ..
    | exact setSustain_runs ..
    | exact programAsCue_runs ..

theorem data_fifo (k : KeyLink) (b : Byte) : (k.data b).1.fifo = k.fifo := by
  unfold KeyLink.data
  repeat' split
  all_goals rfl

theorem status_fifo (k : KeyLink) (x : LinkByte) : (k.status x).fifo = k.fifo := by cases x <;> rfl

theorem parseByte_runs (l : LinkId) (b : Byte) (t : Count) (s : State) : Runs (Block G) s (parseByte l b t s) := by
  have collected : Runs (Block G) s (s.setLink l ((s.link l).data b).1) := setLink_same_runs l _ s (data_fifo ..)
  unfold parseByte
  dsimp only
  split
  · exact .refl
  · split
    · exact enterKeepAlive_runs ..
    · exact .refl
  · split
    · split
      · exact collected.trans (linkMessage_runs ..)
      · exact collected
    · exact .refl
  · exact setLink_same_runs l _ s (status_fifo ..)

theorem takeByte_runs (l : LinkId) (s : State) : Runs (Block G) s (takeByte l s) := by
  unfold takeByte
  dsimp only
  split
  · next f fs _ hf =>
    refine (setLink_runs l _ s (le_max_of_le_right ?_)).trans (parseByte_runs ..)
    rw [hf]
    split <;> simp [KeyLink.atGap]
  · exact .refl

theorem linkSilent_runs (l : LinkId) (s : State) : Runs (Block G) s (linkSilent l s) :=
  ((setLink_runs l _ s (Nat.zero_le _)).tail (.release _)).trans (enterKeepAlive_runs ..)

theorem footSustainOn_runs (x : BitVec 4) (s : State) : Runs (Block G) s (footSustainOn x s) :=
  foldl_runs (fun t l => by
    split
    · exact setLink_same_runs l _ t rfl
    · exact .refl) _ s

theorem clearFoot_runs (s : State) (l : LinkId) : Runs (Block G) s (clearFoot s l) := by
  unfold clearFoot
  split
  · refine (setLink_same_runs l _ s (by rfl)).trans (foldl_runs (fun t c => ?_) _ _)
    split
    · exact .refl
    · exact sustainLift_runs l c t
  · exact .refl

theorem footSustainOff_runs (f : SwitchId) (x : BitVec 4) (s : State) : Runs (Block G) s (footSustainOff f x s) :=
  foldl_runs (fun t l => by
    split
    · exact clearFoot_runs t l
    · exact .refl) _ s

theorem dropDisabled_runs (s : State) : Runs (Block G) s (dropDisabled s) :=
  foldl_runs (fun t l => by
    split
    · exact .refl
    · exact setLink_runs l _ t (Nat.zero_le _)) _ s

/-! ## Store operations -/

theorem op?_eq {s : State} {op : StoreOp} (h : s.op? = some op) : s.store.activity = .operating op := by
  unfold State.op? at h
  split at h
  · next ha => cases h; exact ha
  · cases h

theorem storeUpdate_runs (s : State) (x : Store) (ha : x.activity = s.store.activity) (hq : x.queue = s.store.queue) :
    Runs (Block G) s { s with store := x } := (Block.store x ha hq).run

/-- An operation that ends leaves the store to the fetches that wait. -/
theorem endOp_runs {s : State} {op : StoreOp} (h : s.store.activity = .operating op) : Runs (Block G) s (endOp s) :=
  (Block.opNext op h).run.tail .load

theorem post_activity (b : NoticeBody) (o : Option Origin) (s : State) : (post b o s).store = s.store := (post_frame b o s).at .store

theorem opFault_runs {s : State} {op : StoreOp} (x : FaultCause) (op' : StoreOp) (h : s.store.activity = .operating op) :
    Runs (Block G) s (opFault x op' s) := (post_runs _ _ s).trans (endOp_runs (op := op) (by rw [post_activity, h]))

theorem opDone_runs {s : State} {op : StoreOp} (op' : StoreOp) (h : s.store.activity = .operating op) :
    Runs (Block G) s (opDone op' s) := by
  unfold opDone
  dsimp only
  split
  · exact ((storeUpdate_runs s _ (by rfl) (by rfl)).trans (post_runs _ _ _)).trans (endOp_runs (op := op) (by rw [post_activity]; exact h))
  · exact (post_runs _ _ _).trans (endOp_runs (op := op) (by rw [post_activity]; exact h))

theorem flash_runs (s : State) (x : List Host.Cell) (h : FlashSound s → flashWf x = true) : Runs (Block G) s { s with flash := x } :=
  (Block.flash x h).run

theorem slice_length_le (bs : List Byte) (i n : Nat) : (slice bs i n).length ≤ n := by simp [slice]

theorem paddedRecord_length (r : List Byte) : (paddedRecord r).length = 4 * recordWords r := by
  simp only [paddedRecord, recordWords, List.length_append, List.length_replicate]; omega

theorem headerWord_length (m : Byte) (r : List Byte) : (headerWord m r).length = 4 := by
  have two : (num2 r.length).length = 2 := by
    unfold num2
    split <;> rfl
  simp [headerWord, two]

/-- A word of a record that fits its sector lies within the sector (R145, R186). -/
theorem programmedWord_fits {r : List Byte} (h : r.length ≤ 508) (k : Nat) : 4 * k + (programmedWord r k).length ≤ 512 ∨ programmedWord r k = [] := by
  unfold programmedWord
  split
  · next h0 => subst h0; simp [headerWord_length]
  · next hk =>
    have words := paddedRecord_length r
    by_cases hw : k ≤ recordWords r
    · left
      have short := slice_length_le (paddedRecord r) (4 * (k - 1)) 4
      unfold recordWords at hw
      omega
    · right
      unfold slice
      rw [List.drop_eq_nil_of_le (by omega), List.take_nil]

theorem sectorBase_le (k : Sector) : sectorBase k + 512 ≤ 33792 := by unfold sectorBase; omega

theorem programWord_wf {op : StoreOp} {s : State} (k : Nat) (hr : op.record.length ≤ 508) (h : flashWf s.flash = true) :
    flashWf (programWord op k s).flash = true := by
  have top := sectorBase_le op.sector
  rcases programmedWord_fits hr k with fits | none
  · exact programBytes_wf _ _ _ h (by omega)
  · simp only [programWord, none, programBytes]
    exact h

/-- A word of the operation in progress is programmed. -/
theorem programWord_runs {s : State} {op : StoreOp} (k : Nat) (h : s.store.activity = .operating op) :
    Runs (Block G) s (programWord op k s) :=
  flash_runs s _ (fun sound => programWord_wf k (sound.2 op h) sound.1)

theorem programWords_runs {op : StoreOp} : ∀ (k n : Nat) {s : State}, s.store.activity = .operating op →
    Runs (Block G) s (programWords op k n s)
  | _, 0, _, _ => .refl
  | k, n + 1, _, h => (programWord_runs k h).trans (programWords_runs (k + 1) n h)

theorem programWords_activity {op : StoreOp} (k n : Nat) (s : State) : (programWords op k n s).store = s.store :=
  (programWords_frame op k n s).at .store

theorem eraseEnd_runs {s : State} {op : StoreOp} (h : s.store.activity = .operating op) : Runs (Block G) s (eraseEnd op s) := by
  have erased : Runs (Block G) s { s with flash := eraseSector s.flash op.sector } :=
    flash_runs s _ (fun sound => eraseSector_wf _ _ sound.1)
  unfold eraseEnd
  dsimp only
  split
  · exact erased.trans (opFault_runs .supplyLow op (op := op) h)
  · split
    · exact erased.trans (opDone_runs op (op := op) h)
    · exact erased.tail (.opSet op _ h rfl)

theorem wordEnd_runs {s : State} {op new : StoreOp} (k : Nat) (h : s.store.activity = .operating op) (hr : new.record = op.record)
    (hs : new.sector = op.sector) : Runs (Block G) s (wordEnd new k s) := by
  have programmed : Runs (Block G) s (programWord new k s) := by
    unfold programWord
    rw [hr, hs]
    exact programWord_runs k h
  unfold wordEnd
  dsimp only
  split
  · exact programmed.trans (opFault_runs .supplyLow new (op := op) h)
  · split
    · exact programmed.tail (.opSet op _ h hr)
    · exact programmed.tail (.opSet op _ h hr)

theorem programWords_congr {op new : StoreOp} (hr : new.record = op.record) (hs : new.sector = op.sector) :
    ∀ (k n : Nat) (s : State), programWords new k n s = programWords op k n s
  | _, 0, _ => rfl
  | k, n + 1, s => by
    have word : programWord new k s = programWord op k s := by unfold programWord; rw [hr, hs]
    rw [programWords, programWords, word, programWords_congr hr hs]

theorem wordsEnd_runs {s : State} {op new : StoreOp} (k : Nat) (h : s.store.activity = .operating op) (hr : new.record = op.record)
    (hs : new.sector = op.sector) : Runs (Block G) s (wordsEnd new k s) := by
  unfold wordsEnd
  split
  · exact wordEnd_runs k h hr hs
  · rw [programWords_congr hr hs]
    exact (programWords_runs k _ h).tail (.opSet op _ (by rw [programWords_activity, h]) hr)

theorem verifyEnd_runs {s : State} {op : StoreOp} (d : Bool) (h : s.store.activity = .operating op) :
    Runs (Block G) s (verifyEnd op d s) := by
  unfold verifyEnd
  split
  · exact .single (.opSet op _ h rfl)
  · exact opFault_runs .verify op h

theorem markerEnd_runs {s : State} {op : StoreOp} (h : s.store.activity = .operating op) : Runs (Block G) s (markerEnd op s) := by
  refine (flash_runs s _ (fun sound => ?_)).trans (opDone_runs op (op := op) h)
  have top := sectorBase_le op.sector
  exact programBytes_wf _ _ _ sound.1 (by rw [headerWord_length]; omega)

theorem supplyAsserted_runs (s : State) : Runs (Block G) s (supplyAsserted s) := by
  have low : Runs (Block G) s { s with store := { s.store with supplyLow := true } } := storeUpdate_runs s _ rfl rfl
  unfold supplyAsserted
  dsimp only
  split
  · next op h =>
    split
    · exact low.trans (opFault_runs .supplyLow op (op := op) (op?_eq h))
    · exact low.tail (.opSet op _ (op?_eq h) rfl)
  · exact low

end Sys2Proof.Machine
end

section
/-! PROOF. The machine as a whole: the step and the queue of waiting commands, the reset state, the interval law of the tempo grid, and the
expiries that end a pulse (R1, R7, R47, R50, R106, R166, R167). -/

namespace Sys2Proof.Machine

/-- What an interval owes of the one before it: r, or 0 where T_g has changed. -/
def Grid.carried (g : Grid) : Nat := if g.fresh then 0 else g.remainder

/-! ## Commands: a request is the arrival of its frame, and no command touches the queue of waiting commands -/

/-- A request of the table does what the arrival of its frame does (log entry 3). -/
theorem exec_request {c : Instr} {p : Port} {tag k : Byte} {d : List Byte} (h : requestFrame c = some (p, tag, k, d)) (s : State) :
    exec c s = .next (arrive p k tag d s) := by
  cases c <;> cases h <;> rfl

theorem whileRunning_frame {ps : List Part} {f : State → State} (s : State) (h : SameBut ps s (f s)) :
    SameBut ps s (whileRunning f s) := by
  unfold whileRunning
  split
  · exact h
  · exact .refl _ s

theorem SameBut.ite {ps : List Part} {s t u : State} {c : Prop} [Decidable c] (ht : SameBut ps s t) (hu : SameBut ps s u) :
    SameBut ps s (if c then t else u) := by
  split
  · exact ht
  · exact hu

/-- Every part but the queue of waiting commands. -/
abbrev machineParts : List Part := .timebase :: .tap :: .click :: .links :: allEventParts

/-- An event that changes only parts of the machine leaves the queue of waiting commands. -/
theorem SameBut.pending {ps : List Part} {s t : State} (h : SameBut ps s t) (hp : Part.pending ∉ ps := by decide) :
    t.pending = s.pending := h.at .pending hp

theorem serveLink_frame (s : State) : SameBut (.links :: .layer :: strikeParts ++ closeParts) s (serveLink s) := by
  unfold serveLink
  split
  · exact (((setLink_frame s _ _).chain (layerUpdate_frame _ _) (rs := .links :: .layer :: strikeParts ++ closeParts)).chain
      (takeEvent_frame _ _ _) (rs := .links :: .layer :: strikeParts ++ closeParts)).chain (close_frame _)
  · exact .refl _ s

theorem refinRisingEdge_frame (x : State) : SameBut (markParts ++ closeParts) x
    (if x.follower.refinLevel ≠ some true then close (refinEdge (setFollower { x.follower with refinSample := some true } x)) else x) :=
  .ite (((setFollower_frame _ x).chain (refinEdge_frame _) (rs := markParts ++ closeParts)).chain (close_frame _)) (.refl _ x)

theorem fetchEnd_frame (s : State) (f : Fetch) : SameBut (fetchParts ++ .store :: closeParts) s (close (fetchEnded f s)) :=
  (fetchEnded_frame f s).chain (close_frame _)

theorem adcEnd_frame (s : State) (p : PedalId) (raw : Nat) :
    SameBut (.layer :: .board :: closeParts) s (close (pedalReading p raw { s with board := { s.board with adcBusy := none } })) :=
  ((boardUpdate_frame s _).chain (pedalReading_frame p raw _) (rs := .layer :: .board :: closeParts)).chain (close_frame _)

/-- No event of the part touches the queue of waiting commands. -/
theorem exec_event_pending {c : Instr} (h : requestFrame c = none) (hu : ∀ p tag k d, c ≠ .unknownKindRequest p tag k d) (s : State) :
    ∃ t, exec c s = .next t ∧ t.pending = s.pending := by
  cases c
  case unknownKindRequest p tag k d => exact absurd rfl (hu p tag k d)
  case powerOn => exact ⟨_, rfl, rfl⟩
  case crystalFound =>
    refine ⟨_, rfl, ?_⟩
    split <;> rfl
  case crystalWaitTimeout =>
    refine ⟨_, rfl, ?_⟩
    split
    · rfl
    · exact ((post_frame _ _ _).chain (transmitAll_frame _) (rs := lineParts)).pending
  case crystalLoss => exact ⟨_, rfl, (SameBut.ite (loseCrystal_frame s) (.refl _ s)).pending⟩
  case intervalCountdownExpiry => exact ⟨_, rfl, (onCountdown_frame s).pending⟩
  case refinRisingEdge => exact ⟨_, rfl, (whileRunning_frame s (refinRisingEdge_frame s)).pending⟩
  case refinSample high =>
    exact ⟨_, rfl, (whileRunning_frame s
      ((refinSampled_frame high s).chain (close_frame _) (rs := markParts ++ closeParts))).pending⟩
  case holdoverTimerExpiry => exact ⟨_, rfl, (onHoldoverTimer_frame s).pending⟩
  case holdoverPaceTimerExpiry => exact ⟨_, rfl, (onPaceTimer_frame s).pending⟩
  case clickPulseTimerExpiry line => exact ⟨_, rfl, (onClickTimer_frame line s).pending⟩
  case clkoutPulseTimerExpiry => exact ⟨_, rfl, (onClkoutTimer_frame s).pending⟩
  case keyLinkCharacter l b x =>
    exact ⟨_, rfl, (whileRunning_frame s
      ((linkCharacter_frame l b x s).chain (transmitAll_frame _) (rs := .links :: lineParts))).pending⟩
  case parserTakeByte l => exact ⟨_, rfl, ((takeByte_frame l s).chain (close_frame _) (rs := parseParts ++ closeParts)).pending⟩
  case keepAliveTimerExpiry l => exact ⟨_, rfl, (onKeepAliveTimer_frame l s).pending⟩
  case layerEngineTakeEvent => exact ⟨_, rfl, (serveLink_frame s).pending⟩
  case endOfTransmission => exact ⟨_, rfl, (onTransmission_frame s).pending⟩
  case idleTimerExpiry => exact ⟨_, rfl, (onIdleTimer_frame s).pending⟩
  case moduleBusyAsserted m =>
    have closed : SameBut closeParts s (transmitAll (busyAsserted m s)) := (busyAsserted_frame m s).chain (transmitAll_frame _)
    exact ⟨_, rfl, SameBut.pending (whileRunning_frame s (.ite (.refl closeParts s) closed))⟩
  case moduleBusyDeasserted m =>
    have closed : SameBut closeParts s (transmitAll (busyDeasserted m s)) := (busyDeasserted_frame m s).chain (transmitAll_frame _)
    exact ⟨_, rfl, (whileRunning_frame s (.ite closed (.refl _ s))).pending⟩
  case busyLineSample x =>
    exact ⟨_, rfl, (whileRunning_frame s
      ((busySampleAll_frame x s).chain (transmitAll_frame _) (rs := .draws :: closeParts))).pending⟩
  case busyTimerExpiry m => exact ⟨_, rfl, (onBusyTimer_frame m s).pending⟩
  case restartSilenceEnd =>
    refine ⟨_, rfl, ?_⟩
    split
    · exact (SameBut.ite (silenceEnd_frame _ s) (.refl _ s)).pending
    · rfl
  case settleTimerExpiry => exact ⟨_, rfl, (onSettleTimer_frame s).pending⟩
  case retentionTimerExpiry => exact ⟨_, rfl, (onRetentionTimer_frame s).pending⟩
  case fetchEnd =>
    refine ⟨_, rfl, ?_⟩
    split
    · exact (fetchEnd_frame s _).pending
    · rfl
  case flashEraseEnd =>
    refine ⟨_, rfl, ?_⟩
    split
    · next op _ =>
      have closed : SameBut opCloseParts s (close (eraseEnd op s)) := (eraseEnd_frame op s).chain (close_frame _)
      exact (SameBut.ite closed (.refl _ s)).pending
    · rfl
  case flashWordProgrammed => exact ⟨_, rfl, (onWord_frame s).pending⟩
  case recordWordsProgrammed => exact ⟨_, rfl, (onWords_frame s).pending⟩
  case readBackEnd differs =>
    refine ⟨_, rfl, ?_⟩
    split
    · next op _ => exact (SameBut.ite (opExpiry_frame op (verifyEnd_frame op differs) s) (.refl _ s)).pending
    · rfl
  case markerWordProgrammed => exact ⟨_, rfl, (onMarker_frame s).pending⟩
  case supplyLowAsserted =>
    exact ⟨_, rfl, SameBut.pending (whileRunning_frame s (.ite (.refl closeParts s) (supplyAccepted_frame true s)))⟩
  case supplyLowDeasserted =>
    exact ⟨_, rfl, (whileRunning_frame s (.ite (supplyAccepted_frame false s) (.refl _ s))).pending⟩
  case footswitchPress f =>
    exact ⟨_, rfl, (whileRunning_frame s (.ite ((pressAccepted_frame f s).chain (close_frame _) (rs := boardParts ++ closeParts))
      (.refl _ s))).pending⟩
  case footswitchRelease f =>
    exact ⟨_, rfl, (whileRunning_frame s (.ite ((releaseAccepted_frame f s).chain (close_frame _) (rs := boardParts ++ closeParts))
      (.refl _ s))).pending⟩
  case footswitchSample x =>
    exact ⟨_, rfl, (whileRunning_frame s
      ((switchSample_frame x s).chain (close_frame _) (rs := boardParts ++ closeParts))).pending⟩
  case holdTimerExpiry f => exact ⟨_, rfl, (onHoldTimer_frame f s).pending⟩
  case adcConversionBegin => exact ⟨_, rfl, (onAdcTimer_frame s).pending⟩
  case adcConversionEnd raw =>
    refine ⟨_, rfl, ?_⟩
    split
    · exact (adcEnd_frame s _ _).pending
    · rfl
  case indicatorSlotStart => exact ⟨_, rfl, (onSlotTimer_frame s).pending⟩
  case indicatorDriveEnd => exact ⟨_, rfl, (onDriveTimer_frame s).pending⟩
  case beatFlashTimerExpiry => exact ⟨_, rfl, (onBeatFlash_frame s).pending⟩
  case downbeatFlashTimerExpiry => exact ⟨_, rfl, (onDownbeatFlash_frame s).pending⟩
  case blinkPhaseToggle => exact ⟨_, rfl, (onBlinkTimer_frame s).pending⟩
  case controlPortCharacter p b x =>
    exact ⟨_, rfl, (whileRunning_frame s
      ((portCharacter_frame p b x s).chain (transmitAll_frame _) (rs := serviceParts ++ lineParts))).pending⟩
  case gapTimerExpiry p => exact ⟨_, rfl, (onGapTimer_frame p s).pending⟩
  case portFrameTransmitted p => exact ⟨_, rfl, (onFrameTimer_frame p s).pending⟩
  all_goals exact absurd h (by simp [requestFrame])

/-- Settles O2: a request is an arrival, whose frame leaves the queue; the events have their own frames. -/
theorem everyCommandCompletes : Obligations.EveryCommandCompletes := by
  intro c s
  have arrival (p : Port) (k tag : Byte) (d : List Byte) : (arrive p k tag d s).pending = s.pending := (arrive_frame p k tag d s).pending
  by_cases hu : ∃ p tag k d, c = .unknownKindRequest p tag k d
  · obtain ⟨p, tag, k, d, rfl⟩ := hu
    exact ⟨_, rfl, arrival p k tag d⟩
  cases h : requestFrame c with
  | none => exact exec_event_pending h (fun p tag k d e => hu ⟨p, tag, k, d, e⟩) s
  | some r =>
    obtain ⟨p, tag, k, d⟩ := r
    exact ⟨_, exec_request h s, arrival p k tag d⟩

/-- Settles O1: both clauses are the two cases of `step`. -/
theorem stepRunsFront : Obligations.StepRunsFront := by
  constructor
  · intro c rest s h
    simp [step, h]
  · intro s h
    simp [step, h]

/-! ## The interval law (R7) -/

theorem interval_span (g : Grid) : (g.interval 0).span = (25000000 + g.carried) / g.tempo := rfl

theorem interval_carried (g : Grid) : (g.interval 0).carried = (25000000 + g.carried) % g.tempo :=
  (Nat.mod_eq_sub_div_mul ..).symm

/-- Each interval leaves to the next exactly what its whole microseconds fall short of, so that the sum of n is the whole part of the time
they owe together. -/
theorem spans_eq : ∀ (n : Nat) (g : Grid), g.carried < g.tempo → g.spans n = (n * 25000000 + g.carried) / g.tempo
  | 0, g, h => by simp [Grid.spans, Nat.div_eq_of_lt h]
  | n + 1, g, h => by
    have tempo : (g.interval 0).tempo = g.tempo := rfl
    have pos : 0 < g.tempo := Nat.zero_lt_of_lt h
    have rest := spans_eq n (g.interval 0) (by rw [interval_carried, tempo]; exact Nat.mod_lt _ pos)
    have owed : (n + 1) * 25000000 + g.carried =
        (n * 25000000 + (25000000 + g.carried) % g.tempo) + g.tempo * ((25000000 + g.carried) / g.tempo) := by
      have := Nat.mod_add_div (25000000 + g.carried) g.tempo
      omega
    rw [Grid.spans, rest, interval_span, interval_carried, tempo, owed, Nat.add_mul_div_left _ _ pos, Nat.add_comm]

/-- Settles O13: with nothing carried into the first interval, the n intervals owe n × 25,000,000 / T_g µs. -/
theorem intervalLaw : Obligations.IntervalLaw := by
  intro n g pos h
  have none : g.carried = 0 := by rcases h with h | h <;> simp [Grid.carried, h]
  rw [spans_eq n g (by rwa [none]), none, Nat.add_zero]

/-! ## The reset state (R2) -/

theorem controlPort_initial_sound : ControlPort.initial.Sound :=
  ⟨by decide, List.Pairwise.nil, by simp [ControlPort.initial], by decide, by decide, by decide⟩

theorem reset_gridSound : GridSound State.reset where
  tempo := by unfold TempoOk; decide
  followTempo := by unfold TempoOk; decide
  remainder := by decide
  ramp := by simp [State.reset, Grid.initial]
  correction := by simp [State.reset, Grid.initial]
  meter := by decide
  tick := by decide
  beat := by decide
  bar := by decide
  countIn := by decide
  songA := by simp [State.reset, Banks.initial, Bank.empty]
  songB := by simp [State.reset, Banks.initial, Bank.empty]
  taps := by simp [State.reset, TapTimer.initial]

theorem reset_notesSound : NotesSound State.reset where
  one := List.Pairwise.nil
  serial := by simp [State.reset, Notes.initial]
  dests := by simp [State.reset, Notes.initial]
  unended := by simp [State.reset, Notes.initial]

theorem reset_changeSound : ChangeSound State.reset where
  enabled := by intro k; cases k <;> rfl
  retained := by decide
  retention := by decide
  loading := by decide
  armed := by decide
  reset := by decide
  cueFetch := by decide
  setupFetch := by decide
  setlistFetch := by decide
  songFetch := by decide
  readFetch := by intro p; cases p <;> decide
  idle := by decide
  service := by intro p; cases p <;> decide
  oneReply := by intro p; cases p <;> decide
  silence := by simp [State.reset, Bus.initial]

/-- Settles O3: every value is the one `State.reset` writes, and each invariant holds of it. -/
theorem resetSound : Obligations.ResetSound := by
  refine ⟨rfl, rfl, rfl, rfl, rfl, rfl, rfl, rfl, rfl, rfl, rfl, rfl, rfl, rfl, rfl, rfl, rfl, rfl, by decide, rfl, rfl, rfl, rfl, rfl,
    ⟨rfl, by simp [State.reset, Store.initial]⟩, fun p => ?_, ?_, reset_gridSound, ?_, reset_notesSound, List.Pairwise.nil,
    reset_changeSound⟩
  · cases p <;> exact controlPort_initial_sound
  · constructor <;> decide
  · constructor <;> decide

/-! ## Expiries that end a pulse (R47, R50, R106, R166, R167) -/

/-- Settles O28: each expiry writes one field of one block, at whatever count value it is due. -/
theorem pulsesEnd : Obligations.PulsesEnd := by
  intro s tm
  refine ⟨fun h => ?_, fun h => ?_, fun h => ?_, fun h => ?_, fun h => ?_, fun h => ?_, fun h => ?_, fun h => ?_⟩
  · simp only [exec, execClickPulseTimerExpiry, onClickTimer, Click.timer, h, expireAt, State.expired]
    split <;> rfl
  · simp only [exec, execClickPulseTimerExpiry, onClickTimer, Click.timer, h, expireAt, State.expired]
    split <;> rfl
  · simp only [exec, execClickPulseTimerExpiry, onClickTimer, Click.timer, h, expireAt, State.expired]
    split <;> rfl
  · simp only [exec, execClkoutPulseTimerExpiry, onClkoutTimer, h, expireAt, State.expired]
    split <;> rfl
  · simp only [exec, execBeatFlashTimerExpiry, onBeatFlash, h, expireAt, State.expired]
    split <;> rfl
  · simp only [exec, execDownbeatFlashTimerExpiry, onDownbeatFlash, h, expireAt, State.expired]
    split <;> rfl
  · simp only [exec, execIndicatorDriveEnd, onDriveTimer, h, expireAt, State.expired]
    split <;> rfl
  · simp only [exec, execIdleTimerExpiry, onIdleTimer, h, expireAt, State.expired]
    split <;> rfl

end Sys2Proof.Machine
end

section
/-! PROOF. Every step is a run of the works of `Block GridWork` and `PortEvent`: the pedal board, the requests, the ports, the timed events and
the commands, each by its works. -/

namespace Sys2Proof.Machine

variable {G : State → State → Prop}

/-! ## The pedal board -/

theorem runFree_runs {R : State → State → Prop} (hd : ∀ s : State, R s s.drew) {f : Instr → State → State}
    (hf : ∀ e s, Runs R s (f e s)) (es : List Instr) (s : State) : Runs R s (runFree f es s) := by
  unfold runFree
  split
  · exact foldl_runs (fun t e => hf e t) es s
  · exact (Relation.ReflTransGen.single (hd s)).trans (foldl_runs (fun t e => hf e t) _ _)

theorem drew_block (s : State) : Block G s s.drew := .quiet (drew_frame s).mono

theorem setSwitch_runs (f : SwitchId) (x : Switch) (s : State) : Runs (Block G) s (s.setSwitch f x) :=
  quiet_runs (setSwitch_frame s f x).mono

theorem start_runs (o : Origin) (s : State) : Runs (Block GridWork) s (start o s) := .single (.grid (.start o))

/-- STOP's own work, and the take that falls due after it. -/
theorem stop_runs (o : Origin) (s : State) : Runs (Block GridWork) s (stop o s) :=
  (Relation.ReflTransGen.single (Block.grid (.stop o))).tail (.grid .due)

theorem takeNow_runs (s : State) : Runs (Block GridWork) s (takeNow s) := .single (.grid .takeNow)

theorem offerPedalCue_runs (c : Option Cue) {s : State} (h : s.inReset = false) : Runs (Block G) s (offerPedalCue c s) := by
  unfold offerPedalCue
  split
  · exact offerCue_runs _ h
  · exact .refl

theorem perform_runs (a : Action) (s : State) : Runs (Block GridWork) s (perform a s) := by
  have free (h : ¬ s.inReset = true) : s.inReset = false := by simpa using h
  cases a with
  | none => exact .refl
  | startStop => dsimp only [perform]; split; exacts [start_runs .pedal s, stop_runs .pedal s]
  | tap => exact .single (.grid .tap)
  | clickMute => exact quiet_runs (setMute_frame _ s).mono
  | zoneToggle i => dsimp only [perform]; split; exacts [setZoneOn_runs .., .refl]
  | sustain links => exact footSustainOn_runs links s
  | setlistStep forward => dsimp only [perform]; split; exacts [.refl, offerPedalCue_runs _ (free ‹_›)]
  | cueEntry entry => dsimp only [perform]; split; exacts [.refl, offerPedalCue_runs _ (free ‹_›)]
  | cancelCue => dsimp only [perform]; split; exacts [.refl, cancelCue_runs .pedal s]
  | takeNow => dsimp only [perform]; split; exacts [.refl, takeNow_runs s]

theorem pressAccepted_runs (f : SwitchId) (s : State) : Runs (Block GridWork) s (pressAccepted f s) := by
  unfold pressAccepted
  dsimp only
  split
  · exact (setSwitch_runs f _ s).trans (perform_runs _ _)
  · exact setSwitch_runs f _ s

theorem releaseHalf_runs (f : SwitchId) (a : Action) (s : State) : Runs (Block GridWork) s (releaseHalf f a s) := by
  unfold releaseHalf
  split
  · exact footSustainOff_runs ..
  · exact .refl

theorem releaseAccepted_runs (f : SwitchId) (s : State) : Runs (Block GridWork) s (releaseAccepted f s) := by
  unfold releaseAccepted
  dsimp only
  split
  · exact setSwitch_runs f _ s
  · split
    · exact (setSwitch_runs f _ s).trans (releaseHalf_runs _ _ _)
    · split
      · exact (setSwitch_runs f _ s).trans (perform_runs _ _)
      · exact setSwitch_runs f _ s

theorem holdExpired_runs (f : SwitchId) (s : State) : Runs (Block GridWork) s (holdExpired f s) :=
  (setSwitch_runs f _ s).trans (perform_runs _ _)

theorem switchSample_runs (x : BitVec 8) (s : State) : Runs (Block GridWork) s (switchSample x s) := by
  unfold switchSample
  dsimp only
  refine (quiet_runs (boardUpdate_frame s _).mono).trans (runFree_runs drew_block (fun e t => ?_) _ _)
  split
  · exact pressAccepted_runs _ t
  · exact releaseAccepted_runs _ t
  · exact .refl

theorem busySampleAll_runs (x : BitVec 8) (s : State) : Runs (Block G) s (busySampleAll x s) := by
  unfold busySampleAll
  dsimp only
  refine (bus_runs s _ (.kept (by rfl) (by rfl) (by rfl) (by rfl))).trans (runFree_runs drew_block (fun e t => ?_) _ _)
  split
  · exact busyAsserted_runs _ t
  · exact busyDeasserted_runs _ t
  · exact .refl

theorem pedalReading_runs (p : PedalId) (raw : Nat) (s : State) : Runs (Block G) s (pedalReading p raw s) := by
  have set : Runs (Block G) s (s.setPedal p ((s.pedal p).settle (getAt s.setup.calibration p) raw)) :=
    quiet_runs (setPedal_frame s _ _).mono
  have fill (x : State) : Runs (Block G) x (fillFromPedal p x) := levels_runs x _
  unfold pedalReading
  dsimp only
  split
  · split
    · exact set
    · exact set.trans (fill _)
  · split
    · exact set.trans (post_runs _ _ _)
    · exact (set.trans (fill _)).trans (post_runs _ _ _)

/-! ## The checks of a record (Section 12.5) -/

theorem checked_bind_eq_ok {α β : Type} {c : Checked α} {f : α → Checked β} {b : β} :
    (c >>= f) = .ok b ↔ ∃ a, c = .ok a ∧ f a = .ok b := by
  cases c with
  | error n => simp [bind, Except.bind]
  | ok a => simp [bind, Except.bind]

theorem checked_pure_eq_ok {α : Type} {a b : α} : (pure a : Checked α) = .ok b ↔ a = b := by simp [pure, Except.pure]

theorem field_eq_ok {n : Nat} {ok : Bool} {u : Unit} : field n ok = .ok u ↔ ok = true := by cases ok <;> simp [field]

theorem pick_eq_ok {α : Type} {n : Nat} {x : Option α} {a : α} : pick n x = .ok a ↔ x = some a := by cases x <;> simp [pick]

theorem inRange_iff {v lo hi : Nat} : inRange v lo hi = true ↔ lo ≤ v ∧ v ≤ hi := by simp [inRange]

/-- A song record that passes its checks has the length its counts say and gives a song in range. -/
theorem parseSong_ok {r : List Byte} {x : Song} (h : parseSong r = .ok x) : r.length ≤ 320 ∧ x.Ok := by
  unfold parseSong at h
  simp only [checked_bind_eq_ok, field_eq_ok, pick_eq_ok, checked_pure_eq_ok, inRange_iff, beq_iff_eq, exists_const] at h
  obtain ⟨length, -, tempo, _, -, meter, _, -, countIn, -, _, -, -, zones, programs, -, _, -, _, -, rfl⟩ := h
  exact ⟨by omega, tempo, meter.1, meter.2, countIn.2⟩

theorem decodeSong_ok {r : List Byte} {x : Song} (h : decodeSong r = some x) : x.Ok := by
  unfold decodeSong at h
  cases hp : parseSong r with
  | error n => rw [hp] at h; cases h
  | ok y => rw [hp] at h; cases h; exact (parseSong_ok hp).2

theorem fetchedSong_ok {s : State} {k : Sector} {x : Song} (h : s.fetchedSong k = some x) : x.Ok := by
  unfold State.fetchedSong at h
  split at h
  · exact decodeSong_ok h
  · cases h

/-! ## Requests -/

theorem checked_runs {α : Type} {R : State → State → Prop} (c : Checked α) (s : State) (f : α → Served)
    (h : ∀ x, c = .ok x → Runs R s (f x).1) : Runs R s (checked c s f).1 := by
  cases c with
  | error n => exact .refl
  | ok x => exact h x rfl

/-- A store request begins an operation whose record fits its sector. -/
theorem storeRequest_runs (k : OpKind) (p : Port) (x : Checked (Sector × List Byte)) (s : State)
    (h : ∀ y, x = .ok y → y.2.length ≤ 508) : Runs (Block G) s (storeRequest k p x s).1 := by
  unfold storeRequest
  split
  · exact .refl
  · split
    · exact .refl
    · next idle =>
      split
      · exact .refl
      · exact checked_runs _ _ _ fun y hy => .single (.opBegin _ (not_not.1 idle) (h y hy))

theorem slotField_record {slot : Byte} {y : Sector × List Byte} (h : (do let k ← slotField slot; return (k, [])) = (.ok y : Checked _)) :
    y.2.length ≤ 508 := by
  simp only [checked_bind_eq_ok, checked_pure_eq_ok] at h
  obtain ⟨k, -, rfl⟩ := h
  exact Nat.zero_le _

theorem songFields_record {slot : Byte} {r : List Byte} {y : Sector × List Byte} (h : songFields slot r = .ok y) : y.2.length ≤ 508 := by
  simp only [songFields, checked_bind_eq_ok, checked_pure_eq_ok] at h
  obtain ⟨k, -, x, hx, rfl⟩ := h
  exact (parseSong_ok hx).1.trans (by decide)

theorem setlistFields_record {c : Byte} {es : List Byte} {y : Sector × List Byte} (h : setlistFields c es = .ok y) : y.2.length ≤ 508 := by
  simp only [setlistFields, checked_bind_eq_ok, checked_pure_eq_ok, field_eq_ok, Bool.and_eq_true, decide_eq_true_eq, beq_iff_eq] at h
  obtain ⟨-, ⟨few, same⟩, -, -, rfl⟩ := h
  simp only [List.length_cons]
  omega

theorem setupFields_record {r : List Byte} {y : Sector × List Byte} (hr : r.length = 126) (h : setupFields r = .ok y) :
    y.2.length ≤ 508 := by
  simp only [setupFields, checked_bind_eq_ok, checked_pure_eq_ok] at h
  obtain ⟨-, -, rfl⟩ := h
  simp [hr]

theorem beginRestart_runs {s : State} (h : s.inReset = false) : Runs (Block G) s (beginRestart s) := by
  have taken : Runs (Block G) s (restartTaken s) := .single (.restart h)
  rw [beginRestart_eq]
  split
  · exact taken.trans (beginRestartSilence_runs rfl)
  · exact taken

/-- A request outside a reset, apart from those that change its port's settings and the reading of a song, is a run of the blocks' works. -/
theorem handle_runs {k : RequestKind} (p : Port) {d : List Byte} {s : State} (hr : s.inReset = false) (hl : k.lengthOk d.length = true)
    (hm : k ≠ .setNoticeMask) (hp : k ≠ .setPositionNotices) (hs : k ≠ .readSong) : Runs (Block GridWork) s (handle k p d s).1 := by
  have closed {t : State} (r : Runs (Block GridWork) s t) : Runs (Block GridWork) s (done (arbitrate t)).1 := r.trans (arbitrate_runs t)
  cases k with
  | start => exact closed (start_runs _ s)
  | stop => exact closed (stop_runs _ s)
  | setTempo =>
    unfold handle requestSetTempo
    dsimp only
    split
    · exact .refl
    · next h => exact .single (.grid (.tempo _ h))
  | setTempoSource => exact checked_runs _ _ _ fun x _ => closed (.single (.grid (.source x _)))
  | tap => exact .single (.grid .tap)
  | mark =>
    unfold handle requestMark
    dsimp only
    split
    · exact .refl
    · split
      · exact .refl
      · next h =>
        split
        · exact closed (.single (.grid (.mark _ _ (not_not.1 h))))
        · exact .refl
  | clickMute => exact checked_runs _ _ _ fun x _ => quiet_runs (setMute_frame x s).mono
  | cue => exact checked_runs _ _ _ fun c _ => offerCue_runs c hr
  | cancelCue => exact cancelCue_runs _ s
  | takeNow => exact closed (takeNow_runs s)
  | setlistStep =>
    refine checked_runs _ _ _ fun x _ => ?_
    split
    · exact .refl
    · exact offerCue_runs _ hr
  | editZone =>
    refine checked_runs _ _ _ fun x _ => ?_
    obtain ⟨active, i, z⟩ := x
    dsimp only
    split
    · split
      · exact .refl
      · exact closed (editActive_runs i z s)
    · split
      · exact .refl
      · split
        · exact .refl
        · exact editStandby_runs i z s
  | toggleZone =>
    unfold handle requestToggle
    dsimp only
    split
    · exact .refl
    · exact checked_runs _ _ _ fun x _ => closed (setZoneOn_runs _ x s)
  | panic => exact panicAll_runs s
  | pass =>
    refine checked_runs _ _ _ fun x _ => ?_
    dsimp only
    split
    · exact closed (pass_runs s _ (by simp; omega))
    · exact .refl
  | writeSong => exact storeRequest_runs _ _ _ s fun y h => songFields_record h
  | eraseSong => exact storeRequest_runs _ _ _ s fun y h => slotField_record h
  | readSong => exact absurd rfl hs
  | writeSetlist => exact storeRequest_runs _ _ _ s fun y h => setlistFields_record h
  | writeSetup => exact storeRequest_runs _ _ _ s fun y h => setupFields_record (by simpa [RequestKind.lengthOk] using hl) h
  | setMode =>
    refine checked_runs _ _ _ fun x _ => ?_
    dsimp only
    split
    · exact .refl
    · split
      · exact .refl
      · exact (storeUpdate_runs s _ (by rfl) (by rfl)).trans (post_runs _ _ _)
  | getStatus => exact .refl
  | setNoticeMask => exact absurd rfl hm
  | setPositionNotices => exact absurd rfl hp
  | restart =>
    unfold handle requestRestart
    dsimp only
    split
    · exact .refl
    · exact beginRestart_runs hr

/-! ## The works of a step -/

/-- One work of a step: of a block, the grid's own among them, or of a port, a fetch or a reset. -/
def StepWork (s t : State) : Prop := Block GridWork s t ∨ PortEvent s t

theorem Runs.inStep {s t : State} (h : Runs (Block GridWork) s t) : Runs StepWork s t := by
  induction h with
  | refl => exact .refl
  | tail _ hb ih => exact ih.tail (.inl hb)

theorem PortEvent.run {s t : State} (h : PortEvent s t) : Runs StepWork s t := .single (.inr h)

theorem quiet_inStep {s t : State} (h : SameBut [.timebase, .setup, .click, .board, .draws, .pending] s t) : Runs StepWork s t :=
  (quiet_runs h).inStep

theorem transmitAll_runs (s : State) : Runs StepWork s (transmitAll s) :=
  (PortEvent.transmit .a).run.trans (PortEvent.transmit .b).run

theorem close_runs (s : State) : Runs StepWork s (close s) := (arbitrate_runs s).inStep.trans (transmitAll_runs _)

/-- An event of the blocks with its close. -/
theorem closed_runs {s t : State} (h : Runs (Block GridWork) s t) : Runs StepWork s (close t) := h.inStep.trans (close_runs t)

theorem atCount_runs (s : State) (c : Count) : Runs StepWork s (s.atCount c) := quiet_inStep (atCount_frame s c).mono

theorem expireAt_runs (t : Timer) {f : State → State} {s : State} (h : Runs StepWork (s.atCount t.due) (f (s.atCount t.due))) :
    Runs StepWork s (expireAt t f s) := by
  unfold expireAt
  split
  · exact ((atCount_runs s _).trans h).trans (atCount_runs _ _)
  · exact (atCount_runs s _).trans h

theorem whileRunning_runs {f : State → State} {s : State} (h : Runs StepWork s (f s)) : Runs StepWork s (whileRunning f s) := by
  unfold whileRunning
  split
  · exact h
  · exact .refl

/-! ## The ports -/

theorem tell_inStep (p : Port) (b : NoticeBody) (o : Option Origin) (s : State) : Runs StepWork s (postTo p b o s) :=
  .single (.inl (.tell p b o))

theorem offerFrame_runs (p : Port) (f : Frame) (s : State) : Runs StepWork s (offerFrame p f s) := by
  unfold offerFrame
  dsimp only
  split
  · next room => exact (PortEvent.buffered p f room).run.trans (PortEvent.serve p).run
  · exact tell_inStep ..

theorem arrive_runs (p : Port) (k t : Byte) (d : List Byte) (s : State) : Runs StepWork s (arrive p k t d s) := by
  unfold arrive
  split
  · exact .refl
  · split
    · exact (tell_inStep ..).trans (transmitAll_runs _)
    · exact (offerFrame_runs ..).trans (transmitAll_runs _)

theorem discardFrame_runs (p : Port) (x : LossCause) (s : State) : Runs StepWork s (discardFrame p x s) :=
  (PortEvent.assembler p .hunt Assembly.none none).run.trans (tell_inStep ..)

theorem assemble_runs (p : Port) (b : Byte) (s : State) : Runs StepWork s (assemble p b s) := by
  have step (x : AssemblerPhase) (a : Assembly) (t : Option Timer) : Runs StepWork s (s.setPort p ((s.port p).withAssembler x a t)) :=
    (PortEvent.assembler p x a t).run
  unfold assemble
  dsimp only
  split
  · split
    · exact step ..
    · exact .refl
  · split
    · exact step ..
    · split
      · exact discardFrame_runs ..
      · exact step ..
  · split
    · exact step ..
    · exact step ..
  · exact step ..
  · split
    · split
      · exact (step ..).trans (offerFrame_runs ..)
      · exact step ..
    · exact discardFrame_runs ..

theorem portCharacter_runs (p : Port) (b : Byte) (x : Bool) (s : State) : Runs StepWork s (portCharacter p b x s) := by
  unfold portCharacter
  split
  · exact assemble_runs ..
  · split
    · exact .refl
    · exact discardFrame_runs ..

theorem frameSent_runs {p : Port} {fr : PortFrame} {s : State} (h : (s.port p).sending = some fr) :
    Runs StepWork s (frameSent p fr s) := by
  have sent := (PortEvent.sent p fr h).run
  unfold frameSent
  dsimp only
  cases hs : fr.sort <;> rw [hs] at sent
  · exact (sent.trans (PortEvent.serve p).run).trans (transmitAll_runs _)
  · exact sent.trans (transmitAll_runs _)

/-! ## Timed events -/

theorem onCountdown_runs (s : State) : Runs StepWork s (onCountdown s) := by
  unfold onCountdown
  split
  · next t h => exact expireAt_runs t (closed_runs (.single (.grid (.tick (by simp [h])))))
  · exact .refl

theorem onHoldoverTimer_runs (s : State) : Runs StepWork s (onHoldoverTimer s) := by
  unfold onHoldoverTimer
  split
  · next t h => exact expireAt_runs t (closed_runs (.single (.grid (.holdover (by simp [h])))))
  · exact .refl

theorem onPaceTimer_runs (s : State) : Runs StepWork s (onPaceTimer s) := by
  unfold onPaceTimer
  split
  · next t h => exact expireAt_runs t (closed_runs (.single (.grid (.pace (by simp [h])))))
  · exact .refl

theorem onClickTimer_runs (k : ClickLine) (s : State) : Runs StepWork s (onClickTimer k s) := quiet_inStep (onClickTimer_frame k s).mono
theorem onClkoutTimer_runs (s : State) : Runs StepWork s (onClkoutTimer s) := quiet_inStep (onClkoutTimer_frame s).mono
theorem onAdcTimer_runs (s : State) : Runs StepWork s (onAdcTimer s) := quiet_inStep (onAdcTimer_frame s).mono
theorem onSlotTimer_runs (s : State) : Runs StepWork s (onSlotTimer s) := quiet_inStep (onSlotTimer_frame s).mono
theorem onDriveTimer_runs (s : State) : Runs StepWork s (onDriveTimer s) := quiet_inStep (onDriveTimer_frame s).mono
theorem onBeatFlash_runs (s : State) : Runs StepWork s (onBeatFlash s) := quiet_inStep (onBeatFlash_frame s).mono
theorem onDownbeatFlash_runs (s : State) : Runs StepWork s (onDownbeatFlash s) := quiet_inStep (onDownbeatFlash_frame s).mono
theorem onBlinkTimer_runs (s : State) : Runs StepWork s (onBlinkTimer s) := quiet_inStep (onBlinkTimer_frame s).mono

theorem onKeepAliveTimer_runs (l : LinkId) (s : State) : Runs StepWork s (onKeepAliveTimer l s) := by
  unfold onKeepAliveTimer
  split
  · exact expireAt_runs _ (closed_runs (linkSilent_runs l _))
  · exact .refl

theorem onIdleTimer_runs (s : State) : Runs StepWork s (onIdleTimer s) := by
  unfold onIdleTimer
  split
  · exact expireAt_runs _ (bus_runs _ _ (.kept (by rfl) (by rfl) (by rfl) (by rfl))).inStep
  · exact .refl

theorem onBusyTimer_runs (m : ModuleId) (s : State) : Runs StepWork s (onBusyTimer m s) := by
  unfold onBusyTimer
  split
  · exact expireAt_runs _ ((enterStalled_runs m _).inStep.trans (transmitAll_runs _))
  · exact .refl

theorem onSettleTimer_runs (s : State) : Runs StepWork s (onSettleTimer s) := by
  unfold onSettleTimer
  split
  · refine expireAt_runs _ (closed_runs (Relation.ReflTransGen.trans (.single (.seq _ ?_)) (examineSettle_runs _)))
    exact ⟨rfl, .inl rfl, .inl rfl⟩
  · exact .refl

theorem retentionExpired_runs (s : State) : Runs (Block G) s (retentionExpired s) := by
  have idle : Runs (Block G) s { s with seq := { s.seq with retention := none } } := .single (.seq _ ⟨rfl, .inl rfl, .inr rfl⟩)
  unfold retentionExpired
  dsimp only
  split
  · exact idle.trans (forcedRelease_runs _ _)
  · exact idle

theorem onRetentionTimer_runs (s : State) : Runs StepWork s (onRetentionTimer s) := by
  unfold onRetentionTimer
  split
  · exact expireAt_runs _ (closed_runs (retentionExpired_runs _))
  · exact .refl

theorem onHoldTimer_runs (f : SwitchId) (s : State) : Runs StepWork s (onHoldTimer f s) := by
  unfold onHoldTimer
  split
  · exact expireAt_runs _ (closed_runs (holdExpired_runs f _))
  · exact .refl

theorem onGapTimer_runs (p : Port) (s : State) : Runs StepWork s (onGapTimer p s) := by
  unfold onGapTimer
  split
  · exact expireAt_runs _ ((discardFrame_runs ..).trans (transmitAll_runs _))
  · exact .refl

theorem onFrameTimer_runs (p : Port) (s : State) : Runs StepWork s (onFrameTimer p s) := by
  unfold onFrameTimer
  split
  · next fr h => exact expireAt_runs _ (frameSent_runs (by rw [← h]; cases p <;> rfl))
  · exact .refl

/-- The work of an operation in progress, at its timer's due value where it has one. -/
theorem opExpiry_runs (op' : StoreOp) {f : State → State} {s : State} {op : StoreOp} (h : s.store.activity = .operating op)
    (hf : ∀ x : State, x.store.activity = .operating op → Runs (Block GridWork) x (f x)) : Runs StepWork s (opExpiry op' f s) := by
  unfold opExpiry
  split
  · exact expireAt_runs _ (closed_runs (hf _ h))
  · exact closed_runs (hf s h)

theorem onWord_runs (s : State) : Runs StepWork s (onWord s) := by
  unfold onWord
  split
  · next op h =>
    split
    · exact opExpiry_runs _ (op?_eq h) fun x hx => wordEnd_runs _ hx rfl rfl
    · exact .refl
  · exact .refl

theorem lastWord_record (op : StoreOp) (k : Nat) : (op.lastWord k).record = op.record ∧ (op.lastWord k).sector = op.sector := by
  unfold StoreOp.lastWord
  split <;> exact ⟨rfl, rfl⟩

theorem onWords_runs (s : State) : Runs StepWork s (onWords s) := by
  unfold onWords
  split
  · next op h =>
    split
    · exact opExpiry_runs _ (op?_eq h) fun x hx => wordsEnd_runs _ hx rfl rfl
    · exact .refl
  · exact .refl

theorem onMarker_runs (s : State) : Runs StepWork s (onMarker s) := by
  unfold onMarker
  split
  · next op h =>
    split
    · exact opExpiry_runs _ (op?_eq h) fun x hx => markerEnd_runs hx
    · exact .refl
  · exact .refl

theorem supplySampled_runs (low : Bool) (s : State) : Runs StepWork s (supplySampled low s) := by
  have sampled : Runs (Block GridWork) s { s with store := { s.store with supplySample := some low } } := storeUpdate_runs s _ rfl rfl
  obtain ⟨-, e⟩ | ⟨-, -, -, e⟩ | ⟨-, -, -, e⟩ := supplySampled_cases low s _ rfl <;> rw [e]
  · exact sampled.inStep
  · exact closed_runs (sampled.trans (supplyAsserted_runs _))
  · exact Runs.inStep (sampled.trans (storeUpdate_runs _ _ (by rfl) (by rfl)))

theorem supplyAccepted_runs (low : Bool) (s : State) : Runs StepWork s (supplyAccepted low s) :=
  ((storeUpdate_runs s _ (by rfl) (by rfl)).inStep.trans (supplySampled_runs low _)).trans (supplySampled_runs low _)

theorem sampleSupply_runs (t : Timer) (s : State) : Runs StepWork s (sampleSupply t s) :=
  expireAt_runs t ((storeUpdate_runs _ _ (by rfl) (by rfl)).inStep.trans (supplySampled_runs _ _))

theorem silenceEnd_runs {t : Transmission} {s : State} (h : s.bus.transmission = some t) (hr : t.forRestart = true) :
    Runs StepWork s (silenceEnd t s) :=
  expireAt_runs _ ((PortEvent.restarted (s := s.atCount t.timer.due) t h hr).run.trans (transmitAll_runs _))

theorem messageEnd_runs (t : Transmission) (s : State) : Runs StepWork s (messageEnd t s) := by
  unfold messageEnd
  dsimp only
  split
  · next h => exact Runs.inStep ((endOfMessage_runs t s).trans (beginRestartSilence_runs h))
  · exact closed_runs (endOfMessage_runs t s)

theorem onTransmission_runs (s : State) : Runs StepWork s (onTransmission s) := by
  unfold onTransmission
  split
  · next t h =>
    split
    · next hr => exact silenceEnd_runs h hr
    · exact expireAt_runs _ (messageEnd_runs t _)
  · exact .refl

theorem runTimer_runs (e : Instr) (s : State) : Runs StepWork s (runTimer e s) := by
  unfold runTimer
  split
  · exact onCountdown_runs s
  · exact onHoldoverTimer_runs s
  · exact onPaceTimer_runs s
  · exact onClickTimer_runs _ s
  · exact onClkoutTimer_runs s
  · exact onKeepAliveTimer_runs _ s
  · exact onIdleTimer_runs s
  · exact onBusyTimer_runs _ s
  · exact onTransmission_runs s
  · exact onTransmission_runs s
  · exact onSettleTimer_runs s
  · exact onRetentionTimer_runs s
  · exact onWord_runs s
  · exact onMarker_runs s
  · exact onHoldTimer_runs _ s
  · exact onAdcTimer_runs s
  · exact onSlotTimer_runs s
  · exact onDriveTimer_runs s
  · exact onBeatFlash_runs s
  · exact onDownbeatFlash_runs s
  · exact onBlinkTimer_runs s
  · exact onGapTimer_runs _ s
  · exact onFrameTimer_runs _ s
  · exact .refl

theorem runOverdue_runs : ∀ (n : Nat) (s : State), Runs StepWork s (runOverdue n s)
  | 0, _ => .refl
  | n + 1, s => by
    unfold runOverdue
    split
    · exact .refl
    · exact (runTimer_runs _ s).trans (runOverdue_runs n _)
    · split
      · exact ((Relation.ReflTransGen.single (.inl (drew_block s))).trans (runTimer_runs _ _)).trans (runOverdue_runs n _)
      · exact .refl

theorem loseCrystal_runs (s : State) : Runs StepWork s (loseCrystal s) := by
  have degraded (x : Timebase) : Runs StepWork s { s with timebase := x } := by
    refine quiet_inStep ⟨fun q hq => ?_⟩
    cases q <;> first | rfl | exact absurd (by decide) hq
  exact (((degraded _).trans (runOverdue_runs _ _)).trans (post_runs _ _ _).inStep).trans (transmitAll_runs _)

/-! ## Commands and time -/

theorem serveLink_runs (s : State) : Runs StepWork s (serveLink s) := by
  unfold serveLink
  split
  · next l e _ =>
    have taken (x : State) : Runs (Block GridWork) x { x with layer := { x.layer with lastServed := l } } :=
      layer_runs x _ (Nat.le_refl x.layer.keyOns.length) (Nat.le_refl x.layer.controls.length)
    exact closed_runs (((setLink_same_runs l _ s (by rfl)).trans (taken _)).trans (takeEvent_runs l e _))
  · exact .refl

theorem refinEdge_runs (s : State) : Runs (Block GridWork) s (refinEdge s) := by
  have heard : Runs (Block GridWork) s (setFollower { s.follower with refinLevel := some true } s) :=
    .single (.grid (.refin s.follower.refinSample (some true)))
  unfold refinEdge
  dsimp only
  split
  · next h => exact heard.tail (.grid (.mark 0 none h.1))
  · exact heard

theorem refinSampled_runs (high : Bool) (s : State) : Runs (Block GridWork) s (refinSampled high s) := by
  have sampled : Runs (Block GridWork) s (setFollower { s.follower with refinSample := some high } s) :=
    .single (.grid (.refin (some high) s.follower.refinLevel))
  unfold refinSampled
  dsimp only
  split
  · split
    · exact sampled.trans (refinEdge_runs _)
    · exact sampled.tail (.grid (.refin (some high) (some high)))
  · exact sampled

/-- An event of the part is a run of works. -/
theorem exec_event_runs {c : Instr} (h : requestFrame c = none) (hu : ∀ p tag k d, c ≠ .unknownKindRequest p tag k d) (s : State) :
    ∃ t, exec c s = .next t ∧ Runs StepWork s t := by
  cases c
  case unknownKindRequest p tag k d => exact absurd rfl (hu p tag k d)
  case powerOn => exact ⟨_, rfl, (PortEvent.powered).run⟩
  case crystalFound =>
    refine ⟨_, rfl, ?_⟩
    split
    · exact .refl
    · exact (PortEvent.counted ..).run
  case crystalWaitTimeout =>
    refine ⟨_, rfl, ?_⟩
    split
    · exact .refl
    · exact ((PortEvent.counted ..).run.trans (post_runs _ _ _).inStep).trans (transmitAll_runs _)
  case crystalLoss =>
    refine ⟨_, rfl, ?_⟩
    split
    · exact loseCrystal_runs s
    · exact .refl
  case intervalCountdownExpiry => exact ⟨_, rfl, onCountdown_runs s⟩
  case refinRisingEdge =>
    refine ⟨_, rfl, whileRunning_runs ?_⟩
    split
    · exact closed_runs (Relation.ReflTransGen.trans (.single (.grid (.refin (some true) s.follower.refinLevel))) (refinEdge_runs _))
    · exact .refl
  case refinSample high => exact ⟨_, rfl, whileRunning_runs (closed_runs (refinSampled_runs high s))⟩
  case holdoverTimerExpiry => exact ⟨_, rfl, onHoldoverTimer_runs s⟩
  case holdoverPaceTimerExpiry => exact ⟨_, rfl, onPaceTimer_runs s⟩
  case clickPulseTimerExpiry line => exact ⟨_, rfl, onClickTimer_runs line s⟩
  case clkoutPulseTimerExpiry => exact ⟨_, rfl, onClkoutTimer_runs s⟩
  case keyLinkCharacter l b x =>
    exact ⟨_, rfl, whileRunning_runs ((linkCharacter_runs l b x s).inStep.trans (transmitAll_runs _))⟩
  case parserTakeByte l => exact ⟨_, rfl, closed_runs (takeByte_runs l s)⟩
  case keepAliveTimerExpiry l => exact ⟨_, rfl, onKeepAliveTimer_runs l s⟩
  case layerEngineTakeEvent => exact ⟨_, rfl, serveLink_runs s⟩
  case endOfTransmission => exact ⟨_, rfl, onTransmission_runs s⟩
  case idleTimerExpiry => exact ⟨_, rfl, onIdleTimer_runs s⟩
  case moduleBusyAsserted m =>
    refine ⟨_, rfl, whileRunning_runs ?_⟩
    split
    · exact .refl
    · exact (busyAsserted_runs m s).inStep.trans (transmitAll_runs _)
  case moduleBusyDeasserted m =>
    refine ⟨_, rfl, whileRunning_runs ?_⟩
    split
    · exact (busyDeasserted_runs m s).inStep.trans (transmitAll_runs _)
    · exact .refl
  case busyLineSample x =>
    exact ⟨_, rfl, whileRunning_runs ((busySampleAll_runs x s).inStep.trans (transmitAll_runs _))⟩
  case busyTimerExpiry m => exact ⟨_, rfl, onBusyTimer_runs m s⟩
  case restartSilenceEnd =>
    refine ⟨_, rfl, ?_⟩
    split
    · next t h =>
      split
      · next hr => exact silenceEnd_runs h hr
      · exact .refl
    · exact .refl
  case settleTimerExpiry => exact ⟨_, rfl, onSettleTimer_runs s⟩
  case retentionTimerExpiry => exact ⟨_, rfl, onRetentionTimer_runs s⟩
  case fetchEnd =>
    refine ⟨_, rfl, ?_⟩
    split
    · next f h => exact (PortEvent.fetched f h).run.trans (close_runs _)
    · exact .refl
  case flashEraseEnd =>
    refine ⟨_, rfl, ?_⟩
    split
    · next op h =>
      split
      · exact closed_runs (eraseEnd_runs (op?_eq h))
      · exact .refl
    · exact .refl
  case flashWordProgrammed => exact ⟨_, rfl, onWord_runs s⟩
  case recordWordsProgrammed => exact ⟨_, rfl, onWords_runs s⟩
  case readBackEnd differs =>
    refine ⟨_, rfl, ?_⟩
    split
    · next op h =>
      split
      · exact opExpiry_runs _ (op?_eq h) fun x hx => verifyEnd_runs differs hx
      · exact .refl
    · exact .refl
  case markerWordProgrammed => exact ⟨_, rfl, onMarker_runs s⟩
  case supplyLowAsserted =>
    refine ⟨_, rfl, whileRunning_runs ?_⟩
    split
    · exact .refl
    · exact supplyAccepted_runs true s
  case supplyLowDeasserted =>
    refine ⟨_, rfl, whileRunning_runs ?_⟩
    split
    · exact supplyAccepted_runs false s
    · exact .refl
  case footswitchPress f =>
    refine ⟨_, rfl, whileRunning_runs ?_⟩
    split
    · exact closed_runs (pressAccepted_runs f s)
    · exact .refl
  case footswitchRelease f =>
    refine ⟨_, rfl, whileRunning_runs ?_⟩
    split
    · exact closed_runs (releaseAccepted_runs f s)
    · exact .refl
  case footswitchSample x => exact ⟨_, rfl, whileRunning_runs (closed_runs (switchSample_runs x s))⟩
  case holdTimerExpiry f => exact ⟨_, rfl, onHoldTimer_runs f s⟩
  case adcConversionBegin => exact ⟨_, rfl, onAdcTimer_runs s⟩
  case adcConversionEnd raw =>
    refine ⟨_, rfl, ?_⟩
    split
    · exact closed_runs ((quiet_runs (boardUpdate_frame s _).mono).trans (pedalReading_runs _ _ _))
    · exact .refl
  case indicatorSlotStart => exact ⟨_, rfl, onSlotTimer_runs s⟩
  case indicatorDriveEnd => exact ⟨_, rfl, onDriveTimer_runs s⟩
  case beatFlashTimerExpiry => exact ⟨_, rfl, onBeatFlash_runs s⟩
  case downbeatFlashTimerExpiry => exact ⟨_, rfl, onDownbeatFlash_runs s⟩
  case blinkPhaseToggle => exact ⟨_, rfl, onBlinkTimer_runs s⟩
  case controlPortCharacter p b x =>
    exact ⟨_, rfl, whileRunning_runs ((portCharacter_runs p b x s).trans (transmitAll_runs _))⟩
  case gapTimerExpiry p => exact ⟨_, rfl, onGapTimer_runs p s⟩
  case portFrameTransmitted p => exact ⟨_, rfl, onFrameTimer_runs p s⟩
  all_goals exact absurd h (by simp [requestFrame])

theorem exec_runs (c : Instr) (s : State) : ∃ t, exec c s = .next t ∧ Runs StepWork s t := by
  by_cases hu : ∃ p tag k d, c = .unknownKindRequest p tag k d
  · obtain ⟨p, tag, k, d, rfl⟩ := hu
    exact ⟨_, rfl, arrive_runs p k tag d s⟩
  cases h : requestFrame c with
  | none => exact exec_event_runs h (fun p tag k d e => hu ⟨p, tag, k, d, e⟩) s
  | some r =>
    obtain ⟨p, tag, k, d⟩ := r
    exact ⟨_, exec_request h s, arrive_runs p k tag d s⟩

theorem withPending_frame (s : State) (q : List Instr) : SameBut [.pending] s (s.withPending q) := by
  refine ⟨fun p hp => ?_⟩; cases p <;> first | rfl | exact absurd (by decide) hp

theorem passTime_runs (s : State) : Runs StepWork s (passTime s) := by
  unfold passTime
  split
  · exact sampleSupply_runs _ s
  · unfold tickMicrosecond
    refine quiet_inStep (.ite (atCount_frame s _).mono ⟨fun q hq => ?_⟩)
    cases q <;> first | rfl | exact absurd (by decide) hq
  · exact quiet_inStep (withPending_frame s _).mono
  · split
    · exact quiet_inStep ((drew_frame s).chain (withPending_frame s.drew _))
    · exact .refl

/-- Every step is a run of works. -/
theorem step_runs {s t : State} (h : step s = .next t) : Runs StepWork s t := by
  unfold step at h
  split at h
  · cases h; exact passTime_runs s
  · next c rest _ =>
    obtain ⟨u, hu, r⟩ := exec_runs c (s.withPending rest)
    rw [hu] at h
    cases h
    exact (quiet_inStep (withPending_frame s rest).mono).trans r

end Sys2Proof.Machine
end

section
/-! PROOF. The works of the grid and the Follower, of the ports and of the fetches, by their pieces: a change of the grid, the Follower and the
tap timer alone (`Retimed`), the works of a block, and the pieces of a port's or a fetch's work (`Piece`). -/

namespace Sys2Proof.Machine

/-! ## The pieces of the grid's works -/

/-- A change of the grid, the Follower and the tap timer alone, whose lists stay within their capacity. -/
structure Retimed (s t : State) : Prop where
  frame : SameBut [.grid, .follower, .tap] s t
  locks : t.follower.intervals.length ≤ max 2 s.follower.intervals.length
  taps : t.tap.intervals.length ≤ max 4 s.tap.intervals.length

theorem timing_runs (s : State) (g : Grid) (f : Follower) (h : f.intervals.length ≤ max 2 s.follower.intervals.length) :
    Runs (Block Retimed) s { s with grid := g, follower := f } := by
  refine (Block.grid ⟨⟨fun p hp => ?_⟩, h, le_max_right ..⟩).run
  cases p <;> first | rfl | exact absurd (by decide) hp

theorem grid_runs (s : State) (g : Grid) : Runs (Block Retimed) s { s with grid := g } := timing_runs s g s.follower (le_max_right ..)

theorem follower_runs (s : State) (f : Follower) (h : f.intervals.length ≤ max 2 s.follower.intervals.length) :
    Runs (Block Retimed) s (setFollower f s) := timing_runs s s.grid f h

/-- The Follower changes elsewhere than in its list. -/
theorem follower_kept_runs (s : State) (f : Follower) (h : f.intervals = s.follower.intervals) :
    Runs (Block Retimed) s (setFollower f s) := follower_runs s f (by rw [h]; exact le_max_right ..)

theorem tap_runs (s : State) (x : TapTimer) (h : x.intervals.length ≤ max 4 s.tap.intervals.length) :
    Runs (Block Retimed) s { s with tap := x } := by
  refine (Block.grid ⟨⟨fun p hp => ?_⟩, le_max_right .., h⟩).run
  cases p <;> first | rfl | exact absurd (by decide) hp

theorem setTempo_runs (v : Nat) (s : State) : Runs (Block Retimed) s (setTempo v s) := by
  unfold setTempo
  split
  · exact .refl
  · exact grid_runs ..

theorem nextInterval_runs (s : State) : Runs (Block Retimed) s (nextInterval s) := grid_runs ..

theorem rampStep_runs (s : State) : Runs (Block Retimed) s (rampStep s) := by
  unfold rampStep
  split
  · split
    · exact (setTempo_runs _ s).trans (grid_runs ..)
    · exact .refl
  · exact .refl

theorem correctionTick_runs (s : State) : Runs (Block Retimed) s (correctionTick s) := by
  unfold correctionTick
  split
  · split
    · split
      · exact (grid_runs s _).trans (setTempo_runs ..)
      · exact grid_runs ..
    · exact grid_runs ..
  · exact .refl

theorem offerClick_runs {G : State → State → Prop} (k : ClickLine) (s : State) : Runs (Block G) s (offerClick k s) := by
  unfold offerClick
  split
  · exact .refl
  · split
    · exact realtime_runs s _ (by simp; omega)
    · exact quiet_runs (clickUpdate_frame s _).mono

theorem clickTick_runs {G : State → State → Prop} (s : State) : Runs (Block G) s (clickTick s) := by
  unfold clickTick
  split
  · exact (quiet_runs (pulseLine_frame _ s).mono).trans (offerClick_runs ..)
  · exact .refl

theorem positionNotice_runs {G : State → State → Prop} (p : Port) (s : State) : Runs (Block G) s (positionNotice p s) := by
  unfold positionNotice
  split
  · exact (Block.tell p _ _).run
  · exact .refl

theorem tickReceivers_runs (ofTake ends : Bool) (s : State) : Runs (Block Retimed) s (tickReceivers ofTake ends s) := by
  have ramp (x : State) : Runs (Block Retimed) x (if ofTake then x else rampStep x) := by
    split
    · exact .refl
    · exact rampStep_runs x
  have correction (x : State) : Runs (Block Retimed) x (if ends then correctionTick x else x) := by
    split
    · exact correctionTick_runs x
    · exact .refl
  exact (((((clickTick_runs s).trans (quiet_runs (clkoutTick_frame _).mono)).trans (ramp _)).trans (correction _)).trans
    (quiet_runs (flashTick_frame _).mono)).trans ((positionNotice_runs .a _).trans (positionNotice_runs .b _))

theorem enterTransport_runs (x : Transport) (o : Option Origin) (s : State) : Runs (Block Retimed) s (enterTransport x o s) :=
  (grid_runs s _).trans (post_runs ..)

theorem setPosition_runs (p : Position) (s : State) : Runs (Block Retimed) s (setPosition p s) := grid_runs ..

theorem firstTick_runs (ofTake : Bool) (s : State) : Runs (Block Retimed) s (firstTick ofTake s) :=
  ((timing_runs s { s.grid with remainder := 0 } { s.follower with paceTimer := none } (le_max_right ..)).trans
    (tickReceivers_runs ..)).trans (nextInterval_runs _)

theorem startAt_runs (x : Transport) (p : Position) (o : Option Origin) (s : State) : Runs (Block Retimed) s (startAt x p o s) :=
  ((setPosition_runs p s).trans (enterTransport_runs ..)).trans (firstTick_runs ..)

theorem start_pieces (o : Origin) (s : State) : Runs (Block Retimed) s (start o s) := by
  unfold start
  split
  · split
    · exact enterTransport_runs ..
    · dsimp only
      split <;> exact startAt_runs ..
  · exact .refl

theorem atStop_intervals (f : Follower) (now : Count) : (f.atStop now).intervals = f.intervals := by
  unfold Follower.atStop
  split <;> rfl

theorem stopGrid_pieces (o : Origin) (s : State) : Runs (Block Retimed) s (stopGrid o s) := by
  unfold stopGrid
  dsimp only
  split
  · exact (setPosition_runs _ s).trans (enterTransport_runs ..)
  · exact (timing_runs s _ _ (by rw [atStop_intervals]; exact le_max_right ..)).trans (enterTransport_runs ..)

theorem endPending_runs (o : Option Origin) (s : State) : Runs (Block Retimed) s (endPending o s) := by
  unfold endPending
  split
  · exact enterTransport_runs ..
  · exact .refl

theorem switchSource_runs (x : TempoSource) (s : State) : Runs (Block Retimed) s (switchSource x s) := by
  refine timing_runs s _ _ ?_
  cases x <;> by_cases h : s.grid.source = .follow <;> simp [h, Follower.seekFrom, Follower.turnOff]

theorem followNotice_runs {G : State → State → Prop} (x : FollowState) (s : State) : Runs (Block G) s (followNotice x s) := post_runs ..

theorem changeSource_runs (x : TempoSource) (s : State) : Runs (Block Retimed) s (changeSource x s) := by
  unfold changeSource
  dsimp only
  split
  · exact switchSource_runs x s
  · exact (switchSource_runs x s).trans (followNotice_runs ..)

theorem setSource_pieces (x : TempoSource) (o : Origin) (s : State) : Runs (Block Retimed) s (setSource x o s) := by
  have changed := (changeSource_runs x s).trans (endPending_runs (some o) _)
  unfold setSource
  dsimp only
  split
  · exact .refl
  · split
    · exact changed.trans (firstTick_runs ..)
    · exact changed

theorem applyTempo_pieces (v : Nat) (s : State) : Runs (Block Retimed) s (applyTempo v s) := by
  have set := (grid_runs s { s.grid with ramp := none }).trans (setTempo_runs (clampTempo v) _)
  unfold applyTempo
  dsimp only
  split
  · exact set.trans (timing_runs _ _ _ (le_max_right ..))
  · exact set

theorem correctPhase_runs (e : Int) (s : State) : Runs (Block Retimed) s (correctPhase e s) := by
  unfold correctPhase
  dsimp only
  split
  · exact (grid_runs s _).trans (setTempo_runs ..)
  · exact (setTempo_runs _ s).trans (grid_runs ..)

theorem realign_runs (e : Int) (b : Nat) (o : Option Origin) (s : State) : Runs (Block Retimed) s (realign e b o s) := by
  unfold realign
  dsimp only
  split
  · exact (setPosition_runs _ s).trans (post_runs ..)
  · exact .refl

theorem markWork_runs (e : Int) (b : Nat) (o : Option Origin) (s : State) : Runs (Block Retimed) s (markWork e b o s) := by
  have drawn : Runs (Block Retimed) s s.drew := (drew_block s).run
  have started (x : State) : Runs (Block Retimed) x (startAtMark x) := startAt_runs ..
  unfold markWork
  split
  · split
    · exact ((drawn.trans (correctPhase_runs ..)).trans (started _)).trans (realign_runs ..)
    · exact ((drawn.trans (started _)).trans (correctPhase_runs ..)).trans (realign_runs ..)
  · exact (correctPhase_runs e s).trans (realign_runs ..)

theorem lock_runs (is : List Nat) (b : Nat) (o : Option Origin) (s : State) : Runs (Block Retimed) s (lock is b o s) :=
  (((follower_runs s _ (by exact Nat.zero_le _)).trans (markWork_runs ..)).trans (follower_kept_runs _ _ (by rfl))).trans
    (followNotice_runs ..)

theorem markSeeking_runs (b : Nat) (o : Option Origin) (s : State) : Runs (Block Retimed) s (markSeeking b o s) := by
  have restarted : Runs (Block Retimed) s (setFollower (s.follower.restartLock s.now) s) := follower_runs s _ (Nat.zero_le _)
  unfold markSeeking
  dsimp only
  split
  · exact restarted
  · split
    · exact restarted
    · split
      · exact follower_runs s _ (le_max_of_le_left (by simp))
      · split
        · exact restarted
        · split
          · exact follower_runs s _ (le_max_of_le_left (by simp; omega))
          · exact lock_runs ..

theorem seekFromMark_runs (x : FollowState) (s : State) : Runs (Block Retimed) s (seekFromMark x s) :=
  (follower_runs s _ (by exact Nat.zero_le _)).trans (followNotice_runs ..)

theorem markOutlier_runs (s : State) : Runs (Block Retimed) s (markOutlier s) := by
  unfold markOutlier
  split
  · exact follower_kept_runs s _ rfl
  · exact seekFromMark_runs ..

theorem markAccepted_runs (i : Nat) (e : Int) (b : Nat) (o : Option Origin) (s : State) :
    Runs (Block Retimed) s (markAccepted i e b o s) :=
  ((follower_kept_runs s _ (by rfl)).trans (markWork_runs ..)).trans (follower_kept_runs _ _ (by rfl))

theorem markLocked_runs (b : Nat) (o : Option Origin) (s : State) : Runs (Block Retimed) s (markLocked b o s) := by
  unfold markLocked
  split
  · exact markOutlier_runs s
  · dsimp only
    split
    · exact markAccepted_runs ..
    · exact markOutlier_runs s

theorem markHoldover_runs (b : Nat) (o : Option Origin) (s : State) : Runs (Block Retimed) s (markHoldover b o s) := by
  unfold markHoldover
  dsimp only
  split
  · exact (((follower_kept_runs s _ (by rfl)).trans (markWork_runs ..)).trans (follower_kept_runs _ _ (by rfl))).trans (followNotice_runs ..)
  · exact seekFromMark_runs ..

theorem takeMark_pieces (b : Nat) (o : Option Origin) (s : State) : Runs (Block Retimed) s (takeMark b o s) := by
  unfold takeMark
  split
  · exact .refl
  · exact markSeeking_runs ..
  · exact markLocked_runs ..
  · exact markHoldover_runs ..
  · exact seekFromMark_runs ..

theorem setTempo_follower (v : Nat) (s : State) : (setTempo v s).follower = s.follower := (setTempo_frame v s).at .follower

theorem enterHoldover_pieces (s : State) : Runs (Block Retimed) s (enterHoldover s) :=
  (((grid_runs s _).trans (setTempo_runs ..)).trans (follower_kept_runs _ _ (by rw [setTempo_follower]))).trans (followNotice_runs ..)

theorem fallbackTempo_runs (v : Nat) (s : State) : Runs (Block Retimed) s (fallbackTempo v s) := by
  unfold fallbackTempo
  split
  · exact grid_runs ..
  · exact setTempo_runs ..

theorem songFallback_runs (s : State) : Runs (Block Retimed) s (songFallback s) := by
  have first (x : State) : Runs (Block Retimed) x (if s.grid.transport = .startPending then firstTick false x else x) := by
    split
    · exact firstTick_runs ..
    · exact .refl
  have left := ((switchSource_runs .internal s).trans (endPending_runs none _)).trans (first _)
  unfold songFallback
  dsimp only
  split
  · exact ((left.trans (fallbackTempo_runs ..)).trans (post_runs ..)).trans (followNotice_runs ..)
  · exact ((left.tail (drew_block _)).trans (post_runs ..)).trans (followNotice_runs ..)

theorem enterLost_runs (s : State) : Runs (Block Retimed) s (enterLost s) := by
  have lost := (follower_kept_runs s { s.follower with state := .lost, paceTimer := none } rfl).trans (followNotice_runs .holdover _)
  unfold enterLost
  dsimp only
  split
  · exact lost
  · exact lost.trans (songFallback_runs _)

theorem countHoldover_runs (s : State) : Runs (Block Retimed) s (countHoldover s) := by
  have counted := follower_kept_runs s { s.follower with holdoverBeats := s.follower.holdoverBeats + 1 } rfl
  unfold countHoldover
  dsimp only
  split
  · exact counted.trans (enterLost_runs _)
  · exact counted

theorem holdoverTick_runs (s : State) : Runs (Block Retimed) s (holdoverTick s) := by
  unfold holdoverTick
  split
  · exact countHoldover_runs s
  · exact .refl

theorem emitTick_runs (ofTake : Bool) (s : State) : Runs (Block Retimed) s (emitTick ofTake s) :=
  ((tickReceivers_runs ofTake true s).trans (holdoverTick_runs _)).trans (nextInterval_runs _)

theorem paceExpiry_pieces (s : State) : Runs (Block Retimed) s (paceExpiry s) :=
  (follower_kept_runs s _ (by rfl)).trans (countHoldover_runs _)

theorem applyTap_runs (v : Nat) (s : State) : Runs (Block Retimed) s (applyTap v s) := by
  have tapped := tap_runs s { s.tap with tempo := some v } (le_max_right ..)
  have set := (tapped.trans (follower_kept_runs _ { s.follower with tempo := v } rfl)).trans (setTempo_runs v _)
  unfold applyTap
  dsimp only
  split
  · split
    · exact set.trans (correctPhase_runs ..)
    · exact set.trans (grid_runs ..)
  · exact tapped

theorem appendInterval_length (is : List Nat) (t : Nat) : (appendInterval is t).length ≤ max 4 is.length := by
  unfold appendInterval
  dsimp only
  split <;> simp_all

theorem takeTap_pieces (s : State) : Runs (Block Retimed) s (takeTap s) := by
  have fresh : Runs (Block Retimed) s { s with tap := { s.tap with last := some s.now, intervals := [] } } :=
    tap_runs s _ (Nat.zero_le _)
  unfold takeTap
  dsimp only
  split
  · exact fresh
  · split
    · exact fresh
    · split
      · exact .refl
      · have tapped (t : Nat) := tap_runs s { s.tap with last := some s.now, intervals := appendInterval s.tap.intervals t }
          (appendInterval_length ..)
        split
        · exact (tapped _).trans (applyTap_runs ..)
        · exact tapped _

/-! ## The pieces of a take -/

theorem takeGrid_runs (judged : Transport) (x : Song) (s : State) : Runs (Block Retimed) s (takeGrid judged x s) := by
  have set := grid_runs s { s.grid with meter := x.meter, position := takePosition judged x }
  unfold takeGrid
  dsimp only
  split
  · exact set
  · exact set.trans (enterTransport_runs ..)

theorem reformLevels_runs {G : State → State → Prop} (s : State) : Runs (Block G) s (reformLevels s) := levels_runs s _

theorem takePattern_runs {G : State → State → Prop} (x : Song) (s : State) : Runs (Block G) s (takePattern x s) :=
  (quiet_runs (clickUpdate_frame s _).mono).trans (reformLevels_runs _)

theorem takeTempo_runs (judged : Transport) (x : Song) (s : State) : Runs (Block Retimed) s (takeTempo judged x s) := by
  unfold takeTempo
  split
  · split
    · exact grid_runs ..
    · exact setTempo_runs ..
  · exact ((grid_runs s _).trans (setTempo_runs x.tempo _)).trans (follower_kept_runs _ _ (by rfl))
  · exact .refl

theorem takeSource_runs (judged : Transport) (x : Song) (s : State) : Runs (Block Retimed) s (takeSource judged x s) := by
  have ended := grid_runs s { s.grid with ramp := none }
  unfold takeSource
  dsimp only
  split
  · exact ended.trans (takeTempo_runs ..)
  · exact ((ended.trans (changeSource_runs ..)).trans (endPending_runs ..)).trans (takeTempo_runs ..)

theorem takePosts_runs {G : State → State → Prop} (x : Song) (place : Option Nat) (o : Option Origin) (s : State) :
    Runs (Block G) s (takePosts x place o s) :=
  (((pending_runs s _ (foldl_postProgram_distinct ProgramEntry.takePost x.programs)).tail
    (.seq { s.seq with settle := .running (s.timer 20000) } ⟨rfl, .inl rfl, .inl rfl⟩)).trans
    (storeUpdate_runs _ { s.store with activeSlot := s.activeBank.source, position := place } rfl rfl)).trans (post_runs ..)

theorem takeSteps_runs (judged : Transport) (x : Song) (place : Option Nat) (o : Option Origin) (s : State) :
    Runs (Block Retimed) s (takeSteps judged x place o s) :=
  (((takeGrid_runs judged x s).trans (takePattern_runs ..)).trans (takeSource_runs ..)).trans (takePosts_runs ..)

theorem takeWork_runs (judged : Transport) (c : Cue) {s : State} (h : s.cueIs .armed = true) :
    Runs (Block Retimed) s (takeWork judged c s) := by
  unfold takeWork
  split
  · exact (Block.roles _ h).run.trans (takeSteps_runs ..)
  · exact .refl

theorem takeNowAt_runs (c : Cue) {s : State} (h : s.cueIs .armed = true) : Runs (Block Retimed) s (takeNowAt c s) := by
  have taken := takeWork_runs s.grid.transport c h
  unfold takeNowAt
  dsimp only
  split
  · exact (taken.trans (grid_runs ..)).trans (emitTick_runs ..)
  · split
    · exact taken.trans (firstTick_runs ..)
    · exact taken

theorem armedCue_cueIs {s : State} {c : Cue} (h : s.armedCue = some c) : s.cueIs .armed = true := by
  unfold State.armedCue at h
  unfold State.cueIs
  split at h
  · split at h
    · simp_all
    · cases h
  · cases h

theorem dueAt_cueIs {s : State} {c : Cue} {p : Position} (h : s.dueAt p = some c) : s.cueIs .armed = true := by
  unfold State.dueAt at h
  unfold State.cueIs
  split at h
  · split at h
    · simp_all
    · cases h
  · cases h

theorem takeIfDue_pieces (s : State) : Runs (Block Retimed) s (takeIfDue s) := by
  unfold takeIfDue
  split
  · next h =>
    split
    · exact takeNowAt_runs _ (armedCue_cueIs h)
    · exact .refl
  · exact .refl

theorem takeNow_pieces (s : State) : Runs (Block Retimed) s (takeNow s) := by
  unfold takeNow
  split
  · exact .refl
  · next c h =>
    split
    · next armed => exact takeNowAt_runs _ (by simp [State.cueIs, h, armed])
    · exact .single (.seq _ ⟨by simp [h], .inl rfl, .inl rfl⟩)

theorem tickExpiry_pieces (s : State) : Runs (Block Retimed) s (tickExpiry s) := by
  unfold tickExpiry
  dsimp only
  split
  · next h => exact (takeWork_runs _ _ (dueAt_cueIs h)).trans (emitTick_runs ..)
  · split
    · exact ((setPosition_runs _ s).trans (enterTransport_runs ..)).trans (emitTick_runs ..)
    · exact (setPosition_runs _ s).trans (emitTick_runs ..)

/-- A work of the grid and the Follower by its pieces. -/
theorem GridWork.pieces {s t : State} (h : GridWork s t) : Runs (Block Retimed) s t := by
  cases h with
  | start o => exact start_pieces o s
  | stop o => exact stopGrid_pieces o s
  | source x o => exact setSource_pieces x o s
  | tempo v _ => exact applyTempo_pieces v s
  | tap => exact takeTap_pieces s
  | mark b o _ => exact takeMark_pieces b o s
  | refin x y => exact follower_kept_runs s _ rfl
  | holdover _ => exact enterHoldover_pieces s
  | pace _ => exact paceExpiry_pieces s
  | tick _ => exact tickExpiry_pieces s
  | due => exact takeIfDue_pieces s
  | takeNow => exact takeNow_pieces s

/-- A work of a block by its pieces, the grid's own among them. -/
theorem Block.pieces {s t : State} (h : Block GridWork s t) : Runs (Block Retimed) s t := by
  cases h with
  | grid h => exact h.pieces
  | quiet h => exact .single (.quiet h)
  | tell p b o => exact .single (.tell p b o)
  | layer x hk hc => exact .single (.layer x hk hc)
  | bus x h => exact .single (.bus x h)
  | links x h => exact .single (.links x h)
  | release w => exact .single (.release w)
  | sustain l c k => exact .single (.sustain l c k)
  | flag n i f => exact .single (.flag n i f)
  | ended n i => exact .single (.ended n i)
  | make k h hd => exact .single (.make k h hd)
  | counts x he hn => exact .single (.counts x he hn)
  | panic => exact .single .panic
  | bank k x h => exact .single (.bank k x h)
  | roles x h => exact .single (.roles x h)
  | load => exact .single .load
  | displace c h => exact .single (.displace c h)
  | offer c hn hr => exact .single (.offer c hn hr)
  | seq x h => exact .single (.seq x h)
  | store x ha hq => exact .single (.store x ha hq)
  | opNext op h => exact .single (.opNext op h)
  | opSet op new h hr => exact .single (.opSet op new h hr)
  | opBegin op h hr => exact .single (.opBegin op h hr)
  | flash x h => exact .single (.flash x h)
  | restart h => exact .single (.restart h)

/-! ## The pieces of the ports' and the fetches' works -/

/-- A change of a port that leaves its notices, keeps NOTICES_LOST unmasked and lets its buffer grow below its capacity alone. -/
structure PortStep (c x : ControlPort) : Prop where
  queue : x.queue = c.queue
  buffer : x.buffer.length ≤ max 4 c.buffer.length
  mask : c.mask.getLsbD 5 = true → x.mask.getLsbD 5 = true

/-- One piece of a port's or a fetch's work. -/
inductive Fine (s : State) : State → Prop where
  | port (p : Port) (x : ControlPort) (h : PortStep (s.port p) x) : Fine s (s.setPort p x)
  | transmit (p : Port) : Fine s (transmitOn p s)
  | store (x : Store) (h : ∀ op, x.activity = .operating op → s.store.activity = .operating op) : Fine s { s with store := x }
  | load (k : BankId) (x : Song) (slot : Slot) (h : x.Ok) : Fine s (s.setBank k (Bank.load x slot))
  | seq (x : Sequencer) : Fine s { s with seq := x }
  | resetting (x : ResetPhase) : Fine s { s with resetting := x }
  | initial (x : Song) (slot : Slot) (entry : Nat) (h : x.Ok) : Fine s (initialTake x slot entry s)
  | restarted : Fine s (restartReset s)
  | powered : Fine s (powerUp s)
  | counted (m : Monitor) (x : Source) : Fine s (countStart m x s)

/-- One piece of a step's works. -/
def Piece (s t : State) : Prop := Block GridWork s t ∨ Fine s t

theorem Fine.run {s t : State} (h : Fine s t) : Runs Piece s t := .single (.inr h)

theorem Runs.inPieces {s t : State} (h : Runs (Block GridWork) s t) : Runs Piece s t := by
  induction h with
  | refl => exact .refl
  | tail _ hb ih => exact ih.tail (.inl hb)

theorem port_runs (p : Port) (x : ControlPort) (s : State) (h : PortStep (s.port p) x) : Runs Piece s (s.setPort p x) := (Fine.port p x h).run

/-- A change of a port outside its notices, its buffer and its mask. -/
theorem PortStep.kept {c x : ControlPort} (hq : x.queue = c.queue) (hb : x.buffer = c.buffer) (hm : x.mask = c.mask) : PortStep c x :=
  ⟨hq, by rw [hb]; exact le_max_right .., by rw [hm]; exact id⟩

theorem decideReply_runs (p : Port) (r : Reply) (s : State) : Runs Piece s (decideReply p r s) := port_runs p _ s (.kept rfl rfl rfl)

theorem store_pieces (s : State) (x : Store) (h : ∀ op, x.activity = .operating op → s.store.activity = .operating op) :
    Runs Piece s { s with store := x } := (Fine.store x h).run

theorem storeNext_pieces (s : State) : Runs Piece s (storeNext s) := by
  unfold storeNext
  split <;> exact store_pieces s _ (fun op h => by cases h)

theorem requestFetch_pieces (f : Fetch) (s : State) : Runs Piece s (requestFetch f s) := by
  unfold requestFetch
  split
  · exact store_pieces s _ (fun op h => by cases h)
  · exact store_pieces s _ (fun op h => h)

/-- A fold that sets bit 5 at one of its elements and clears it at none ends with bit 5 set. -/
theorem foldl_sets_bit {f : BitVec 22 → Fin 22 → BitVec 22} (keep : ∀ m c, m.getLsbD 5 = true → (f m c).getLsbD 5 = true)
    (set : ∀ m, (f m 5).getLsbD 5 = true) : ∀ (l : List (Fin 22)) (m : BitVec 22), m.getLsbD 5 = true ∨ 5 ∈ l →
      (l.foldl f m).getLsbD 5 = true
  | [], m, h => by simpa using h
  | c :: cs, m, h => by
    refine foldl_sets_bit keep set cs _ ?_
    rcases h with h | h
    · exact .inl (keep m c h)
    · rcases List.mem_cons.1 h with rfl | h
      · exact .inl (set m)
      · exact .inr h

/-- NOTICES_LOST stays ON in every mask that a request sets (R176). -/
theorem maskOf_noticesLost (xs : List Bool) : (maskOf xs).getLsbD 5 = true := by
  refine foldl_sets_bit (fun m c h => ?_) (fun m => ?_) _ _ (.inr (by decide))
  · dsimp only
    repeat' split
    all_goals simp [h]
  · simp

theorem requestMask_runs (p : Port) (d : List Byte) (s : State) : Runs Piece s (requestMask p d s).1 :=
  checked_runs _ _ _ fun _ _ => port_runs p _ s ⟨rfl, le_max_right .., fun _ => maskOf_noticesLost _⟩

theorem requestPositions_runs (p : Port) (x : Byte) (s : State) : Runs Piece s (requestPositions p x s).1 :=
  checked_runs _ _ _ fun _ _ => port_runs p _ s (.kept rfl rfl rfl)

theorem requestRead_runs (p : Port) (x : Byte) (s : State) : Runs Piece s (requestRead p x s).1 :=
  checked_runs _ _ _ fun _ _ => requestFetch_pieces ..

theorem decideRequest_runs (p : Port) (f : Frame) (s : State) : Runs Piece s (decideRequest p f s).1 := by
  unfold decideRequest
  split
  · exact .refl
  · next k _ =>
    split
    · next hl =>
      split
      · exact .refl
      · next busy =>
        by_cases hm : k = .setNoticeMask
        · subst hm; exact requestMask_runs ..
        by_cases hp : k = .setPositionNotices
        · subst hp; exact requestPositions_runs ..
        by_cases hs : k = .readSong
        · subst hs; exact requestRead_runs ..
        by_cases hg : k = .getStatus
        · subst hg; exact .refl
        have hr : s.inReset = false := by
          cases h : s.inReset with
          | false => rfl
          | true => exact absurd (by rw [h]; simpa using hg) busy
        exact (handle_runs p hr hl hm hp hs).inPieces
    · exact .refl

theorem serve_pieces (p : Port) (s : State) : Runs Piece s (serve p s) := by
  unfold serve
  dsimp only
  split
  · next f rest _ hb =>
    have taken := port_runs p { s.port p with inService := some f, buffer := rest } s ⟨rfl, by rw [hb]; simp, id⟩
    have decided := taken.trans (decideRequest_runs p f _)
    split
    · exact decided.trans (decideReply_runs ..)
    · exact decided
  · exact .refl

theorem post_pieces (b : NoticeBody) (o : Option Origin) (s : State) : Runs Piece s (post b o s) := (post_runs b o s).inPieces

theorem takeIfDue_inPieces (s : State) : Runs Piece s (takeIfDue s) := .single (.inl (.grid .due))

theorem cueFetched_pieces (k : Sector) (s : State) : Runs Piece s (cueFetched k s) := by
  unfold cueFetched
  split
  · exact .refl
  · next c _ =>
    split
    · next x hx =>
      exact (((Fine.load s.banks.active.other x c.slot (fetchedSong_ok hx)).run.trans (Fine.seq _).run).trans (post_pieces ..)).trans
        (takeIfDue_inPieces _)
    · exact (Fine.seq _).run.trans (post_pieces ..)

theorem noSong_pieces (target : Option Nat) (slot : Option Slot) (s : State) : Runs Piece s (noSong target slot s) :=
  (Fine.resetting .none).run.trans (post_pieces ..)

theorem initialFetched_pieces (k : Sector) (s : State) : Runs Piece s (initialFetched k s) := by
  unfold initialFetched
  split
  · split
    · next hx => exact (Fine.initial _ _ _ (fetchedSong_ok hx)).run
    · exact noSong_pieces ..
  · exact .refl

theorem setupUpdate_frame (s : State) (u : Setup) : SameBut [.setup] s { s with setup := u } := by
  refine ⟨fun p hp => ?_⟩; cases p <;> first | rfl | exact absurd (by decide) hp

theorem applySetup_runs {G : State → State → Prop} (u : Setup) (s : State) : Runs (Block G) s (applySetup u s) := by
  have set := (quiet_runs (G := G) (setupUpdate_frame s u).mono).trans (storeUpdate_runs { s with setup := u }
    { s.store with mode := u.startMode } rfl rfl)
  exact ((set.trans (foldl_runs setupModule_runs _ _)).trans (dropDisabled_runs _)).trans (quiet_runs (boardUpdate_frame _ _).mono)

theorem setupFetched_pieces (k : Sector) (s : State) : Runs Piece s (setupFetched k s) :=
  ((applySetup_runs _ s).inPieces.trans (Fine.resetting .setlist).run).trans (requestFetch_pieces ..)

theorem setlistFetched_pieces (k : Sector) (s : State) : Runs Piece s (setlistFetched k s) := by
  have stored (es : List Slot) (place : Option Nat) :
      Runs Piece s { s with store := { s.store with setlist := es, position := place } } := store_pieces s _ fun op h => h
  unfold setlistFetched
  dsimp only
  split
  · exact (stored _ _).trans (noSong_pieces none none _)
  · next slot _ => exact ((stored _ _).trans (Fine.resetting (.song _)).run).trans (requestFetch_pieces ⟨.initial, slotSector slot⟩ _)

theorem fetchEnded_pieces (f : Fetch) (s : State) : Runs Piece s (fetchEnded f s) := by
  unfold fetchEnded
  dsimp only
  split
  · exact (storeNext_pieces s).trans (cueFetched_pieces ..)
  · exact (storeNext_pieces s).trans (initialFetched_pieces ..)
  · exact (storeNext_pieces s).trans (decideReply_runs ..)
  · exact (storeNext_pieces s).trans (setupFetched_pieces ..)
  · exact (storeNext_pieces s).trans (setlistFetched_pieces ..)

/-- A work of a port, a fetch or a reset by its pieces. -/
theorem PortEvent.pieces {s t : State} (h : PortEvent s t) : Runs Piece s t := by
  cases h with
  | transmit p => exact (Fine.transmit p).run
  | assembler p x a t => exact port_runs p _ s (.kept rfl rfl rfl)
  | buffered p f h => exact port_runs p _ s ⟨rfl, by simp; omega, id⟩
  | serve p => exact serve_pieces p s
  | sent p fr h => exact port_runs p _ s (.kept rfl rfl rfl)
  | fetched f h => exact fetchEnded_pieces f s
  | restarted tr h hr => exact Fine.restarted.run
  | powered => exact Fine.powered.run
  | counted m x => exact (Fine.counted m x).run

/-- Every step is a run of pieces. -/
theorem step_pieces {s t : State} (h : step s = .next t) : Runs Piece s t := by
  have run := step_runs h
  clear h
  induction run with
  | refl => exact .refl
  | tail _ hw ih =>
    rcases hw with hb | hp
    · exact ih.tail (.inl hb)
    · exact ih.trans hp.pieces

/-- What every piece keeps, a step keeps. -/
theorem step_keeps {P : State → Prop} (hb : ∀ s t, Block GridWork s t → P s → P t) (hf : ∀ s t, Fine s t → P s → P t) {s t : State}
    (h : step s = .next t) : P s → P t :=
  Runs.keeps (fun _ _ w => w.elim (hb _ _) (hf _ _)) (step_pieces h)

/-- What the grid's works keep by their pieces, the works of the blocks keep. -/
theorem Block.keeps {P : State → Prop} (h : ∀ s t, Block Retimed s t → P s → P t) {s t : State} (hb : Block GridWork s t) : P s → P t :=
  Runs.keeps h hb.pieces

end Sys2Proof.Machine
end

section
/-! PROOF. What every step keeps of the flash, the ports, the capacities and the Held-Note Table (O4, O5, O6, O9). -/

namespace Sys2Proof.Machine

/-! ## Frames of the blocks' works -/

theorem cueLeft_frame (c : Cue) (s : State) : SameBut loadParts s (cueLeft c s) := by
  unfold cueLeft
  dsimp only
  split
  · exact (seqUpdate_frame _ _).mono
  · exact (seqUpdate_frame s _).chain (abandonCueFetch_frame _)
  · exact (seqUpdate_frame s _).chain (emptyStandby_frame _)

/-- The parts a RESTART's taking changes. -/
abbrev restartParts : List Part := [.seq, .store, .resetting]

/-- The store at the taking of a RESTART. -/
theorem restartTaken_eq (s : State) : ∃ x, (x = s ∨ x = abandonCueFetch s) ∧ restartTaken s =
    { x with seq := { x.seq with cue := none, settle := .idle, retention := none }, resetting := .silence } := by
  unfold restartTaken
  dsimp only
  split
  · split
    · exact ⟨_, .inr rfl, rfl⟩
    · exact ⟨_, .inl rfl, rfl⟩
  · exact ⟨_, .inl rfl, rfl⟩

theorem restartTaken_frame (s : State) : SameBut restartParts s (restartTaken s) := by
  obtain ⟨x, hx, e⟩ := restartTaken_eq s
  have begun : SameBut [.store] s x := by
    rcases hx with rfl | rfl
    · exact .refl _ _
    · exact abandonCueFetch_frame s
  rw [e]
  exact (begun.chain (seqUpdate_frame x { x.seq with cue := none, settle := .idle, retention := none }) (rs := restartParts)).chain
    (resettingUpdate_frame _ _)

theorem linksUpdate_frame (s : State) (x : Vector KeyLink 4) : SameBut [.links] s { s with links := x } := by
  refine ⟨fun p hp => ?_⟩; cases p <;> first | rfl | exact absurd (by decide) hp

/-! ## The flash (R145, R186) -/

/-- The flash stands, and an operation in progress was in progress before. -/
structure FlashKept (s t : State) : Prop where
  flash : t.flash = s.flash
  op : ∀ op, t.store.activity = .operating op → s.store.activity = .operating op

theorem FlashKept.sound {s t : State} (h : FlashKept s t) (hs : FlashSound s) : FlashSound t := by
  obtain ⟨wf, fits⟩ := hs
  exact ⟨h.flash ▸ wf, fun op ho => fits op (h.op op ho)⟩

theorem FlashKept.then {s t u : State} (h : FlashKept s t) (h' : FlashKept t u) : FlashKept s u :=
  ⟨h'.flash.trans h.flash, fun op ho => h.op op (h'.op op ho)⟩

theorem FlashKept.from {s t u : State} (h : FlashKept t u) (hf : t.flash = s.flash) (ho : t.store = s.store) : FlashKept s u :=
  ⟨h.flash.trans hf, fun op hu => ho ▸ h.op op hu⟩

theorem FlashKept.refl (s : State) : FlashKept s s := ⟨rfl, fun _ h => h⟩

theorem SameBut.flashKept {ps : List Part} {s t : State} (h : SameBut ps s t) (hf : Part.flash ∉ ps := by decide)
    (hs : Part.store ∉ ps := by decide) : FlashKept s t := by
  have store : t.store = s.store := h.at .store hs
  exact ⟨h.at .flash hf, fun op ho => store ▸ ho⟩

theorem requestFetch_flash (f : Fetch) (s : State) : FlashKept s (requestFetch f s) := by
  unfold requestFetch
  split
  · exact ⟨rfl, fun op h => by cases h⟩
  · exact ⟨rfl, fun op h => h⟩

theorem storeNext_flash (s : State) : FlashKept s (storeNext s) := by
  unfold storeNext
  split <;> exact ⟨rfl, fun op h => by cases h⟩

theorem abandonCueFetch_flash (s : State) : FlashKept s (abandonCueFetch s) := by
  unfold abandonCueFetch
  split
  · split
    · exact storeNext_flash s
    · exact ⟨rfl, fun op h => h⟩
  · exact ⟨rfl, fun op h => h⟩

theorem examineLoad_flash (s : State) : FlashKept s (examineLoad s) := by
  unfold examineLoad
  split
  · split
    · exact (((emptyStandby_frame s).chain (seqUpdate_frame _ _) (rs := [.banks, .seq])).flashKept).then (requestFetch_flash _ _)
    · exact .refl s
  · exact .refl s

theorem bankFree_flash (n : Nat) (s : State) : FlashKept s (bankFree n s) := by
  unfold bankFree
  split
  · exact (examineLoad_flash _).from rfl rfl
  · exact .refl s

theorem releaseEntries_flash (w : Entry → Bool) (s : State) : FlashKept s (releaseEntries w s).1 :=
  (notesUpdate_frame s _).flashKept.then (bankFree_flash _ _)

theorem noteRelease_flash (l : LinkId) (c : Channel) (k : Nat) (on : Bool) (s : State) : FlashKept s (noteRelease l c k on s) := by
  unfold noteRelease
  split
  · exact (notesUpdate_frame s _).flashKept
  · exact releaseEntries_flash _ s

theorem panicNotes_flash (s : State) : FlashKept s (panicNotes s) := by
  unfold panicNotes
  dsimp only
  split
  · exact (examineLoad_flash _).from rfl rfl
  · exact ⟨rfl, fun op h => h⟩

theorem cueLeft_flash (c : Cue) (s : State) : FlashKept s (cueLeft c s) := by
  have slot : FlashKept s { s with seq := { s.seq with cue := none } } := (seqUpdate_frame s _).flashKept
  unfold cueLeft
  dsimp only
  split
  · exact slot
  · exact slot.then (abandonCueFetch_flash _)
  · exact slot.then (emptyStandby_frame _).flashKept

theorem restartTaken_flash (s : State) : FlashKept s (restartTaken s) := by
  obtain ⟨x, hx, e⟩ := restartTaken_eq s
  rw [e]
  rcases hx with rfl | rfl
  · exact ⟨rfl, fun op h => h⟩
  · exact (abandonCueFetch_flash s).then ⟨rfl, fun op h => h⟩

theorem Block.flashSound {s t : State} (h : Block Retimed s t) (hs : FlashSound s) : FlashSound t := by
  cases h with
  | grid h => exact h.frame.flashKept.sound hs
  | quiet h => exact h.flashKept.sound hs
  | tell p b o => exact (postTo_frame p b o s).flashKept.sound hs
  | layer x => exact (layerUpdate_frame s x).flashKept.sound hs
  | bus x => exact (busUpdate_frame s x).flashKept.sound hs
  | links x => exact (linksUpdate_frame s x).flashKept.sound hs
  | release w => exact (releaseEntries_flash w s).sound hs
  | sustain l c k => exact (noteRelease_flash l c k true s).sound hs
  | flag n i f => exact (flagDest_frame n i f s).flashKept.sound hs
  | ended n i => exact ((notesUpdate_frame s _).flashKept.then (bankFree_flash _ _)).sound hs
  | make k => exact ((notesUpdate_frame s _).flashKept.then (releaseEntries_flash _ _)).sound hs
  | counts x => exact (notesUpdate_frame s x).flashKept.sound hs
  | panic => exact (panicNotes_flash s).sound hs
  | bank k x => exact (setBank_frame s k x).flashKept.sound hs
  | roles x => exact (changeRoles_frame x s).flashKept.sound hs
  | load => exact (examineLoad_flash s).sound hs
  | displace c => exact (cueLeft_flash c s).sound hs
  | offer c => exact (seqUpdate_frame s _).flashKept.sound hs
  | seq x => exact (seqUpdate_frame s x).flashKept.sound hs
  | store x ha => exact ⟨hs.1, fun op ho => hs.2 op (ha ▸ ho)⟩
  | opNext => exact (storeNext_flash s).sound hs
  | opSet op new h hr => exact ⟨hs.1, fun o ho => by cases ho; rw [hr]; exact hs.2 op h⟩
  | opBegin op h hr => exact ⟨hs.1, fun o ho => by cases ho; exact hr⟩
  | flash x hx => exact ⟨hx hs, hs.2⟩
  | restart => exact (restartTaken_flash s).sound hs

theorem takeSteps_flashSound (judged : Transport) (x : Song) (place : Option Nat) (o : Option Origin) (s : State) :
    FlashSound s → FlashSound (takeSteps judged x place o s) :=
  Runs.keeps (R := Block Retimed) (fun _ _ => Block.flashSound) (takeSteps_runs judged x place o s)

theorem interrupted_wf {s : State} (h : flashWf s.flash = true) : flashWf s.interrupted = true := by
  unfold State.interrupted
  split
  · split
    · exact eraseSector_wf _ _ h
    · exact h
  · exact h

theorem Fine.flashSound {s t : State} (h : Fine s t) (hs : FlashSound s) : FlashSound t := by
  cases h with
  | port p x => exact (setPort_frame s p x).flashKept.sound hs
  | transmit p => exact (transmitOn_frame p s).flashKept.sound hs
  | store x h => exact ⟨hs.1, fun op ho => hs.2 op (h op ho)⟩
  | load k x slot => exact (setBank_frame s k _).flashKept.sound hs
  | seq x => exact (seqUpdate_frame s x).flashKept.sound hs
  | resetting x => exact (resettingUpdate_frame s x).flashKept.sound hs
  | initial x slot entry =>
    exact takeSteps_flashSound _ _ _ _ _ ((setBank_frame s .a (Bank.load x slot)).flashKept.sound hs)
  | restarted => exact (requestFetch_flash _ _).sound hs
  | powered => exact ⟨interrupted_wf hs.1, fun op h => by cases h⟩
  | counted m x => exact (requestFetch_flash _ _).sound ⟨hs.1, fun op h => by cases h⟩

/-- Settles O4: no work but a store operation's words and erases touches the flash, and the operation's record fits its sector. -/
theorem flashStaysSound : Obligations.FlashStaysSound := fun _ _ hs h =>
  step_keeps (fun _ _ hb => hb.keeps fun _ _ => Block.flashSound) (fun _ _ => Fine.flashSound) h hs

/-! ## The ports (R172, R176, R178, R179) -/

theorem placeNotice_sorted {q : List Notice} {n : Notice} (h : q.Pairwise (fun a b => b.urgent = true → a.urgent = true)) :
    (placeNotice q n).Pairwise (fun a b => b.urgent = true → a.urgent = true) := by
  unfold placeNotice
  split
  · next hn =>
    rw [← List.takeWhile_append_dropWhile (p := (·.urgent)) (l := q)] at h
    obtain ⟨front, back, across⟩ := List.pairwise_append.1 h
    refine List.pairwise_append.2 ⟨front, List.pairwise_cons.2 ⟨fun _ _ _ => hn, back⟩, fun a ha b _ _ => ?_⟩
    exact List.mem_takeWhile_imp ha
  · next hn =>
    exact List.pairwise_append.2 ⟨h, List.pairwise_singleton .., fun a _ b hb hu => by cases List.mem_singleton.1 hb; exact absurd hu hn⟩

/-- A queue with room takes a notice of its kind's urgency. -/
theorem ControlPort.Sound.place {c : ControlPort} {n : Notice} (h : c.Sound) (room : c.notices.length < 32) (hn : n.urgent = n.body.urgent) :
    ControlPort.Sound { c with notices := placeNotice c.notices n } where
  notices := by dsimp only; rw [length_placeNotice]; omega
  order := placeNotice_sorted h.order
  urgency := fun m hm => by
    rcases mem_placeNotice.1 hm with rfl | hm
    · exact hn
    · exact h.urgency m hm
  mask := h.mask
  buffer := h.buffer
  lost := h.lost

theorem saturate_le (n : Nat) : saturate n ≤ 65535 := by unfold saturate; split <;> omega

theorem ControlPort.Sound.post {c : ControlPort} {n : Notice} (h : c.Sound) (hn : n.urgent = n.body.urgent) : (c.post n).Sound := by
  unfold ControlPort.post
  split
  · exact h
  · split
    · next room => exact h.place room hn
    · exact ⟨h.notices, h.order, h.urgency, h.mask, h.buffer, saturate_le _⟩

/-- The transmitter takes the front notice, and NOTICES_LOST fits in its place. -/
theorem ControlPort.Sound.sendNotice {c : ControlPort} {n : Notice} {rest : List Notice} (h : c.Sound) (hq : c.notices = n :: rest)
    (position : Position) (now : Count) : (c.sendNotice n rest position now).Sound := by
  have length := h.notices
  have order := h.order
  have urgency := h.urgency
  rw [hq] at length order urgency
  have left : ControlPort.Sound (({ c with notices := rest } : ControlPort).begin .notice 0x81 0 n.bytes now) :=
    ⟨Nat.le_of_succ_le length, (List.pairwise_cons.1 order).2, fun m hm => urgency m (List.mem_cons_of_mem _ hm), h.mask, h.buffer, h.lost⟩
  unfold ControlPort.sendNotice ControlPort.reportLost
  split
  · have placed := left.place (n := ⟨.noticesLost c.lost, true, position, none⟩) length rfl
    exact ⟨placed.notices, placed.order, placed.urgency, h.mask, h.buffer, Nat.zero_le _⟩
  · exact left

theorem ControlPort.Sound.transmit {c : ControlPort} (h : c.Sound) (position : Position) (now : Count) :
    (c.transmit position now).Sound := by
  have reply (r : List Byte) : (c.sendReply r now).Sound := ⟨h.notices, h.order, h.urgency, h.mask, h.buffer, h.lost⟩
  unfold ControlPort.transmit
  split
  · exact h
  · split
    · next hq =>
      split
      · exact h.sendNotice hq position now
      · exact reply _
    · exact reply _
    · next hq => exact h.sendNotice hq position now
    · exact h

theorem ControlPort.Sound.step {c x : ControlPort} (h : c.Sound) (hx : PortStep c x) : x.Sound := by
  have queue := hx.queue
  simp only [ControlPort.queue, Prod.mk.injEq] at queue
  obtain ⟨notices, -, lost⟩ := queue
  have buffer := hx.buffer
  have room := h.buffer
  exact ⟨notices ▸ h.notices, notices ▸ h.order, notices ▸ h.urgency, hx.mask h.mask, by omega, lost ▸ h.lost⟩

/-- A port takes the place of a sound one. -/
theorem PortsSound.setPort {s : State} {p : Port} {x : ControlPort} (h : PortsSound s) (hx : x.Sound) : PortsSound (s.setPort p x) := by
  intro q
  by_cases hq : q = p
  · subst hq; rw [State.setPort_port_same]; exact hx
  · rw [State.setPort_port_other s x hq]; exact h q

theorem SameBut.portsSound {ps : List Part} {s t : State} (h : SameBut ps s t) (hd : ∀ q ∈ portParts, q ∉ ps) (hs : PortsSound s) :
    PortsSound t := by
  intro p
  have service : (t.port p).service = (s.port p).service := by cases p; exacts [h.at .serviceA (hd _ (by decide)), h.at .serviceB (hd _ (by decide))]
  have queue : (t.port p).queue = (s.port p).queue := by cases p; exacts [h.at .noticesA (hd _ (by decide)), h.at .noticesB (hd _ (by decide))]
  simp only [ControlPort.service, Prod.mk.injEq] at service
  obtain ⟨-, -, -, buffer, -, mask, -⟩ := service
  exact (hs p).step ⟨queue, by rw [buffer]; exact le_max_right .., by rw [mask]; exact id⟩

theorem postTo_portsSound (p : Port) (b : NoticeBody) (o : Option Origin) {s : State} (hs : PortsSound s) : PortsSound (postTo p b o s) :=
  hs.setPort ((hs p).post rfl)

/-- A work of a block touches a port by its notices alone. -/
theorem Block.portsSound {s t : State} (h : Block Retimed s t) (hs : PortsSound s) : PortsSound t := by
  cases h with
  | grid h => exact h.frame.portsSound (by decide) hs
  | quiet h => exact h.portsSound (by decide) hs
  | tell p b o => exact postTo_portsSound p b o hs
  | layer x => exact hs
  | bus x => exact hs
  | links x => exact hs
  | release w => exact (releaseEntries_frame w s).portsSound (by decide) hs
  | sustain l c k => exact (noteRelease_frame l c k true s).portsSound (by decide) hs
  | flag n i f => exact hs
  | ended n i => exact (endDest_frame n i s).portsSound (by decide) hs
  | make k => exact (makeEntry_frame k s).portsSound (by decide) hs
  | counts x => exact hs
  | panic => exact (panicNotes_frame s).portsSound (by decide) hs
  | bank k x => exact (setBank_frame s k x).portsSound (by decide) hs
  | roles x => exact hs
  | load => exact (examineLoad_frame s).portsSound (by decide) hs
  | displace c => exact (cueLeft_frame c s).portsSound (by decide) hs
  | offer c => exact hs
  | seq x => exact hs
  | store x => exact hs
  | opNext => exact (storeNext_frame s).portsSound (by decide) hs
  | opSet op new => exact hs
  | opBegin op => exact hs
  | flash x => exact hs
  | restart => exact (restartTaken_frame s).portsSound (by decide) hs

theorem takeSteps_portsSound (judged : Transport) (x : Song) (place : Option Nat) (o : Option Origin) (s : State) :
    PortsSound s → PortsSound (takeSteps judged x place o s) :=
  Runs.keeps (R := Block Retimed) (fun _ _ => Block.portsSound) (takeSteps_runs judged x place o s)

theorem ControlPort.Sound.restarted {c : ControlPort} (h : c.Sound) : c.restarted.Sound :=
  ⟨Nat.zero_le _, List.Pairwise.nil, by simp [ControlPort.restarted], by simp [ControlPort.restarted], h.buffer, Nat.zero_le _⟩

theorem requestFetch_portsSound (f : Fetch) (s : State) : PortsSound s → PortsSound (requestFetch f s) :=
  (requestFetch_frame f s).portsSound (by decide)

theorem initialPorts_sound : PortsSound State.reset := fun p => by cases p <;> exact controlPort_initial_sound

theorem Fine.portsSound {s t : State} (h : Fine s t) (hs : PortsSound s) : PortsSound t := by
  cases h with
  | port p x h => exact hs.setPort ((hs p).step h)
  | transmit p => exact hs.setPort ((hs p).transmit _ _)
  | store x h => exact hs
  | load k x slot => exact (setBank_frame s k _).portsSound (by decide) hs
  | seq x => exact hs
  | resetting x => exact hs
  | initial x slot entry => exact takeSteps_portsSound _ _ _ _ _ ((setBank_frame s .a (Bank.load x slot)).portsSound (by decide) hs)
  | restarted =>
    refine requestFetch_portsSound _ _ fun p => ?_
    cases p
    · exact (hs .a).restarted
    · exact (hs .b).restarted
  | powered => exact initialPorts_sound
  | counted m x => exact requestFetch_portsSound _ _ initialPorts_sound

/-- Settles O5: notices enter and leave in order, and the rest of a port changes within its capacity. -/
theorem portsStaySound : Obligations.PortsStaySound := fun _ _ hs h =>
  step_keeps (fun _ _ hb => hb.keeps fun _ _ => Block.portsSound) (fun _ _ => Fine.portsSound) h hs

end Sys2Proof.Machine
end

section
/-! PROOF. What every step keeps of the Held-Note Table and of the capacities of queues and tables (O6, O9). -/

namespace Sys2Proof.Machine

/-! ## Lists of which some elements leave and others change -/

/-- The second list holds what is left of the first: each element has left or has become one that `R` relates to it. -/
inductive Thinned {α : Type} (R : α → α → Prop) : List α → List α → Prop where
  | nil : Thinned R [] []
  | left {x : α} {l m : List α} (h : Thinned R l m) : Thinned R (x :: l) m
  | kept {x y : α} {l m : List α} (hx : R x y) (h : Thinned R l m) : Thinned R (x :: l) (y :: m)

variable {α : Type} {R : α → α → Prop}

theorem Thinned.length_le {l m : List α} (h : Thinned R l m) : m.length ≤ l.length := by
  induction h with
  | nil => exact Nat.le_refl _
  | left _ ih => exact Nat.le_succ_of_le ih
  | kept _ _ ih => exact Nat.succ_le_succ ih

theorem Thinned.mem {l m : List α} (h : Thinned R l m) {y : α} (hy : y ∈ m) : ∃ x ∈ l, R x y := by
  induction h with
  | nil => cases hy
  | left _ ih =>
    obtain ⟨x, hx, r⟩ := ih hy
    exact ⟨x, List.mem_cons_of_mem _ hx, r⟩
  | @kept a b _ _ hr _ ih =>
    rcases List.mem_cons.1 hy with rfl | hy
    · exact ⟨a, List.mem_cons_self, hr⟩
    · obtain ⟨x, hx, r⟩ := ih hy
      exact ⟨x, List.mem_cons_of_mem _ hx, r⟩

theorem Thinned.pairwise {P Q : α → α → Prop} (hpq : ∀ x y a b, R x a → R y b → P x y → Q a b) {l m : List α} (h : Thinned R l m)
    (hl : l.Pairwise P) : m.Pairwise Q := by
  induction h with
  | nil => exact .nil
  | left _ ih => exact ih (List.pairwise_cons.1 hl).2
  | kept hr h ih =>
    obtain ⟨first, rest⟩ := List.pairwise_cons.1 hl
    refine List.pairwise_cons.2 ⟨fun b hb => ?_, ih rest⟩
    obtain ⟨y, hy, r⟩ := h.mem hb
    exact hpq _ _ _ _ hr r (first y hy)

theorem Thinned.map {f : α → α} (h : ∀ x, R x (f x)) : ∀ l : List α, Thinned R l (l.map f)
  | [] => .nil
  | x :: xs => .kept (h x) (Thinned.map h xs)

theorem Thinned.filter {p : α → Bool} {f : α → α} (h : ∀ x, p (f x) = true → R x (f x)) :
    ∀ l : List α, Thinned R l ((l.map f).filter p)
  | [] => .nil
  | x :: xs => by
    rw [List.map_cons, List.filter_cons]
    split
    · next hp => exact .kept (h x hp) (Thinned.filter h xs)
    · exact .left (Thinned.filter h xs)

/-! ## The Held-Note Table after each of its works -/

/-- A held entry stands, being left out or RELEASING, or moves to RELEASING with a destination that is not ended. -/
inductive ReleasedTo (w : Entry → Bool) (e : Entry) : Entry → Prop where
  | stands (h : e.releasing = true ∨ w e = false) : ReleasedTo w e e
  | moves (n : Count) (h : (e.release n).allEnded = false) : ReleasedTo w e (e.release n)

theorem releaseScan_thinned (w : Entry → Bool) : ∀ (n : Count) (es : List Entry), Thinned (ReleasedTo w) es (releaseScan w n es).entries
  | _, [] => .nil
  | n, e :: es => by
    unfold releaseScan
    split
    · dsimp only
      split
      · exact .left (releaseScan_thinned w _ es)
      · next h => exact .kept (.moves n (by simpa using h)) (releaseScan_thinned w _ es)
    · next h => exact .kept (.stands (by simpa [or_iff_not_imp_left] using h)) (releaseScan_thinned w _ es)

theorem bankFree_notes (n : Nat) (s : State) : (bankFree n s).notes = s.notes := (bankFree_frame n s).at .notes

theorem releaseEntries_notes (w : Entry → Bool) (s : State) : (releaseEntries w s).1.notes = { s.notes with
    entries := (releaseScan w s.notes.nextRelease s.notes.entries).entries
    nextRelease := (releaseScan w s.notes.nextRelease s.notes.entries).next } := bankFree_notes _ _

theorem panicNotes_notes (s : State) : (panicNotes s).notes = { s.notes with entries := [] } := by
  unfold panicNotes
  dsimp only
  split
  · exact (examineLoad_frame _).at .notes
  · rfl

/-- The table without an entry whose last destination has ended. -/
theorem endDest_notes (n i : Nat) (s : State) : (endDest n i s).notes = { s.notes with
    entries := (updateDest n i (fun d => { d with ended := true }) s.notes.entries).filter
      (fun e => !(e.serial == n && e.releasing && e.allEnded)) } := bankFree_notes _ _

/-! ## At most one held entry for a source (R89) -/

/-- What two entries of the table are to each other. -/
abbrev Entry.Apart (e f : Entry) : Prop :=
  e.serial ≠ f.serial ∧ (e.releasing = false → f.releasing = false → e.isFrom f.link f.channel f.key = false)

/-- What an entry is by itself, with the next serial number. -/
structure Entry.Fits (next : Nat) (e : Entry) : Prop where
  serial : e.serial < next
  dests : 1 ≤ e.dests.length ∧ e.dests.length ≤ 4
  unended : e.releasing = true → e.allEnded = false

theorem notesSound_iff (s : State) : NotesSound s ↔ s.notes.entries.Pairwise Entry.Apart ∧
    ∀ e ∈ s.notes.entries, e.Fits s.notes.nextSerial :=
  ⟨fun h => ⟨h.one, fun e he => ⟨h.serial e he, h.dests e he, h.unended e he⟩⟩,
    fun h => ⟨h.1, fun e he => (h.2 e he).serial, fun e he => (h.2 e he).dests, fun e he => (h.2 e he).unended⟩⟩

/-- An entry becomes another of the same source and serial number, held only if it was, and RELEASING with a destination not ended. -/
structure Entry.Becomes (e f : Entry) : Prop where
  serial : f.serial = e.serial
  source : f.link = e.link ∧ f.channel = e.channel ∧ f.key = e.key
  dests : f.dests.length = e.dests.length
  held : f.releasing = false → e.releasing = false
  unended : (e.releasing = true → e.allEnded = false) → f.releasing = true → f.allEnded = false

theorem Entry.Becomes.refl (e : Entry) : e.Becomes e := ⟨rfl, ⟨rfl, rfl, rfl⟩, rfl, id, id⟩

theorem Entry.Becomes.fits {e f : Entry} (h : e.Becomes f) {n : Nat} (he : e.Fits n) : f.Fits n :=
  ⟨h.serial ▸ he.serial, h.dests ▸ he.dests, h.unended he.unended⟩

theorem Entry.Becomes.isFrom {e f : Entry} (h : e.Becomes f) (l : LinkId) (c : Channel) (k : Nat) : f.isFrom l c k = e.isFrom l c k := by
  obtain ⟨link, channel, key⟩ := h.source
  simp [Entry.isFrom, link, channel, key]

theorem Entry.Becomes.apart {e f e' f' : Entry} (h : e.Becomes e') (h' : f.Becomes f') (ha : e.Apart f) : e'.Apart f' := by
  obtain ⟨link, channel, key⟩ := h'.source
  refine ⟨by rw [h.serial, h'.serial]; exact ha.1, fun he hf => ?_⟩
  rw [h.isFrom, link, channel, key]
  exact ha.2 (h.held he) (h'.held hf)

theorem Thinned.notesSound {s t : State} (h : Thinned Entry.Becomes s.notes.entries t.notes.entries)
    (hn : t.notes.nextSerial = s.notes.nextSerial) (hs : NotesSound s) : NotesSound t := by
  obtain ⟨apart, fits⟩ := (notesSound_iff s).1 hs
  refine (notesSound_iff t).2 ⟨h.pairwise (fun _ _ _ _ hx hy => hx.apart hy) apart, fun f hf => ?_⟩
  obtain ⟨e, he, becomes⟩ := h.mem hf
  rw [hn]
  exact becomes.fits (fits e he)

theorem release_releasing (n : Count) (e : Entry) : (e.release n).releasing = true := rfl

theorem ReleasedTo.becomes {w : Entry → Bool} {e f : Entry} (h : ReleasedTo w e f) : e.Becomes f := by
  cases h with
  | stands => exact .refl e
  | moves n h =>
    exact ⟨rfl, ⟨rfl, rfl, rfl⟩, by simp [Entry.release], fun hr => absurd hr (by simp [release_releasing]), fun _ _ => h⟩

theorem Thinned.imp {S : α → α → Prop} (hrs : ∀ x y, R x y → S x y) {l m : List α} (h : Thinned R l m) : Thinned S l m := by
  induction h with
  | nil => exact .nil
  | left _ ih => exact .left ih
  | kept hx _ ih => exact .kept (hrs _ _ hx) ih

theorem releaseEntries_notesSound (w : Entry → Bool) {s : State} (hs : NotesSound s) : NotesSound (releaseEntries w s).1 := by
  refine Thinned.notesSound ?_ (by rw [releaseEntries_notes]) hs
  rw [releaseEntries_notes]
  exact (releaseScan_thinned w _ _).imp fun _ _ => ReleasedTo.becomes

/-- A destination changes in its flag or by ending. -/
theorem updateDest_becomes (n i : Nat) {f : Dest → Dest} {e : Entry}
    (h : (e.serial == n) = true → e.releasing = true → e.allEnded = false → Entry.allEnded { e with dests := e.dests.modify i f } = false) :
    e.Becomes (if e.serial == n then { e with dests := e.dests.modify i f } else e) := by
  split
  · next hn => exact ⟨rfl, ⟨rfl, rfl, rfl⟩, List.length_modify .., id, fun he hr => h hn hr (he hr)⟩
  · exact .refl e

theorem allEnded_flagged (i : Nat) (f : KeyOnFlag) (e : Entry) :
    Entry.allEnded { e with dests := e.dests.modify i (fun d => { d with flag := f }) } = e.allEnded := by
  have ended : (e.dests.modify i (fun d => { d with flag := f })).map (·.ended) = e.dests.map (·.ended) := by
    refine List.ext_getElem? fun j => ?_
    simp only [List.getElem?_map, List.getElem?_modify]
    split <;> cases e.dests[j]? <;> rfl
  have all (l : List Dest) : l.all (·.ended) = (l.map (·.ended)).all id := by rw [List.all_map]; rfl
  rw [Entry.allEnded, Entry.allEnded, all, ended, ← all]

theorem flagDest_thinned (n i : Nat) (f : KeyOnFlag) (s : State) : Thinned Entry.Becomes s.notes.entries (flagDest n i f s).notes.entries :=
  Thinned.map (fun e => updateDest_becomes n i fun _ _ he => by rw [allEnded_flagged]; exact he) _

theorem endDest_thinned (n i : Nat) (s : State) : Thinned Entry.Becomes s.notes.entries (endDest n i s).notes.entries := by
  rw [endDest_notes]
  refine Thinned.filter (fun e he => updateDest_becomes n i fun hn hr _ => ?_) _
  simp only [hn, if_true] at he
  have hr' : Entry.releasing { e with dests := e.dests.modify i (fun d => { d with ended := true }) } = true := hr
  simpa [hn, hr'] using he

theorem noteSustain_thinned (l : LinkId) (c : Channel) (k : Nat) (s : State) :
    Thinned Entry.Becomes s.notes.entries (noteRelease l c k true s).notes.entries := by
  refine Thinned.map (fun e => ?_) _
  split
  · next h =>
    have sounding : e.state = .sounding := eq_of_beq (Bool.and_eq_true _ _ ▸ h).2
    exact ⟨rfl, ⟨rfl, rfl, rfl⟩, rfl, fun _ => by simp [Entry.releasing, sounding], fun _ hr => by simp [Entry.releasing] at hr⟩
  · exact .refl e

/-- The held entries that a strike's entry does not replace are of another source. -/
theorem ReleasedTo.replaced {k : Strike} {n : Nat} {e f e' f' : Entry}
    (h : ReleasedTo (fun x => x.serial != n && x.isFrom k.link k.channel k.key) e e')
    (h' : ReleasedTo (fun x => x.serial != n && x.isFrom k.link k.channel k.key) f f')
    (ha : e.Apart f ∨ e.serial ≠ n ∧ f.serial = n ∧ f.link = k.link ∧ f.channel = k.channel ∧ f.key = k.key) : e'.Apart f' := by
  rcases ha with ha | ⟨he, hf, link, channel, key⟩
  · exact h.becomes.apart h'.becomes ha
  · obtain ⟨link', channel', key'⟩ := h'.becomes.source
    refine ⟨by rw [h.becomes.serial, h'.becomes.serial, hf]; exact he, fun held _ => ?_⟩
    rw [link', channel', key', link, channel, key]
    cases h with
    | stands hw => simpa [held, he] using hw
    | moves m _ => cases held

/-- A strike's entry joins the table, and the older entry of its source leaves the held ones (R89, R90). -/
theorem makeEntry_notesSound {k : Strike} {s : State} (hd : 1 ≤ k.dests.length ∧ k.dests.length ≤ 4) (hs : NotesSound s) :
    NotesSound (makeEntry k s) := by
  obtain ⟨apart, fits⟩ := (notesSound_iff s).1 hs
  have thinned := releaseScan_thinned (fun f => f.serial != (s.newEntry k).serial && f.isFrom k.link k.channel k.key) s.notes.nextRelease
    (s.notes.entries ++ [s.newEntry k])
  have joined : (s.notes.entries ++ [s.newEntry k]).Pairwise (fun e f => e.Apart f ∨
      e.serial ≠ (s.newEntry k).serial ∧ f.serial = (s.newEntry k).serial ∧ f.link = k.link ∧ f.channel = k.channel ∧ f.key = k.key) := by
    refine List.pairwise_append.2 ⟨apart.imp .inl, List.pairwise_singleton .., fun e he f hf => .inr ?_⟩
    cases List.mem_singleton.1 hf
    exact ⟨Nat.ne_of_lt (fits e he).serial, rfl, rfl, rfl, rfl⟩
  have made : (makeEntry k s).notes.entries = (releaseScan _ _ (s.notes.entries ++ [s.newEntry k])).entries :=
    congrArg Notes.entries (releaseEntries_notes _ _)
  have next : (makeEntry k s).notes.nextSerial = s.notes.nextSerial + 1 := congrArg Notes.nextSerial (releaseEntries_notes _ _)
  rw [notesSound_iff, made, next]
  refine ⟨thinned.pairwise (fun _ _ _ _ hx hy => hx.replaced hy) joined, fun f hf => ?_⟩
  obtain ⟨e, he, released⟩ := thinned.mem hf
  refine released.becomes.fits ?_
  rcases List.mem_append.1 he with he | he
  · have old := fits e he
    exact ⟨Nat.lt_succ_of_lt old.serial, old.dests, old.unended⟩
  · cases List.mem_singleton.1 he
    exact ⟨Nat.lt_succ_self _, by simpa [State.newEntry] using hd, fun h => by simp [State.newEntry, Entry.releasing] at h⟩

theorem SameBut.notesSound {ps : List Part} {s t : State} (h : SameBut ps s t) (hn : Part.notes ∉ ps := by decide) (hs : NotesSound s) :
    NotesSound t := by
  have notes : t.notes = s.notes := h.at .notes hn
  rw [notesSound_iff] at hs ⊢
  rwa [notes]

theorem Block.notesSound {s t : State} (h : Block Retimed s t) (hs : NotesSound s) : NotesSound t := by
  cases h with
  | grid h => exact h.frame.notesSound (hs := hs)
  | quiet h => exact h.notesSound (hs := hs)
  | tell p b o => exact (postTo_frame p b o s).notesSound (hs := hs)
  | layer x => exact (layerUpdate_frame s x).notesSound (hs := hs)
  | bus x => exact (busUpdate_frame s x).notesSound (hs := hs)
  | links x => exact (linksUpdate_frame s x).notesSound (hs := hs)
  | release w => exact releaseEntries_notesSound w hs
  | sustain l c k => exact (noteSustain_thinned l c k s).notesSound rfl hs
  | flag n i f => exact (flagDest_thinned n i f s).notesSound rfl hs
  | ended n i => exact (endDest_thinned n i s).notesSound (by rw [endDest_notes]) hs
  | make k _ hd => exact makeEntry_notesSound hd hs
  | counts x he hn => rw [notesSound_iff] at hs ⊢; rwa [he, hn]
  | panic =>
    rw [notesSound_iff, panicNotes_notes]
    exact ⟨.nil, fun e he => by cases he⟩
  | bank k x => exact (setBank_frame s k x).notesSound (hs := hs)
  | roles x => exact (changeRoles_frame x s).notesSound (hs := hs)
  | load => exact (examineLoad_frame s).notesSound (hs := hs)
  | displace c => exact (cueLeft_frame c s).notesSound (hs := hs)
  | offer c => exact (seqUpdate_frame s _).notesSound (hs := hs)
  | seq x => exact (seqUpdate_frame s x).notesSound (hs := hs)
  | store x => exact (storeUpdate_frame s x).notesSound (hs := hs)
  | opNext => exact (storeNext_frame s).notesSound (hs := hs)
  | opSet op new => exact (setOp_frame new s).notesSound (hs := hs)
  | opBegin op => exact (setOp_frame op s).notesSound (hs := hs)
  | flash x => exact (flashUpdate_frame s x).notesSound (hs := hs)
  | restart => exact (restartTaken_frame s).notesSound (hs := hs)

theorem initial_notesSound {t : State} (h : t.notes = Notes.initial) : NotesSound t := by
  rw [notesSound_iff, h]
  exact ⟨.nil, fun e he => by cases he⟩

theorem Fine.notesSound {s t : State} (h : Fine s t) (hs : NotesSound s) : NotesSound t := by
  cases h with
  | port p x => exact (setPort_frame s p x).notesSound (hs := hs)
  | transmit p => exact (transmitOn_frame p s).notesSound (hs := hs)
  | store x => exact (storeUpdate_frame s x).notesSound (hs := hs)
  | load k x slot => exact (setBank_frame s k _).notesSound (hs := hs)
  | seq x => exact (seqUpdate_frame s x).notesSound (hs := hs)
  | resetting x => exact (resettingUpdate_frame s x).notesSound (hs := hs)
  | initial x slot entry => exact (initialTake_frame x slot entry s).notesSound (hs := hs)
  | restarted => exact initial_notesSound ((requestFetch_frame _ _).at .notes)
  | powered => exact initial_notesSound rfl
  | counted m x => exact initial_notesSound ((requestFetch_frame _ _).at .notes)

/-- Settles O9: entries leave, move to RELEASING or change in their destinations; the entry of a strike releases the one it replaces. -/
theorem notesStaySound : Obligations.NotesStaySound := fun _ _ hs h =>
  step_keeps (fun _ _ hb => hb.keeps fun _ _ => Block.notesSound) (fun _ _ => Fine.notesSound) h hs

/-! ## Capacities (R28, R39, R56, R74, R77, R91, R112, R120) -/

/-- A change that leaves every queue and table. -/
theorem WithinCapacity.same {s t : State} (hs : WithinCapacity s) (layer : t.layer = s.layer) (bus : t.bus = s.bus)
    (notes : t.notes = s.notes) (links : t.links = s.links) (tap : t.tap = s.tap) (follower : t.follower = s.follower) :
    WithinCapacity t where
  keyOns := layer ▸ hs.keyOns
  controls := layer ▸ hs.controls
  realtime := bus ▸ hs.realtime
  pass := bus ▸ hs.pass
  entries := notes ▸ hs.entries
  fifo := fun l => by rw [State.link, links]; exact hs.fifo l
  taps := tap ▸ hs.taps
  locks := follower ▸ hs.locks

theorem SameBut.capacity {ps : List Part} {s t : State} (h : SameBut ps s t)
    (hd : ∀ q ∈ [Part.layer, .bus, .notes, .links, .tap, .follower], q ∉ ps := by decide) (hs : WithinCapacity s) : WithinCapacity t :=
  hs.same (h.at .layer (hd _ (by decide))) (h.at .bus (hd _ (by decide))) (h.at .notes (hd _ (by decide)))
    (h.at .links (hd _ (by decide))) (h.at .tap (hd _ (by decide))) (h.at .follower (hd _ (by decide)))

/-- A change of the Held-Note Table, with what the leaving of an entry brings about, that leaves it within its capacity. -/
theorem SameBut.capacity_notes {ps : List Part} {s t : State} (h : SameBut ps s t) (he : t.notes.entries.length ≤ 128)
    (hd : ∀ q ∈ [Part.layer, .bus, .links, .tap, .follower], q ∉ ps := by decide) (hs : WithinCapacity s) : WithinCapacity t where
  keyOns := (h.at .layer (hd _ (by decide)) : t.layer = _) ▸ hs.keyOns
  controls := (h.at .layer (hd _ (by decide)) : t.layer = _) ▸ hs.controls
  realtime := (h.at .bus (hd _ (by decide)) : t.bus = _) ▸ hs.realtime
  pass := (h.at .bus (hd _ (by decide)) : t.bus = _) ▸ hs.pass
  entries := he
  fifo := fun l => by rw [State.link, (h.at .links (hd _ (by decide)) : t.links = _)]; exact hs.fifo l
  taps := (h.at .tap (hd _ (by decide)) : t.tap = _) ▸ hs.taps
  locks := (h.at .follower (hd _ (by decide)) : t.follower = _) ▸ hs.locks

theorem releaseEntries_length (w : Entry → Bool) (s : State) : (releaseEntries w s).1.notes.entries.length ≤ s.notes.entries.length := by
  rw [releaseEntries_notes]
  exact (releaseScan_thinned w _ _).length_le

theorem Block.capacity {s t : State} (h : Block Retimed s t) (hs : WithinCapacity s) : WithinCapacity t := by
  have room := hs.entries
  cases h with
  | grid h =>
    have locks := hs.locks
    have taps := hs.taps
    have locks' := h.locks
    have taps' := h.taps
    exact {
      keyOns := (h.frame.at .layer : t.layer = _) ▸ hs.keyOns
      controls := (h.frame.at .layer : t.layer = _) ▸ hs.controls
      realtime := (h.frame.at .bus : t.bus = _) ▸ hs.realtime
      pass := (h.frame.at .bus : t.bus = _) ▸ hs.pass
      entries := (h.frame.at .notes : t.notes = _) ▸ hs.entries
      fifo := fun l => by rw [State.link, (h.frame.at .links : t.links = _)]; exact hs.fifo l
      taps := by omega
      locks := by omega }
  | quiet h => exact h.capacity (hs := hs)
  | tell p b o => exact (postTo_frame p b o s).capacity (hs := hs)
  | layer x hk hc =>
    exact { hs with
      keyOns := hk.trans (max_le (Nat.le_refl 32) hs.keyOns)
      controls := hc.trans (max_le (Nat.le_refl 16) hs.controls) }
  | bus x h =>
    exact { hs with
      realtime := h.realtime.trans (max_le (Nat.le_refl 8) hs.realtime)
      pass := h.pass.trans (max_le (Nat.le_refl 16) hs.pass) }
  | links x h => exact { hs with fifo := fun l => (h l).trans (max_le (Nat.le_refl 16) (hs.fifo l)) }
  | release w => exact (releaseEntries_frame w s).capacity_notes ((releaseEntries_length w s).trans room) (hs := hs)
  | sustain l c k =>
    exact (noteRelease_frame l c k true s).capacity_notes ((noteSustain_thinned l c k s).length_le.trans room) (hs := hs)
  | flag n i f => exact (flagDest_frame n i f s).capacity_notes ((flagDest_thinned n i f s).length_le.trans room) (hs := hs)
  | ended n i => exact (endDest_frame n i s).capacity_notes ((endDest_thinned n i s).length_le.trans room) (hs := hs)
  | make k h =>
    refine (makeEntry_frame k s).capacity_notes ((releaseEntries_length _ _).trans ?_) (hs := hs)
    simp only [List.length_append, List.length_singleton]
    omega
  | counts x he => exact (notesUpdate_frame s x).capacity_notes (he ▸ room) (hs := hs)
  | panic => exact (panicNotes_frame s).capacity_notes (by rw [panicNotes_notes]; exact Nat.zero_le _) (hs := hs)
  | bank k x => exact (setBank_frame s k x).capacity (hs := hs)
  | roles x => exact (changeRoles_frame x s).capacity (hs := hs)
  | load => exact (examineLoad_frame s).capacity (hs := hs)
  | displace c => exact (cueLeft_frame c s).capacity (hs := hs)
  | offer c => exact (seqUpdate_frame s _).capacity (hs := hs)
  | seq x => exact (seqUpdate_frame s x).capacity (hs := hs)
  | store x => exact (storeUpdate_frame s x).capacity (hs := hs)
  | opNext => exact (storeNext_frame s).capacity (hs := hs)
  | opSet op new => exact (setOp_frame new s).capacity (hs := hs)
  | opBegin op => exact (setOp_frame op s).capacity (hs := hs)
  | flash x => exact (flashUpdate_frame s x).capacity (hs := hs)
  | restart => exact (restartTaken_frame s).capacity (hs := hs)

theorem takeSteps_capacity (judged : Transport) (x : Song) (place : Option Nat) (o : Option Origin) (s : State) :
    WithinCapacity s → WithinCapacity (takeSteps judged x place o s) :=
  Runs.keeps (R := Block Retimed) (fun _ _ => Block.capacity) (takeSteps_runs judged x place o s)

theorem reset_capacity : WithinCapacity State.reset := by constructor <;> decide

/-- At a reset's end the blocks' queues and tables are empty. -/
theorem requestFetch_capacity (f : Fetch) (s : State) : WithinCapacity s → WithinCapacity (requestFetch f s) :=
  fun hs => (requestFetch_frame f s).capacity (hs := hs)

theorem Fine.capacity {s t : State} (h : Fine s t) (hs : WithinCapacity s) : WithinCapacity t := by
  cases h with
  | port p x => exact (setPort_frame s p x).capacity (hs := hs)
  | transmit p => exact (transmitOn_frame p s).capacity (hs := hs)
  | store x => exact (storeUpdate_frame s x).capacity (hs := hs)
  | load k x slot => exact (setBank_frame s k _).capacity (hs := hs)
  | seq x => exact (seqUpdate_frame s x).capacity (hs := hs)
  | resetting x => exact (resettingUpdate_frame s x).capacity (hs := hs)
  | initial x slot entry =>
    refine takeSteps_capacity _ _ _ _ _ (((setBank_frame s .a (Bank.load x slot)).capacity (hs := hs)).same ?_ ?_ ?_ ?_ ?_ ?_) <;> rfl
  | restarted =>
    obtain ⟨keyOns, controls, realtime, pass, entries, fifo, taps, locks⟩ := reset_capacity
    exact requestFetch_capacity _ _ ⟨keyOns, controls, realtime, pass, entries, fifo, taps, locks⟩
  | powered => exact reset_capacity.same rfl rfl rfl rfl rfl rfl
  | counted m x =>
    unfold countStart
    refine requestFetch_capacity _ _ ?_
    exact reset_capacity.same rfl rfl rfl rfl rfl rfl

/-! ## Pending programs (R117) -/

theorem SameBut.programsSound {ps : List Part} {s t : State} (h : SameBut ps s t) (hb : Part.bus ∉ ps := by decide)
    (hs : ProgramsSound s) : ProgramsSound t := by
  have bus : t.bus = s.bus := h.at .bus hb
  rw [ProgramsSound, bus]
  exact hs

theorem Block.programsSound {s t : State} (h : Block Retimed s t) (hs : ProgramsSound s) : ProgramsSound t := by
  cases h with
  | grid h => exact h.frame.programsSound (hs := hs)
  | quiet h => exact h.programsSound (hs := hs)
  | tell p b o => exact (postTo_frame p b o s).programsSound (hs := hs)
  | layer x => exact (layerUpdate_frame s x).programsSound (hs := hs)
  | bus x h => exact h.pending hs
  | links x => exact (linksUpdate_frame s x).programsSound (hs := hs)
  | release w => exact (releaseEntries_frame w s).programsSound (hs := hs)
  | sustain l c k => exact (noteRelease_frame l c k true s).programsSound (hs := hs)
  | flag n i f => exact (flagDest_frame n i f s).programsSound (hs := hs)
  | ended n i => exact (endDest_frame n i s).programsSound (hs := hs)
  | make k => exact (makeEntry_frame k s).programsSound (hs := hs)
  | counts x => exact (notesUpdate_frame s x).programsSound (hs := hs)
  | panic => exact (panicNotes_frame s).programsSound (hs := hs)
  | bank k x => exact (setBank_frame s k x).programsSound (hs := hs)
  | roles x => exact (changeRoles_frame x s).programsSound (hs := hs)
  | load => exact (examineLoad_frame s).programsSound (hs := hs)
  | displace c => exact (cueLeft_frame c s).programsSound (hs := hs)
  | offer c => exact (seqUpdate_frame s _).programsSound (hs := hs)
  | seq x => exact (seqUpdate_frame s x).programsSound (hs := hs)
  | store x => exact (storeUpdate_frame s x).programsSound (hs := hs)
  | opNext => exact (storeNext_frame s).programsSound (hs := hs)
  | opSet op new => exact (setOp_frame new s).programsSound (hs := hs)
  | opBegin op => exact (setOp_frame op s).programsSound (hs := hs)
  | flash x => exact (flashUpdate_frame s x).programsSound (hs := hs)
  | restart => exact (restartTaken_frame s).programsSound (hs := hs)

theorem takeSteps_programsSound (judged : Transport) (x : Song) (place : Option Nat) (o : Option Origin) (s : State) :
    ProgramsSound s → ProgramsSound (takeSteps judged x place o s) :=
  Runs.keeps (R := Block Retimed) (fun _ _ => Block.programsSound) (takeSteps_runs judged x place o s)

theorem requestFetch_programsSound (f : Fetch) (s : State) : ProgramsSound s → ProgramsSound (requestFetch f s) :=
  fun hs => (requestFetch_frame f s).programsSound (hs := hs)

theorem Fine.programsSound {s t : State} (h : Fine s t) (hs : ProgramsSound s) : ProgramsSound t := by
  cases h with
  | port p x => exact (setPort_frame s p x).programsSound (hs := hs)
  | transmit p => exact (transmitOn_frame p s).programsSound (hs := hs)
  | store x => exact (storeUpdate_frame s x).programsSound (hs := hs)
  | load k x slot => exact (setBank_frame s k _).programsSound (hs := hs)
  | seq x => exact (seqUpdate_frame s x).programsSound (hs := hs)
  | resetting x => exact (resettingUpdate_frame s x).programsSound (hs := hs)
  | initial x slot entry => exact takeSteps_programsSound _ _ _ _ _ ((setBank_frame s .a (Bank.load x slot)).programsSound (hs := hs))
  | restarted => exact requestFetch_programsSound _ _ List.Pairwise.nil
  | powered => exact List.Pairwise.nil
  | counted m x => exact requestFetch_programsSound _ _ List.Pairwise.nil

/-- Settles O6: each work that lets a queue or table grow does so below its capacity, and a post takes the place of its like. -/
theorem capacitiesHold : Obligations.CapacitiesHold :=
  ⟨fun _ _ hs h => step_keeps (fun _ _ hb => hb.keeps fun _ _ => Block.capacity) (fun _ _ => Fine.capacity) h hs,
    fun _ _ hs h => step_keeps (fun _ _ hb => hb.keeps fun _ _ => Block.programsSound) (fun _ _ => Fine.programsSound) h hs⟩

end Sys2Proof.Machine
end

section
/-! PROOF. The works of the grid and the Follower by their moves: what a move keeps of the tempos, the show position, the transport and the
tempo records, and which moves each work makes (O7, O8). -/

namespace Sys2Proof.Machine

/-! ## What the grid and the Follower keep -/

/-- A position within the meter and the bars, in bars −3 to 0 in the count-in alone (R8, R11). -/
structure Position.Within (p : Position) (meter : Nat) (x : Transport) : Prop where
  tick : p.tick < 240
  beat : 1 ≤ p.beat ∧ p.beat ≤ meter
  bar : -3 ≤ p.bar ∧ p.bar ≤ 9999
  countIn : p.bar < 1 ↔ x = .countIn

/-- A ramp record in range (R19). -/
abbrev Ramp.Ok (r : Ramp) : Prop := TempoOk r.start ∧ TempoOk r.target ∧ r.done < r.beats

/-- The tempos and the show position in range: what GridSound says of the grid and the Follower. -/
structure Tuned (g : Grid) (f : Follower) : Prop where
  tempo : TempoOk g.tempo
  followTempo : TempoOk f.tempo
  remainder : g.remainder < g.tempo ∨ g.fresh = true
  ramp : ∀ r, g.ramp = some r → r.Ok
  correction : ∀ c, g.correction = some c → TempoOk c.tempo
  meter : 1 ≤ g.meter ∧ g.meter ≤ 15
  place : g.position.Within g.meter g.transport

/-- The songs the banks hold are in range. -/
def SongsOk (s : State) : Prop := (∀ x, s.banks.a.image = some x → x.Ok) ∧ ∀ x, s.banks.b.image = some x → x.Ok

/-- The tap intervals are in window. -/
def TapsOk (x : TapTimer) : Prop := ∀ i ∈ x.intervals, 200000 ≤ i ∧ i ≤ 2000000

theorem gridSound_iff (s : State) : GridSound s ↔ Tuned s.grid s.follower ∧ SongsOk s ∧ TapsOk s.tap := by
  constructor
  · intro h
    exact ⟨⟨h.tempo, h.followTempo, h.remainder, h.ramp, h.correction, h.meter, ⟨h.tick, h.beat, h.bar, h.countIn⟩⟩, ⟨h.songA, h.songB⟩, h.taps⟩
  · rintro ⟨h, ⟨songA, songB⟩, taps⟩
    exact ⟨h.tempo, h.followTempo, h.remainder, h.ramp, h.correction, h.meter, h.place.tick, h.place.beat, h.place.bar, h.place.countIn,
      songA, songB, taps⟩

/-- Nothing of an emitting grid is left: no remainder, no countdown, no tempo record. -/
structure Grid.Idle (g : Grid) : Prop where
  remainder : g.remainder = 0
  countdown : g.countdown = none
  ramp : g.ramp = none
  correction : g.correction = none

/-- The transport and the Follower hang together: what TransportSound says, but for the countdown of a grid that emits ticks. -/
structure Linked (g : Grid) (f : Follower) : Prop where
  idle : g.transport.emits = false → g.Idle
  pending : g.transport = .startPending → g.source = .follow
  off : f.state = .off ↔ g.source ≠ .follow
  holdoverTimer : f.holdoverTimer.isSome = true → f.state = .locked
  paceTimer : f.paceTimer.isSome = true → f.state = .holdover

/-- A grid that emits ticks counts an interval. -/
def Grid.Counts (g : Grid) : Prop := g.transport.emits = true → g.countdown.isSome = true

theorem transportSound_iff (s : State) : TransportSound s ↔ Linked s.grid s.follower ∧ s.grid.Counts := by
  constructor
  · intro h
    refine ⟨⟨fun still => ⟨h.idle still, ?_, ?_, ?_⟩, h.pending, h.off, h.holdoverTimer, h.paceTimer⟩, fun e => h.countdown.trans e⟩
    · simpa [still] using h.countdown
    · cases hr : s.grid.ramp with
      | none => rfl
      | some r => exact absurd (h.ramp (by simp [hr])) (by simp [still])
    · cases hc : s.grid.correction with
      | none => rfl
      | some c => exact absurd (h.correction (by simp [hc])) (by simp [still])
  · rintro ⟨h, counts⟩
    refine ⟨?_, fun e => (h.idle e).remainder, fun r => ?_, fun c => ?_, h.pending, h.off, h.holdoverTimer, h.paceTimer⟩
    all_goals
      cases e : s.grid.transport.emits with
      | true => first | rfl | exact counts e
      | false =>
        have idle := h.idle e
        simp_all [idle.countdown, idle.ramp, idle.correction]

/-! ## Tempos in range -/

theorem clampTempo_ok (n : Nat) : TempoOk (clampTempo n) := by
  unfold clampTempo TempoOk
  split
  · omega
  · split <;> omega

theorem roundHalfUp_le {n d m : Nat} (hd : 0 < d) (h : n ≤ m * d) : roundHalfUp n d ≤ m := by
  unfold roundHalfUp
  rw [← Nat.lt_succ_iff, Nat.div_lt_iff_lt_mul (by omega), Nat.succ_eq_add_one]
  nlinarith

theorem le_roundHalfUp {n d m : Nat} (hd : 0 < d) (h : m * d ≤ n) : m ≤ roundHalfUp n d := by
  unfold roundHalfUp
  rw [Nat.le_div_iff_mul_le (by omega)]
  nlinarith

/-- The rounded fraction k / d of a number lies between 0 and the number. -/
theorem roundHalfUp_fraction {k d : Nat} (n : Nat) (hd : 0 < d) (h : k ≤ d) : roundHalfUp (n * k) d ≤ n :=
  roundHalfUp_le hd (Nat.mul_le_mul_left n h)

theorem roundAway_nat (n d : Nat) : roundAway (n : Int) d = roundHalfUp n d := by simp [roundAway]

theorem roundAway_neg (n : Nat) {d : Nat} (hd : 0 < d) : roundAway (-(n : Int)) d = -(roundHalfUp n d : Int) := by
  unfold roundAway
  split
  · have zero : n = 0 := by omega
    have half : d / (2 * d) = 0 := Nat.div_eq_of_lt (by omega)
    simp [zero, roundHalfUp, half]
  · simp

/-- A ramp's tempos lie between its start and its target (R19). -/
theorem Ramp.at_ok {r : Ramp} (h : r.Ok) : TempoOk (r.at (r.done + 1)) := by
  obtain ⟨⟨s1, s2⟩, ⟨t1, t2⟩, left⟩ := h
  have fraction (n : Nat) : roundHalfUp (n * (r.done + 1)) r.beats ≤ n := roundHalfUp_fraction n (by omega) (by omega)
  unfold Ramp.at TempoOk
  rcases le_total r.start r.target with up | down
  · have rise : ((r.target : Int) - r.start) * (r.done + 1 : Nat) = ((r.target - r.start) * (r.done + 1) : Nat) := by
      push_cast [Nat.cast_sub up]; ring
    have := fraction (r.target - r.start)
    rw [rise, roundAway_nat]
    omega
  · have fall : ((r.target : Int) - r.start) * (r.done + 1 : Nat) = -(((r.start - r.target) * (r.done + 1) : Nat) : Int) := by
      push_cast [Nat.cast_sub down]; ring
    have := fraction (r.start - r.target)
    rw [fall, roundAway_neg _ (by omega)]
    omega

theorem sum_between {lo hi : Nat} : ∀ {l : List Nat}, (∀ i ∈ l, lo ≤ i ∧ i ≤ hi) → lo * l.length ≤ l.sum ∧ l.sum ≤ hi * l.length
  | [], _ => by simp
  | x :: xs, h => by
    have rest := sum_between (l := xs) fun i hi => h i (List.mem_cons_of_mem _ hi)
    have first := h x List.mem_cons_self
    simp only [List.length_cons, List.sum_cons, Nat.mul_succ]
    omega

/-- Intervals of 200,000 to 2,000,000 µs give a tempo of 3000 to 30000 cBPM (R39, R40). -/
theorem tapTempo_ok {l : List Nat} (hl : 0 < l.length) (h : ∀ i ∈ l, 200000 ≤ i ∧ i ≤ 2000000) : TempoOk (tapTempo l) := by
  have sum := sum_between h
  have pos : 0 < l.sum := by omega
  exact ⟨le_roundHalfUp pos (by omega), roundHalfUp_le pos (by omega)⟩

/-! ## Moves -/

/-- One move of the grid and the Follower. A condition on values may use that the state is sound, one on the transport that it hangs
together. -/
inductive Move (s : State) : State → Prop where
  | other {t : State} (hg : t.grid = s.grid) (hf : t.follower = s.follower) (ht : t.tap = s.tap) (hb : SongsOk s → SongsOk t) : Move s t
  | tempo (v : Nat) (h : GridSound s → TempoOk v) : Move s (setTempo v s)
  | ramp (x : Option Ramp) (h : GridSound s → ∀ r, x = some r → r.Ok)
      (hl : Linked s.grid s.follower → s.grid.transport.emits = false → x = none) : Move s { s with grid := { s.grid with ramp := x } }
  | correction (x : Option Correction) (h : GridSound s → ∀ c, x = some c → TempoOk c.tempo)
      (hl : Linked s.grid s.follower → s.grid.transport.emits = false → x = none) :
      Move s { s with grid := { s.grid with correction := x } }
  | remainder : Move s { s with grid := { s.grid with remainder := 0 } }
  | interval (h : Linked s.grid s.follower → s.grid.transport.emits = true) : Move s (nextInterval s)
  | place (x : Transport) (m : Nat) (p : Position) (h : GridSound s → (1 ≤ m ∧ m ≤ 15) ∧ p.Within m x)
      (hi : Linked s.grid s.follower → x.emits = false → s.grid.Idle)
      (hp : Linked s.grid s.follower → x = .startPending → s.grid.source = .follow) :
      Move s { s with grid := { s.grid with transport := x, meter := m, position := p } }
  | stop (p : Position) (h : GridSound s → p.Within s.grid.meter .stopped) : Move s { s with
      grid := { s.grid with tempo := s.stopTempo, remainder := 0, countdown := none, fresh := false, position := p, ramp := none,
                            correction := none, transport := .stopped }
      follower := s.follower.atStop s.now }
  | clear : Move s { s with grid := { s.grid with countdown := none, remainder := 0, ramp := none, correction := none } }
  | source (x : TempoSource) (h : Linked s.grid s.follower → s.grid.transport = .startPending → x = .follow) : Move s (switchSource x s)
  | follower (f : Follower) (h : GridSound s → TempoOk f.tempo) (hl : Linked s.grid s.follower → Linked s.grid f) :
      Move s (setFollower f s)
  | tapped (x : TapTimer) (h : GridSound s → TapsOk x) : Move s { s with tap := x }

theorem Move.run {s t : State} (h : Move s t) : Runs Move s t := .single h

/-! ### What a move keeps -/

theorem Tuned.retuned {g : Grid} {f : Follower} (h : Tuned g f) {v : Nat} (hv : TempoOk v) : Tuned (g.retuned v) f where
  tempo := hv
  followTempo := h.followTempo
  remainder := by
    unfold Grid.retuned
    dsimp only
    split
    · next e => exact e ▸ h.remainder
    · exact .inr rfl
  ramp := h.ramp
  correction := h.correction
  meter := h.meter
  place := h.place

theorem Tuned.interval {g : Grid} {f : Follower} (h : Tuned g f) (now : Count) : Tuned (g.interval now) f where
  tempo := h.tempo
  followTempo := h.followTempo
  remainder := .inl (by
    have pos : 0 < g.tempo := Nat.lt_of_lt_of_le (by omega) h.tempo.1
    unfold Grid.interval
    dsimp only
    rw [← Nat.mod_eq_sub_div_mul]
    exact Nat.mod_lt _ pos)
  ramp := h.ramp
  correction := h.correction
  meter := h.meter
  place := h.place

theorem Tuned.pos {g : Grid} {f : Follower} (h : Tuned g f) : 0 < g.tempo := Nat.lt_of_lt_of_le (by omega) h.tempo.1

theorem switchSource_tempo (x : TempoSource) (s : State) :
    (switchSource x s).follower.tempo = s.follower.tempo ∨ (switchSource x s).follower.tempo = s.grid.tempo := by
  cases x <;> by_cases h : s.grid.source = .follow <;> simp [switchSource, h, Follower.seekFrom, Follower.turnOff]

theorem stopTempo_ok {s : State} (h : Tuned s.grid s.follower) : TempoOk s.stopTempo := by
  unfold State.stopTempo
  split
  · next hr => exact (h.ramp _ hr).2.1
  · exact h.followTempo
  · exact h.tempo

theorem Move.gridSound {s t : State} (h : Move s t) (hs : GridSound s) : GridSound t := by
  obtain ⟨tuned, songs, taps⟩ := (gridSound_iff s).1 hs
  rw [gridSound_iff]
  cases h with
  | other hg hf ht hb => exact ⟨hg ▸ hf ▸ tuned, hb songs, ht ▸ taps⟩
  | tempo v h =>
    have frame := setTempo_frame v s
    rw [setTempo_grid, (frame.at .follower : (setTempo v s).follower = _), (frame.at .tap : (setTempo v s).tap = _), SongsOk,
      (frame.at .banks : (setTempo v s).banks = _)]
    exact ⟨tuned.retuned (h hs), songs, taps⟩
  | ramp x h => exact ⟨{ tuned with ramp := h hs }, songs, taps⟩
  | correction x h => exact ⟨{ tuned with correction := h hs }, songs, taps⟩
  | remainder => exact ⟨{ tuned with remainder := .inl tuned.pos }, songs, taps⟩
  | interval => exact ⟨tuned.interval _, songs, taps⟩
  | place x m p h => exact ⟨{ tuned with meter := (h hs).1, place := (h hs).2 }, songs, taps⟩
  | stop p h =>
    have ok := stopTempo_ok tuned
    refine ⟨⟨ok, ?_, .inl (Nat.lt_of_lt_of_le (Nat.zero_lt_succ 2999) ok.1), by simp, by simp, tuned.meter, h hs⟩, songs, taps⟩
    dsimp only [Follower.atStop]
    split <;> exact tuned.followTempo
  | clear => exact ⟨{ tuned with remainder := .inl tuned.pos, ramp := by simp, correction := by simp }, songs, taps⟩
  | source x =>
    refine ⟨⟨tuned.tempo, ?_, tuned.remainder, by simp [switchSource], by simp [switchSource], tuned.meter, tuned.place⟩, songs, taps⟩
    rcases switchSource_tempo x s with e | e <;> rw [e]
    · exact tuned.followTempo
    · exact tuned.tempo
  | follower f h => exact ⟨{ tuned with followTempo := h hs }, songs, taps⟩
  | tapped x h => exact ⟨tuned, songs, h hs⟩

theorem Grid.Idle.retuned {g : Grid} (h : g.Idle) (v : Nat) : (g.retuned v).Idle := ⟨h.remainder, h.countdown, h.ramp, h.correction⟩

theorem Follower.atStop_linked {f : Follower} (now : Count) (h : f.paceTimer.isSome = true → f.state = .holdover) :
    (f.atStop now).state = f.state ∧ (f.atStop now).holdoverTimer = f.holdoverTimer ∧
      ((f.atStop now).paceTimer.isSome = true → f.state = .holdover) := by
  unfold Follower.atStop
  split
  · next hs => exact ⟨rfl, rfl, fun _ => hs⟩
  · exact ⟨rfl, rfl, h⟩

theorem Move.linked {s t : State} (h : Move s t) (hs : Linked s.grid s.follower) : Linked t.grid t.follower := by
  cases h with
  | other hg hf => exact hg ▸ hf ▸ hs
  | tempo v =>
    rw [setTempo_grid, setTempo_follower]
    exact ⟨fun e => (hs.idle e).retuned v, hs.pending, hs.off, hs.holdoverTimer, hs.paceTimer⟩
  | ramp x _ hl => exact { hs with idle := fun e => { hs.idle e with ramp := hl hs e } }
  | correction x _ hl => exact { hs with idle := fun e => { hs.idle e with correction := hl hs e } }
  | remainder => exact { hs with idle := fun e => { hs.idle e with remainder := rfl } }
  | interval h => exact { hs with idle := fun e => absurd (h hs) (by rw [show s.grid.transport.emits = false from e]; decide) }
  | place x m p _ hi hp => exact { hs with idle := fun e => ⟨(hi hs e).remainder, (hi hs e).countdown, (hi hs e).ramp, (hi hs e).correction⟩, pending := hp hs }
  | stop p =>
    obtain ⟨state, timer, pace⟩ := Follower.atStop_linked s.now hs.paceTimer
    refine ⟨fun _ => ⟨rfl, rfl, rfl, rfl⟩, nofun, ?_, ?_, ?_⟩
    · rw [state]; exact hs.off
    · rw [state, timer]; exact hs.holdoverTimer
    · rw [state]; exact pace
  | clear => exact { hs with idle := fun _ => ⟨rfl, rfl, rfl, rfl⟩ }
  | source x h =>
    have off := hs.off
    have idle (e : s.grid.transport.emits = false) : (switchSource x s).grid.Idle := ⟨(hs.idle e).remainder, (hs.idle e).countdown, rfl, rfl⟩
    have holdoverTimer := hs.holdoverTimer
    have paceTimer := hs.paceTimer
    refine ⟨idle, h hs, ?_, ?_, ?_⟩
    all_goals
      cases x <;> by_cases hf : s.grid.source = .follow <;> simp_all [switchSource, Follower.seekFrom, Follower.turnOff]
  | follower f _ hl => exact hl hs
  | tapped x => exact hs

/-! ## The moves of the grid's works -/

/-- A change elsewhere. -/
theorem SameBut.move {ps : List Part} {s t : State} (h : SameBut ps s t)
    (hd : ∀ q ∈ [Part.grid, .follower, .tap, .banks], q ∉ ps := by decide) : Runs Move s t := by
  have banks : t.banks = s.banks := h.at .banks (hd _ (by decide))
  exact .single (.other (h.at .grid (hd _ (by decide))) (h.at .follower (hd _ (by decide))) (h.at .tap (hd _ (by decide)))
    (fun hs => by rw [SongsOk, banks]; exact hs))

theorem post_moves (b : NoticeBody) (o : Option Origin) (s : State) : Runs Move s (post b o s) := (post_frame b o s).move

theorem rampStep_moves (s : State) : Runs Move s (rampStep s) := by
  unfold rampStep
  split
  · next r hr =>
    split
    · refine (Move.tempo (r.at (r.done + 1)) fun hs => Ramp.at_ok (hs.ramp r hr)).run.tail (.ramp _ (fun hs x hx => ?_) fun hl e => ?_)
      · have old := hs.ramp r (by rw [setTempo_grid]; exact hr)
        split at hx
        · cases hx
        · cases hx
          exact ⟨old.1, old.2.1, by dsimp only; omega⟩
      · have none := (hl.idle e).ramp
        rw [setTempo_grid] at none
        exact absurd (hr.symm.trans none) (by simp)
    · exact .refl
  · exact .refl

theorem correctionTick_moves (s : State) : Runs Move s (correctionTick s) := by
  unfold correctionTick
  split
  · next c hc =>
    have kept (n : Nat) (b : Bool) : Runs Move s { s with grid := { s.grid with correction := some { c with remaining := n, counting := b } } } := by
      refine .single (.correction _ (fun hs x hx => ?_) fun hl e => ?_)
      · cases hx
        exact hs.correction c hc
      · exact absurd (hc.symm.trans (hl.idle e).correction) (by simp)
    split
    · split
      · exact (Move.correction none (fun _ _ h => by cases h) fun _ _ => rfl).run.tail (.tempo _ fun hs => hs.followTempo)
      · exact kept _ _
    · exact kept _ _
  · exact .refl

theorem tickReceivers_moves (ofTake ends : Bool) (s : State) : Runs Move s (tickReceivers ofTake ends s) := by
  have clicked : Runs Move s (clkoutTick (clickTick s)) :=
    ((clickTick_frame s).chain (clkoutTick_frame _) (rs := [.click, .bus])).move
  have ramp (x : State) : Runs Move x (if ofTake then x else rampStep x) := by
    split
    · exact .refl
    · exact rampStep_moves x
  have correction (x : State) : Runs Move x (if ends then correctionTick x else x) := by
    split
    · exact correctionTick_moves x
    · exact .refl
  exact ((clicked.trans (ramp _)).trans (correction _)).trans (tickEnd_frame _).move

/-- Neither the transport nor the source changes at a tick's receivers. -/
theorem tickReceivers_transport (ofTake ends : Bool) (s : State) : (tickReceivers ofTake ends s).grid.transport = s.grid.transport := by
  have clicked : (clkoutTick (clickTick s)).grid = s.grid :=
    ((clickTick_frame s).chain (clkoutTick_frame _) (rs := [.click, .bus])).at .grid
  have ramp (x : State) : (rampStep x).grid.transport = x.grid.transport := by
    unfold rampStep
    split
    · split
      · simp [setTempo_grid, Grid.retuned]
      · rfl
    · rfl
  have correction (x : State) : (correctionTick x).grid.transport = x.grid.transport := by
    unfold correctionTick
    repeat' split
    all_goals simp [setTempo_grid, Grid.retuned]
  have ended (x : State) : (if ends then correctionTick x else x).grid.transport = x.grid.transport := by
    split
    · exact correction x
    · rfl
  calc (tickReceivers ofTake ends s).grid.transport
      = (if ends then correctionTick _ else _ : State).grid.transport := congrArg Grid.transport ((tickEnd_frame _).at .grid)
    _ = (if ofTake then clkoutTick (clickTick s) else rampStep (clkoutTick (clickTick s)) : State).grid.transport := ended _
    _ = s.grid.transport := by
      split
      · rw [clicked]
      · rw [ramp, clicked]

theorem firstTick_moves (ofTake : Bool) {s : State} (h : s.grid.transport.emits = true) : Runs Move s (firstTick ofTake s) := by
  have readied : Runs Move s s.readied := by
    refine Relation.ReflTransGen.tail ?_ (.remainder (s := setFollower { s.follower with paceTimer := none } s))
    exact .single (.follower _ (fun hs => hs.followTempo) fun hl => { hl with paceTimer := fun e => by cases e })
  refine (readied.trans (tickReceivers_moves ofTake false _)).tail (.interval fun _ => ?_)
  rw [tickReceivers_transport]
  exact h

theorem enterTransport_moves (x : Transport) (o : Option Origin) {s : State}
    (h : GridSound s → s.grid.position.Within s.grid.meter x) (hi : Linked s.grid s.follower → x.emits = false → s.grid.Idle)
    (hp : Linked s.grid s.follower → x = .startPending → s.grid.source = .follow) : Runs Move s (enterTransport x o s) :=
  (Move.place x s.grid.meter s.grid.position (fun hs => ⟨hs.meter, h hs⟩) hi hp).run.trans (post_moves ..)

theorem startAt_moves {x : Transport} {p : Position} (o : Option Origin) {s : State} (hx : x.emits = true)
    (h : GridSound s → p.Within s.grid.meter x) : Runs Move s (startAt x p o s) := by
  have entered : Runs Move s (enterTransport x o (setPosition p s)) := by
    refine (Move.place x s.grid.meter p (fun hs => ⟨hs.meter, h hs⟩) (fun _ e => absurd hx (by simp [e])) fun _ e => ?_).run.trans
      (post_moves ..)
    cases e; cases hx
  refine entered.trans (firstTick_moves false ?_)
  rw [enterTransport_grid]
  exact hx

theorem GridSound.place {s : State} (h : GridSound s) : s.grid.position.Within s.grid.meter s.grid.transport :=
  ⟨h.tick, h.beat, h.bar, h.countIn⟩

/-- Outside the count-in a held position serves every other transport. -/
theorem Position.Within.held {p : Position} {m : Nat} {x y : Transport} (h : p.Within m x) (hx : x ≠ .countIn) (hy : y ≠ .countIn) :
    p.Within m y := ⟨h.tick, h.beat, h.bar, by simp [h.countIn, hx, hy]⟩

theorem Position.top_within {m : Nat} {x : Transport} (hm : 1 ≤ m) (hx : x ≠ .countIn) : Position.top.Within m x :=
  ⟨by decide, ⟨Nat.le_refl 1, hm⟩, by decide, by simp [Position.top, hx]⟩

/-- The first bar of a count-in (R11). -/
theorem countIn_within {m n : Nat} (hm : 1 ≤ m) (h1 : 1 ≤ n) (h4 : n ≤ 4) : Position.Within ⟨1 - (n : Int), 1, 0⟩ m .countIn :=
  ⟨by dsimp only; omega, ⟨Nat.le_refl 1, hm⟩, ⟨by dsimp only; omega, by dsimp only; omega⟩, by simp only [iff_true]; omega⟩

theorem start_moves (o : Origin) (s : State) : Runs Move s (start o s) := by
  unfold start
  split
  · next stopped =>
    split
    · next follow =>
      exact enterTransport_moves _ _ (fun hs => hs.place.held (by simp [stopped]) (by simp)) (fun hl _ => hl.idle (by simp [stopped, Transport.emits]))
        fun _ _ => follow
    · dsimp only
      split
      · next h => exact startAt_moves _ rfl fun hs => countIn_within hs.meter.1 h.1 h.2.1
      · exact startAt_moves _ rfl fun hs => hs.place.held (by simp [stopped]) (by simp)
  · exact .refl

/-- The position after the next tick (R8). -/
theorem Position.next_within {p : Position} {m : Nat} {x : Transport} (h : p.Within m x) (hm : 1 ≤ m) (hx : x ≠ .countIn) :
    (p.next m).Within m x := by
  obtain ⟨tick, beat, bar, countIn⟩ := h
  have bar1 : 1 ≤ p.bar := by simp [hx] at countIn; omega
  unfold Position.next
  split
  · exact ⟨by dsimp only; omega, beat, bar, countIn⟩
  · split
    · exact ⟨by dsimp only; omega, ⟨by dsimp only; omega, by dsimp only; omega⟩, bar, countIn⟩
    · refine ⟨by dsimp only; omega, ⟨Nat.le_refl 1, hm⟩, ?_, ?_⟩
      · dsimp only
        split <;> omega
      · simp only [hx, iff_false]
        split <;> omega

/-- In a count-in the next position is 1.1.0 or stays below bar 1. -/
theorem Position.next_countIn {p : Position} {m : Nat} (h : p.Within m .countIn) (hm : 1 ≤ m) :
    p.next m = Position.top ∨ (p.next m).Within m .countIn := by
  obtain ⟨tick, beat, bar, countIn⟩ := h
  have bar0 : p.bar < 1 := countIn.2 rfl
  unfold Position.next
  split
  · exact .inr ⟨by dsimp only; omega, beat, bar, countIn⟩
  · split
    · exact .inr ⟨by dsimp only; omega, ⟨by dsimp only; omega, by dsimp only; omega⟩, bar, countIn⟩
    · rw [if_neg (by omega)]
      by_cases last : p.bar = 0
      · exact .inl (by rw [last]; rfl)
      · exact .inr ⟨by dsimp only; omega, ⟨Nat.le_refl 1, hm⟩, ⟨by dsimp only; omega, by dsimp only; omega⟩, by simp only [iff_true]; omega⟩

theorem stopGrid_moves (o : Origin) (s : State) : Runs Move s (stopGrid o s) := by
  unfold stopGrid
  dsimp only
  split
  · next stopped =>
    have top : s.grid.stopPosition = Position.top := by simp [Grid.stopPosition, stopped]
    refine (Move.place .stopped s.grid.meter s.grid.stopPosition (fun hs => ⟨hs.meter, ?_⟩) (fun hl _ => hl.idle (by rw [stopped]; rfl))
      fun _ e => by cases e).run.trans (post_moves ..)
    rw [top]
    exact Position.top_within hs.meter.1 (by simp)
  · refine (Move.stop s.grid.stopPosition fun hs => ?_).run.trans (post_moves ..)
    unfold Grid.stopPosition
    split
    · exact Position.top_within hs.meter.1 (by simp)
    · next h => exact hs.place.held (by simp [h]) (by simp)
    · exact Position.top_within hs.meter.1 (by simp)
    · next h => exact (Position.next_within hs.place hs.meter.1 (by simp [h])).held (by simp [h]) (by simp)

/-! ### Changes of source -/

/-- The source changes, and a transport in START_PENDING that leaves FOLLOW is RUNNING, whatever is told in between (R12, R17). -/
theorem source_moves (x : TempoSource) {s t : State} (hf : t.follower = (switchSource x s).follower) (ht : t.tap = s.tap)
    (hb : t.banks = s.banks) (hg : t.grid = { s.grid with
      source := x, ramp := none, correction := none
      transport := if s.grid.transport = .startPending ∧ x ≠ .follow then .running else s.grid.transport }) : Runs Move s t := by
  have songs : SongsOk s → SongsOk t := fun hs => by rw [SongsOk, hb]; exact hs
  by_cases h : s.grid.transport = .startPending ∧ x ≠ .follow
  · rw [if_pos h] at hg
    have running : Runs Move s { s with grid := { s.grid with transport := .running, meter := s.grid.meter, position := s.grid.position } } :=
      .single (.place .running s.grid.meter s.grid.position (fun hs => ⟨hs.meter, hs.place.held (by simp [h.1]) (by simp)⟩)
        (fun _ e => by cases e) fun _ e => by cases e)
    exact (running.tail (.source x fun _ e => by cases e)).tail (.other hg hf ht songs)
  · rw [if_neg h] at hg
    exact (Move.source x fun _ e => by simpa [e] using h).run.tail (.other hg hf ht songs)

theorem endPending_follower (o : Option Origin) (s : State) : (endPending o s).follower = s.follower := (endPending_frame o s).at .follower

theorem endPending_grid (o : Option Origin) (s : State) : (endPending o s).grid = { s.grid with
    transport := if s.grid.transport = .startPending ∧ s.grid.source ≠ .follow then .running else s.grid.transport } := by
  unfold endPending
  split
  · rw [enterTransport_grid]
  · rfl

theorem changeSource_moves (x : TempoSource) (o : Option Origin) (s : State) : Runs Move s (endPending o (changeSource x s)) := by
  have frame := (changeSource_frame x s).chain (endPending_frame o _) (rs := sourceParts)
  refine source_moves x ?_ (frame.at .tap) (frame.at .banks) ?_
  · rw [endPending_follower, changeSource_follower]
  · rw [endPending_grid, changeSource_grid]

theorem setSource_moves (x : TempoSource) (o : Origin) (s : State) : Runs Move s (setSource x o s) := by
  unfold setSource
  dsimp only
  split
  · exact .refl
  · split
    · next h =>
      refine (changeSource_moves x (some o) s).trans (firstTick_moves false ?_)
      rw [endPending_grid, changeSource_grid]
      dsimp only
      rw [if_pos h]
      rfl
    · exact changeSource_moves x (some o) s

theorem noRamp_moves (s : State) : Runs Move s { s with grid := { s.grid with ramp := none } } :=
  .single (.ramp none (fun _ _ h => by cases h) fun _ _ => rfl)

theorem noCorrection_moves (s : State) : Runs Move s { s with grid := { s.grid with correction := none } } :=
  .single (.correction none (fun _ _ h => by cases h) fun _ _ => rfl)

/-- T_f takes another value. -/
theorem followTempo_moves {v : Nat} {s : State} (h : GridSound s → TempoOk v) :
    Runs Move s (setFollower { s.follower with tempo := v } s) := .single (.follower _ h fun hl => { hl with })

theorem applyTempo_moves (v : Nat) (s : State) : Runs Move s (applyTempo v s) := by
  have set := (noRamp_moves s).tail (.tempo (clampTempo v) fun _ => clampTempo_ok v)
  unfold applyTempo
  dsimp only
  split
  · exact (set.trans (followTempo_moves fun _ => clampTempo_ok v)).trans (noCorrection_moves _)
  · exact set

/-! ### Marks -/

theorem phaseError_still {g : Grid} (h : g.transport.emits = false) : phaseError g.phase = 0 := by simp [Grid.phase, h, phaseError]

/-- A grid that emits no ticks shows no phase error, and no correction record is made. -/
theorem correctPhase_moves {e : Int} {s : State} (h : s.grid.transport.emits = false → e = 0) : Runs Move s (correctPhase e s) := by
  unfold correctPhase
  dsimp only
  split
  · exact (noCorrection_moves s).tail (.tempo _ fun hs => hs.followTempo)
  · next hc =>
    refine (Move.tempo _ fun _ => clampTempo_ok _).run.tail (.correction _ (fun _ c hx => ?_) fun _ still => ?_)
    · cases hx
      exact clampTempo_ok _
    · rw [setTempo_grid] at still
      exact absurd (by rw [h still]; rfl) hc

theorem rewrittenBeat_range {e : Int} {b m : Nat} (h1 : b ≠ 0) (hm : b ≤ m) : 1 ≤ rewrittenBeat e b m ∧ rewrittenBeat e b m ≤ m := by
  unfold rewrittenBeat
  split
  · omega
  · split <;> omega

theorem realign_moves (e : Int) (b : Nat) (o : Option Origin) (s : State) : Runs Move s (realign e b o s) := by
  unfold realign
  dsimp only
  split
  · next h =>
    refine (Move.place s.grid.transport s.grid.meter { s.grid.position with beat := rewrittenBeat e b s.grid.meter } (fun hs =>
      ⟨hs.meter, ⟨hs.tick, rewrittenBeat_range h.1 h.2.1, hs.bar, hs.countIn⟩⟩) (fun hl e => hl.idle e) fun hl e => hl.pending e).run.trans
      (post_moves ..)
  · exact .refl

theorem startAtMark_moves {s : State} (h : s.grid.transport = .startPending) : Runs Move s (startAtMark s) := by
  refine startAt_moves none rfl fun hs => ?_
  have held : s.grid.position.Within s.grid.meter .running := hs.place.held (by simp [h]) (by simp)
  split
  · exact held
  · exact Position.next_within ⟨by dsimp only; omega, held.beat, held.bar, held.countIn⟩ hs.meter.1 (by simp)

theorem correctPhase_transport (e : Int) (s : State) : (correctPhase e s).grid.transport = s.grid.transport := by
  unfold correctPhase
  dsimp only
  split <;> simp [setTempo_grid, Grid.retuned]

theorem markWork_moves {e : Int} (b : Nat) (o : Option Origin) {s : State} (h : s.grid.transport.emits = false → e = 0) :
    Runs Move s (markWork e b o s) := by
  have drawn : Runs Move s s.drew := (drew_frame s).move
  unfold markWork
  split
  · next pending =>
    split
    · exact ((drawn.trans (correctPhase_moves fun _ => rfl)).trans
        (startAtMark_moves (by rw [correctPhase_transport]; exact pending))).trans (realign_moves ..)
    · exact ((drawn.trans (startAtMark_moves pending)).trans (correctPhase_moves fun _ => rfl)).trans (realign_moves ..)
  · exact (correctPhase_moves h).trans (realign_moves ..)

/-- The Follower takes another state, without its timers. -/
theorem followState_moves {f : Follower} {s : State} (ht : GridSound s → TempoOk f.tempo) (h : f.state ≠ .off)
    (hs : s.follower.state ≠ .off) (hh : f.holdoverTimer.isSome = true → f.state = .locked)
    (hp : f.paceTimer.isSome = true → f.state = .holdover) : Runs Move s (setFollower f s) := by
  refine .single (.follower f ht fun hl => { hl with off := ?_, holdoverTimer := hh, paceTimer := hp })
  have follow : s.grid.source = .follow := by simpa [hs] using hl.off
  simp [h, follow]

theorem followNotice_moves (x : FollowState) (s : State) : Runs Move s (followNotice x s) := post_moves ..

theorem markWork_follower_state (e : Int) (b : Nat) (o : Option Origin) (s : State) :
    (markWork e b o s).follower = s.follower ∨ (markWork e b o s).follower = { s.follower with paceTimer := none } := by
  have realigned (e' : Int) (x : State) : (realign e' b o x).follower = x.follower := (realign_frame e' b o x).at .follower
  have corrected (e' : Int) (x : State) : (correctPhase e' x).follower = x.follower := (correctPhase_frame e' x).at .follower
  have started (x : State) : (startAtMark x).follower = { x.follower with paceTimer := none } := by
    unfold startAtMark startAt
    rw [firstTick_follower, ((enterTransport_frame _ _ _).at .follower : (enterTransport _ _ _).follower = _)]
    rfl
  unfold markWork
  split
  · split
    · exact .inr (by rw [realigned, started, corrected]; rfl)
    · exact .inr (by rw [realigned, corrected, started]; rfl)
  · exact .inl (by rw [realigned, corrected])

/-- A mark that locks, or is accepted in LOCKED: the Follower LOCKED, the grid's work, the holdover timer. -/
theorem lockedMark_moves {f : Follower} {e : Int} (b : Nat) (o : Option Origin) (now : Count) {s : State} (ht : GridSound s → TempoOk f.tempo)
    (hf : f.state = .locked) (hs : s.follower.state ≠ .off) (hp : Linked s.grid s.follower → f.paceTimer = none)
    (h : s.grid.transport.emits = false → e = 0) :
    Runs Move s (setFollower ((markWork e b o (setFollower f s)).follower.heldFrom now) (markWork e b o (setFollower f s))) := by
  have locked : Runs Move s (setFollower f s) := by
    refine .single (.follower f ht fun hl => { hl with off := ?_, holdoverTimer := fun _ => hf, paceTimer := fun x => ?_ })
    · have follow : s.grid.source = .follow := by simpa [hs] using hl.off
      simp [hf, follow]
    · rw [hp hl] at x; cases x
  have state : (markWork e b o (setFollower f s)).follower.state = .locked := by
    rcases markWork_follower_state e b o (setFollower f s) with e | e <;> rw [e] <;> exact hf
  refine (locked.trans (markWork_moves b o h)).trans (.single (.follower _ (fun hs => hs.followTempo) fun hl => ?_))
  exact { hl with holdoverTimer := fun _ => state }

theorem lock_moves (is : List Nat) (b : Nat) (o : Option Origin) {s : State} (hs : s.follower.state = .seeking) :
    Runs Move s (lock is b o s) := by
  refine (lockedMark_moves b o s.now (fun _ => clampTempo_ok _) rfl (by simp [hs]) (fun hl => ?_) phaseError_still).trans
    (followNotice_moves ..)
  have pace := hl.paceTimer
  rw [hs] at pace
  simpa using pace

theorem markSeeking_moves (b : Nat) (o : Option Origin) {s : State} (hs : s.follower.state = .seeking) :
    Runs Move s (markSeeking b o s) := by
  have listed (x : Option Count) (is : List Nat) : Runs Move s (setFollower { s.follower with reference := x, intervals := is } s) :=
    .single (.follower _ (fun h => h.followTempo) fun hl => { hl with })
  unfold markSeeking
  dsimp only
  split
  · exact listed _ _
  · split
    · exact listed _ _
    · split
      · exact listed _ _
      · split
        · exact listed _ _
        · split
          · exact listed _ _
          · exact lock_moves _ b o hs

theorem seekFromMark_moves (x : FollowState) {s : State} (hs : s.follower.state ≠ .off) : Runs Move s (seekFromMark x s) :=
  (followState_moves (f := { s.follower.restartLock s.now with
    state := .seeking, outliers := 0, holdoverTimer := none, paceTimer := none }) (fun h => h.followTempo) (by simp) hs (by simp)
    (by simp)).trans (followNotice_moves ..)

theorem markOutlier_moves {s : State} (hs : s.follower.state = .locked) : Runs Move s (markOutlier s) := by
  unfold markOutlier
  split
  · exact .single (.follower _ (fun h => h.followTempo) fun hl => { hl with })
  · exact seekFromMark_moves _ (by simp [hs])

theorem markLocked_moves (b : Nat) (o : Option Origin) {s : State} (hs : s.follower.state = .locked) :
    Runs Move s (markLocked b o s) := by
  unfold markLocked
  split
  · exact markOutlier_moves hs
  · dsimp only
    split
    · refine lockedMark_moves b o s.now (fun _ => clampTempo_ok _) hs (by simp [hs]) (fun hl => ?_) phaseError_still
      have pace := hl.paceTimer
      rw [hs] at pace
      simpa using pace
    · exact markOutlier_moves hs

theorem markHoldover_moves (b : Nat) (o : Option Origin) {s : State} (hs : s.follower.state = .holdover) :
    Runs Move s (markHoldover b o s) := by
  unfold markHoldover
  dsimp only
  split
  · exact (lockedMark_moves (f := { s.follower with state := .locked, outliers := 0, paceTimer := none }) b o s.now
      (fun h => h.followTempo) rfl (by simp [hs]) (fun _ => rfl) phaseError_still).trans (followNotice_moves ..)
  · exact seekFromMark_moves _ (by simp [hs])

theorem takeMark_moves (b : Nat) (o : Option Origin) (s : State) : Runs Move s (takeMark b o s) := by
  unfold takeMark
  split
  · exact .refl
  · next h => exact markSeeking_moves b o h
  · next h => exact markLocked_moves b o h
  · next h => exact markHoldover_moves b o h
  · next h => exact seekFromMark_moves _ (by simp [h])

/-! ### Holdover and loss -/

theorem enterHoldover_moves {s : State} (h : s.follower.holdoverTimer.isSome = true) : Runs Move s (enterHoldover s) := by
  have set := (noCorrection_moves s).tail (.tempo s.follower.tempo fun hs => hs.followTempo)
  unfold enterHoldover
  dsimp only
  refine (set.trans (.single (.follower _ (fun hs => ?_) fun hl => ?_))).trans (followNotice_moves ..)
  · have := hs.followTempo
    rwa [setTempo_follower] at this
  · have locked : s.follower.state = .locked := by
      have := hl.holdoverTimer
      rw [setTempo_follower] at this
      exact this h
    have off := hl.off
    rw [setTempo_follower, locked] at off
    exact { hl with
      off := by simpa using off
      holdoverTimer := fun e => by cases e
      paceTimer := fun _ => rfl }

theorem fallbackTempo_moves {x : Song} {s : State} (h : GridSound s → x.Ok) : Runs Move s (fallbackTempo x.tempo s) := by
  unfold fallbackTempo
  split
  · next e =>
    refine .single (.ramp _ (fun hs r hr => ?_) fun _ still => absurd e (by simp [still]))
    cases hr
    exact ⟨hs.tempo, (h hs).1, Nat.zero_lt_succ 3⟩
  · exact .single (.tempo _ fun hs => (h hs).1)

theorem GridSound.song {s : State} (h : GridSound s) {k : BankId} {x : Song} (hx : (s.bank k).image = some x) : x.Ok := by
  cases k
  · exact h.songA x hx
  · exact h.songB x hx

/-- The ACTIVE bank's song stays in range through a work that leaves the banks. -/
theorem songFallback_moves (s : State) : Runs Move s (songFallback s) := by
  have frame : SameBut sourceParts s (endPending none (switchSource .internal s)) :=
    SameBut.chain (ps := sourceParts) (switchSource_frame .internal s).mono (endPending_frame none _)
  have switched : Runs Move s (endPending none (switchSource .internal s)) := by
    refine source_moves .internal (endPending_follower ..) (frame.at .tap) (frame.at .banks) ?_
    rw [endPending_grid]
    rfl
  have first : Runs Move s (if s.grid.transport = .startPending then firstTick false (endPending none (switchSource .internal s))
      else endPending none (switchSource .internal s)) := by
    split
    · next pending =>
      refine switched.trans (firstTick_moves false ?_)
      rw [endPending_grid]
      simp [switchSource, pending, Transport.emits]
    · exact switched
  have banks : (if s.grid.transport = .startPending then firstTick false (endPending none (switchSource .internal s))
      else endPending none (switchSource .internal s)).banks = s.banks := by
    split
    · exact (frame.chain (firstTick_frame false _) (rs := startParts)).at .banks
    · exact frame.at .banks
  unfold songFallback
  dsimp only
  split
  · next x hx =>
    refine ((first.trans (fallbackTempo_moves fun hs => hs.song (k := s.banks.active) ?_)).trans (post_moves ..)).trans (followNotice_moves ..)
    rw [State.bank.eq_def, banks]
    exact hx
  · exact ((first.trans (drew_frame _).move).trans (post_moves ..)).trans (followNotice_moves ..)

theorem enterLost_moves {s : State} (h : Linked s.grid s.follower → s.follower.state = .holdover) : Runs Move s (enterLost s) := by
  have lost : Runs Move s (setFollower { s.follower with state := .lost, paceTimer := none } s) := by
    refine .single (.follower _ (fun hs => hs.followTempo) fun hl => ?_)
    have holdover := h hl
    have off := hl.off
    have timer := hl.holdoverTimer
    simp only [holdover, reduceCtorEq, false_iff, not_not] at off
    simp only [holdover, reduceCtorEq, imp_false, Bool.not_eq_true] at timer
    exact { hl with off := by simp [off], holdoverTimer := by simp [timer], paceTimer := by simp }
  have told := lost.trans (followNotice_moves .holdover _)
  unfold enterLost
  dsimp only
  split
  · exact told
  · exact told.trans (songFallback_moves _)

theorem countHoldover_moves {s : State} (h : Linked s.grid s.follower → s.follower.state = .holdover) : Runs Move s (countHoldover s) := by
  have counted : Runs Move s (setFollower { s.follower with holdoverBeats := s.follower.holdoverBeats + 1 } s) :=
    .single (.follower _ (fun h => h.followTempo) fun hl => { hl with })
  unfold countHoldover
  dsimp only
  split
  · exact counted.trans (enterLost_moves fun hl => h { hl with })
  · exact counted

theorem holdoverTick_moves (s : State) : Runs Move s (holdoverTick s) := by
  unfold holdoverTick
  split
  · next h => exact countHoldover_moves fun _ => h.1
  · exact .refl

theorem paceExpiry_moves {s : State} (h : s.follower.paceTimer.isSome = true) : Runs Move s (paceExpiry s) := by
  have restarted : Runs Move s (setFollower { s.follower with paceTimer := some (s.timer s.follower.period) } s) :=
    .single (.follower _ (fun hs => hs.followTempo) fun hl => { hl with paceTimer := fun _ => hl.paceTimer h })
  exact restarted.trans (countHoldover_moves fun hl => hl.paceTimer rfl)

end Sys2Proof.Machine
end

section
/-! PROOF. The moves of a take and of a tick, and with them what every step keeps of the tempos, the show position and the transport (O7, O8). -/

namespace Sys2Proof.Machine

/-! ## The moves of a take -/

theorem takeTransport_emits (judged : Transport) (x : Song) : (takeTransport judged x).emits = judged.emits := by
  cases judged <;> simp only [takeTransport]
  split <;> rfl

theorem takeTransport_pending {judged : Transport} {x : Song} (h : takeTransport judged x = .startPending) : judged = .startPending := by
  cases judged <;> simp only [takeTransport] at h ⊢
  all_goals first | cases h | skip
  split at h <;> cases h

theorem takePosition_within {x : Song} (judged : Transport) (h : x.Ok) :
    (takePosition judged x).Within x.meter (takeTransport judged x) := by
  obtain ⟨-, meter, -, countIn⟩ := h
  unfold takePosition
  split
  · next hc =>
    simp only [takeTransport, hc.1, if_pos hc.2]
    exact countIn_within meter hc.2 countIn
  · next hc =>
    refine Position.top_within meter ?_
    cases judged <;> simp_all [takeTransport]

/-- One of the banks holds the song. -/
def State.holds (s : State) (x : Song) : Prop := ∃ k, (s.bank k).image = some x

theorem State.holds.ok {s : State} {x : Song} (h : s.holds x) (hs : GridSound s) : x.Ok := by
  obtain ⟨k, hk⟩ := h
  exact hs.song hk

theorem SameBut.holds {ps : List Part} {s t : State} {x : Song} (h : SameBut ps s t) (hx : s.holds x)
    (hb : Part.banks ∉ ps := by decide) : t.holds x := by
  obtain ⟨k, hk⟩ := hx
  refine ⟨k, ?_⟩
  rw [State.bank.eq_def, (h.at .banks hb : t.banks = _), ← State.bank.eq_def]
  exact hk

/-- What a take asks of the transport it is judged by: it leaves nothing of an emitting grid where it stands still. -/
structure Judged (judged : Transport) (s : State) : Prop where
  idle : Linked s.grid s.follower → judged.emits = false → s.grid.Idle
  pending : Linked s.grid s.follower → judged = .startPending → s.grid.source = .follow

theorem judged_own (s : State) : Judged s.grid.transport s := ⟨fun h => h.idle, fun h => h.pending⟩

theorem judged_running (s : State) : Judged .running s := ⟨nofun, nofun⟩

theorem takeGrid_moves {judged : Transport} {x : Song} {s : State} (hx : s.holds x) (hj : Judged judged s) :
    Runs Move s (takeGrid judged x s) := by
  have entered : Runs Move s { s with grid := { s.grid with
      transport := takeTransport judged x, meter := x.meter, position := takePosition judged x } } :=
    .single (.place _ _ _ (fun hs => ⟨⟨(hx.ok hs).2.1, (hx.ok hs).2.2.1⟩, takePosition_within judged (hx.ok hs)⟩)
      (fun hl e => hj.idle hl ((takeTransport_emits judged x).symm.trans e)) fun hl e => hj.pending hl (takeTransport_pending e))
  unfold takeGrid
  dsimp only
  split
  · next same => rw [same] at entered; exact entered
  · exact entered.trans (post_moves ..)

theorem takeGrid_transport (judged : Transport) (x : Song) (s : State) :
    (takeGrid judged x s).grid.transport = takeTransport judged x := by
  unfold takeGrid
  dsimp only
  split
  · next same => exact same.symm
  · rw [enterTransport_grid]

theorem takeTempo_moves {judged : Transport} {x : Song} {s : State} (hx : s.holds x)
    (he : judged.emits = true → s.grid.transport.emits = true) : Runs Move s (takeTempo judged x s) := by
  unfold takeTempo
  split
  · split
    · next h =>
      refine .single (.ramp _ (fun hs r hr => ?_) fun _ still => absurd (he h.1) (by simp [still]))
      cases hr
      exact ⟨hs.tempo, (hx.ok hs).1, h.2⟩
    · exact .single (.tempo _ fun hs => (hx.ok hs).1)
  · refine ((noCorrection_moves s).tail (.tempo _ fun hs => (State.holds.ok (s := { s with grid := { s.grid with correction := none } }) hx hs).1)).trans (followTempo_moves fun hs => ?_)
    exact (((gridUpdate_frame s { s.grid with correction := none }).then (setTempo_frame x.tempo _)).holds hx).ok hs |>.1
  · exact .refl

theorem takeSource_moves {judged : Transport} {x : Song} {s : State} (hx : s.holds x)
    (he : judged.emits = true → s.grid.transport.emits = true) : Runs Move s (takeSource judged x s) := by
  unfold takeSource
  dsimp only
  split
  · exact (noRamp_moves s).trans (takeTempo_moves hx he)
  · refine ((noRamp_moves s).trans (changeSource_moves x.source none _)).trans (takeTempo_moves ?_ fun e => ?_)
    · have frame := ((gridUpdate_frame s { s.grid with ramp := none }).chain (changeSource_frame x.source _) (rs := sourceParts)).chain
        (endPending_frame none _) (rs := sourceParts)
      exact frame.holds hx
    · rw [endPending_grid, changeSource_grid]
      dsimp only
      split
      · rfl
      · exact he e

theorem takeSteps_moves {judged : Transport} {x : Song} (place : Option Nat) (o : Option Origin) {s : State}
    (hx : s.holds x) (hj : Judged judged s) : Runs Move s (takeSteps judged x place o s) := by
  have pattern : Runs Move s (takePattern x (takeGrid judged x s)) :=
    (takeGrid_moves hx hj).trans (takePattern_frame x _).move
  refine (pattern.trans (takeSource_moves ?_ fun e => ?_)).trans (takePosts_frame x place o _).move
  · exact ((takeGrid_frame judged x s).chain (takePattern_frame x _) (rs := [.grid, .noticesA, .noticesB, .click, .layer])).holds hx
  · rw [((takePattern_frame x _).at .grid : (takePattern x (takeGrid judged x s)).grid = _), takeGrid_transport, takeTransport_emits]
    exact e

/-- The transport after a take: the one its judgement gives, or RUNNING where it ends a START_PENDING. -/
theorem takeSteps_emits {judged : Transport} {x : Song} (place : Option Nat) (o : Option Origin) (s : State) (h : judged.emits = true) :
    (takeSteps judged x place o s).grid.transport.emits = true := by
  have tempo (y : State) : (takeTempo judged x y).grid.transport = y.grid.transport := by
    unfold takeTempo
    split
    · split
      · rfl
      · simp [setTempo_grid, Grid.retuned]
    · simp [setFollower, setTempo_grid, Grid.retuned]
    · rfl
  have source (y : State) (e : y.grid.transport.emits = true) : (takeSource judged x y).grid.transport.emits = true := by
    unfold takeSource
    dsimp only
    rw [tempo]
    split
    · exact e
    · rw [endPending_grid, changeSource_grid]
      dsimp only
      split
      · rfl
      · exact e
  unfold takeSteps
  rw [((takePosts_frame x place o _).at .grid : (takePosts x place o _).grid = _)]
  refine source _ ?_
  rw [((takePattern_frame x _).at .grid : (takePattern x _).grid = _), takeGrid_transport, takeTransport_emits]
  exact h

theorem changeRoles_moves (x : Song) (s : State) : Runs Move s (changeRoles x s) := .single (.other rfl rfl rfl id)

theorem takeWork_moves {judged : Transport} (c : Cue) {s : State} (hj : Judged judged s) : Runs Move s (takeWork judged c s) := by
  unfold takeWork
  split
  · next x hx => exact (changeRoles_moves x s).trans (takeSteps_moves _ _ ⟨s.banks.active.other, hx⟩ ⟨hj.idle, hj.pending⟩)
  · exact .refl

theorem takeWork_emits {judged : Transport} (c : Cue) {s : State} (h : judged.emits = true) (hs : s.grid.transport.emits = true) :
    (takeWork judged c s).grid.transport.emits = true := by
  unfold takeWork
  split
  · exact takeSteps_emits _ _ _ h
  · exact hs

/-! ## The moves of a tick -/

theorem fallbackTempo_transport (v : Nat) (s : State) : (fallbackTempo v s).grid.transport = s.grid.transport := by
  unfold fallbackTempo
  split
  · rfl
  · simp [setTempo_grid, Grid.retuned]

/-- A grid that emits ticks goes on emitting them when the fallback is made. -/
theorem songFallback_emits {s : State} (h : s.grid.transport.emits = true) : (songFallback s).grid.transport.emits = true := by
  have pending : s.grid.transport ≠ .startPending := fun e => by rw [e] at h; cases h
  have switched : (endPending none (switchSource .internal s)).grid.transport = s.grid.transport := by
    rw [endPending_grid]
    simp [switchSource, pending]
  unfold songFallback
  dsimp only
  rw [((followNotice_frame _ _).at .grid : (followNotice _ _).grid = _), if_neg pending]
  split
  · rw [((post_frame _ _ _).at .grid : (post _ _ _).grid = _), fallbackTempo_transport, switched]
    exact h
  · rw [((post_frame _ _ _).at .grid : (post _ _ _).grid = _), ((drew_frame _).at .grid : (State.drew _).grid = _), switched]
    exact h

theorem enterLost_emits {s : State} (h : s.grid.transport.emits = true) : (enterLost s).grid.transport.emits = true := by
  have told : (followNotice .holdover (setFollower { s.follower with state := .lost, paceTimer := none } s)).grid = s.grid :=
    (followNotice_frame _ _).at .grid
  unfold enterLost
  dsimp only
  split
  · rw [told]; exact h
  · exact songFallback_emits (by rw [told]; exact h)

theorem holdoverTick_emits {s : State} (h : s.grid.transport.emits = true) : (holdoverTick s).grid.transport.emits = true := by
  unfold holdoverTick countHoldover
  dsimp only
  split
  · split
    · exact enterLost_emits h
    · exact h
  · exact h

/-- A tick but for the next interval. -/
def ticking (ofTake : Bool) (s : State) : State := holdoverTick (tickReceivers ofTake true s)

theorem emitTick_eq (ofTake : Bool) (s : State) : emitTick ofTake s = nextInterval (ticking ofTake s) := rfl

theorem ticking_moves (ofTake : Bool) (s : State) : Runs Move s (ticking ofTake s) :=
  (tickReceivers_moves ofTake true s).trans (holdoverTick_moves _)

theorem ticking_emits (ofTake : Bool) {s : State} (h : s.grid.transport.emits = true) : (ticking ofTake s).grid.transport.emits = true :=
  holdoverTick_emits (by rw [tickReceivers_transport]; exact h)

theorem emitTick_moves (ofTake : Bool) {s : State} (h : s.grid.transport.emits = true) : Runs Move s (emitTick ofTake s) :=
  (ticking_moves ofTake s).tail (.interval fun _ => ticking_emits ofTake h)

theorem takeNowAt_moves (c : Cue) (s : State) : Runs Move s (takeNowAt c s) := by
  have taken : Runs Move s (takeWork s.grid.transport c s) := takeWork_moves c (judged_own s)
  unfold takeNowAt
  dsimp only
  split
  · next e => exact (taken.tail .remainder).trans (emitTick_moves true (takeWork_emits c e e))
  · split
    · next e => exact taken.trans (firstTick_moves true e)
    · exact taken

theorem takeIfDue_moves (s : State) : Runs Move s (takeIfDue s) := by
  unfold takeIfDue
  repeat' split
  all_goals first | exact takeNowAt_moves _ s | exact .refl

theorem takeNow_moves (s : State) : Runs Move s (takeNow s) := by
  unfold takeNow
  split
  · exact .refl
  · split
    · exact takeNowAt_moves _ s
    · exact (seqUpdate_frame s _).move

/-- The work of a tick's expiry but for the next interval. -/
def tickWork (s : State) : State :=
  let p := s.grid.position.next s.grid.meter
  let ends := s.grid.transport = .countIn ∧ p = Position.top
  match s.dueAt p with
  | some c => ticking true (takeWork (if ends then .running else s.grid.transport) c s)
  | none => if ends then ticking false (enterTransport .running none (setPosition p s)) else ticking false (setPosition p s)

theorem tickExpiry_eq (s : State) : tickExpiry s = nextInterval (tickWork s) := by
  unfold tickExpiry tickWork
  dsimp only
  cases s.dueAt (s.grid.position.next s.grid.meter) with
  | some c => rfl
  | none => dsimp only; split <;> rfl

theorem tickWork_moves (s : State) : Runs Move s (tickWork s) := by
  unfold tickWork
  dsimp only
  split
  · refine Relation.ReflTransGen.trans (takeWork_moves _ ?_) (ticking_moves ..)
    split
    · exact judged_running s
    · exact judged_own s
  · split
    · next ends =>
      have entered : Runs Move s (enterTransport .running none (setPosition (s.grid.position.next s.grid.meter) s)) := by
        refine (Move.place .running s.grid.meter (s.grid.position.next s.grid.meter) (fun hs => ⟨hs.meter, ?_⟩) nofun nofun).run.trans
          (post_moves ..)
        rw [ends.2]
        exact Position.top_within hs.meter.1 (by simp)
      exact entered.trans (ticking_moves ..)
    · next goes =>
      refine Relation.ReflTransGen.trans (.single (.place s.grid.transport s.grid.meter _ (fun hs => ⟨hs.meter, ?_⟩) (fun hl => hl.idle)
        fun hl => hl.pending)) (ticking_moves false _)
      by_cases counting : s.grid.transport = .countIn
      · have place := hs.place
        rw [counting] at place ⊢
        rcases Position.next_countIn place hs.meter.1 with top | within
        · exact absurd ⟨counting, top⟩ goes
        · exact within
      · exact Position.next_within hs.place hs.meter.1 counting

theorem tickWork_emits {s : State} (h : s.grid.transport.emits = true) : (tickWork s).grid.transport.emits = true := by
  unfold tickWork
  dsimp only
  split
  · refine ticking_emits true (takeWork_emits _ ?_ h)
    split
    · rfl
    · exact h
  · split
    · exact ticking_emits false (by rw [enterTransport_grid]; rfl)
    · exact ticking_emits false h

/-! ## Taps -/

theorem mem_appendInterval {is : List Nat} {t i : Nat} (h : i ∈ appendInterval is t) : i ∈ is ∨ i = t := by
  unfold appendInterval at h
  dsimp only at h
  have all : i ∈ is ++ [t] := by
    split at h
    · exact List.mem_of_mem_drop h
    · exact h
  simpa using all

/-- A tap tempo from the intervals held, which are in window. -/
theorem applyTap_moves {s : State} (hl : 2 ≤ s.tap.intervals.length) : Runs Move s (applyTap (tapTempo s.tap.intervals) s) := by
  have ok {u : State} (h : GridSound u) (e : u.tap.intervals = s.tap.intervals) : TempoOk (tapTempo s.tap.intervals) :=
    tapTempo_ok (by omega) (e ▸ h.taps)
  have tapped : Runs Move s { s with tap := { s.tap with tempo := some (tapTempo s.tap.intervals) } } := .single (.tapped _ fun h => h.taps)
  have set := (tapped.trans (followTempo_moves fun h => ok h rfl)).tail (.tempo (tapTempo s.tap.intervals) fun h => ok h rfl)
  unfold applyTap
  dsimp only
  split
  · split
    · next running =>
      refine set.trans (correctPhase_moves fun still => absurd still ?_)
      rw [setTempo_grid]
      simp [Grid.retuned, setFollower, running, Transport.emits]
    · exact set.trans (noCorrection_moves _)
  · exact tapped

theorem takeTap_moves (s : State) : Runs Move s (takeTap s) := by
  have fresh : Runs Move s { s with tap := { s.tap with last := some s.now, intervals := [] } } := .single (.tapped _ fun _ => nofun)
  unfold takeTap
  dsimp only
  split
  · exact fresh
  · next last _ =>
    split
    · exact fresh
    · split
      · exact .refl
      · have tapped : Runs Move s
            { s with tap := { s.tap with last := some s.now, intervals := appendInterval s.tap.intervals (since s.now last) } } := by
          refine .single (.tapped _ fun hs i hi => ?_)
          rcases mem_appendInterval hi with hi | rfl
          · exact hs.taps i hi
          · omega
        split
        · next two => exact tapped.trans (applyTap_moves two)
        · exact tapped

/-! ## The tempos and the show position (R5 to R8, R19, R21, R39) -/

/-- A work of the grid moves to its end, or to the interval that a tick's expiry computes last. -/
theorem GridWork.moves {s t : State} (h : GridWork s t) : Runs Move s t ∨ s.grid.countdown.isSome = true ∧ t = tickExpiry s := by
  cases h with
  | start o => exact .inl (start_moves o s)
  | stop o => exact .inl (stopGrid_moves o s)
  | source x o => exact .inl (setSource_moves x o s)
  | tempo v => exact .inl (applyTempo_moves v s)
  | tap => exact .inl (takeTap_moves s)
  | mark b o => exact .inl (takeMark_moves b o s)
  | refin x y => exact .inl (.single (.follower _ (fun hs => hs.followTempo) fun hl => { hl with }))
  | holdover h => exact .inl (enterHoldover_moves h)
  | pace h => exact .inl (paceExpiry_moves h)
  | tick h => exact .inr ⟨h, rfl⟩
  | due => exact .inl (takeIfDue_moves s)
  | takeNow => exact .inl (takeNow_moves s)

theorem moves_gridSound {s t : State} (h : Runs Move s t) : GridSound s → GridSound t := Runs.keeps (R := Move) (fun _ _ => Move.gridSound) h

theorem moves_linked {s t : State} (h : Runs Move s t) : Linked s.grid s.follower → Linked t.grid t.follower :=
  Runs.keeps (R := Move) (P := fun s => Linked s.grid s.follower) (fun _ _ => Move.linked) h

theorem nextInterval_gridSound {s : State} (hs : GridSound s) : GridSound (nextInterval s) := by
  obtain ⟨tuned, songs, taps⟩ := (gridSound_iff s).1 hs
  exact (gridSound_iff _).2 ⟨tuned.interval _, songs, taps⟩

theorem GridWork.gridSound {s t : State} (h : GridWork s t) (hs : GridSound s) : GridSound t := by
  rcases h.moves with run | ⟨-, rfl⟩
  · exact moves_gridSound run hs
  · rw [tickExpiry_eq]
    exact nextInterval_gridSound (moves_gridSound (tickWork_moves s) hs)

/-! ### The songs in the banks -/

theorem SameBut.songs {ps : List Part} {s t : State} (h : SameBut ps s t) (hb : Part.banks ∉ ps := by decide) (hs : SongsOk s) :
    SongsOk t := by
  rw [SongsOk, (h.at .banks hb : t.banks = _)]
  exact hs

theorem setBank_songs {s : State} {k : BankId} {b : Bank} (h : ∀ x, b.image = some x → x.Ok) (hs : SongsOk s) : SongsOk (s.setBank k b) := by
  cases k
  · exact ⟨h, hs.2⟩
  · exact ⟨hs.1, h⟩

theorem emptyStandby_songs {s : State} (hs : SongsOk s) : SongsOk (emptyStandby s) := setBank_songs (by simp [Bank.emptied]) hs

theorem examineLoad_songs {s : State} (hs : SongsOk s) : SongsOk (examineLoad s) := by
  unfold examineLoad
  split
  · split
    · exact (requestFetch_frame _ _).songs (hs := emptyStandby_songs hs)
    · exact hs
  · exact hs

theorem bankFree_songs (n : Nat) {s : State} (hs : SongsOk s) : SongsOk (bankFree n s) := by
  unfold bankFree
  split
  · exact examineLoad_songs hs
  · exact hs

theorem releaseEntries_songs (w : Entry → Bool) {s : State} (hs : SongsOk s) : SongsOk (releaseEntries w s).1 := by
  unfold releaseEntries
  exact bankFree_songs _ (by exact hs)

theorem endDest_songs (n i : Nat) {s : State} (hs : SongsOk s) : SongsOk (endDest n i s) := by
  unfold endDest
  exact bankFree_songs _ (by exact hs)

theorem makeEntry_songs (k : Strike) {s : State} (hs : SongsOk s) : SongsOk (makeEntry k s) := by
  unfold makeEntry
  exact releaseEntries_songs _ (by exact hs)

theorem panicNotes_songs {s : State} (hs : SongsOk s) : SongsOk (panicNotes s) := by
  unfold panicNotes
  dsimp only
  split
  · exact examineLoad_songs hs
  · exact hs

theorem cueLeft_songs (c : Cue) {s : State} (hs : SongsOk s) : SongsOk (cueLeft c s) := by
  unfold cueLeft
  dsimp only
  split
  · exact hs
  · exact (abandonCueFetch_frame _).songs (hs := hs)
  · exact emptyStandby_songs hs

/-- A block's work outside the grid leaves the grid, the Follower and the tap timer, and the banks' songs in range. -/
theorem SameBut.elsewhere {ps : List Part} {s t : State} (h : SameBut ps s t) (hb : SongsOk s → SongsOk t)
    (hd : ∀ q ∈ [Part.grid, .follower, .tap], q ∉ ps := by decide) : Move s t :=
  .other (h.at .grid (hd _ (by decide))) (h.at .follower (hd _ (by decide))) (h.at .tap (hd _ (by decide))) hb

theorem Block.move {s t : State} (h : Block GridWork s t) : GridWork s t ∨
    (t.grid = s.grid ∧ t.follower = s.follower ∧ t.tap = s.tap ∧ (SongsOk s → SongsOk t)) := by
  have kept {ps : List Part} (h : SameBut ps s t) (hd : ∀ q ∈ [Part.grid, .follower, .tap], q ∉ ps) (hb : SongsOk s → SongsOk t) :
      GridWork s t ∨ (t.grid = s.grid ∧ t.follower = s.follower ∧ t.tap = s.tap ∧ (SongsOk s → SongsOk t)) :=
    .inr ⟨h.at .grid (hd _ (by decide)), h.at .follower (hd _ (by decide)), h.at .tap (hd _ (by decide)), hb⟩
  cases h with
  | grid h => exact .inl h
  | quiet h => exact kept h (by decide) h.songs
  | tell p b o => exact kept (postTo_frame p b o s) (by decide) (postTo_frame p b o s).songs
  | layer x => exact kept (layerUpdate_frame s x) (by decide) id
  | bus x => exact kept (busUpdate_frame s x) (by decide) id
  | links x => exact kept (linksUpdate_frame s x) (by decide) id
  | release w => exact kept (releaseEntries_frame w s) (by decide) (releaseEntries_songs w)
  | sustain l c k => exact kept (noteRelease_frame l c k true s) (by decide) id
  | flag n i f => exact kept (flagDest_frame n i f s) (by decide) id
  | ended n i => exact kept (endDest_frame n i s) (by decide) (endDest_songs n i)
  | make k => exact kept (makeEntry_frame k s) (by decide) (makeEntry_songs k)
  | counts x => exact kept (notesUpdate_frame s x) (by decide) id
  | panic => exact kept (panicNotes_frame s) (by decide) panicNotes_songs
  | bank k x h =>
    refine kept (setBank_frame s k x) (by decide) fun hs => setBank_songs (fun y hy => ?_) hs
    obtain ⟨z, hz, ok⟩ := h.song y hy
    cases k
    · exact ok (hs.1 z hz)
    · exact ok (hs.2 z hz)
  | roles x => exact kept (changeRoles_frame x s) (by decide) id
  | load => exact kept (examineLoad_frame s) (by decide) examineLoad_songs
  | displace c => exact kept (cueLeft_frame c s) (by decide) (cueLeft_songs c)
  | offer c => exact kept (seqUpdate_frame s _) (by decide) id
  | seq x => exact kept (seqUpdate_frame s x) (by decide) id
  | store x => exact kept (storeUpdate_frame s x) (by decide) id
  | opNext => exact kept (storeNext_frame s) (by decide) (storeNext_frame s).songs
  | opSet op new => exact kept (setOp_frame new s) (by decide) id
  | opBegin op => exact kept (setOp_frame op s) (by decide) id
  | flash x => exact kept (flashUpdate_frame s x) (by decide) id
  | restart => exact kept (restartTaken_frame s) (by decide) (restartTaken_frame s).songs

theorem Block.gridSound {s t : State} (h : Block GridWork s t) (hs : GridSound s) : GridSound t := by
  rcases h.move with h | ⟨hg, hf, ht, hb⟩
  · exact h.gridSound hs
  · exact (Move.other hg hf ht hb).gridSound hs

/-! ### The initial take and the resets -/

/-- The song the initial take loads is judged by STOPPED, and finds nothing of an emitting grid. -/
theorem initialTake_moves {s : State} (x : Song) (slot : Slot) (entry : Nat) : ∃ u, initialTake x slot entry s = takeSteps .stopped x (some entry) none u ∧
    u.holds x ∧ u.follower = s.follower ∧ u.tap = s.tap ∧ (x.Ok → SongsOk s → SongsOk u) ∧
    u.grid = { s.grid with countdown := none, remainder := 0, correction := none } := by
  refine ⟨_, rfl, ⟨.a, rfl⟩, rfl, rfl, fun hx hs => ?_, rfl⟩
  exact ⟨fun y hy => by cases hy; exact hx, hs.2⟩

/-- The ramp record, which a take removes, may be gone before it. -/
theorem takeSteps_noRamp (judged : Transport) (x : Song) (place : Option Nat) (o : Option Origin) (u : State) :
    takeSteps judged x place o u = takeSteps judged x place o { u with grid := { u.grid with ramp := none } } := by
  have grid : takeSource judged x (takePattern x (takeGrid judged x u)) =
      takeSource judged x (takePattern x (takeGrid judged x { u with grid := { u.grid with ramp := none } })) := by
    unfold takeGrid
    dsimp only
    split <;> rfl
  unfold takeSteps
  rw [grid]

theorem initialTake_sound {s : State} {x : Song} (hx : x.Ok) (slot : Slot) (entry : Nat) :
    (GridSound s → GridSound (initialTake x slot entry s)) ∧
    (Linked s.grid s.follower → Linked (initialTake x slot entry s).grid (initialTake x slot entry s).follower) := by
  obtain ⟨u, e, holds, hf, ht, hb, hg⟩ := initialTake_moves (s := s) x slot entry
  rw [e, takeSteps_noRamp]
  have cleared : Runs Move s { u with grid := { u.grid with ramp := none } } :=
    (Move.clear (s := s)).run.tail (.other (by rw [hg]) hf ht (hb hx))
  have taken := takeSteps_moves (judged := .stopped) (some entry) none (s := { u with grid := { u.grid with ramp := none } }) holds
    ⟨fun _ _ => ⟨by rw [hg], by rw [hg], rfl, by rw [hg]⟩, nofun⟩
  exact ⟨moves_gridSound (cleared.trans taken), moves_linked (cleared.trans taken)⟩

theorem initial_linked : Linked Grid.initial Follower.initial :=
  ⟨fun _ => ⟨rfl, rfl, rfl, rfl⟩, nofun, by simp [Grid.initial, Follower.initial], nofun, nofun⟩

/-- What the grid keeps through a piece of the ports' and the fetches' works. -/
theorem Fine.gridSound {s t : State} (h : Fine s t) (hs : GridSound s) : GridSound t := by
  have kept {ps : List Part} (h : SameBut ps s t) (hd : ∀ q ∈ [Part.grid, .follower, .tap], q ∉ ps) (hb : SongsOk s → SongsOk t) :
      GridSound t := (h.elsewhere hb hd).gridSound hs
  have initial {u : State} (hg : u.grid = Grid.initial) (hf : u.follower = Follower.initial) (ht : u.tap = TapTimer.initial)
      (hb : u.banks = Banks.initial) : GridSound u := (Move.other (s := State.reset) hg hf ht (fun h => by rw [SongsOk, hb]; exact h)).gridSound
    reset_gridSound
  have fetching {f : Fetch} {u : State} (h : GridSound u) : GridSound (requestFetch f u) :=
    ((requestFetch_frame f u).elsewhere (requestFetch_frame f u).songs).gridSound h
  cases h with
  | port p x => exact kept (setPort_frame s p x) (by decide) (setPort_frame s p x).songs
  | transmit p => exact kept (transmitOn_frame p s) (by decide) (transmitOn_frame p s).songs
  | store x => exact kept (storeUpdate_frame s x) (by decide) id
  | load k x slot ok => exact kept (setBank_frame s k _) (by decide) (setBank_songs fun y hy => by cases hy; exact ok)
  | seq x => exact kept (seqUpdate_frame s x) (by decide) id
  | resetting x => exact kept (resettingUpdate_frame s x) (by decide) id
  | initial x slot entry ok => exact (initialTake_sound ok slot entry).1 hs
  | restarted => exact fetching (f := ⟨.setup, 0⟩) (initial rfl rfl rfl rfl)
  | powered => exact initial rfl rfl rfl rfl
  | counted m x =>
    unfold countStart
    refine fetching ?_
    exact initial rfl rfl rfl rfl

/-- Settles O7: each move of the grid and the Follower keeps the tempos in range and the show position within the meter and the bars. -/
theorem gridStaysSound : Obligations.GridStaysSound := fun _ _ hs h =>
  step_keeps (fun _ _ => Block.gridSound) (fun _ _ => Fine.gridSound) h hs

end Sys2Proof.Machine
end

section
/-! PROOF. A grid that emits ticks counts an interval, after every work of the grid; with the moves, that the transport, the tempo records and
the follow state hang together (O8). -/

namespace Sys2Proof.Machine

/-- Two states of one countdown and one transport. -/
def SameClock (s t : State) : Prop := t.grid.countdown = s.grid.countdown ∧ t.grid.transport = s.grid.transport

theorem SameClock.refl (s : State) : SameClock s s := ⟨rfl, rfl⟩

theorem SameClock.then {s t u : State} (h : SameClock s t) (h' : SameClock t u) : SameClock s u :=
  ⟨h'.1.trans h.1, h'.2.trans h.2⟩

theorem SameClock.counts {s t : State} (h : SameClock s t) (hs : s.grid.Counts) : t.grid.Counts := by
  rw [Grid.Counts, h.1, h.2]
  exact hs

theorem SameBut.clock {ps : List Part} {s t : State} (h : SameBut ps s t) (hg : Part.grid ∉ ps := by decide) : SameClock s t := by
  rw [SameClock, (h.at .grid hg : t.grid = _)]
  exact ⟨rfl, rfl⟩

theorem setTempo_clock (v : Nat) (s : State) : SameClock s (setTempo v s) := by
  rw [SameClock, setTempo_grid]
  exact ⟨rfl, rfl⟩

/-! ## Works that compute an interval -/

theorem nextInterval_counts (s : State) : (nextInterval s).grid.Counts := fun _ => rfl

theorem firstTick_counts (b : Bool) (s : State) : (firstTick b s).grid.Counts := nextInterval_counts _

theorem startAt_counts (x : Transport) (p : Position) (o : Option Origin) (s : State) : (startAt x p o s).grid.Counts :=
  firstTick_counts _ _

theorem enterTransport_counts {x : Transport} (o : Option Origin) (s : State) (h : x.emits = false) : (enterTransport x o s).grid.Counts := by
  rw [enterTransport_grid]
  exact fun e => absurd h (by rw [e]; decide)

/-! ## Works that leave the clock, or start it -/

theorem start_counts (o : Origin) {s : State} (hs : s.grid.Counts) : (start o s).grid.Counts := by
  unfold start
  split
  · split
    · exact enterTransport_counts _ _ rfl
    · dsimp only
      split <;> exact startAt_counts _ _ _ _
  · exact hs

theorem stopGrid_counts (o : Origin) (s : State) : (stopGrid o s).grid.Counts := by
  unfold stopGrid
  dsimp only
  split <;> exact enterTransport_counts _ _ rfl

theorem setSource_counts (x : TempoSource) (o : Origin) {s : State} (hs : s.grid.Counts) : (setSource x o s).grid.Counts := by
  by_cases same : x = s.grid.source
  · simpa [setSource, same] using hs
  by_cases starts : s.grid.transport = .startPending ∧ x ≠ .follow
  · rw [setSource_starts same starts]
    exact firstTick_counts _ _
  · rw [setSource_grid_holds same starts]
    exact hs

theorem applyTempo_counts (v : Nat) {s : State} (hs : s.grid.Counts) : (applyTempo v s).grid.Counts := by
  rw [applyTempo_grid]
  exact hs

theorem correctPhase_clock (e : Int) (s : State) : SameClock s (correctPhase e s) := by
  unfold correctPhase
  dsimp only
  split
  · exact setTempo_clock _ _
  · exact setTempo_clock _ s

theorem realign_clock (e : Int) (b : Nat) (o : Option Origin) (s : State) : SameClock s (realign e b o s) := by
  unfold realign
  dsimp only
  split
  · exact SameClock.then (t := setPosition _ s) ⟨rfl, rfl⟩ (post_frame _ _ _).clock
  · exact .refl s

theorem applyTap_clock (v : Nat) (s : State) : SameClock s (applyTap v s) := by
  have set (x : State) (h : SameClock s x) : SameClock s (setTempo v x) := h.then (setTempo_clock v x)
  have corrected (e : Int) (x : State) (h : SameClock s x) : SameClock s (correctPhase e x) := h.then (correctPhase_clock e x)
  unfold applyTap
  dsimp only
  split
  · split
    · exact corrected _ _ (set _ ⟨rfl, rfl⟩)
    · have kept := set (setFollower { s.follower with tempo := v } { s with tap := { s.tap with tempo := some v } }) ⟨rfl, rfl⟩
      exact ⟨kept.1, kept.2⟩
  · exact ⟨rfl, rfl⟩

theorem takeTap_clock (s : State) : SameClock s (takeTap s) := by
  have tapped (v : Nat) (x : State) (h : SameClock s x) : SameClock s (applyTap v x) := h.then (applyTap_clock v x)
  unfold takeTap
  dsimp only
  split
  · exact ⟨rfl, rfl⟩
  · split
    · exact ⟨rfl, rfl⟩
    · split
      · exact .refl s
      · split
        · exact tapped _ _ ⟨rfl, rfl⟩
        · exact ⟨rfl, rfl⟩

theorem markWork_counts (e : Int) (b : Nat) (o : Option Origin) {s : State} (hs : s.grid.Counts) : (markWork e b o s).grid.Counts := by
  unfold markWork
  split
  · split
    · exact (realign_clock ..).counts (startAt_counts _ _ _ _)
    · exact ((correctPhase_clock ..).then (realign_clock ..)).counts (startAt_counts _ _ _ _)
  · exact ((correctPhase_clock ..).then (realign_clock ..)).counts hs

theorem followNotice_clock (x : FollowState) (s : State) : SameClock s (followNotice x s) := (followNotice_frame x s).clock

theorem seekFromMark_clock (x : FollowState) (s : State) : SameClock s (seekFromMark x s) :=
  SameClock.then (t := setFollower _ s) ⟨rfl, rfl⟩ (followNotice_clock ..)

theorem markOutlier_clock (s : State) : SameClock s (markOutlier s) := by
  unfold markOutlier
  split
  · exact ⟨rfl, rfl⟩
  · exact seekFromMark_clock ..

theorem lock_counts (is : List Nat) (b : Nat) (o : Option Origin) {s : State} (hs : s.grid.Counts) : (lock is b o s).grid.Counts :=
  (followNotice_clock ..).counts (markWork_counts (s := setFollower _ s) _ b o hs)

theorem markSeeking_counts (b : Nat) (o : Option Origin) {s : State} (hs : s.grid.Counts) : (markSeeking b o s).grid.Counts := by
  unfold markSeeking
  dsimp only
  split
  · exact hs
  · split
    · exact hs
    · split
      · exact hs
      · split
        · exact hs
        · split
          · exact hs
          · exact lock_counts _ b o hs

theorem takeMark_counts (b : Nat) (o : Option Origin) {s : State} (hs : s.grid.Counts) : (takeMark b o s).grid.Counts := by
  unfold takeMark
  split
  · exact hs
  · exact markSeeking_counts b o hs
  · unfold markLocked
    split
    · exact (markOutlier_clock s).counts hs
    · dsimp only
      split
      · exact markWork_counts (s := setFollower _ s) _ b o hs
      · exact (markOutlier_clock s).counts hs
  · unfold markHoldover
    dsimp only
    split
    · exact (followNotice_clock ..).counts (markWork_counts (s := setFollower _ s) _ b o hs)
    · exact (seekFromMark_clock ..).counts hs
  · exact (seekFromMark_clock ..).counts hs

theorem enterHoldover_clock (s : State) : SameClock s (enterHoldover s) :=
  (SameClock.then (t := setTempo s.follower.tempo { s with grid := { s.grid with correction := none } }) (setTempo_clock _ _)
    ⟨rfl, rfl⟩).then (followNotice_clock .locked _)

theorem fallbackTempo_clock (v : Nat) (s : State) : SameClock s (fallbackTempo v s) := by
  unfold fallbackTempo
  split
  · exact ⟨rfl, rfl⟩
  · exact setTempo_clock v s

theorem songFallback_counts {s : State} (hs : s.grid.Counts) : (songFallback s).grid.Counts := by
  have left : (if s.grid.transport = .startPending then firstTick false (endPending none (switchSource .internal s))
      else endPending none (switchSource .internal s) : State).grid.Counts := by
    split
    · exact firstTick_counts _ _
    · next h =>
      rw [endPending_grid]
      simpa [switchSource, h, Grid.Counts] using hs
  unfold songFallback
  dsimp only
  split
  · exact (((fallbackTempo_clock _ _).then (post_frame _ _ _).clock).then (followNotice_clock ..)).counts left
  · exact (((drew_frame _).clock.then (post_frame _ _ _).clock).then (followNotice_clock ..)).counts left

theorem enterLost_counts {s : State} (hs : s.grid.Counts) : (enterLost s).grid.Counts := by
  have told : (followNotice .holdover (setFollower { s.follower with state := .lost, paceTimer := none } s)).grid.Counts :=
    (followNotice_clock ..).counts hs
  unfold enterLost
  dsimp only
  split
  · exact told
  · exact songFallback_counts told

theorem paceExpiry_counts {s : State} (hs : s.grid.Counts) : (paceExpiry s).grid.Counts := by
  unfold paceExpiry countHoldover
  dsimp only
  split
  · exact enterLost_counts hs
  · exact hs

theorem takeNowAt_counts (c : Cue) (s : State) : (takeNowAt c s).grid.Counts := by
  unfold takeNowAt
  dsimp only
  split
  · exact nextInterval_counts _
  · split
    · exact firstTick_counts _ _
    · next still => exact fun e => absurd e still

theorem takeIfDue_counts {s : State} (hs : s.grid.Counts) : (takeIfDue s).grid.Counts := by
  unfold takeIfDue
  split
  · split
    · exact takeNowAt_counts _ _
    · exact hs
  · exact hs

theorem takeNow_counts {s : State} (hs : s.grid.Counts) : (takeNow s).grid.Counts := by
  unfold takeNow
  split
  · exact hs
  · split
    · exact takeNowAt_counts _ _
    · exact hs

theorem GridWork.counts {s t : State} (h : GridWork s t) (hs : s.grid.Counts) : t.grid.Counts := by
  cases h with
  | start o => exact start_counts o hs
  | stop o => exact stopGrid_counts o s
  | source x o => exact setSource_counts x o hs
  | tempo v => exact applyTempo_counts v hs
  | tap => exact (takeTap_clock s).counts hs
  | mark b o => exact takeMark_counts b o hs
  | refin x y => exact hs
  | holdover => exact (enterHoldover_clock s).counts hs
  | pace => exact paceExpiry_counts hs
  | tick => rw [tickExpiry_eq]; exact nextInterval_counts _
  | due => exact takeIfDue_counts hs
  | takeNow => exact takeNow_counts hs

/-! ## The invariant -/

theorem GridWork.transportSound {s t : State} (h : GridWork s t) (hs : TransportSound s) : TransportSound t := by
  obtain ⟨linked, counts⟩ := (transportSound_iff s).1 hs
  refine (transportSound_iff t).2 ⟨?_, h.counts counts⟩
  rcases h.moves with run | ⟨counting, rfl⟩
  · exact moves_linked run linked
  · have emits : s.grid.transport.emits = true := hs.countdown.symm.trans counting
    rw [tickExpiry_eq]
    exact moves_linked ((tickWork_moves s).tail (.interval fun _ => tickWork_emits emits)) linked

theorem TransportSound.same {s t : State} (hs : TransportSound s) (hg : t.grid = s.grid) (hf : t.follower = s.follower) :
    TransportSound t := by
  rw [transportSound_iff] at hs ⊢
  rwa [hg, hf]

theorem Block.transportSound {s t : State} (h : Block GridWork s t) (hs : TransportSound s) : TransportSound t := by
  rcases h.move with h | ⟨hg, hf, -⟩
  · exact h.transportSound hs
  · exact hs.same hg hf

theorem SameBut.transportSound {ps : List Part} {s t : State} (h : SameBut ps s t) (hs : TransportSound s)
    (hd : ∀ q ∈ [Part.grid, .follower], q ∉ ps := by decide) : TransportSound t :=
  hs.same (h.at .grid (hd _ (by decide))) (h.at .follower (hd _ (by decide)))

/-- The initial take leaves the grid stopped (R143). -/
theorem takeSteps_stopped (x : Song) (place : Option Nat) (o : Option Origin) (s : State) :
    (takeSteps .stopped x place o s).grid.transport = .stopped := by
  have tempo (y : State) : (takeTempo .stopped x y).grid.transport = y.grid.transport := by
    unfold takeTempo
    repeat' split
    all_goals simp [setFollower, setTempo_grid, Grid.retuned]
  have source (y : State) (e : y.grid.transport = .stopped) : (takeSource .stopped x y).grid.transport = .stopped := by
    unfold takeSource
    dsimp only
    rw [tempo]
    split
    · exact e
    · rw [endPending_grid, changeSource_grid]
      simp [e]
  unfold takeSteps
  rw [((takePosts_frame x place o _).at .grid : (takePosts x place o _).grid = _)]
  refine source _ ?_
  rw [((takePattern_frame x _).at .grid : (takePattern x _).grid = _), takeGrid_transport]
  rfl

theorem initial_transportSound {t : State} (hg : t.grid = Grid.initial) (hf : t.follower = Follower.initial) : TransportSound t := by
  rw [transportSound_iff, hg, hf]
  exact ⟨initial_linked, nofun⟩

theorem Fine.transportSound {s t : State} (h : Fine s t) (hs : TransportSound s) : TransportSound t := by
  cases h with
  | port p x => exact (setPort_frame s p x).transportSound hs
  | transmit p => exact (transmitOn_frame p s).transportSound hs
  | store x => exact (storeUpdate_frame s x).transportSound hs
  | load k x slot => exact (setBank_frame s k _).transportSound hs
  | seq x => exact (seqUpdate_frame s x).transportSound hs
  | resetting x => exact (resettingUpdate_frame s x).transportSound hs
  | initial x slot entry ok =>
    have stopped : (initialTake x slot entry s).grid.transport = .stopped := takeSteps_stopped _ _ _ _
    refine (transportSound_iff _).2 ⟨(initialTake_sound ok slot entry).2 ((transportSound_iff s).1 hs).1, fun e => ?_⟩
    rw [stopped] at e
    cases e
  | restarted =>
    unfold restartReset
    refine (requestFetch_frame _ _).transportSound ?_
    exact initial_transportSound rfl rfl
  | powered => exact initial_transportSound rfl rfl
  | counted m x =>
    unfold countStart
    refine (requestFetch_frame _ _).transportSound ?_
    exact initial_transportSound rfl rfl

/-- Settles O8: each move keeps the transport, the records and the Follower together, and what starts the grid computes its interval. -/
theorem transportStaysSound : Obligations.TransportStaysSound := fun _ _ hs h =>
  step_keeps (fun _ _ => Block.transportSound) (fun _ _ => Fine.transportSound) h hs

end Sys2Proof.Machine
end

section
/-! PROOF. What every step keeps of the banks' roles, the cue slot and the fetches (O10): the blocks' works keep them for whatever fetches the
requesters outside the cue slot wait for (`ChangeCore`), and each work of a port, a fetch or a reset fits what it waits for to them. -/

namespace Sys2Proof.Machine

/-! ## Fetches (R146) -/

theorem fetchCount_eq (s : State) (k : FetchKind) : s.fetchCount k = s.fetches.countP (fun f => f.kind == k) := rfl

/-- An IDLE store holds no fetch that waits. -/
abbrev Store.Rests (t : Store) : Prop := t.activity = .idle → t.queue = []

theorem fetches_congr {s t : State} (ha : t.store.activity = s.store.activity) (hq : t.store.queue = s.store.queue) :
    t.fetches = s.fetches := by rw [State.fetches, State.fetches, ha, hq]

theorem requestFetch_fetches (f : Fetch) {s : State} (h : s.store.Rests) : (requestFetch f s).fetches = s.fetches ++ [f] := by
  unfold requestFetch
  split
  · next idle => simp [State.fetches, idle, h idle]
  · next busy =>
    unfold State.fetches
    split <;> simp_all

theorem requestFetch_rests (f : Fetch) (s : State) : (requestFetch f s).store.Rests := by
  unfold requestFetch
  split
  · exact nofun
  · next busy => exact fun idle => absurd idle busy

theorem requestFetch_count (f : Fetch) {s : State} (h : s.store.Rests) (k : FetchKind) :
    (requestFetch f s).fetchCount k = s.fetchCount k + (f.kind == k).toNat := by
  rw [fetchCount_eq, requestFetch_fetches f h, List.countP_append]
  cases hk : f.kind == k <;> simp [hk, fetchCount_eq]

theorem storeNext_fetches (s : State) : (storeNext s).fetches = s.store.queue := by
  unfold storeNext
  split
  · next h => simp [State.fetches, h]
  · next h => simp [State.fetches, h]

theorem storeNext_rests (s : State) : (storeNext s).store.Rests := by
  unfold storeNext
  split
  · next h => exact fun _ => h
  · exact nofun

/-- A fetch that ends leaves the fetches. -/
theorem storeNext_count {f : Fetch} {s : State} (h : s.store.activity = .fetching f) (k : FetchKind) :
    s.fetchCount k = (storeNext s).fetchCount k + (f.kind == k).toNat := by
  rw [fetchCount_eq, fetchCount_eq, storeNext_fetches, State.fetches, h, List.countP_cons]
  cases f.kind == k <;> rfl

theorem storeNext_operating {op : StoreOp} {s : State} (h : s.store.activity = .operating op) : (storeNext s).fetches = s.fetches := by
  rw [storeNext_fetches, State.fetches, h]

theorem countP_filter_cue (l : List Fetch) (k : FetchKind) :
    (l.filter (fun g => !g.forCue)).countP (fun f => f.kind == k) = if k = .cue then 0 else l.countP (fun f => f.kind == k) := by
  rw [List.countP_filter]
  split
  · next h =>
    subst h
    exact List.countP_eq_zero.2 fun f _ => by simp [Fetch.forCue]
  · next h =>
    refine List.countP_congr fun f _ => ?_
    have : f.kind = k → f.kind ≠ .cue := fun e => e ▸ h
    simpa [Fetch.forCue] using this

/-- A cue's fetch, of which the store holds no other, is abandoned. -/
theorem abandonCueFetch_count {s : State} (h : s.fetchCount .cue ≤ 1) (k : FetchKind) :
    (abandonCueFetch s).fetchCount k = if k = .cue then 0 else s.fetchCount k := by
  unfold abandonCueFetch
  split
  · next f hf =>
    split
    · next hc =>
      have cue : f.kind = .cue := eq_of_beq hc
      have ended := storeNext_count hf
      split
      · next hk =>
        subst hk
        have := ended .cue
        rw [cue] at this
        simp at this
        omega
      · next hk =>
        have other : (f.kind == k) = false := by rw [cue]; exact beq_eq_false_iff_ne.2 (Ne.symm hk)
        rw [ended k, other]
        rfl
    · next hc =>
      rw [fetchCount_eq, fetchCount_eq, State.fetches, State.fetches]
      simp only [hf, List.countP_cons, countP_filter_cue]
      split
      · next hk => subst hk; simpa [Fetch.forCue] using hc
      · rfl
  · next hf =>
    have waiting (x : State) (hx : x.store.activity = s.store.activity) : x.fetches = x.store.queue := by
      rw [State.fetches, hx]
      split
      · next f h => exact absurd h (hf f)
      · rfl
    rw [fetchCount_eq, fetchCount_eq, waiting s rfl]
    exact (congrArg (List.countP fun f => f.kind == k) (waiting { s with store := { s.store with
      queue := s.store.queue.filter (fun g => !g.forCue) } } rfl)).trans (countP_filter_cue _ k)

theorem abandonCueFetch_rests {s : State} (h : s.store.Rests) : (abandonCueFetch s).store.Rests := by
  unfold abandonCueFetch
  split
  · next f hf =>
    split
    · exact storeNext_rests s
    · exact fun idle => absurd (hf.symm.trans idle) (by simp)
  · exact fun idle => by
      have empty := h idle
      simp [empty]

/-! ## What the blocks' works keep -/

/-- The banks, the cue slot and the fetches, where the requesters outside the cue slot wait for as many fetches of a kind as `n` says. -/
structure ChangeCore (n : FetchKind → Nat) (s : State) : Prop where
  enabled : ∀ k : BankId, (s.bank k).enabled.length = (s.bank k).zones.length
  retained : s.banks.retained = true ↔ s.otherReferences ≠ 0
  retention : s.seq.retention.isSome = true → s.banks.retained = true
  loading : s.cueIs .loading = true ∨ s.cueIs .armed = true → s.seq.phase = .none ∧ s.banks.retained = false
  armed : s.cueIs .armed = true → s.standbyBank.image.isSome = true
  reset : s.inReset = true → s.seq.cue = none
  cueFetch : s.fetchCount .cue = (s.cueIs .loading).toNat
  fetches : ∀ k, k ≠ .cue → s.fetchCount k = n k
  idle : s.store.Rests
  silence : ∀ t, s.bus.transmission = some t → t.forRestart = true → s.resetting = .silence

variable {n : FetchKind → Nat} {s t : State}

/-- A change that leaves the banks, the entries, the cue slot and the fetches. -/
theorem ChangeCore.same (h : ChangeCore n s) (banks : t.banks = s.banks) (entries : t.notes.entries = s.notes.entries) (seq : t.seq = s.seq)
    (activity : t.store.activity = s.store.activity) (queue : t.store.queue = s.store.queue) (resetting : t.resetting = s.resetting)
    (silence : ∀ tr, t.bus.transmission = some tr → tr.forRestart = true → t.resetting = .silence) : ChangeCore n t where
  enabled := fun k => by rw [State.bank.eq_def, banks, ← State.bank.eq_def]; exact h.enabled k
  retained := by rw [State.otherReferences, Notes.references, banks, entries]; exact h.retained
  retention := by rw [seq, banks]; exact h.retention
  loading := by rw [State.cueIs, State.cueIs, seq, banks]; exact h.loading
  armed := by rw [State.cueIs, State.standbyBank, State.bank.eq_def, seq, banks]; exact h.armed
  reset := by rw [State.inReset, resetting, seq]; exact h.reset
  cueFetch := by rw [fetchCount_eq, fetches_congr activity queue, State.cueIs, seq]; exact h.cueFetch
  fetches := fun k hk => by rw [fetchCount_eq, fetches_congr activity queue]; exact h.fetches k hk
  idle := by rw [Store.Rests, activity, queue]; exact h.idle
  silence := silence

theorem SameBut.changeCore {ps : List Part} (f : SameBut ps s t) (h : ChangeCore n s)
    (hd : ∀ q ∈ [Part.banks, .notes, .seq, .store, .resetting, .bus], q ∉ ps := by decide) : ChangeCore n t := by
  have store : t.store = s.store := f.at .store (hd _ (by decide))
  have resetting : t.resetting = s.resetting := f.at .resetting (hd _ (by decide))
  have bus : t.bus = s.bus := f.at .bus (hd _ (by decide))
  have notes : t.notes = s.notes := f.at .notes (hd _ (by decide))
  exact h.same (f.at .banks (hd _ (by decide))) (by rw [notes]) (f.at .seq (hd _ (by decide))) (by rw [store]) (by rw [store]) resetting
    (by rw [bus, resetting]; exact h.silence)

theorem ChangeCore.count_cue_le (h : ChangeCore n s) : s.fetchCount .cue ≤ 1 := by
  rw [h.cueFetch]
  cases s.cueIs .loading <;> decide

/-- Where the cue is not LOADING no cue's fetch is held. -/
theorem ChangeCore.no_cueFetch (h : ChangeCore n s) (hc : s.cueIs .loading = false) : s.fetchCount .cue = 0 := by
  rw [h.cueFetch, hc]
  rfl

theorem setBank_bank_other (s : State) {j k : BankId} (b : Bank) (h : j ≠ k) : (s.setBank k b).bank j = s.bank j := by
  cases j <;> cases k <;> first | rfl | exact absurd rfl h

theorem setBank_enabled {k : BankId} {b : Bank} (hb : b.enabled.length = b.zones.length)
    (h : ∀ k : BankId, (s.bank k).enabled.length = (s.bank k).zones.length) (j : BankId) :
    ((s.setBank k b).bank j).enabled.length = ((s.setBank k b).bank j).zones.length := by
  by_cases hj : j = k
  · subst hj; rw [State.setBank_bank_same]; exact hb
  · rw [setBank_bank_other s b hj]; exact h j

theorem setBank_active (k : BankId) (b : Bank) : (s.setBank k b).banks.active = s.banks.active := by cases k <;> rfl

theorem setBank_retained (k : BankId) (b : Bank) : (s.setBank k b).banks.retained = s.banks.retained := by cases k <;> rfl

/-- A bank changes where no ARMED cue waits in it, or keeps its song. -/
theorem ChangeCore.setBank (h : ChangeCore n s) {k : BankId} {b : Bank} (hb : b.enabled.length = b.zones.length)
    (ha : s.cueIs .armed = true → k = s.banks.active.other → b.image.isSome = true) : ChangeCore n (s.setBank k b) := by
  have frame := setBank_frame s k b
  have seq : (s.setBank k b).seq = s.seq := frame.at .seq
  have store : (s.setBank k b).store = s.store := frame.at .store
  have notes : (s.setBank k b).notes = s.notes := frame.at .notes
  have resetting : (s.setBank k b).resetting = s.resetting := frame.at .resetting
  have bus : (s.setBank k b).bus = s.bus := frame.at .bus
  have fetches : (s.setBank k b).fetches = s.fetches := fetches_congr (by rw [store]) (by rw [store])
  exact {
    enabled := setBank_enabled hb h.enabled
    retained := by rw [State.otherReferences, setBank_active, setBank_retained, notes]; exact h.retained
    retention := by rw [seq, setBank_retained]; exact h.retention
    loading := by rw [State.cueIs, State.cueIs, seq, setBank_retained]; exact h.loading
    armed := fun armed => by
      rw [State.cueIs, seq] at armed
      rw [State.standbyBank, setBank_active]
      by_cases hk : s.banks.active.other = k
      · rw [hk, State.setBank_bank_same]; exact ha armed hk.symm
      · rw [setBank_bank_other s b hk]; exact h.armed armed
    reset := by rw [State.inReset, resetting, seq]; exact h.reset
    cueFetch := by rw [fetchCount_eq, fetches, State.cueIs, seq]; exact h.cueFetch
    fetches := fun j hj => by rw [fetchCount_eq, fetches]; exact h.fetches j hj
    idle := by rw [store]; exact h.idle
    silence := by rw [bus, resetting]; exact h.silence }

theorem emptied_enabled (b : Bank) : b.emptied.enabled.length = b.emptied.zones.length := rfl

theorem load_enabled (x : Song) (slot : Slot) : (Bank.load x slot).enabled.length = (Bank.load x slot).zones.length := by
  simp [Bank.load, Bank.zones]

/-- The slot is empty, or holds a cue that waits. -/
abbrev Sequencer.Waits (q : Sequencer) : Prop := ∀ c, q.cue = some c → c.state = .waiting

/-- The cue slot changes to one that asks for nothing yet, where no cue's fetch is held. -/
theorem ChangeCore.setSlot (h : ChangeCore n s) {x : Sequencer} (hc : s.fetchCount .cue = 0) (hx : x.Waits)
    (hr : s.inReset = true → x.cue = none) (ht : x.retention.isSome = true → s.banks.retained = true) :
    ChangeCore n { s with seq := x } := by
  have waits (y : CueState) (hy : y ≠ .waiting) : State.cueIs { s with seq := x } y = false := by
    unfold State.cueIs
    dsimp only
    split
    · next c e => simpa [hx c e] using hy.symm
    · rfl
  have loading := waits .loading (by simp)
  have armed := waits .armed (by simp)
  exact {
    enabled := h.enabled
    retained := h.retained
    retention := ht
    loading := by rw [loading, armed]; simp
    armed := by rw [armed]; simp
    reset := hr
    cueFetch := by rw [loading]; exact hc
    fetches := h.fetches
    idle := h.idle
    silence := h.silence }

/-- Where its conditions hold a WAITING cue begins to load, and the store holds its fetch (R131). -/
theorem ChangeCore.after_examineLoad (h : ChangeCore n s) : ChangeCore n (examineLoad s) := by
  unfold examineLoad
  split
  · next c hc =>
    split
    · next hl =>
      obtain ⟨waiting, may⟩ := hl
      simp only [State.mayLoad, Bool.and_eq_true, Bool.not_eq_true', beq_iff_eq] at may
      obtain ⟨⟨⟨phase, retained⟩, -⟩, free⟩ := may
      have notLoading : s.cueIs .loading = false := by simp [State.cueIs, hc, waiting]
      have notArmed : s.cueIs .armed = false := by simp [State.cueIs, hc, waiting]
      have emptied : ChangeCore n (emptyStandby s) := h.setBank (emptied_enabled _) (by simp [notArmed])
      have seq : (emptyStandby s).seq = s.seq := (emptyStandby_frame s).at .seq
      have still : (emptyStandby s).inReset = false := by
        rw [State.inReset, ((emptyStandby_frame s).at .resetting : (emptyStandby s).resetting = _)]
        exact free
      have kept : (emptyStandby s).banks.retained = false := (setBank_retained _ _).trans retained
      have none : (emptyStandby s).fetchCount .cue = 0 := emptied.no_cueFetch (by rw [State.cueIs, seq]; exact notLoading)
      generalize he : emptyStandby s = e at *
      let u : State := { e with seq := { s.seq with cue := some { c with state := .loading } } }
      have rests : u.store.Rests := emptied.idle
      have frame := requestFetch_frame ⟨.cue, slotSector c.slot⟩ u
      have banks : (requestFetch ⟨.cue, slotSector c.slot⟩ u).banks = e.banks := frame.at .banks
      have notes : (requestFetch ⟨.cue, slotSector c.slot⟩ u).notes = e.notes := frame.at .notes
      have slot : (requestFetch ⟨.cue, slotSector c.slot⟩ u).seq = { s.seq with cue := some { c with state := .loading } } := frame.at .seq
      have resetting : (requestFetch ⟨.cue, slotSector c.slot⟩ u).resetting = e.resetting := frame.at .resetting
      have bus : (requestFetch ⟨.cue, slotSector c.slot⟩ u).bus = e.bus := frame.at .bus
      exact {
        enabled := fun k => by rw [State.bank.eq_def, banks, ← State.bank.eq_def]; exact emptied.enabled k
        retained := by rw [State.otherReferences, banks, notes]; exact emptied.retained
        retention := by rw [slot, banks, ← seq]; exact emptied.retention
        loading := fun _ => by rw [slot, banks]; exact ⟨phase, kept⟩
        armed := by rw [State.cueIs, slot]; simp
        reset := by rw [State.inReset, resetting]; exact fun r => absurd r (by rw [← State.inReset, still]; decide)
        cueFetch := by
          rw [requestFetch_count _ rests, State.cueIs, slot]
          show e.fetchCount .cue + 1 = 1
          rw [none]
        fetches := fun k hk => by
          have other : (FetchKind.cue == k) = false := beq_eq_false_iff_ne.2 (Ne.symm hk)
          rw [requestFetch_count _ rests]
          dsimp only
          rw [other]
          exact emptied.fetches k hk
        idle := requestFetch_rests _ _
        silence := by rw [bus, resetting]; exact emptied.silence }
    · exact h
  · exact h

/-! ### The Held-Note Table and the bank-free report -/

theorem Thinned.countP_le {α : Type} {R : α → α → Prop} {p : α → Bool} (hp : ∀ x y, R x y → p y = true → p x = true) {l m : List α}
    (h : Thinned R l m) : m.countP p ≤ l.countP p := by
  induction h with
  | nil => exact Nat.le_refl _
  | left _ ih => exact ih.trans (List.countP_cons .. ▸ Nat.le_add_right ..)
  | @kept x y _ _ hr _ ih =>
    rw [List.countP_cons, List.countP_cons]
    have := hp x y hr
    cases hy : p y <;> simp_all
    omega

/-- Entries have left the table, and with the last one that names it a RETAINED bank is free (R88, R125). -/
theorem ChangeCore.after_bankFree (h : ChangeCore n s) {x : Notes} (hx : x.references s.banks.active.other ≤ s.otherReferences) :
    ChangeCore n (bankFree s.otherReferences { s with notes := x }) := by
  unfold bankFree
  split
  · next free =>
    refine ChangeCore.after_examineLoad ?_
    obtain ⟨-, -, none⟩ := free
    exact {
      enabled := h.enabled
      retained := by simpa [State.otherReferences] using none
      retention := nofun
      loading := fun hl => ⟨(h.loading hl).1, rfl⟩
      armed := h.armed
      reset := h.reset
      cueFetch := h.cueFetch
      fetches := h.fetches
      idle := h.idle
      silence := h.silence }
  · next held =>
    refine { h with retained := ?_ }
    have before := h.retained
    show s.banks.retained = true ↔ x.references s.banks.active.other ≠ 0
    constructor
    · exact fun kept gone => held ⟨kept, before.1 kept, gone⟩
    · exact fun named => before.2 (by omega)

theorem ReleasedTo.bank {w : Entry → Bool} {e f : Entry} (h : ReleasedTo w e f) : f.bank = e.bank := by cases h <;> rfl

theorem releaseScan_references (w : Entry → Bool) (c : Count) (es : List Entry) (k : BankId) :
    (releaseScan w c es).entries.countP (fun e => e.bank == k) ≤ es.countP (fun e => e.bank == k) :=
  (releaseScan_thinned w c es).countP_le fun _ _ h e => by rw [← h.bank]; exact e

theorem ChangeCore.after_releaseEntries (h : ChangeCore n s) (w : Entry → Bool) : ChangeCore n (releaseEntries w s).1 :=
  h.after_bankFree (x := { s.notes with
    entries := (releaseScan w s.notes.nextRelease s.notes.entries).entries
    nextRelease := (releaseScan w s.notes.nextRelease s.notes.entries).next }) (releaseScan_references ..)

theorem updateDest_references (m i : Nat) (f : Dest → Dest) (es : List Entry) (k : BankId) :
    (updateDest m i f es).countP (fun e => e.bank == k) = es.countP (fun e => e.bank == k) := by
  rw [updateDest, List.countP_map]
  refine List.countP_congr fun e _ => ?_
  dsimp only [Function.comp]
  split <;> rfl

/-- The table changes in what its entries hold, not in the banks they name. -/
theorem ChangeCore.setNotes (h : ChangeCore n s) {x : Notes} (hx : x.references s.banks.active.other = s.otherReferences) :
    ChangeCore n { s with notes := x } :=
  { h with retained := by rw [State.otherReferences] at *; dsimp only; rw [hx]; exact h.retained }

theorem ChangeCore.after_makeEntry (h : ChangeCore n s) (k : Strike) : ChangeCore n (makeEntry k s) := by
  refine ChangeCore.after_releaseEntries (h.setNotes ?_) _
  have other : (s.banks.active == s.banks.active.other) = false := by cases s.banks.active <;> rfl
  simp [Notes.references, State.otherReferences, State.newEntry, other, List.countP_append]

theorem ChangeCore.after_panicNotes (h : ChangeCore n s) : ChangeCore n (panicNotes s) := by
  unfold panicNotes
  dsimp only
  split
  · refine ChangeCore.after_examineLoad ?_
    exact {
      enabled := h.enabled
      retained := by simp [State.otherReferences, Notes.references]
      retention := nofun
      loading := fun hl => ⟨(h.loading hl).1, rfl⟩
      armed := h.armed
      reset := h.reset
      cueFetch := h.cueFetch
      fetches := h.fetches
      idle := h.idle
      silence := h.silence }
  · next held => exact { h with retained := by simp [State.otherReferences, Notes.references, held] }

/-! ### The cue slot, the roles and the store -/

theorem ChangeCore.abandon (h : ChangeCore n s) {x : Sequencer} (hx : x.cue = none) (ht : x.retention.isSome = true → s.banks.retained = true) :
    ChangeCore n { abandonCueFetch s with seq := x } := by
  have frame := abandonCueFetch_frame s
  have banks : (abandonCueFetch s).banks = s.banks := frame.at .banks
  have notes : (abandonCueFetch s).notes = s.notes := frame.at .notes
  have resetting : (abandonCueFetch s).resetting = s.resetting := frame.at .resetting
  have bus : (abandonCueFetch s).bus = s.bus := frame.at .bus
  have count := abandonCueFetch_count h.count_cue_le
  have slot (y : CueState) : State.cueIs { abandonCueFetch s with seq := x } y = false := by simp [State.cueIs, hx]
  exact {
    enabled := fun k => by
      show ((abandonCueFetch s).bank k).enabled.length = ((abandonCueFetch s).bank k).zones.length
      rw [State.bank.eq_def, banks, ← State.bank.eq_def]
      exact h.enabled k
    retained := by
      show (abandonCueFetch s).banks.retained = true ↔ (abandonCueFetch s).notes.references (abandonCueFetch s).banks.active.other ≠ 0
      rw [banks, notes]
      exact h.retained
    retention := by show x.retention.isSome = true → (abandonCueFetch s).banks.retained = true; rw [banks]; exact ht
    loading := by rw [slot, slot]; simp
    armed := by rw [slot]; simp
    reset := fun _ => hx
    cueFetch := by rw [slot]; exact (count .cue).trans (by simp)
    fetches := fun k hk => (count k).trans (by rw [if_neg hk]; exact h.fetches k hk)
    idle := abandonCueFetch_rests h.idle
    silence := by
      show ∀ tr, (abandonCueFetch s).bus.transmission = some tr → tr.forRestart = true → (abandonCueFetch s).resetting = .silence
      rw [bus, resetting]
      exact h.silence }

theorem cueIs_state {c : Cue} (h : s.seq.cue = some c) (x : CueState) : s.cueIs x = (c.state == x) := by simp [State.cueIs, h]

/-- The order of the slot's and the store's change makes no difference. -/
theorem abandonCueFetch_seq (x : Sequencer) : abandonCueFetch { s with seq := x } = { abandonCueFetch s with seq := x } := by
  unfold abandonCueFetch storeNext
  dsimp only
  split
  · split
    · split <;> rfl
    · rfl
  · rfl

theorem ChangeCore.after_cueLeft (h : ChangeCore n s) {c : Cue} (hc : s.seq.cue = some c) : ChangeCore n (cueLeft c s) := by
  have emptySlot (hl : c.state ≠ .loading) : ChangeCore n { s with seq := { s.seq with cue := none } } :=
    h.setSlot (h.no_cueFetch (by simpa [cueIs_state hc] using hl)) nofun (fun _ => rfl) h.retention
  unfold cueLeft
  dsimp only
  split
  · next hs => exact emptySlot (by simp [hs])
  · next hs =>
    rw [abandonCueFetch_seq]
    exact h.abandon rfl h.retention
  · next hs => exact (emptySlot (by simp [hs])).setBank (emptied_enabled _) nofun

theorem ChangeCore.after_changeRoles (h : ChangeCore n s) (x : Song) (ha : s.cueIs .armed = true) : ChangeCore n (changeRoles x s) := by
  have notLoading : s.cueIs .loading = false := by
    unfold State.cueIs at ha ⊢
    split at ha
    · next c _ => simp_all
    · cases ha
  have other : s.banks.active.other.other = s.banks.active := by cases s.banks.active <;> rfl
  exact {
    enabled := h.enabled
    retained := by
      show decide (s.notes.references s.banks.active ≠ 0) = true ↔ s.notes.references s.banks.active.other.other ≠ 0
      rw [other]
      exact decide_eq_true_iff
    retention := fun kept => by
      show decide (s.notes.references s.banks.active ≠ 0) = true
      by_contra gone
      simp only [decide_eq_true_eq, not_not] at gone
      simp [changeRoles, gone] at kept
    loading := by simp [State.cueIs, changeRoles]
    armed := by simp [State.cueIs, changeRoles]
    reset := fun _ => rfl
    cueFetch := h.no_cueFetch notLoading
    fetches := h.fetches
    idle := h.idle
    silence := h.silence }

/-- A change of the sequencer that leaves the cue in its state. -/
theorem ChangeCore.seqStep (h : ChangeCore n s) {x : Sequencer} (hx : SeqStep s x) : ChangeCore n { s with seq := x } := by
  have cue (y : CueState) : State.cueIs { s with seq := x } y = s.cueIs y := by
    have := hx.cue
    unfold State.cueIs
    cases hs : s.seq.cue <;> cases hc : x.cue <;> simp_all
  exact { h with
    retention := fun kept => h.retention (by rcases hx.retention with e | e <;> simp_all)
    loading := by
      rw [cue, cue]
      exact fun hl => ⟨by rcases hx.phase with e | e <;> simp [e, (h.loading hl).1], (h.loading hl).2⟩
    armed := by rw [cue]; exact h.armed
    reset := fun r => by
      have none := h.reset r
      have := hx.cue
      simpa [none] using this
    cueFetch := by rw [cue]; exact h.cueFetch }

/-- The store changes, and the fetches stand. -/
theorem ChangeCore.setStore (h : ChangeCore n s) {x : Store} (hx : x.Rests) (hf : State.fetches { s with store := x } = s.fetches) :
    ChangeCore n { s with store := x } :=
  { h with
    cueFetch := by rw [fetchCount_eq, hf]; exact h.cueFetch
    fetches := fun k hk => by rw [fetchCount_eq, hf]; exact h.fetches k hk
    idle := hx }

/-- A reset takes its course, with the cue slot empty (R142). -/
theorem ChangeCore.setResetting (h : ChangeCore n s) {x : ResetPhase} (hc : s.seq.cue = none) (hx : s.resetting = .silence → x = .silence) :
    ChangeCore n { s with resetting := x } :=
  { h with reset := fun _ => hc, silence := fun tr ht hr => hx (h.silence tr ht hr) }

theorem ChangeCore.after_restartTaken (h : ChangeCore n s) : ChangeCore n (restartTaken s) := by
  have taken {x : State} (hx : ChangeCore n { x with seq := { x.seq with cue := none, settle := .idle, retention := none } }) :
      ChangeCore n { x with seq := { x.seq with cue := none, settle := .idle, retention := none }, resetting := .silence } :=
    hx.setResetting rfl fun _ => rfl
  have empty (hl : s.cueIs .loading = false) :
      ChangeCore n { s with seq := { s.seq with cue := none, settle := .idle, retention := none } } :=
    h.setSlot (h.no_cueFetch hl) nofun (fun _ => rfl) nofun
  unfold restartTaken
  dsimp only
  split
  · next c hc =>
    split
    · have seq : (abandonCueFetch s).seq = s.seq := (abandonCueFetch_frame s).at .seq
      rw [seq]
      refine taken (x := { abandonCueFetch s with seq := s.seq }) ?_
      exact h.abandon rfl nofun
    · next hl => exact taken (empty (by simpa [cueIs_state hc] using hl))
  · next hc => exact taken (empty (by simp [State.cueIs, hc]))

/-- A work of a block keeps the banks, the cue slot and the fetches. -/
theorem Block.changeCore (b : Block Retimed s t) (h : ChangeCore n s) : ChangeCore n t := by
  cases b with
  | grid g => exact g.frame.changeCore h
  | quiet q => exact q.changeCore h
  | tell p b o => exact (postTo_frame p b o s).changeCore h
  | layer x => exact h.same rfl rfl rfl rfl rfl rfl h.silence
  | bus x hx =>
    refine h.same rfl rfl rfl rfl rfl rfl fun tr ht hr => ?_
    exact (hx.silence tr ht hr).elim (fun old => h.silence tr old hr) id
  | links x => exact h.same rfl rfl rfl rfl rfl rfl h.silence
  | release w => exact h.after_releaseEntries w
  | sustain l c k =>
    refine h.setNotes (x := { s.notes with entries := s.notes.entries.map _ }) ?_
    rw [Notes.references, List.countP_map]
    refine List.countP_congr fun e _ => ?_
    dsimp only [Function.comp]
    split <;> rfl
  | flag m i f => exact h.setNotes (x := { s.notes with entries := updateDest m i _ s.notes.entries }) (updateDest_references ..)
  | ended m i =>
    refine h.after_bankFree (x := { s.notes with entries := List.filter _ (updateDest m i _ s.notes.entries) }) ?_
    exact (List.filter_sublist.countP_le).trans (updateDest_references ..).le
  | make k => exact h.after_makeEntry k
  | counts x he => exact h.setNotes (by rw [Notes.references, he]; rfl)
  | panic => exact h.after_panicNotes
  | bank k x hx =>
    refine h.setBank (hx.zones (h.enabled k)) fun ha hk => ?_
    rw [hx.image, hk]
    exact h.armed ha
  | roles x ha => exact h.after_changeRoles x ha
  | load => exact h.after_examineLoad
  | displace c hc => exact h.after_cueLeft hc
  | offer c hn hr =>
    refine h.setSlot (h.no_cueFetch (by simp [State.cueIs, hn])) (fun d hd => ?_) (by simp [hr]) h.retention
    cases hd
    rfl
  | seq x hx => exact h.seqStep hx
  | store x ha hq => exact h.same rfl rfl rfl ha hq rfl h.silence
  | opNext op ho =>
    have frame := storeNext_frame s
    have fetches := storeNext_operating ho
    exact (h.setStore (x := (storeNext s).store) (storeNext_rests s) fetches).same (frame.at .banks)
      (congrArg Notes.entries (frame.at .notes)) (frame.at .seq) rfl rfl (frame.at .resetting)
      (by rw [(frame.at .bus : (storeNext s).bus = _), (frame.at .resetting : (storeNext s).resetting = _)]; exact h.silence)
  | opSet op new ho => exact h.setStore nofun (by simp [State.fetches, ho])
  | opBegin op ho => exact h.setStore nofun (by simp [State.fetches, ho])
  | flash x => exact h.same rfl rfl rfl rfl rfl rfl h.silence
  | restart => exact h.after_restartTaken

end Sys2Proof.Machine
end

section
/-! PROOF. The works of the ports, the fetches and the resets keep what each requester waits for (O10). -/

namespace Sys2Proof.Machine

variable {n : FetchKind → Nat} {s t : State}

/-! ## What the requesters wait for -/

/-- What a port keeps of its request in service: without one no reply is decided or on the line, and at most one reply is under way. -/
structure ControlPort.Serving (c : ControlPort) : Prop where
  service : c.inService = none → c.reply = none ∧ c.replying = false
  oneReply : c.reply.isSome = true → c.replying = false

/-- How many fetches of a kind the requesters outside the cue slot wait for. -/
def State.owed (s : State) : FetchKind → Nat
  | .cue => 0
  | .setup => (s.resetting == .setup).toNat
  | .setlist => (s.resetting == .setlist).toNat
  | .initial => s.resetting.isSong.toNat
  | .readSong p => (s.port p).awaiting.toNat

theorem changeSound_iff (s : State) : ChangeSound s ↔ ChangeCore s.owed s ∧ ∀ p : Port, (s.port p).Serving := by
  constructor
  · intro h
    refine ⟨⟨h.enabled, h.retained, h.retention, h.loading, h.armed, h.reset, h.cueFetch, fun k hk => ?_, h.idle, h.silence⟩,
      fun p => ⟨h.service p, h.oneReply p⟩⟩
    cases k
    · exact absurd rfl hk
    · exact h.songFetch
    · exact h.readFetch _
    · exact h.setupFetch
    · exact h.setlistFetch
  · rintro ⟨h, ports⟩
    exact ⟨h.enabled, h.retained, h.retention, h.loading, h.armed, h.reset, h.cueFetch, h.fetches .setup (by simp),
      h.fetches .setlist (by simp), h.fetches .initial (by simp), fun p => h.fetches (.readSong p) (by simp), h.idle,
      fun p => (ports p).service, fun p => (ports p).oneReply, h.silence⟩

theorem ChangeCore.congr {m : FetchKind → Nat} (h : ChangeCore n s) (hm : ∀ k, k ≠ .cue → n k = m k) : ChangeCore m s :=
  { h with fetches := fun k hk => (h.fetches k hk).trans (hm k hk) }

/-! ## What the blocks' works leave of the ports and the resets -/

/-- A port serves and answers as another does. -/
abbrev ControlPort.WaitsAs (d c : ControlPort) : Prop := d.inService = c.inService ∧ d.reply = c.reply ∧ d.sending = c.sending

theorem ControlPort.WaitsAs.awaiting {d c : ControlPort} (h : d.WaitsAs c) : d.awaiting = c.awaiting := by
  obtain ⟨service, reply, sending⟩ := h
  rw [ControlPort.awaiting, ControlPort.awaiting, ControlPort.replying, ControlPort.replying, service, reply, sending]

theorem ControlPort.WaitsAs.serving {d c : ControlPort} (h : d.WaitsAs c) (hc : c.Serving) : d.Serving := by
  obtain ⟨service, reply, sending⟩ := h
  refine ⟨?_, ?_⟩
  · rw [ControlPort.replying, service, reply, sending]; exact hc.service
  · rw [ControlPort.replying, reply, sending]; exact hc.oneReply

/-- The ports serve and answer as before, and no reset begins but at the taking of a RESTART. -/
structure Outside (s t : State) : Prop where
  port : ∀ p : Port, (t.port p).WaitsAs (s.port p)
  resetting : t.resetting = s.resetting ∨ s.resetting = .none ∧ t.resetting = .silence

theorem Outside.refl (s : State) : Outside s s := ⟨fun _ => ⟨rfl, rfl, rfl⟩, .inl rfl⟩

theorem Outside.then {u : State} (h : Outside s t) (h' : Outside t u) : Outside s u := by
  refine ⟨fun p => ?_, ?_⟩
  · obtain ⟨a, b, c⟩ := h.port p
    obtain ⟨a', b', c'⟩ := h'.port p
    exact ⟨a'.trans a, b'.trans b, c'.trans c⟩
  · rcases h.resetting with e | ⟨e, e'⟩
    · rw [← e]
      exact h'.resetting
    · rcases h'.resetting with f | ⟨f, -⟩
      · exact .inr ⟨e, f.trans e'⟩
      · exact absurd (e'.symm.trans f) (by simp)

theorem Outside.owed (h : Outside s t) (k : FetchKind) : t.owed k = s.owed k := by
  cases k
  case readSong p => simp only [State.owed, (h.port p).awaiting]
  all_goals rcases h.resetting with e | ⟨e, e'⟩ <;> simp [State.owed, *] <;> rfl

/-- The parts that `Outside` looks at. -/
abbrev outsideParts : List Part := [.serviceA, .sendA, .serviceB, .sendB]

theorem SameBut.outside_ports {ps : List Part} (f : SameBut ps s t) (hd : ∀ q ∈ outsideParts, q ∉ ps) (p : Port) :
    (t.port p).WaitsAs (s.port p) := by
  have service : (t.port p).service = (s.port p).service := by
    cases p
    · exact f.at .serviceA (hd _ (by decide))
    · exact f.at .serviceB (hd _ (by decide))
  have outgoing : (t.port p).outgoing = (s.port p).outgoing := by
    cases p
    · exact f.at .sendA (hd _ (by decide))
    · exact f.at .sendB (hd _ (by decide))
  simp only [ControlPort.service, ControlPort.outgoing, Prod.mk.injEq] at service outgoing
  obtain ⟨-, -, -, -, inService, -, -⟩ := service
  obtain ⟨reply, -, sending⟩ := outgoing
  exact ⟨inService, reply, sending⟩

theorem SameBut.outside {ps : List Part} (f : SameBut ps s t) (hd : ∀ q ∈ outsideParts, q ∉ ps := by decide)
    (hr : Part.resetting ∉ ps := by decide) : Outside s t := ⟨f.outside_ports hd, .inl (f.at .resetting hr)⟩

theorem Block.outside (b : Block Retimed s t) : Outside s t := by
  cases b with
  | grid g => exact g.frame.outside
  | quiet q => exact q.outside
  | tell p b o => exact (postTo_frame p b o s).outside
  | layer x => exact (layerUpdate_frame s x).outside
  | bus x => exact (busUpdate_frame s x).outside
  | links x => exact (linksUpdate_frame s x).outside
  | release w => exact (releaseEntries_frame w s).outside
  | sustain l c k => exact (noteRelease_frame l c k true s).outside
  | flag m i f => exact (flagDest_frame m i f s).outside
  | ended m i => exact (endDest_frame m i s).outside
  | make k => exact (makeEntry_frame k s).outside
  | counts x => exact (notesUpdate_frame s x).outside
  | panic => exact (panicNotes_frame s).outside
  | bank k x => exact (setBank_frame s k x).outside
  | roles x => exact (changeRoles_frame x s).outside
  | load => exact (examineLoad_frame s).outside
  | displace c => exact (cueLeft_frame c s).outside
  | offer c => exact (seqUpdate_frame s _).outside
  | seq x => exact (seqUpdate_frame s x).outside
  | store x => exact (storeUpdate_frame s x).outside
  | opNext => exact (storeNext_frame s).outside
  | opSet op new => exact (setOp_frame new s).outside
  | opBegin op => exact (setOp_frame op s).outside
  | flash x => exact (flashUpdate_frame s x).outside
  | restart hr =>
    have none : s.resetting = .none := by simpa [State.inReset] using hr
    exact ⟨(restartTaken_frame s).outside_ports (by decide), .inr ⟨none, rfl⟩⟩

/-- What a run of the blocks' works keeps. -/
structure Keeping (n : FetchKind → Nat) (s t : State) : Prop where
  core : ChangeCore n s → ChangeCore n t
  outside : Outside s t

theorem Keeping.then {u : State} (h : Keeping n s t) (h' : Keeping n t u) : Keeping n s u := ⟨h'.core ∘ h.core, h.outside.then h'.outside⟩

theorem retimed_keeping (r : Runs (Block Retimed) s t) : Keeping n s t := by
  induction r with
  | refl => exact ⟨id, .refl s⟩
  | tail _ hb ih => exact ih.then ⟨hb.changeCore, hb.outside⟩

theorem runs_keeping (r : Runs (Block GridWork) s t) : Keeping n s t := by
  induction r with
  | refl => exact ⟨id, .refl s⟩
  | tail _ hb ih => exact ih.then (retimed_keeping hb.pieces)

theorem SameBut.keeping {ps : List Part} (f : SameBut ps s t) (hd : ∀ q ∈ outsideParts, q ∉ ps := by decide)
    (hc : ∀ q ∈ [Part.banks, .notes, .seq, .store, .resetting, .bus], q ∉ ps := by decide) : Keeping n s t :=
  ⟨fun h => f.changeCore h hc, f.outside hd (hc _ (by decide))⟩

theorem Keeping.changeSound (k : ∀ n, Keeping n s t) (hs : ChangeSound s) : ChangeSound t := by
  obtain ⟨core, ports⟩ := (changeSound_iff s).1 hs
  have outside := (k s.owed).outside
  exact (changeSound_iff t).2 ⟨((k s.owed).core core).congr fun j _ => (outside.owed j).symm, fun p => (outside.port p).serving (ports p)⟩

/-! ## The ports -/

/-- A port takes another state that waits for the same. -/
theorem setPort_changeSound {p : Port} {x : ControlPort} (hs : ChangeSound s) (ha : x.awaiting = (s.port p).awaiting) (hx : x.Serving) :
    ChangeSound (s.setPort p x) := by
  obtain ⟨core, ports⟩ := (changeSound_iff s).1 hs
  have awaiting (q : Port) : ((s.setPort p x).port q).awaiting = (s.port q).awaiting := by
    by_cases hq : q = p
    · subst hq; rw [State.setPort_port_same, ha]
    · rw [State.setPort_port_other s x hq]
  have resetting : (s.setPort p x).resetting = s.resetting := (setPort_frame s p x).at .resetting
  refine (changeSound_iff _).2 ⟨((setPort_frame s p x).changeCore core).congr fun k _ => ?_, fun q => ?_⟩
  · cases k <;> simp only [State.owed, awaiting, resetting]
  · by_cases hq : q = p
    · subst hq; rw [State.setPort_port_same]; exact hx
    · rw [State.setPort_port_other s x hq]; exact ports q

theorem ChangeSound.serving (hs : ChangeSound s) (p : Port) : (s.port p).Serving := ⟨hs.service p, hs.oneReply p⟩

theorem sendNotice_eq (c : ControlPort) (m : Notice) (rest : List Notice) (position : Position) (now : Count) :
    (c.sendNotice m rest position now).inService = c.inService ∧ (c.sendNotice m rest position now).reply = c.reply ∧
      (c.sendNotice m rest position now).replying = false := by
  unfold ControlPort.sendNotice ControlPort.reportLost ControlPort.begin
  split <;> exact ⟨rfl, rfl, rfl⟩

/-- The transmitter sends a reply that is decided, and a notice leaves what the port waits for. -/
theorem transmit_waits {c : ControlPort} (h : c.Serving) (position : Position) (now : Count) :
    (c.transmit position now).awaiting = c.awaiting ∧ (c.transmit position now).Serving := by
  have notice (hs : c.sending = none) (m : Notice) (rest : List Notice) : (c.sendNotice m rest position now).awaiting = c.awaiting ∧
      (c.sendNotice m rest position now).Serving := by
    obtain ⟨service, reply, replying⟩ := sendNotice_eq c m rest position now
    have before : c.replying = false := by simp [ControlPort.replying, hs]
    exact ⟨by rw [ControlPort.awaiting, ControlPort.awaiting, service, reply, replying, before],
      ⟨fun e => ⟨reply.trans (h.service (service ▸ e)).1, replying⟩, fun _ => replying⟩⟩
  have answer (r : List Byte) (hr : c.reply = some r) : (c.sendReply r now).awaiting = c.awaiting ∧ (c.sendReply r now).Serving := by
    have served : c.inService ≠ none := fun e => absurd (h.service e).1 (by simp [hr])
    refine ⟨by simp [ControlPort.awaiting, ControlPort.sendReply, ControlPort.begin, ControlPort.replying, hr], ⟨fun e => absurd e served, ?_⟩⟩
    exact nofun
  unfold ControlPort.transmit
  split
  · exact ⟨rfl, h⟩
  · next hs =>
    split
    · next hr _ =>
      split
      · exact notice hs _ _
      · exact answer _ hr
    · next hr _ => exact answer _ hr
    · exact notice hs _ _
    · exact ⟨rfl, h⟩

/-- The end of a frame: with a reply the request leaves service. -/
theorem sent_waits {c : ControlPort} {fr : PortFrame} (h : c.Serving) (hf : c.sending = some fr) :
    ControlPort.awaiting { c with sending := none, inService := if fr.sort = .reply then none else c.inService } = c.awaiting ∧
      ControlPort.Serving { c with sending := none, inService := if fr.sort = .reply then none else c.inService } := by
  by_cases sort : fr.sort = .reply
  · have replying : c.replying = true := by simp [ControlPort.replying, hf, sort]
    have none : c.reply = none := by
      cases hr : c.reply with
      | none => rfl
      | some r => exact absurd (h.oneReply (by simp [hr])) (by simp [replying])
    exact ⟨by simp [ControlPort.awaiting, sort, replying], ⟨fun _ => ⟨none, rfl⟩, fun _ => rfl⟩⟩
  · have notice : c.replying = false := by simp [ControlPort.replying, hf, sort]
    rw [if_neg sort]
    refine ⟨?_, ⟨fun e => ⟨(h.service e).1, rfl⟩, fun _ => rfl⟩⟩
    rw [ControlPort.awaiting, ControlPort.awaiting, notice]
    rfl

/-! ## Requests -/

theorem checked_replies {α : Type} {c : Checked α} {f : α → Served} (h : ∀ x, (f x).2.isSome = true) :
    (checked c s f).2.isSome = true := by
  cases c with
  | error m => rfl
  | ok x => exact h x

theorem storeRequest_replies (k : OpKind) (p : Port) (x : Checked (Sector × List Byte)) (s : State) :
    (storeRequest k p x s).2.isSome = true := by
  unfold storeRequest
  split
  · rfl
  · split
    · rfl
    · split
      · rfl
      · exact checked_replies fun _ => rfl

/-- Every request but READ_SONG is answered at once. -/
theorem handle_replies {k : RequestKind} (h : k ≠ .readSong) (p : Port) (d : List Byte) (s : State) : (handle k p d s).2.isSome = true := by
  cases k with
  | setTempo =>
    unfold handle requestSetTempo
    dsimp only
    split <;> rfl
  | setTempoSource => exact checked_replies fun _ => rfl
  | mark =>
    unfold handle requestMark
    dsimp only
    repeat' split
    all_goals rfl
  | clickMute => exact checked_replies fun _ => rfl
  | cue => exact checked_replies fun _ => rfl
  | setlistStep =>
    refine checked_replies fun x => ?_
    split <;> rfl
  | editZone =>
    refine checked_replies fun x => ?_
    obtain ⟨active, i, z⟩ := x
    dsimp only
    repeat' split
    all_goals rfl
  | toggleZone =>
    unfold handle requestToggle
    dsimp only
    split
    · rfl
    · exact checked_replies fun _ => rfl
  | pass =>
    refine checked_replies fun x => ?_
    dsimp only
    split <;> rfl
  | writeSong => exact storeRequest_replies ..
  | eraseSong => exact storeRequest_replies ..
  | readSong => exact absurd rfl h
  | writeSetlist => exact storeRequest_replies ..
  | writeSetup => exact storeRequest_replies ..
  | setMode =>
    refine checked_replies fun x => ?_
    dsimp only
    repeat' split
    all_goals rfl
  | setNoticeMask => exact checked_replies fun _ => rfl
  | setPositionNotices => exact checked_replies fun _ => rfl
  | restart =>
    unfold handle requestRestart
    dsimp only
    split <;> rfl
  | _ => rfl

/-- A fetch joins the fetches of its kind. -/
theorem ChangeCore.after_requestFetch (h : ChangeCore n s) {f : Fetch} (hf : f.kind ≠ .cue) :
    ChangeCore (fun k => n k + (f.kind == k).toNat) (requestFetch f s) := by
  have frame := requestFetch_frame f s
  have banks : (requestFetch f s).banks = s.banks := frame.at .banks
  have notes : (requestFetch f s).notes = s.notes := frame.at .notes
  have seq : (requestFetch f s).seq = s.seq := frame.at .seq
  have resetting : (requestFetch f s).resetting = s.resetting := frame.at .resetting
  have bus : (requestFetch f s).bus = s.bus := frame.at .bus
  have other : (f.kind == .cue) = false := beq_eq_false_iff_ne.2 hf
  exact {
    enabled := fun k => by rw [State.bank.eq_def, banks, ← State.bank.eq_def]; exact h.enabled k
    retained := by rw [State.otherReferences, banks, notes]; exact h.retained
    retention := by rw [seq, banks]; exact h.retention
    loading := by rw [State.cueIs, State.cueIs, seq, banks]; exact h.loading
    armed := by rw [State.cueIs, State.standbyBank, State.bank.eq_def, seq, banks]; exact h.armed
    reset := by rw [State.inReset, resetting, seq]; exact h.reset
    cueFetch := by rw [requestFetch_count f h.idle, other, State.cueIs, seq]; exact h.cueFetch
    fetches := fun k hk => by rw [requestFetch_count f h.idle, h.fetches k hk]
    idle := requestFetch_rests f s
    silence := by rw [bus, resetting]; exact h.silence }

theorem requestFetch_outside (f : Fetch) (s : State) : Outside s (requestFetch f s) := (requestFetch_frame f s).outside

/-- The fetch a request leaves behind: a READ_SONG that is not answered at once waits for one. -/
def leftBehind (p : Port) (r : Option Reply) (k : FetchKind) : Nat := if r = none ∧ k = .readSong p then 1 else 0

/-- The ports' settings are no part of what they wait for. -/
theorem setting_keeping {p : Port} {x : ControlPort} (hs : x.inService = (s.port p).inService) (hr : x.reply = (s.port p).reply)
    (ht : x.sending = (s.port p).sending) : Keeping n s (s.setPort p x) := by
  refine ⟨fun h => (setPort_frame s p x).changeCore h, ⟨fun q => ?_, .inl ((setPort_frame s p x).at .resetting)⟩⟩
  by_cases hq : q = p
  · subst hq; rw [State.setPort_port_same]; exact ⟨hs, hr, ht⟩
  · rw [State.setPort_port_other s x hq]; exact ⟨rfl, rfl, rfl⟩

theorem checked_keeping {α : Type} (c : Checked α) (f : α → Served) (h : ∀ x, c = .ok x → Keeping n s (f x).1) : Keeping n s (checked c s f).1 := by
  cases c with
  | error m => exact ⟨id, .refl s⟩
  | ok x => exact h x rfl

/-- A request that is answered at once keeps every count of fetches. -/
theorem handle_keeping {k : RequestKind} (p : Port) {d : List Byte} (hr : s.inReset = false ∨ k = .getStatus)
    (hl : k.lengthOk d.length = true) (hk : k ≠ .readSong) : Keeping n s (handle k p d s).1 := by
  by_cases hg : k = .getStatus
  · subst hg; exact ⟨id, .refl s⟩
  by_cases hm : k = .setNoticeMask
  · subst hm
    exact checked_keeping _ _ fun _ _ => setting_keeping rfl rfl rfl
  by_cases hp : k = .setPositionNotices
  · subst hp
    exact checked_keeping _ _ fun _ _ => setting_keeping rfl rfl rfl
  exact runs_keeping (handle_runs p (hr.resolve_right hg) hl hm hp hk)

theorem decideRequest_keeps (p : Port) (f : Frame) (h : ChangeCore n s) :
    ChangeCore (fun k => n k + leftBehind p (decideRequest p f s).2 k) (decideRequest p f s).1 ∧ Outside s (decideRequest p f s).1 := by
  have answered {r : Served} (hr : r.2.isSome = true) (hk : Keeping n s r.1) :
      ChangeCore (fun k => n k + leftBehind p r.2 k) r.1 ∧ Outside s r.1 := by
    refine ⟨(hk.core h).congr fun k _ => ?_, hk.outside⟩
    have some : r.2 ≠ none := fun e => by rw [e] at hr; cases hr
    simp [leftBehind, some]
  have refused (r : Reply) := answered (r := (s, some r)) rfl ⟨id, .refl s⟩
  unfold decideRequest
  split
  · exact refused _
  · next k _ =>
    split
    · next hl =>
      split
      · exact refused _
      · next busy =>
        have hr : s.inReset = false ∨ k = .getStatus := by
          by_cases hg : k = .getStatus
          · exact .inr hg
          · left; simpa [hg] using busy
        by_cases hk : k = .readSong
        · subst hk
          unfold handle requestRead
          dsimp only
          cases slotField (byteAt f.payload 0) with
          | error m => exact refused _
          | ok sector =>
            refine ⟨(h.after_requestFetch (f := ⟨.readSong p, sector⟩) (by simp)).congr fun k _ => ?_, requestFetch_outside _ s⟩
            by_cases e : k = .readSong p
            · subst e; simp [leftBehind, checked]
            · simp [leftBehind, e, Ne.symm e]
        · exact answered (handle_replies hk p _ s) (handle_keeping p hr hl hk)
    · exact refused _

theorem owed_setPort {p : Port} (x : ControlPort) {k : FetchKind} (hk : k ≠ .readSong p) : (s.setPort p x).owed k = s.owed k := by
  have resetting : (s.setPort p x).resetting = s.resetting := (setPort_frame s p x).at .resetting
  cases k with
  | readSong q => simp only [State.owed, State.setPort_port_other s x (fun e : q = p => hk (by rw [e]))]
  | _ => simp only [State.owed, resetting]

/-- A port answers its request in service, for which no fetch is held. -/
theorem decideReply_changeSound {p : Port} (r : Reply) (core : ChangeCore n s) (hn : ∀ k, k ≠ .cue → k ≠ .readSong p → n k = s.owed k)
    (hp : n (.readSong p) = 0) (others : ∀ q, q ≠ p → (s.port q).Serving) (served : (s.port p).inService ≠ none)
    (free : (s.port p).replying = false) : ChangeSound (decideReply p r s) := by
  refine (changeSound_iff _).2 ⟨((setPort_frame s p _).changeCore core).congr fun k hk => ?_, fun q => ?_⟩
  · by_cases e : k = .readSong p
    · subst e
      simp [hp, State.owed, decideReply, ControlPort.awaiting]
    · exact (hn k hk e).trans (owed_setPort _ e).symm
  · by_cases hq : q = p
    · subst hq
      simp only [decideReply, State.setPort_port_same]
      exact ⟨fun e => absurd e served, fun _ => free⟩
    · simp only [decideReply, State.setPort_port_other s _ hq]
      exact others q hq

/-- The front request of the buffer is served: answered, or left to the end of the fetch it waits for (R173, R147). -/
theorem served_changeSound {p : Port} {f : Frame} {x : ControlPort} (hs : ChangeSound s) (hn : (s.port p).inService = none)
    (service : x.inService = some f) (reply : x.reply = none) (replying : x.replying = false) :
    ChangeSound (match (decideRequest p f (s.setPort p x)).2 with
      | some r => decideReply p r (decideRequest p f (s.setPort p x)).1
      | none => (decideRequest p f (s.setPort p x)).1) := by
  obtain ⟨core, ports⟩ := (changeSound_iff s).1 hs
  have unserved : s.owed (.readSong p) = 0 := by simp [State.owed, ControlPort.awaiting, hn]
  obtain ⟨decided, outside⟩ := decideRequest_keeps p f ((setPort_frame s p x).changeCore core)
  have same := outside.port p
  rw [State.setPort_port_same, ControlPort.WaitsAs, service, reply] at same
  obtain ⟨service', reply', sending'⟩ := same
  have free : ((decideRequest p f (s.setPort p x)).1.port p).replying = false := by
    rw [ControlPort.replying, sending', ← ControlPort.replying]; exact replying
  have others (q : Port) (hq : q ≠ p) : ((decideRequest p f (s.setPort p x)).1.port q).Serving :=
    (outside.port q).serving (by rw [State.setPort_port_other s x hq]; exact ports q)
  have owed (k : FetchKind) (hk : k ≠ .readSong p) : (decideRequest p f (s.setPort p x)).1.owed k = s.owed k :=
    (outside.owed k).trans (owed_setPort x hk)
  generalize decideRequest p f (s.setPort p x) = r at *
  obtain ⟨u, _ | answer⟩ := r
  · refine (changeSound_iff u).2 ⟨decided.congr fun k _ => ?_, fun q => ?_⟩
    · by_cases e : k = .readSong p
      · subst e
        rw [unserved]
        simp [leftBehind, State.owed, ControlPort.awaiting, service', reply', free]
      · simp [leftBehind, e, owed k e]
    · by_cases hq : q = p
      · subst hq
        exact ⟨fun e => absurd (service'.symm.trans e) (by simp), fun e => absurd e (by simp [reply'])⟩
      · exact others q hq
  · refine decideReply_changeSound answer (n := s.owed) (decided.congr fun k _ => by simp [leftBehind]) (fun k _ hk => (owed k hk).symm)
      unserved others (fun e => absurd (service'.symm.trans e) (by simp)) free

theorem serve_changeSound (p : Port) (hs : ChangeSound s) : ChangeSound (serve p s) := by
  unfold serve
  dsimp only
  split
  · next f rest hn _ =>
    obtain ⟨noReply, notReplying⟩ := hs.service p hn
    exact served_changeSound (x := { s.port p with inService := some f, buffer := rest }) hs hn rfl noReply notReplying
  · exact hs

/-! ## The ends of fetches -/

/-- The store goes on after a fetch that is not a cue's. -/
theorem ChangeCore.after_storeNext (h : ChangeCore n s) {f : Fetch} (hf : s.store.activity = .fetching f) (hk : f.kind ≠ .cue) :
    ChangeCore (fun k => n k - (f.kind == k).toNat) (storeNext s) := by
  have frame := storeNext_frame s
  have banks : (storeNext s).banks = s.banks := frame.at .banks
  have notes : (storeNext s).notes = s.notes := frame.at .notes
  have seq : (storeNext s).seq = s.seq := frame.at .seq
  have resetting : (storeNext s).resetting = s.resetting := frame.at .resetting
  have bus : (storeNext s).bus = s.bus := frame.at .bus
  have other : (f.kind == .cue) = false := beq_eq_false_iff_ne.2 hk
  have count := storeNext_count hf
  exact {
    enabled := fun k => by rw [State.bank.eq_def, banks, ← State.bank.eq_def]; exact h.enabled k
    retained := by rw [State.otherReferences, banks, notes]; exact h.retained
    retention := by rw [seq, banks]; exact h.retention
    loading := by rw [State.cueIs, State.cueIs, seq, banks]; exact h.loading
    armed := by rw [State.cueIs, State.standbyBank, State.bank.eq_def, seq, banks]; exact h.armed
    reset := by rw [State.inReset, resetting, seq]; exact h.reset
    cueFetch := by
      have := count .cue
      rw [other, h.cueFetch] at this
      rw [State.cueIs, seq]
      exact this.symm
    fetches := fun k hk => by
      have := count k
      rw [h.fetches k hk] at this
      omega
    idle := storeNext_rests s
    silence := by rw [bus, resetting]; exact h.silence }

/-- A requester that is owed a fetch of this kind has one to end. -/
theorem ChangeCore.owes (h : ChangeCore n s) {f : Fetch} (hf : s.store.activity = .fetching f) (hk : f.kind ≠ .cue) : 1 ≤ n f.kind := by
  rw [← h.fetches _ hk, storeNext_count hf]
  simp

/-- The end of a cue's fetch leaves a LOADING cue in the slot. -/
theorem ChangeCore.loaded (h : ChangeCore n s) {f : Fetch} (hf : s.store.activity = .fetching f) (hk : f.kind = .cue) :
    s.cueIs .loading = true ∧ (storeNext s).fetchCount .cue = 0 := by
  have count := storeNext_count hf .cue
  rw [hk, h.cueFetch] at count
  cases hl : s.cueIs .loading <;> rw [hl] at count <;> simp at count
  exact ⟨rfl, by omega⟩

end Sys2Proof.Machine
end

section
/-! PROOF. The ends of fetches and the resets keep the banks, the cue slot and the fetches; with them every step does (O10). -/

namespace Sys2Proof.Machine

variable {n : FetchKind → Nat} {s t : State}

/-! ## The end of a cue's fetch (R132) -/

/-- The fetch of a LOADING cue has ended, and the cue has left the slot. -/
theorem ChangeCore.unloaded (h : ChangeCore n s) {f : Fetch} (hf : s.store.activity = .fetching f) (hk : f.kind = .cue) :
    ChangeCore n { storeNext s with seq := { s.seq with cue := none } } := by
  have frame := storeNext_frame s
  have banks : (storeNext s).banks = s.banks := frame.at .banks
  have notes : (storeNext s).notes = s.notes := frame.at .notes
  have resetting : (storeNext s).resetting = s.resetting := frame.at .resetting
  have bus : (storeNext s).bus = s.bus := frame.at .bus
  have count := storeNext_count hf
  exact {
    enabled := fun k => by
      show ((storeNext s).bank k).enabled.length = ((storeNext s).bank k).zones.length
      rw [State.bank.eq_def, banks, ← State.bank.eq_def]
      exact h.enabled k
    retained := by
      show (storeNext s).banks.retained = true ↔ (storeNext s).notes.references (storeNext s).banks.active.other ≠ 0
      rw [banks, notes]
      exact h.retained
    retention := by show s.seq.retention.isSome = true → (storeNext s).banks.retained = true; rw [banks]; exact h.retention
    loading := by simp [State.cueIs]
    armed := by simp [State.cueIs]
    reset := fun _ => rfl
    cueFetch := (h.loaded hf hk).2
    fetches := fun k hk' => by
      have other : (f.kind == k) = false := by rw [hk]; exact beq_eq_false_iff_ne.2 (Ne.symm hk')
      have := count k
      rw [h.fetches k hk', other] at this
      exact this.symm
    idle := storeNext_rests s
    silence := by
      show ∀ tr, (storeNext s).bus.transmission = some tr → tr.forRestart = true → (storeNext s).resetting = .silence
      rw [bus, resetting]
      exact h.silence }

/-- A cue is ARMED in a bank that holds its song. -/
theorem ChangeCore.arm (h : ChangeCore n s) {x : Sequencer} {c : Cue} (hx : x = { s.seq with cue := some c }) (hc : c.state = .armed)
    (empty : s.seq.cue = none) (phase : s.seq.phase = .none) (free : s.banks.retained = false) (still : s.inReset = false)
    (held : s.standbyBank.image.isSome = true) : ChangeCore n { s with seq := x } := by
  subst hx
  have cue (y : CueState) : State.cueIs { s with seq := { s.seq with cue := some c } } y = (CueState.armed == y) := by
    simp [State.cueIs, hc]
  exact { h with
    loading := fun _ => ⟨phase, free⟩
    armed := fun _ => held
    reset := fun r => absurd r (Bool.eq_false_iff.1 still)
    cueFetch := by
      rw [cue]
      exact h.no_cueFetch (by simp [State.cueIs, empty]) }

theorem setBank_seq (k : BankId) (b : Bank) (x : Sequencer) :
    ({ s with seq := x } : State).setBank k b = { s.setBank k b with seq := x } := by cases k <;> rfl

theorem takeIfDue_keeping (s : State) : Keeping n s (takeIfDue s) := retimed_keeping (takeIfDue_pieces s)

theorem post_keeping (b : NoticeBody) (o : Option Origin) (s : State) : Keeping n s (post b o s) := (post_frame b o s).keeping

theorem ChangeCore.after_cueFetched (h : ChangeCore n s) {f : Fetch} (hf : s.store.activity = .fetching f) (hk : f.kind = .cue) :
    ChangeCore n (cueFetched f.sector (storeNext s)) := by
  have loading := (h.loaded hf hk).1
  have seq : (storeNext s).seq = s.seq := (storeNext_frame s).at .seq
  have banks : (storeNext s).banks = s.banks := (storeNext_frame s).at .banks
  have unloaded := h.unloaded hf hk
  unfold cueFetched
  split
  · next none => simp [State.cueIs, seq ▸ none] at loading
  · next c hc =>
    split
    · next x _ =>
      obtain ⟨phase, free⟩ := h.loading (.inl loading)
      have still : s.inReset = false := by
        cases hr : s.inReset with
        | false => rfl
        | true => rw [seq] at hc; exact absurd (h.reset hr) (by simp [hc])
      have filled : ChangeCore n (({ storeNext s with seq := { s.seq with cue := none } } : State).setBank
          (storeNext s).banks.active.other (Bank.load x c.slot)) :=
        unloaded.setBank (load_enabled x c.slot) fun _ _ => rfl
      rw [setBank_seq] at filled
      have armed := filled.arm (x := { s.seq with cue := some { c with state := .armed } }) (c := { c with state := .armed }) rfl rfl rfl
        phase (by dsimp only; rw [setBank_retained, banks]; exact free) (by
          show ((storeNext s).setBank _ _).inReset = false
          rw [State.inReset, ((setBank_frame _ _ _).at .resetting : (State.setBank _ _ _).resetting = _),
            ((storeNext_frame s).at .resetting : (storeNext s).resetting = _)]
          exact still) (by
          show (((storeNext s).setBank _ _).bank ((storeNext s).setBank _ _).banks.active.other).image.isSome = true
          rw [setBank_active, State.setBank_bank_same]
          rfl)
      have seq' : ((storeNext s).setBank (storeNext s).banks.active.other (Bank.load x c.slot)).seq = s.seq :=
        ((setBank_frame _ _ _).at .seq).trans seq
      dsimp only
      rw [seq']
      exact (takeIfDue_keeping _).core ((post_keeping _ _ _).core armed)
    · rw [seq]
      exact (post_keeping _ _ _).core unloaded

theorem cueFetched_outside (k : Sector) (s : State) : Outside s (cueFetched k s) := by
  unfold cueFetched
  split
  · exact .refl s
  · next c _ =>
    split
    · next x _ =>
      have armed : Outside s { s.setBank s.banks.active.other (Bank.load x c.slot) with
          seq := { (s.setBank s.banks.active.other (Bank.load x c.slot)).seq with cue := some { c with state := .armed } } } :=
        ((setBank_frame s _ _).chain (seqUpdate_frame _ _) (rs := [.banks, .seq])).outside
      exact (armed.then (post_keeping (n := s.owed) _ _ _).outside).then (takeIfDue_keeping (n := s.owed) _).outside
    · exact (seqUpdate_frame s _).outside.then (post_keeping (n := s.owed) _ _ _).outside

/-! ## The fetches of a reset (R143, R158) -/

theorem noSong_core (h : ChangeCore n s) (target : Option Nat) (slot : Option Slot) (hc : s.seq.cue = none) (hr : s.resetting ≠ .silence) :
    ChangeCore n (noSong target slot s) := (post_keeping _ _ _).core (h.setResetting hc fun e => absurd e hr)

/-- The initial song fills bank A, and its take follows (R143). -/
theorem initialTake_core (h : ChangeCore n s) (x : Song) (slot : Slot) (entry : Nat) (hc : s.seq.cue = none) (hr : s.resetting ≠ .silence) :
    ChangeCore n (initialTake x slot entry s) := by
  have filled : ChangeCore n (s.setBank .a (Bank.load x slot)) := h.setBank (load_enabled x slot) fun _ _ => rfl
  refine (retimed_keeping (takeSteps_runs ..)).core ?_
  have switching := filled.setSlot (x := { s.seq with phase := .switching, takeModules := moduleSet x.programs, takeTime := s.now })
    (filled.no_cueFetch (by simp [State.cueIs, hc])) (fun c e => absurd (hc.symm.trans e) (by simp)) (fun _ => hc) h.retention
  exact (switching.setResetting (x := .none) hc fun e => absurd e hr).same rfl rfl rfl rfl rfl rfl
    (switching.setResetting (x := .none) hc fun e => absurd e hr).silence

/-- What the end of a reset's fetch leaves: the ports as they are, the reset in another phase. -/
structure Phased (n : FetchKind → Nat) (x : ResetPhase) (s t : State) : Prop where
  core : ChangeCore n t
  ports : ∀ p : Port, (t.port p).WaitsAs (s.port p)
  resetting : t.resetting = x

/-- What is owed in a phase of the reset, the ports as in `s`. -/
def State.owedIn (s : State) (x : ResetPhase) : FetchKind → Nat
  | .cue => 0
  | .setup => (x == .setup).toNat
  | .setlist => (x == .setlist).toNat
  | .initial => x.isSong.toNat
  | .readSong p => (s.port p).awaiting.toNat

theorem owedIn_own (s : State) : s.owedIn s.resetting = s.owed := by
  funext k
  cases k <;> rfl

theorem Phased.changeSound {x : ResetPhase} (h : Phased (s.owedIn x) x s t) (hp : ∀ p : Port, (s.port p).Serving) : ChangeSound t := by
  refine (changeSound_iff t).2 ⟨h.core.congr fun k _ => ?_, fun p => (h.ports p).serving (hp p)⟩
  cases k with
  | readSong p => exact congrArg Bool.toNat (h.ports p).awaiting.symm
  | _ => simp only [State.owed, State.owedIn, h.resetting]

theorem ports_of_frame {ps : List Part} {x : ResetPhase} (core : ChangeCore n t) (f : SameBut ps s t)
    (resetting : t.resetting = x) (hd : ∀ q ∈ outsideParts, q ∉ ps := by decide) : Phased n x s t :=
  ⟨core, f.outside_ports hd, resetting⟩

theorem noSong_frame' (target : Option Nat) (slot : Option Slot) (s : State) :
    SameBut [.resetting, .noticesA, .noticesB] s (noSong target slot s) :=
  (resettingUpdate_frame s .none).chain (post_frame _ _ _)

theorem noSong_resetting (target : Option Nat) (slot : Option Slot) (s : State) : (noSong target slot s).resetting = .none :=
  (post_frame (.cueFailed .noSong target slot) none { s with resetting := .none }).at .resetting

theorem initialTake_resetting (x : Song) (slot : Slot) (entry : Nat) (s : State) : (initialTake x slot entry s).resetting = .none :=
  (takeSteps_frame .stopped x (some entry) none _).at .resetting

/-- The end of the initial song's fetch ends the reset, with its song taken or without one. -/
theorem initialFetched_phased {entry : Nat} (k : Sector) (h : ChangeCore n s) (hr : s.resetting = .song entry) :
    Phased n .none s (initialFetched k s) := by
  have cue : s.seq.cue = none := h.reset (by simp [State.inReset, hr])
  have song : s.resetting ≠ .silence := by simp [hr]
  unfold initialFetched
  rw [hr]
  dsimp only
  split
  · exact ports_of_frame (initialTake_core h _ _ _ cue song) (initialTake_frame _ _ _ s) (initialTake_resetting ..)
  · exact ports_of_frame (noSong_core h _ _ cue song) (noSong_frame' _ _ s) (noSong_resetting ..)

/-- The end of setup's reading, whichever setup comes of it: the reset goes on with the setlist's fetch. -/
theorem setupInUse_phased (u : Setup) (h : ChangeCore n s) (hr : s.resetting = .setup) :
    Phased (fun j => n j + (FetchKind.setlist == j).toNat) .setlist s
      (requestFetch ⟨.setlist, 1⟩ { applySetup u s with resetting := .setlist }) := by
  have applied : Keeping n s (applySetup u s) := retimed_keeping (applySetup_runs u s)
  have resetting : (applySetup u s).resetting = .setup := by
    rcases applied.outside.resetting with e | ⟨e, -⟩
    · rw [e, hr]
    · rw [hr] at e; cases e
  have core := applied.core h
  have cue : (applySetup u s).seq.cue = none := core.reset (by simp [State.inReset, resetting])
  have phased : ChangeCore n { applySetup u s with resetting := .setlist } := core.setResetting cue (by simp [resetting])
  have frame := requestFetch_frame ⟨.setlist, 1⟩ { applySetup u s with resetting := .setlist }
  refine ⟨phased.after_requestFetch (f := ⟨.setlist, 1⟩) (by simp), fun p => ?_, frame.at .resetting⟩
  have fetched := frame.outside_ports (by decide) p
  have before := applied.outside.port p
  have same : ({ applySetup u s with resetting := .setlist } : State).port p = (applySetup u s).port p := by cases p <;> rfl
  rw [same] at fetched
  exact ⟨fetched.1.trans before.1, fetched.2.1.trans before.2.1, fetched.2.2.trans before.2.2⟩

theorem setupFetched_phased (k : Sector) (h : ChangeCore n s) (hr : s.resetting = .setup) :
    Phased (fun j => n j + (FetchKind.setlist == j).toNat) .setlist s (setupFetched k s) :=
  setupInUse_phased _ h hr

theorem setlistUpdate_core (h : ChangeCore n s) (es : List Slot) (place : Option Nat) :
    ChangeCore n { s with store := { s.store with setlist := es, position := place } } := h.same rfl rfl rfl rfl rfl rfl h.silence

/-- The entries that a reading of the setlist's sector gives. -/
def State.setlistRead (k : Sector) (s : State) : List Slot :=
  match s.fetched k with
  | some r => decodeSetlist r
  | none => []

/-- The reset's work with the entries read. -/
def setlistInUse (es : List Slot) (s : State) : State :=
  match es[initialEntry s.store.position es.length]? with
  | none => noSong none none { s with store := { s.store with setlist := es, position := none } }
  | some slot =>
    requestFetch ⟨.initial, slotSector slot⟩
      { s with store := { s.store with setlist := es, position := some (initialEntry s.store.position es.length) }
               resetting := .song (initialEntry s.store.position es.length) }

theorem setlistFetched_eq (k : Sector) (s : State) : setlistFetched k s = setlistInUse (s.setlistRead k) s := rfl

/-- The end of the setlist's reading: the reset goes on with the initial song's fetch, or ends without one. -/
theorem setlistFetched_phased (k : Sector) (h : ChangeCore n s) (hr : s.resetting = .setlist) :
    Phased n .none s (setlistFetched k s) ∨
    ∃ entry, Phased (fun j => n j + (FetchKind.initial == j).toNat) (.song entry) s (setlistFetched k s) := by
  have cue : s.seq.cue = none := h.reset (by simp [State.inReset, hr])
  rw [setlistFetched_eq]
  generalize s.setlistRead k = es
  unfold setlistInUse
  split
  · left
    have stored := setlistUpdate_core h es none
    exact ports_of_frame (noSong_core stored none none cue (by simp [hr]))
      ((storeUpdate_frame s { s.store with setlist := es, position := none }).chain (noSong_frame' none none _)
        (rs := [.store, .resetting, .noticesA, .noticesB])) (noSong_resetting ..)
  · next slot _ =>
    right
    generalize initialEntry s.store.position es.length = entry
    refine ⟨entry, ?_⟩
    have phased := (setlistUpdate_core h es (some entry)).setResetting (x := .song entry) cue (by simp [hr])
    have frame := ((storeUpdate_frame s { s.store with setlist := es, position := some entry }).chain
      (resettingUpdate_frame _ (.song entry)) (rs := [.store, .resetting])).chain
      (requestFetch_frame ⟨.initial, slotSector slot⟩ _) (rs := [.store, .resetting])
    exact ports_of_frame (phased.after_requestFetch (f := ⟨.initial, slotSector slot⟩) (by simp)) frame
      ((requestFetch_frame ⟨.initial, slotSector slot⟩ _).at .resetting)

/-! ## Every work -/

/-- The end of a fetch that a reset, or a READ_SONG, waits for. -/
theorem fetchEnded_changeSound {f : Fetch} (hf : s.store.activity = .fetching f) (hs : ChangeSound s) : ChangeSound (fetchEnded f s) := by
  obtain ⟨core, ports⟩ := (changeSound_iff s).1 hs
  have frame := storeNext_frame s
  have resetting : (storeNext s).resetting = s.resetting := frame.at .resetting
  have port (p : Port) : ((storeNext s).port p).WaitsAs (s.port p) := frame.outside_ports (by decide) p
  have serving (p : Port) : ((storeNext s).port p).Serving := (port p).serving (ports p)
  have waits (p : Port) : ((storeNext s).port p).awaiting = (s.port p).awaiting := (port p).awaiting
  have owes := core.owes hf
  have went := core.after_storeNext hf
  unfold fetchEnded
  dsimp only
  split
  · next kind =>
    have outside := frame.outside.then (cueFetched_outside f.sector (storeNext s))
    exact (changeSound_iff _).2 ⟨(core.after_cueFetched hf kind).congr fun k _ => (outside.owed k).symm,
      fun p => (outside.port p).serving (ports p)⟩
  · next kind =>
    rw [kind] at owes went
    have owes := owes (by simp)
    have went := went (by simp)
    cases hr : s.resetting with
    | song entry =>
      have phased := initialFetched_phased f.sector went (resetting.trans hr)
      refine Phased.changeSound (x := .none) ⟨phased.core.congr fun k _ => ?_, phased.ports, phased.resetting⟩ serving
      cases k <;> simp only [State.owed, State.owedIn, hr, waits] <;> rfl
    | _ => simp only [State.owed, hr] at owes; exact absurd owes (Nat.not_succ_le_zero 0)
  · next p kind =>
    rw [kind] at owes went
    have owes := owes (by simp)
    have went := went (by simp)
    have awaits : (s.port p).awaiting = true := by
      cases h : (s.port p).awaiting with
      | true => rfl
      | false => simp [State.owed, h] at owes
    have awaits' := (waits p).trans awaits
    simp only [ControlPort.awaiting, Bool.and_eq_true, Bool.not_eq_true'] at awaits'
    obtain ⟨⟨served, -⟩, free⟩ := awaits'
    refine decideReply_changeSound _ went (fun k _ hk => ?_) ?_ (fun q _ => serving q) (Option.isSome_iff_ne_none.1 served) free
    · cases k with
      | readSong q =>
        have other : (FetchKind.readSong p == .readSong q) = false := beq_eq_false_iff_ne.2 fun e => hk e.symm
        simp only [State.owed, waits, other]
        rfl
      | _ => simp only [State.owed, resetting] <;> rfl
    · simp [State.owed, awaits]
  · next kind =>
    rw [kind] at owes went
    have owes := owes (by simp)
    have went := went (by simp)
    have hr : s.resetting = .setup := by
      cases hr : s.resetting with
      | setup => rfl
      | _ => simp only [State.owed, hr] at owes; exact absurd owes (Nat.not_succ_le_zero 0)
    have phased := setupFetched_phased f.sector went (resetting.trans hr)
    refine Phased.changeSound (x := .setlist) ⟨phased.core.congr fun k _ => ?_, phased.ports, phased.resetting⟩ serving
    cases k <;> simp only [State.owed, State.owedIn, hr, waits] <;> rfl
  · next kind =>
    rw [kind] at owes went
    have owes := owes (by simp)
    have went := went (by simp)
    have hr : s.resetting = .setlist := by
      cases hr : s.resetting with
      | setlist => rfl
      | _ => simp only [State.owed, hr] at owes; exact absurd owes (Nat.not_succ_le_zero 0)
    rcases setlistFetched_phased f.sector went (resetting.trans hr) with phased | ⟨entry, phased⟩
    · refine Phased.changeSound (x := .none) ⟨phased.core.congr fun k _ => ?_, phased.ports, phased.resetting⟩ serving
      cases k <;> simp only [State.owed, State.owedIn, hr, waits] <;> rfl
    · refine Phased.changeSound (x := .song entry) ⟨phased.core.congr fun k _ => ?_, phased.ports, phased.resetting⟩ serving
      cases k <;> simp only [State.owed, State.owedIn, hr, waits] <;> rfl

/-- At a reset's end the banks, the table and the slot are empty, and setup's fetch is requested (R142, R158). -/
theorem ChangeCore.fresh (h : ∀ k, s.fetchCount k = n k) (hn : n .cue = 0) (rests : s.store.Rests) (banks : s.banks = Banks.initial)
    (notes : s.notes = Notes.initial) (seq : s.seq = Sequencer.initial) (bus : s.bus.transmission = none) : ChangeCore n s where
  enabled := fun k => by rw [State.bank.eq_def, banks]; cases k <;> rfl
  retained := by rw [State.otherReferences, banks, notes]; decide
  retention := by rw [seq]; exact nofun
  loading := by rw [State.cueIs, State.cueIs, seq]; exact fun h => absurd h (by decide)
  armed := by rw [State.cueIs, seq]; exact nofun
  reset := fun _ => by rw [seq]; rfl
  cueFetch := by rw [h, hn, State.cueIs, seq]; rfl
  fetches := fun k _ => h k
  idle := rests
  silence := fun tr ht => by rw [bus] at ht; cases ht

theorem restartReset_changeSound {tr : Transmission} (ht : s.bus.transmission = some tr) (hf : tr.forRestart = true) (hs : ChangeSound s) :
    ChangeSound (restartReset s) := by
  obtain ⟨core, ports⟩ := (changeSound_iff s).1 hs
  have silence : s.resetting = .silence := core.silence tr ht hf
  have slot : s.seq.cue = none := core.reset (by simp [State.inReset, silence])
  have counts (k : FetchKind) : s.fetchCount k = s.owed k := by
    by_cases hk : k = .cue
    · subst hk; exact core.no_cueFetch (by simp [State.cueIs, slot])
    · exact core.fetches k hk
  unfold restartReset
  generalize hu : ({ s with
      resetting := .setup
      grid := Grid.initial, follower := Follower.initial, tap := TapTimer.initial, click := Click.initial
      links := Vector.replicate 4 KeyLink.initial, layer := Layer.initial, notes := Notes.initial
      bus := { Bus.initial with modules := s.bus.modules.map ModuleState.restarted }
      banks := Banks.initial, seq := Sequencer.initial, store := s.store.restarted, board := restartedBoard s
      portA := s.portA.restarted, portB := s.portB.restarted } : State) = u
  have fetches : u.fetches = s.fetches := by subst hu; exact fetches_congr rfl rfl
  have port (p : Port) : (u.port p).WaitsAs (s.port p) := by subst hu; cases p <;> exact ⟨rfl, rfl, rfl⟩
  have reset : ChangeCore s.owed u := by
    refine ChangeCore.fresh (fun k => ?_) rfl ?_ ?_ ?_ ?_ ?_
    · rw [fetchCount_eq, fetches]; exact counts k
    all_goals subst hu
    · exact core.idle
    all_goals rfl
  have frame := requestFetch_frame ⟨.setup, 0⟩ u
  have resetting : (requestFetch ⟨.setup, 0⟩ u).resetting = .setup := (frame.at .resetting).trans (by subst hu; rfl)
  refine Phased.changeSound (s := s) (x := .setup) ⟨(reset.after_requestFetch (f := ⟨.setup, 0⟩) (by simp)).congr fun k _ => ?_,
    fun p => ?_, resetting⟩ ports
  · cases k <;> simp only [State.owed, State.owedIn, silence] <;> rfl
  · obtain ⟨a, b, c⟩ := frame.outside_ports (by decide) p
    obtain ⟨a', b', c'⟩ := port p
    exact ⟨a.trans a', b.trans b', c.trans c'⟩

theorem PortEvent.changeSound (e : PortEvent s t) (hs : ChangeSound s) : ChangeSound t := by
  cases e with
  | transmit p => exact setPort_changeSound hs (transmit_waits (hs.serving p) _ _).1 (transmit_waits (hs.serving p) _ _).2
  | assembler p x a tm => exact setPort_changeSound hs rfl (ControlPort.WaitsAs.serving (c := s.port p) ⟨rfl, rfl, rfl⟩ (hs.serving p))
  | buffered p f => exact setPort_changeSound hs rfl (ControlPort.WaitsAs.serving (c := s.port p) ⟨rfl, rfl, rfl⟩ (hs.serving p))
  | serve p => exact serve_changeSound p hs
  | sent p fr hf => exact setPort_changeSound hs (sent_waits (hs.serving p) hf).1 (sent_waits (hs.serving p) hf).2
  | fetched f hf => exact fetchEnded_changeSound hf hs
  | restarted tr ht hr => exact restartReset_changeSound ht hr hs
  | powered =>
    refine (changeSound_iff _).2 ⟨.fresh (fun k => ?_) rfl (fun _ => rfl) rfl rfl rfl rfl, fun p => ?_⟩
    · cases k with
      | readSong p => cases p <;> rfl
      | _ => rfl
    · cases p <;> exact ⟨fun _ => ⟨rfl, rfl⟩, nofun⟩
  | counted m x =>
    unfold countStart
    refine (changeSound_iff _).2 ⟨.fresh (fun k => ?_) rfl nofun rfl rfl rfl rfl, fun p => ?_⟩
    · cases k with
      | readSong p => cases p <;> rfl
      | _ => rfl
    · cases p <;> exact ⟨fun _ => ⟨rfl, rfl⟩, nofun⟩

theorem Block.changeSound (b : Block GridWork s t) (hs : ChangeSound s) : ChangeSound t :=
  Keeping.changeSound (fun _ => runs_keeping (.single b)) hs

/-- The kinds of fetches add up: at most one for a cue or a reset, and one for each port. -/
theorem fetches_length (l : List Fetch) : l.length = l.countP (fun f => f.kind == .cue) + l.countP (fun f => f.kind == .initial) +
    l.countP (fun f => f.kind == .setup) + l.countP (fun f => f.kind == .setlist) + l.countP (fun f => f.kind == .readSong .a) +
    l.countP (fun f => f.kind == .readSong .b) := by
  induction l with
  | nil => rfl
  | cons f fs ih =>
    obtain ⟨kind, sector⟩ := f
    simp only [List.countP_cons, List.length_cons]
    cases kind with
    | readSong p => cases p <;> simp <;> omega
    | _ => simp; omega

/-- A reset waits for one fetch at most, and no cue is held in it. -/
theorem reset_fetches (s : State) (h : ChangeSound s) : s.fetchCount .cue + s.fetchCount .initial + s.fetchCount .setup +
    s.fetchCount .setlist ≤ 1 := by
  rw [h.cueFetch, h.songFetch, h.setupFetch, h.setlistFetch]
  by_cases hr : s.inReset = true
  · have none : s.cueIs .loading = false := by simp [State.cueIs, h.reset hr]
    rw [none]
    cases s.resetting <;> exact Nat.le_of_ble_eq_true rfl
  · have still : s.resetting = .none := by simpa [State.inReset] using hr
    rw [still]
    cases s.cueIs .loading <;> decide

theorem fetches_le (s : State) (h : ChangeSound s) : s.fetches.length ≤ 3 := by
  have one := reset_fetches s h
  have a := h.readFetch .a
  have b := h.readFetch .b
  have bool (x : Bool) : x.toNat ≤ 1 := Bool.toNat_le x
  have := bool (s.port .a).awaiting
  have := bool (s.port .b).awaiting
  rw [fetches_length]
  simp only [fetchCount_eq] at *
  omega

/-- Settles O10: each work keeps the counts of fetches that the cue slot, the resets and the ports wait for, which bound the fetch queue. -/
theorem changeStaysSound : Obligations.ChangeStaysSound := by
  refine ⟨fun s t hs h => ?_, fun s hs => ?_⟩
  · exact Runs.keeps (R := StepWork) (fun _ _ w => w.elim Block.changeSound PortEvent.changeSound) (step_runs h) hs
  · refine Nat.le_trans ?_ (fetches_le s hs)
    unfold State.fetches
    split
    · exact Nat.le_succ _
    · exact Nat.le_refl _

end Sys2Proof.Machine
end

section
/-! PROOF. The close of an event and of a request, said once: what it leaves, what it tells; and how many notices a work has posted. -/

namespace Sys2Proof.Machine

variable {s t u : State} {p q : Port}

/-! ## What a work's close leaves -/

/-- `t` is `u` after its close: the arbiter's look and the transmitters' choice, with or without a reply and a count set back. -/
structure Ends (u t : State) : Prop where
  frame : SameBut (.timebase :: arbiterParts ++ portParts) u t
  busy : u.bus.transmission.isSome = true → SameBut (.timebase :: portParts) u t
  looked : SameBut (.timebase :: portParts) u t ∨ SameBut (.timebase :: portParts) (arbitrate u) t
  told : ∀ (q : Port) (n : Notice), n ∈ (u.port q).notices → Told q n t

theorem transmitAll_told {n : Notice} (h : n ∈ (u.port q).notices) : Told q n (transmitAll u) := by
  unfold Told
  rw [transmitAll_port]
  exact ControlPort.transmit_told _ _ h

theorem transmitAll_ends (u : State) : Ends u (transmitAll u) :=
  ⟨(transmitAll_frame u).mono, fun _ => (transmitAll_frame u).mono, .inl (transmitAll_frame u).mono, fun _ _ => transmitAll_told⟩

theorem close_ends (u : State) : Ends u (close u) where
  frame := ((arbitrate_frame u).chain (transmitAll_frame _) (rs := closeParts)).mono
  busy := fun h => by rw [close, arbitrate_busy u h]; exact (transmitAll_frame u).mono
  looked := .inr (transmitAll_frame _).mono
  told := fun q _ h => transmitAll_told (arbitrate_keepsNotices u q h)

theorem Ends.atCount (h : Ends u t) (c : Count) : Ends u (t.atCount c) :=
  ⟨h.frame.chain (atCount_frame t c) (fun _ hq => hq), fun hb => (h.busy hb).chain (atCount_frame t c) (fun _ hq => hq),
    h.looked.imp (fun l => l.chain (atCount_frame t c) (fun _ hq => hq)) fun l => l.chain (atCount_frame t c) (fun _ hq => hq), h.told⟩

theorem finish_ends (p : Port) (u : State) (r : Reply) : Ends u (finish p (u, some r)) :=
  ⟨(finish_frame p u r).mono, fun _ => (finish_frame p u r).mono, .inl (finish_frame p u r).mono, fun _ _ => finish_told p r⟩

theorem finish_arbitrate_ends (p : Port) (u : State) (r : Reply) : Ends u (finish p (arbitrate u, some r)) where
  frame := (finish_arbitrate_frame p u r).mono
  busy := fun h => by rw [arbitrate_busy u h]; exact (finish_frame p u r).mono
  looked := .inr (finish_frame p _ r).mono
  told := fun q _ h => finish_told p r (arbitrate_keepsNotices u q h)

section
variable (h : Ends u t)
include h

theorem Ends.grid : t.grid = u.grid := h.frame.at .grid
theorem Ends.follower : t.follower = u.follower := h.frame.at .follower
theorem Ends.tap : t.tap = u.tap := h.frame.at .tap
theorem Ends.click : t.click = u.click := h.frame.at .click
theorem Ends.board : t.board = u.board := h.frame.at .board
theorem Ends.links : t.links = u.links := h.frame.at .links
theorem Ends.setup : t.setup = u.setup := h.frame.at .setup
theorem Ends.resetting : t.resetting = u.resetting := h.frame.at .resetting
theorem Ends.flash : t.flash = u.flash := h.frame.at .flash
theorem Ends.link (l : LinkId) : t.link l = u.link l := by rw [State.link, h.links]; rfl

end

/-- A close without a reply, and without a count set back. -/
theorem close_closed {ps : List Part} (h : SameBut (ps ++ noticeParts) s u) (hb : u.bus.transmission = s.bus.transmission) :
    Closed ps s (close u) := by
  have wide {rs : List Part} (hs : ∀ q ∈ ps, q ∈ rs) (hn : ∀ q ∈ noticeParts, q ∈ rs) : SameBut rs s u :=
    h.mono fun q hq => (List.mem_append.1 hq).elim (hs q) (hn q)
  have left {q : Part} {bs : List Part} (hq : q ∈ bs) : q ∈ ps ++ bs := List.mem_append.2 (.inr hq)
  refine ⟨(wide (by simp +contextual) (by simp)).then ((((arbitrate_frame u).chain (transmitAll_frame _) (rs := closeParts)).mono ?_)),
    fun busy => ?_⟩
  · intro q hq
    rw [List.append_assoc]
    refine left ?_
    revert q
    decide
  · rw [close, arbitrate_busy u (by rw [hb]; exact busy)]
    exact (wide (by simp +contextual) (by simp)).then ((transmitAll_frame u).mono fun q hq => left hq)

/-! ## An expiry, late or early (R1, R3) -/

theorem expired_same {ps : List Part} {tm : Timer} {f : State → State} (h : SameBut ps (s.atCount tm.due) (f (s.atCount tm.due))) :
    SameBut ps (s.expired tm) (expireAt tm f s) := by
  unfold State.expired expireAt
  split
  · refine ⟨fun q hq => ?_⟩
    have same := h.same q hq
    cases q with
    | timebase =>
      have source : (f (s.atCount tm.due)).timebase = (s.atCount tm.due).timebase := same
      show ({ (f (s.atCount tm.due)).timebase with count := s.timebase.count } : Timebase) = s.timebase
      rw [source]
      rfl
    | _ => exact same
  · exact h

theorem expired_closed {ps : List Part} {tm : Timer} {f : State → State} (h : Closed ps (s.atCount tm.due) (f (s.atCount tm.due))) :
    Closed ps (s.expired tm) (expireAt tm f s) := by
  have bus : (s.expired tm).bus = s.bus := by unfold State.expired; split <;> rfl
  refine ⟨expired_same h.frame, fun busy => expired_same (h.busy ?_)⟩
  rw [bus] at busy
  exact busy

theorem expireAt_ends {tm : Timer} {f : State → State} (h : Ends u (f (s.atCount tm.due))) : Ends u (expireAt tm f s) := by
  unfold expireAt
  split
  · exact h.atCount _
  · exact h

/-- An expiry whose work closes with the arbiter's look. -/
theorem expired_close_closed {ps : List Part} {tm : Timer} {f : State → State} (h : SameBut (ps ++ noticeParts) (s.atCount tm.due) (f (s.atCount tm.due)))
    (hb : (f (s.atCount tm.due)).bus.transmission = s.bus.transmission) :
    Closed ps (s.expired tm) (expireAt tm (fun x => close (f x)) s) :=
  expired_closed (f := fun x => close (f x)) (close_closed h hb)

@[simp] theorem expired_port (s : State) (tm : Timer) (q : Port) : (s.expired tm).port q = s.port q := by
  unfold State.expired; split <;> cases q <;> rfl

theorem running_of_elapsed {tm : Timer} {f : State → State} (h : tm.elapsed s.now = true) :
    expireAt tm f s = (f (s.atCount tm.due)).atCount s.now := by rw [expireAt, if_pos h]

/-! ## How many notices a work has posted -/

/-- From `s` to `u` at most `k` notices have been posted, none has left a queue, and the masks stand. -/
structure Posting (k : Nat) (s u : State) : Prop where
  keeps : KeepsNotices s u
  length : ∀ q : Port, (u.port q).notices.length ≤ (s.port q).notices.length + k
  mask : ∀ q : Port, (u.port q).mask = (s.port q).mask

variable {k l : Nat}

theorem Posting.refl (s : State) : Posting 0 s s := ⟨.refl s, fun _ => Nat.le_refl _, fun _ => rfl⟩

theorem Posting.mono (h : Posting k s u) (hk : k ≤ l) : Posting l s u :=
  ⟨h.keeps, fun q => Nat.le_trans (h.length q) (Nat.add_le_add_left hk _), h.mask⟩

theorem Posting.then (h : Posting k s t) (g : Posting l t u) : Posting (k + l) s u :=
  ⟨h.keeps.then g.keeps, fun q => by have := h.length q; have := g.length q; omega, fun q => (g.mask q).trans (h.mask q)⟩

/-- A work that leaves the queues and the ports' receiving sides posts nothing. -/
theorem SameBut.posting {ps : List Part} (h : SameBut ps s u) (ha : Part.noticesA ∉ ps := by decide) (hb : Part.noticesB ∉ ps := by decide)
    (sa : Part.serviceA ∉ ps := by decide) (sb : Part.serviceB ∉ ps := by decide) : Posting 0 s u :=
  ⟨h.keepsNotices ha hb, fun q => by rw [show (u.port q).notices = (s.port q).notices from congrArg (·.1) (h.queue q ha hb)]; exact Nat.le_refl _,
    fun q => congrArg (·.2.2.2.2.2.1) (h.service q sa sb)⟩

theorem ControlPort.post_mask (c : ControlPort) (n : Notice) : (c.post n).mask = c.mask :=
  congrArg (·.2.2.2.2.2.1) (ControlPort.post_service c n)

theorem post_posting (b : NoticeBody) (o : Option Origin) (s : State) : Posting 1 s (post b o s) :=
  ⟨post_keepsNotices b o s, fun q => by rw [post_port]; exact ControlPort.post_length_le _ _,
    fun q => by rw [post_port]; exact ControlPort.post_mask _ _⟩

theorem postTo_posting (p : Port) (b : NoticeBody) (o : Option Origin) (s : State) : Posting 1 s (postTo p b o s) := by
  refine ⟨postTo_keepsNotices p b o s, fun q => ?_, fun q => ?_⟩ <;> unfold postTo <;> by_cases hq : q = p
  · subst hq; rw [State.setPort_port_same]; exact ControlPort.post_length_le _ _
  · rw [State.setPort_port_other _ _ hq]; exact Nat.le_succ _
  · subst hq; rw [State.setPort_port_same]; exact ControlPort.post_mask _ _
  · rw [State.setPort_port_other _ _ hq]

/-- The notice waits at every port that admits it and had room for it and for those before it (R178). -/
def Posts (n : Notice) (s u : State) : Prop :=
  ∀ q : Port, (s.port q).admits n.body = true → (s.port q).notices.length < 24 → n ∈ (u.port q).notices

theorem admits_of_mask {c d : ControlPort} (h : c.mask = d.mask) (b : NoticeBody) : c.admits b = d.admits b := by
  rw [ControlPort.admits, ControlPort.admits, h]

/-- A notice posted after at most eight others is in the queue. -/
theorem Posting.post (h : Posting k s u) (b : NoticeBody) (o : Option Origin) (hk : k ≤ 8 := by decide) :
    Posts ⟨b, b.urgent, u.grid.position, o⟩ s (post b o u) := by
  intro q ha hl
  rw [post_port]
  refine ControlPort.mem_post (n := u.notice b o) ?_ ?_
  · rw [admits_of_mask (h.mask q)]; exact ha
  · have := h.length q; omega

theorem Posts.kept {n : Notice} (h : Posts n s t) (k : KeepsNotices t u) : Posts n s u := fun q ha hl => k q (h q ha hl)

/-- A notice posted from a state that differs before it by at most eight. -/
theorem Posting.posts {n : Notice} (h : Posting k s t) (g : ∀ q : Port, (t.port q).admits n.body = true → (t.port q).notices.length < 32 →
    n ∈ (u.port q).notices) (hk : k ≤ 8 := by decide) : Posts n s u := fun q ha hl =>
  g q (by rw [admits_of_mask (h.mask q)]; exact ha) (by have := h.length q; omega)

/-- What a work has posted is told at its close. -/
theorem Posts.tells {n : Notice} (h : Posts n s u) (e : Ends u t) : Tells n s t := fun q ha hl => e.told q n (h q ha hl)

/-- The same where the request has been taken for service before. -/
theorem Posts.tells_taking {n : Notice} {f : Frame} (h : Posts n (s.taking p f) u) (e : Ends u t) : Tells n s t := fun q ha hl =>
  e.told q n (h q (by rw [taking_admits]; exact ha) (by rw [taking_notices]; exact hl))

/-! ## A request's rule, run -/

/-- A request that is refused, or carried out without the arbiter's look. -/
theorem taking_completed {f : Frame} {r : Reply} {ps : List Part} {g : State → State} (h : ∀ x, SameBut ps x (g x))
    (ht : Part.timebase ∉ ps := by decide) (ha : Part.serviceA ∉ ps := by decide) (hb : Part.serviceB ∉ ps := by decide) :
    Completed p f r ps s (finish p (g (s.taking p f), some r)) := finish_completed (h _) ht ha hb

theorem refused_completed {f : Frame} {r : Reply} : Completed p f r [] s (finish p (refuse (s.taking p f) r)) :=
  finish_completed (SameBut.refl [] _)

@[simp] theorem taking_setup (s : State) (p : Port) (f : Frame) : (s.taking p f).setup = s.setup := State.setPort_setup ..
@[simp] theorem taking_store (s : State) (p : Port) (f : Frame) : (s.taking p f).store = s.store := State.setPort_store ..
@[simp] theorem taking_seq (s : State) (p : Port) (f : Frame) : (s.taking p f).seq = s.seq := State.setPort_seq ..
@[simp] theorem taking_banks (s : State) (p : Port) (f : Frame) : (s.taking p f).banks = s.banks := State.setPort_banks ..
@[simp] theorem taking_tap (s : State) (p : Port) (f : Frame) : (s.taking p f).tap = s.tap := State.setPort_tap ..
@[simp] theorem taking_layer (s : State) (p : Port) (f : Frame) : (s.taking p f).layer = s.layer := State.setPort_layer ..
@[simp] theorem taking_notes (s : State) (p : Port) (f : Frame) : (s.taking p f).notes = s.notes := State.setPort_notes ..
@[simp] theorem taking_links (s : State) (p : Port) (f : Frame) : (s.taking p f).links = s.links := State.setPort_links ..
@[simp] theorem taking_flash (s : State) (p : Port) (f : Frame) : (s.taking p f).flash = s.flash := State.setPort_flash ..
@[simp] theorem taking_draws (s : State) (p : Port) (f : Frame) : (s.taking p f).draws = s.draws := State.setPort_draws ..
@[simp] theorem taking_resetting (s : State) (p : Port) (f : Frame) : (s.taking p f).resetting = s.resetting := State.setPort_resetting ..
@[simp] theorem taking_timebase (s : State) (p : Port) (f : Frame) : (s.taking p f).timebase = s.timebase := State.setPort_timebase ..
@[simp] theorem taking_activeBank (s : State) (p : Port) (f : Frame) : (s.taking p f).activeBank = s.activeBank := by
  unfold State.taking; cases p <;> rfl
@[simp] theorem taking_standbyBank (s : State) (p : Port) (f : Frame) : (s.taking p f).standbyBank = s.standbyBank := by
  unfold State.taking; cases p <;> rfl

end Sys2Proof.Machine
end

section
/-! PROOF. The requests that set one thing: CLICK_MUTE and SET_MODE (O51), the settings of a port and GET_STATUS (O59), PASS (O41),
TOGGLE_ZONE (O36); and the notice queue of a port (O60). -/

namespace Sys2Proof.Machine

variable {s t u : State} {p q : Port}

/-! ## Field values -/

theorem onOffToggle_none {x : Byte} (b : Bool) (h : 2 < x.toNat) : onOffToggle x b = none := by
  have ne (k : Byte) (hk : k.toNat ≤ 2) : x ≠ k := fun e => by subst e; omega
  rw [onOffToggle, if_neg (ne 0 (by decide)), if_neg (ne 1 (by decide)), if_neg (ne 2 (by decide))]

theorem onOffToggle_some {x : Byte} (b : Bool) (h : x.toNat ≤ 2) :
    onOffToggle x b = some (if x = 0 then false else if x = 1 then true else !b) := by
  unfold onOffToggle
  split
  · rfl
  · split
    · rfl
    · have two : x = 2 := by
        apply BitVec.eq_of_toNat_eq
        have : x.toNat ≠ 0 := fun e => by simp_all [BitVec.eq_of_toNat_eq (x := x) (y := 0)]
        have : x.toNat ≠ 1 := fun e => by simp_all [BitVec.eq_of_toNat_eq (x := x) (y := 1)]
        show x.toNat = 2
        omega
      rw [if_pos two]

theorem partModeOf_none {n : Nat} (h : 1 < n) : partModeOf n = none := by
  match n with
  | 0 | 1 => omega
  | _ + 2 => rfl

theorem partModeOf_number (m : PartMode) : partModeOf (match m with | .prep => 0 | .show => 1) = some m := by cases m <;> rfl

/-! ## CLICK_MUTE and SET_MODE (R49, R156) -/

theorem clickMuteRequest (p : Port) (tag x : Byte) (s : State) (h : s.serves p) : ∃ t, exec (.clickMute p tag x) s = .next t ∧
    (2 < x.toNat → Completed p ⟨0x07, tag, [x]⟩ (.badField 1) [] s t) ∧
    (x.toNat ≤ 2 → Completed p ⟨0x07, tag, [x]⟩ .ok [.click] s t ∧
      t.click = { s.click with mute := if x = 0 then false else if x = 1 then true else !s.click.mute }) := by
  set u := s.taking p ⟨0x07, tag, [x]⟩ with hu
  have run : exec (.clickMute p tag x) s = .next (finish p (requestMute x u)) := congrArg _ (arrive_known (k := .clickMute) h rfl)
  refine ⟨_, run, fun hx => ?_, fun hx => ?_⟩
  · rw [requestMute, onOffToggle_none _ hx]
    exact refused_completed
  · rw [requestMute, onOffToggle_some _ hx]
    refine ⟨taking_completed (setMute_frame _), ?_⟩
    rw [show ∀ r, finish p (checked (pick 1 (some r)) u fun on => done (setMute on u)) = finish p (setMute r u, some .ok) from fun _ => rfl,
      (finish_ends p _ .ok).click]
    simp [setMute, hu]

/-- The part mode is set (R156). -/
def setPartMode (m : PartMode) (s : State) : State := { s with store := { s.store with mode := m } }

theorem setModeRequest (p : Port) (tag x : Byte) (s : State) (h : s.serves p) : ∃ t, exec (.setMode p tag x) s = .next t ∧
    (1 < x.toNat → Completed p ⟨0x35, tag, [x]⟩ (.badField 1) [] s t) ∧
    ∀ m : PartMode, x.toNat = (match m with | .prep => 0 | .show => 1) →
      (m = .show → s.store.busy = true → Completed p ⟨0x35, tag, [x]⟩ .busy [] s t) ∧
      (m = .prep ∨ s.store.busy = false →
        (m = s.store.mode → Completed p ⟨0x35, tag, [x]⟩ .ok [] s t) ∧
        (m ≠ s.store.mode → Completed p ⟨0x35, tag, [x]⟩ .ok [.store] s t ∧ t.store = { s.store with mode := m } ∧
          Tells ⟨.modeChanged m, false, s.grid.position, some (.port p)⟩ s t)) := by
  set u := s.taking p ⟨0x35, tag, [x]⟩ with hu
  have run : exec (.setMode p tag x) s = .next (finish p (requestMode p x u)) := congrArg _ (arrive_known (k := .setMode) h rfl)
  refine ⟨_, run, fun hx => ?_, fun m hm => ?_⟩
  · rw [requestMode, partModeOf_none hx]
    exact refused_completed
  · have store : u.store = s.store := taking_store s p _
    have decided : requestMode p x u = if m = .show ∧ u.store.busy = true then refuse u .busy
        else if m = u.store.mode then done u else done (post (.modeChanged m) (some (.port p)) (setPartMode m u)) := by
      rw [requestMode, hm, partModeOf_number]
      rfl
    rw [store] at decided
    refine ⟨fun hs hb => ?_, fun hp => ?_⟩
    · rw [decided, if_pos ⟨hs, hb⟩]
      exact refused_completed
    · rw [decided, if_neg (by rcases hp with rfl | hb <;> simp_all)]
      refine ⟨fun same => ?_, fun other => ?_⟩
      · rw [if_pos same]
        exact refused_completed
      · rw [if_neg other]
        have set : SameBut [.store] u (setPartMode m u) := storeUpdate_frame u _
        have posted := post_frame (.modeChanged m) (some (.port p)) (setPartMode m u)
        have ends := finish_ends p (post (.modeChanged m) (some (.port p)) (setPartMode m u)) .ok
        have kept := finish_frame p (post (.modeChanged m) (some (.port p)) (setPartMode m u)) .ok
        refine ⟨(finish_completed (set.chain posted (rs := [.store, .noticesA, .noticesB]))).mono, ?_, ?_⟩
        · refine ((kept.at .store).trans (posted.at .store)).trans ?_
          show ({ u.store with mode := m } : Store) = _
          rw [hu, taking_store]
        · have posts := Posting.post set.posting (.modeChanged m) (some (.port p))
          rw [show (setPartMode m u).grid.position = s.grid.position by rw [hu]; exact congrArg Grid.position (taking_grid s p _)] at posts
          exact posts.tells_taking ends

/-- Settles O51: each request's rule, its checks in order. -/
theorem muteAndMode : Obligations.MuteAndMode := ⟨clickMuteRequest, setModeRequest⟩

/-! ## The notice queue (R178, R179) -/

theorem takeWhile_urgent {u v : List Notice} (hu : ∀ x ∈ u, x.urgent = true) (hv : ∀ x ∈ v, x.urgent = false) :
    (u ++ v).takeWhile (·.urgent) = u ∧ (u ++ v).dropWhile (·.urgent) = v := by
  rw [List.takeWhile_append_of_pos hu, List.dropWhile_append_of_pos hu]
  cases v with
  | nil => simp
  | cons x xs => simp [hv x (by simp)]

theorem placeNotice_perm (l : List Notice) (n : Notice) : (placeNotice l n).Perm (n :: l) := by
  unfold placeNotice
  split
  · calc l.takeWhile (·.urgent) ++ n :: l.dropWhile (·.urgent)
        |>.Perm (n :: (l.takeWhile (·.urgent) ++ l.dropWhile (·.urgent))) := List.perm_middle
      _ = n :: l := by rw [List.takeWhile_append_dropWhile]
  · exact List.perm_append_singleton n l

/-- Settles O60: the three cases of a posting, and the report of the lost. -/
theorem noticeQueue : Obligations.NoticeQueue := by
  intro c n hc hn
  refine ⟨fun ha => ?_, fun ha hl => ?_, fun ha hl => ?_, fun rest q now hq ho => ?_⟩
  · simp [ControlPort.post, ha]
  · have full : ¬ c.notices.length < 32 := by omega
    have kept : saturate (c.lost + 1) = min 65535 (c.lost + 1) := by unfold saturate; split <;> omega
    simp [ControlPort.post, ha, full, kept]
  · have placed : c.post n = { c with notices := placeNotice c.notices n } := by simp [ControlPort.post, ha, hl]
    refine ⟨hc.post hn, ?_, fun normal => ?_, fun u v urgent split hu hv => ?_⟩
    · rw [placed]; exact placeNotice_perm c.notices n
    · rw [placed]; simp [placeNotice, normal]
    · obtain ⟨before, after⟩ := takeWhile_urgent hu hv
      rw [placed]
      simp [placeNotice, urgent, split, before, after]
  · simp [ControlPort.sendNotice, ControlPort.reportLost, ControlPort.begin, ho, mem_placeNotice]

end Sys2Proof.Machine
end

section
/-! PROOF. The requests about a port itself: GET_STATUS, SET_NOTICE_MASK, SET_POSITION_NOTICES (O59). -/

namespace Sys2Proof.Machine

variable {s t u : State} {p q : Port}

theorem mem_allFin {n : Nat} (i : Fin n) : i ∈ allFin n := List.mem_finRange i

/-! ## GET_STATUS (R175) -/

theorem num1_eq (n : Nat) : ∃ b, num1 n = [b] := by
  unfold num1
  split <;> exact ⟨_, rfl⟩

theorem status_isSome {g : Nat} (h : g ≤ 12) (x : Nat) (s : State) : ∃ bytes, status g x s = some bytes := by
  interval_cases g <;> exact ⟨_, rfl⟩

theorem status_none {g : Nat} (h : 12 < g) (x : Nat) (s : State) : status g x s = none := by
  obtain ⟨k, rfl⟩ : ∃ k, g = k + 13 := ⟨g - 13, by omega⟩
  rfl

theorem statusReply_badStart {g x : Byte} {bytes : List Byte} (h : status g.toNat x.toNat s = some bytes) (hx : 127 < x.toNat) :
    statusReply g x s = .badField 2 := by simp [statusReply, h, hx]

theorem statusReply_ok {g x : Byte} {bytes : List Byte} (h : status g.toNat x.toNat s = some bytes) (hx : x.toNat ≤ 127) :
    statusReply g x s = .okData (g :: bytes) := by simp [statusReply, h, Nat.not_lt.2 hx]

theorem statusPrograms_head (x : Nat) (s : State) : (statusPrograms x s).head? = (num1 s.bus.pending.length).head? := by
  obtain ⟨b, hb⟩ := num1_eq s.bus.pending.length
  simp [statusPrograms, collection, hb]

theorem statusGrid_drop (s : State) : (statusGrid s).drop 1 = num2 s.grid.tempo ++ num1 s.grid.source.number ++
    num1 s.grid.transport.number ++ positionBytes s.grid.position ++ num1 s.grid.meter ++
    optional 4 (fun r : Ramp => num2 r.target ++ num1 r.beats ++ num1 r.done) s.grid.ramp ++
    optional 4 (fun c : Correction => num2 c.tempo ++ num2 c.remaining) s.grid.correction := by
  have head (n : Nat) (l : List Byte) : (num1 n ++ l).drop 1 = l := by
    obtain ⟨b, hb⟩ := num1_eq n
    simp [hb]
  unfold statusGrid
  simp only [List.append_assoc]
  exact head _ _

theorem getStatusRequest (p : Port) (tag g x : Byte) (s : State) (h : s.serves p) : ∃ t, exec (.getStatus p tag g x) s = .next t ∧
    (12 < g.toNat → Completed p ⟨0x40, tag, [g, x]⟩ (.badField 1) [] s t) ∧
    (g.toNat ≤ 12 → 127 < x.toNat → Completed p ⟨0x40, tag, [g, x]⟩ (.badField 2) [] s t) ∧
    (g.toNat ≤ 12 → x.toNat ≤ 127 → ∃ bytes, Completed p ⟨0x40, tag, [g, x]⟩ (.okData (g :: bytes)) [] s t ∧
      (g = 7 → bytes.head? = (num1 s.bus.pending.length).head?) ∧
      (g = 0 → bytes.drop 1 = num2 s.grid.tempo ++ num1 s.grid.source.number ++ num1 s.grid.transport.number ++
        positionBytes s.grid.position ++ num1 s.grid.meter ++
        optional 4 (fun r : Ramp => num2 r.target ++ num1 r.beats ++ num1 r.done) s.grid.ramp ++
        optional 4 (fun c : Correction => num2 c.tempo ++ num2 c.remaining) s.grid.correction)) := by
  set u := s.taking p ⟨0x40, tag, [g, x]⟩ with hu
  have run : exec (.getStatus p tag g x) s = .next (finish p (refuse u (statusReply g x u))) :=
    congrArg _ (arrive_known (k := .getStatus) h rfl)
  have bus : u.bus = s.bus := taking_bus s p _
  have grid : u.grid = s.grid := taking_grid s p _
  refine ⟨_, run, fun hg => ?_, fun hg hx => ?_, fun hg hx => ?_⟩
  · rw [statusReply, status_none hg]
    exact refused_completed
  all_goals obtain ⟨bytes, hb⟩ := status_isSome hg x.toNat u
  · rw [statusReply_badStart hb hx]
    exact refused_completed
  · refine ⟨bytes, ?_, fun e => ?_, fun e => ?_⟩
    · rw [statusReply_ok hb hx]
      exact refused_completed
    · subst e
      have programs : bytes = statusPrograms x.toNat u := (Option.some.inj hb).symm
      rw [programs, statusPrograms_head, bus]
    · subst e
      have group : bytes = statusGrid u := (Option.some.inj hb).symm
      rw [group, statusGrid_drop, grid]

/-! ## SET_NOTICE_MASK (R176, R183) -/

theorem onOff_none {b : Byte} (h : 1 < b.toNat) : onOff b = none := by
  have ne (k : Byte) (hk : k.toNat ≤ 1) : b ≠ k := fun e => by subst e; omega
  rw [onOff, if_neg (ne 0 (by decide)), if_neg (ne 1 (by decide))]

theorem onOff_some {b : Byte} (h : b.toNat ≤ 1) : onOff b = some (b == 1) := by
  have two : b = 0 ∨ b = 1 := by
    have : b.toNat = 0 ∨ b.toNat = 1 := by omega
    exact this.imp BitVec.eq_of_toNat_eq BitVec.eq_of_toNat_eq
  rcases two with rfl | rfl <;> rfl

theorem maskFields_error : ∀ (d : List Byte) (n i : Nat), i < d.length → (∀ j, j < i → (byteAt d j).toNat ≤ 1) → 1 < (byteAt d i).toNat →
    maskFields n d = .error (n + i)
  | [], _, _, h, _, _ => absurd h (Nat.not_lt_zero _)
  | b :: bs, n, 0, _, _, bad => by
    rw [maskFields, onOff_none (b := b) bad]
    rfl
  | b :: bs, n, i + 1, h, good, bad => by
    have rest := maskFields_error bs (n + 1) i (Nat.lt_of_succ_lt_succ h) (fun j hj => good (j + 1) (Nat.succ_lt_succ hj)) bad
    rw [maskFields, onOff_some (b := b) (good 0 (Nat.succ_pos i)), rest, Nat.add_right_comm]
    rfl

theorem maskFields_ok : ∀ (d : List Byte) (n : Nat), (∀ i, i < d.length → (byteAt d i).toNat ≤ 1) →
    maskFields n d = .ok (d.map (fun b => b == 1))
  | [], _, _ => rfl
  | b :: bs, n, good => by
    have rest := maskFields_ok bs (n + 1) fun i hi => good (i + 1) (Nat.succ_lt_succ hi)
    rw [maskFields, onOff_some (b := b) (good 0 (Nat.succ_pos _)), rest]
    rfl

/-- A set of bits written one after another. -/
theorem foldl_setBits {w : Nat} (f : Fin w → Bool) (l : List (Fin w)) (a : BitVec w) (i : Nat) (hi : i < w) :
    (l.foldl (fun acc c => if f c then acc ||| ((1 <<< c.val : Nat) : BitVec w) else acc) a).getLsbD i =
      (a.getLsbD i || l.any (fun c => f c && c.val == i)) := by
  induction l generalizing a with
  | nil => simp
  | cons c cs ih =>
    rw [List.foldl_cons, ih, List.any_cons]
    by_cases hc : f c = true
    · have bit : ((1 <<< c.val : Nat) : BitVec w).getLsbD i = (c.val == i) := by
        rw [BitVec.natCast_eq_ofNat, BitVec.getLsbD_ofNat, Nat.one_shiftLeft, Nat.testBit_two_pow]
        simp [hi]
        rfl
      rw [if_pos hc, BitVec.getLsbD_or, bit, hc, Bool.true_and, Bool.or_assoc]
    · simp [hc]

theorem maskOf_bit (fields : List Bool) (i : Nat) (hi : i < 22) :
    (maskOf fields).getLsbD i = if i = 5 then true else fields.getD (if i < 5 then i else i - 1) true := by
  refine (foldl_setBits (fun c => if c.val = 5 then true else fields.getD (if c.val < 5 then c.val else c.val - 1) true) _ _ i hi).trans ?_
  rw [show (0 : BitVec 22).getLsbD i = false from BitVec.getLsbD_zero, Bool.false_or]
  by_cases h : (if i = 5 then true else fields.getD (if i < 5 then i else i - 1) true) = true
  · rw [h, List.any_eq_true]
    exact ⟨⟨i, hi⟩, mem_allFin _, by simp only [h, Bool.true_and, beq_self_eq_true]⟩
  · rw [Bool.eq_false_iff.2 h, List.any_eq_false]
    intro c _ hc
    obtain ⟨on, at'⟩ := (Bool.and_eq_true _ _).mp hc
    rw [eq_of_beq at'] at on
    exact h on

/-- A port's own setting: the other port's receiving side stands. -/
theorem setPort_setting {f : Frame} {c : ControlPort} (hc : c.inService = some f) :
    Replied p f .ok s (finish p ((s.taking p f).setPort p c, some .ok)) ∧
    SameBut portParts s (finish p ((s.taking p f).setPort p c, some .ok)) ∧
    ((finish p ((s.taking p f).setPort p c, some .ok)).port p).service = c.service ∧
    ∀ q, q ≠ p → ((finish p ((s.taking p f).setPort p c, some .ok)).port q).service = (s.port q).service := by
  set v := (s.taking p f).setPort p c with hv
  have sent (q : Port) : ((finish p (v, some .ok)).port q).service = (v.port q).service := by
    show ((transmitAll (decideReply p .ok v)).port q).service = _
    rw [transmitAll_port, ControlPort.transmit_service]
    cases p <;> cases q <;> rfl
  have now : (decideReply p .ok v).now = s.now := by rw [hv]; cases p <;> rfl
  have at' : v.port p = c := State.setPort_port_same _ _ _
  refine ⟨⟨?_, ?_⟩, ?_, by rw [sent, at'], fun q hq => ?_⟩
  · have := congrArg (·.2.2.2.2.1) (sent p)
    exact this.trans (by rw [at']; exact hc)
  · show ((transmitAll (decideReply p .ok v)).port p).reply = _ ∨ ((transmitAll (decideReply p .ok v)).port p).sending = _
    rw [transmitAll_port, now]
    refine transmit_reply _ _ _ f _ (decideReply_reply p .ok v) ?_
    rw [decideReply_inService, at']
    exact hc
  · exact ((taking_frame s p f).mono.then (setPort_frame _ _ _)).then (finish_frame p v .ok).mono
  · rw [sent, hv, State.setPort_port_other _ _ hq, State.taking, State.setPort_port_other _ _ hq]

theorem setNoticeMaskRequest (p : Port) (tag : Byte) (d : List Byte) (s : State) (h : s.serves p) (hd : d.length = 21) :
    ∃ t, exec (.setNoticeMask p tag d) s = .next t ∧
    (∀ i, (∀ j, j < i → (byteAt d j).toNat ≤ 1) → i < 21 → 1 < (byteAt d i).toNat →
      Completed p ⟨0x41, tag, d⟩ (.badField (i + 1)) [] s t) ∧
    ((∀ i, i < 21 → (byteAt d i).toNat ≤ 1) → Replied p ⟨0x41, tag, d⟩ .ok s t ∧ SameBut portParts s t ∧
      (∀ i, i < 22 → (t.port p).mask.getLsbD i = if i = 5 then true else byteAt d (if i < 5 then i else i - 1) == 1) ∧
      (t.port p).positions = (s.port p).positions ∧ ∀ q, q ≠ p → (t.port q).service = (s.port q).service) := by
  set u := s.taking p ⟨0x41, tag, d⟩ with hu
  have run : exec (.setNoticeMask p tag d) s = .next (finish p (requestMask p d u)) :=
    congrArg _ (arrive_known (k := .setNoticeMask) h (by rw [hd]; rfl))
  have taken : u.port p = { s.port p with inService := some ⟨0x41, tag, d⟩ } := State.setPort_port_same _ _ _
  refine ⟨_, run, fun i good hi bad => ?_, fun good => ?_⟩
  · rw [requestMask, maskFields_error d 1 i (by omega) good bad, Nat.add_comm 1 i]
    exact refused_completed
  · rw [requestMask, maskFields_ok d 1 (by rw [hd]; exact good)]
    obtain ⟨replied, frame, own, other⟩ := setPort_setting (s := s) (p := p) (f := ⟨0x41, tag, d⟩)
      (c := { u.port p with mask := maskOf (d.map (fun b => b == 1)) }) (congrArg ControlPort.inService taken)
    refine ⟨replied, frame, fun i hi => ?_, ?_, other⟩
    · have mask := congrArg (·.2.2.2.2.2.1) own
      refine ((congrArg (fun m : BitVec 22 => m.getLsbD i) mask).trans (maskOf_bit _ i hi)).trans ?_
      split
      · rfl
      · have place : (if i < 5 then i else i - 1) < d.length := by rw [hd]; split <;> omega
        rw [List.getD_eq_getElem _ _ (by rwa [List.length_map]), List.getElem_map, byteAt, List.getD_eq_getElem _ _ place]
    · exact (congrArg (·.2.2.2.2.2.2) own).trans (congrArg ControlPort.positions taken)

/-! ## SET_POSITION_NOTICES (R176) -/

theorem positionSettingOf_none {n : Nat} (h : 2 < n) : positionSettingOf n = none := by
  match n with
  | 0 | 1 | 2 => omega
  | _ + 3 => rfl

theorem positionSettingOf_some {x : Byte} (h : x.toNat ≤ 2) :
    positionSettingOf x.toNat = some (if x = 0 then .off else if x = 1 then .bar else .beat) := by
  have three : x = 0 ∨ x = 1 ∨ x = 2 := by
    have : x.toNat = 0 ∨ x.toNat = 1 ∨ x.toNat = 2 := by omega
    exact this.imp BitVec.eq_of_toNat_eq (Or.imp BitVec.eq_of_toNat_eq BitVec.eq_of_toNat_eq)
  rcases three with rfl | rfl | rfl <;> rfl

theorem setPositionNoticesRequest (p : Port) (tag x : Byte) (s : State) (h : s.serves p) :
    ∃ t, exec (.setPositionNotices p tag x) s = .next t ∧
    (2 < x.toNat → Completed p ⟨0x42, tag, [x]⟩ (.badField 1) [] s t) ∧
    (x.toNat ≤ 2 → Replied p ⟨0x42, tag, [x]⟩ .ok s t ∧ SameBut portParts s t ∧
      (t.port p).positions = (if x = 0 then .off else if x = 1 then .bar else .beat) ∧ (t.port p).mask = (s.port p).mask ∧
      ∀ q, q ≠ p → (t.port q).service = (s.port q).service) := by
  set u := s.taking p ⟨0x42, tag, [x]⟩ with hu
  have run : exec (.setPositionNotices p tag x) s = .next (finish p (requestPositions p x u)) :=
    congrArg _ (arrive_known (k := .setPositionNotices) h rfl)
  have taken : u.port p = { s.port p with inService := some ⟨0x42, tag, [x]⟩ } := State.setPort_port_same _ _ _
  refine ⟨_, run, fun hx => ?_, fun hx => ?_⟩
  · rw [requestPositions, positionSettingOf_none hx]
    exact refused_completed
  · rw [requestPositions, positionSettingOf_some hx]
    obtain ⟨replied, frame, own, other⟩ := setPort_setting (s := s) (p := p) (f := ⟨0x42, tag, [x]⟩)
      (c := { u.port p with positions := if x = 0 then .off else if x = 1 then .bar else .beat }) (congrArg ControlPort.inService taken)
    exact ⟨replied, frame, congrArg (·.2.2.2.2.2.2) own, (congrArg (·.2.2.2.2.2.1) own).trans (congrArg ControlPort.mask taken), other⟩

/-- Settles O59: the report of a group, and the settings that each port alone has. -/
theorem portRequests : Obligations.PortRequests := ⟨getStatusRequest, setNoticeMaskRequest, setPositionNoticesRequest⟩

end Sys2Proof.Machine
end

section
/-! PROOF. The checked fields of a record or request, decided in field order; and PASS by its fields (O41). -/

namespace Sys2Proof.Machine

variable {s t u : State} {p q : Port}

/-! ## A parser decided by a list of checks -/

/-- The parser fails at the first check that fails, by its number, and where none fails gives a value that is as `P` says. -/
def Decides {α : Type} (c : Checked α) (checks : List FieldCheck) (P : α → Prop) : Prop :=
  (∀ n, firstFailing checks = some n → c = .error n) ∧ (firstFailing checks = none → ∃ x, c = .ok x ∧ P x)

variable {α β : Type} {c : Checked α} {k : α → Checked β} {cs ds : List FieldCheck} {P : α → Prop} {Q : β → Prop} {n : Nat} {b b' : Bool}

theorem firstFailing_false (n : Nat) (cs : List FieldCheck) : firstFailing ((n, false) :: cs) = some n := rfl
theorem firstFailing_true (n : Nat) (cs : List FieldCheck) : firstFailing ((n, true) :: cs) = firstFailing cs := rfl

theorem firstFailing_append (cs ds : List FieldCheck) : firstFailing (cs ++ ds) = (firstFailing cs).orElse fun _ => firstFailing ds := by
  induction cs with
  | nil => rfl
  | cons c cs ih =>
    obtain ⟨n, b⟩ := c
    cases b with
    | false => rfl
    | true => rw [List.cons_append, firstFailing_true, firstFailing_true, ih]

theorem Decides.done {x : α} (h : P x) : Decides (.ok x) [] P := ⟨nofun, fun _ => ⟨x, rfl, h⟩⟩

/-- A check that the parser does not make, since it holds. -/
theorem Decides.skip (hb : b = true) (h : Decides c cs P) : Decides c ((n, b) :: cs) P := by
  subst hb
  exact h

/-- A field that is only checked. -/
theorem Decides.field {g : Unit → Checked β} (hb : b' = b) (h : b = true → Decides (g ()) cs Q) :
    Decides (Machine.field n b' >>= g) ((n, b) :: cs) Q := by
  subst hb
  cases b' with
  | false => exact ⟨fun m hm => congrArg Except.error (Option.some.inj hm), nofun⟩
  | true => exact h rfl

/-- A field that is read. -/
theorem Decides.pick {o : Option α} (hb : o.isSome = b) (h : ∀ x, o = some x → Decides (k x) cs Q) :
    Decides (Machine.pick n o >>= k) ((n, b) :: cs) Q := by
  subst hb
  cases o with
  | none => exact ⟨fun m hm => congrArg Except.error (Option.some.inj hm), nofun⟩
  | some x => exact h x rfl

/-- One parser after another. -/
theorem Decides.bind (h : Decides c cs P) (g : ∀ x, c = .ok x → P x → Decides (k x) ds Q) : Decides (c >>= k) (cs ++ ds) Q := by
  obtain ⟨bad, good⟩ := h
  unfold Decides
  rw [firstFailing_append]
  cases hf : firstFailing cs with
  | some m =>
    rw [bad m hf]
    exact ⟨fun n hn => congrArg Except.error (Option.some.inj hn), nofun⟩
  | none =>
    obtain ⟨x, hx, px⟩ := good hf
    rw [hx]
    exact g x hx px

theorem Decides.mono {P' : α → Prop} (h : Decides c cs P) (hp : ∀ x, P x → P' x) : Decides c cs P' :=
  ⟨h.1, fun hn => let ⟨x, hx, px⟩ := h.2 hn; ⟨x, hx, hp x px⟩⟩

theorem Decides.error (h : Decides c cs P) {m : Nat} (hf : firstFailing cs = some m) : c = .error m := h.1 m hf

theorem Decides.ok (h : Decides c cs P) (hf : firstFailing cs = none) : ∃ x, c = .ok x ∧ P x := h.2 hf

/-! ## Numbers within a range -/

theorem inRange_eq (v lo hi : Nat) : inRange v lo hi = decide (lo ≤ v ∧ v ≤ hi) := by simp [inRange]

theorem finOf_some {n v : Nat} {x : Fin n} (h : finOf n v = some x) : x.val = v := by
  unfold finOf at h
  split at h
  · exact (congrArg Fin.val (Option.some.inj h)).symm
  · cases h

theorem finOf_isSome (n v : Nat) : (finOf n v).isSome = decide (v < n) := by
  unfold finOf
  split <;> simp_all

theorem oneBased_isSome {n v : Nat} : (if v = 0 then none else finOf n (v - 1)).isSome = decide (1 ≤ v ∧ v ≤ n) := by
  split
  · next h => subst h; rfl
  · next h =>
    rw [finOf_isSome]
    exact decide_eq_decide.2 (by omega)

theorem oneBased_some {n v : Nat} {x : Fin n} (h : (if v = 0 then none else finOf n (v - 1)) = some x) : x.val + 1 = v := by
  split at h
  · cases h
  · have := finOf_some h
    omega

theorem moduleOf_isSome (v : Nat) : (moduleOf v).isSome = decide (1 ≤ v ∧ v ≤ 8) := oneBased_isSome
theorem moduleOf_some {v : Nat} {m : ModuleId} (h : moduleOf v = some m) : m.val + 1 = v := oneBased_some h
theorem channelOf_isSome (v : Nat) : (channelOf v).isSome = decide (1 ≤ v ∧ v ≤ 16) := oneBased_isSome
theorem channelOf_some {v : Nat} {m : Channel} (h : channelOf v = some m) : m.val + 1 = v := oneBased_some h

/-! ## PASS (R120) -/

/-- What the kind of a PASS must be. -/
theorem passKind_cases {k : Byte} (h : 3 ≤ k.toNat ∧ k.toNat ≤ 8) : k = 3 ∨ k = 4 ∨ k = 5 ∨ k = 6 ∨ k = 7 ∨ k = 8 := by
  have : k.toNat = 3 ∨ k.toNat = 4 ∨ k.toNat = 5 ∨ k.toNat = 6 ∨ k.toNat = 7 ∨ k.toNat = 8 := by omega
  exact this.imp BitVec.eq_of_toNat_eq <| Or.imp BitVec.eq_of_toNat_eq <| Or.imp BitVec.eq_of_toNat_eq <|
    Or.imp BitVec.eq_of_toNat_eq <| Or.imp BitVec.eq_of_toNat_eq BitVec.eq_of_toNat_eq

/-- The message by its kind, its channel and its values. -/
theorem passMessage_decides (m k c : Byte) (v1 : Nat) (v2 : Byte) {a : ModuleId} (module : a.val + 1 = m.toNat) :
    Decides (passMessage k.toNat c.toNat v1 v2.toNat) (passChecks m k c v1 v2).tail (fun x => PassMeans m k c v1 v2 ⟨a, x⟩) := by
  refine Decides.field (inRange_eq ..) fun hk => Decides.pick (channelOf_isSome _) fun ch hc => ?_
  have channel := channelOf_some hc
  rcases passKind_cases (of_decide_eq_true hk) with rfl | rfl | rfl | rfl | rfl | rfl
  · change Decides (Machine.field 4 (inRange v1 0 127) >>= fun _ => Except.ok (Message.level ch v1)) _ _
    exact .field (by simp [inRange]) fun _ => .skip (by simp) (.done ⟨module, rfl, channel, rfl⟩)
  · change Decides (Machine.field 4 (inRange v1 0 127 && v1 != 64) >>= fun _ =>
      Machine.field 5 (inRange v2.toNat 0 127) >>= fun _ => Except.ok (Message.control ch v1 v2.toNat)) _ _
    exact .field (by rw [Bool.eq_iff_iff]; simp [inRange]) fun _ => .field (by simp [inRange]) fun _ => .done ⟨module, rfl, channel, rfl, rfl⟩
  · change Decides (Machine.field 4 (inRange v1 0 16383) >>= fun _ => Except.ok (Message.bend ch v1)) _ _
    exact .field (by simp [inRange]) fun _ => .skip (by simp) (.done ⟨module, rfl, channel, rfl⟩)
  · change Decides (Machine.field 4 (inRange v1 0 1023) >>= fun _ => Except.ok (Message.program ch v1)) _ _
    exact .field (by simp [inRange]) fun _ => .skip (by simp) (.done ⟨module, rfl, channel, rfl⟩)
  · change Decides (Except.ok (Message.silence ch)) _ _
    exact .skip (by simp) (.skip (by simp) (.done ⟨module, rfl, channel⟩))
  · change Decides (Machine.field 4 (inRange v1 0 2) >>= fun _ => Except.ok (Message.click ch v1)) _ _
    exact .field (by simp [inRange]) fun _ => .skip (by simp) (.done ⟨module, rfl, channel, rfl⟩)

theorem passFields_decides (m k c : Byte) (v1 : Nat) (v2 : Byte) :
    Decides (passFields m k c v1 v2) (passChecks m k c v1 v2) (PassMeans m k c v1 v2) := by
  refine Decides.pick (moduleOf_isSome _) fun a ha => ?_
  have message := (passMessage_decides m k c v1 v2 (moduleOf_some ha)).bind (ds := []) (k := fun x => .ok (⟨a, x⟩ : Addressed))
    (Q := PassMeans m k c v1 v2) fun x _ hx => .done hx
  rw [List.append_nil] at message
  exact message

/-- An item joins the back of the PASS queue. -/
def passJoined (i : Addressed) (s : State) : State := { s with bus := { s.bus with pass := s.bus.pass ++ [i] } }

/-- Settles O41: the fields by their checks; an accepted item joins the back of the queue. -/
theorem passRequest : Obligations.PassRequest := by
  intro p tag m k c v1 v2 s d h hd
  subst hd
  set f : Frame := ⟨0x23, tag, [m, k, c] ++ word2 v1 ++ [v2]⟩
  set u := s.taking p f with hu
  have run : exec (.pass p tag m k c v1 v2) s = .next (finish p (requestPass m k c v1.toNat v2 u)) := by
    rw [← word16At_word2 v1]
    exact congrArg _ (arrive_known (k := .pass) h rfl)
  have bus : u.bus = s.bus := taking_bus s p f
  have decides := passFields_decides m k c v1.toNat v2
  refine ⟨_, run, fun n hn => ?_, fun hn => ?_⟩
  · rw [requestPass, decides.error hn]
    exact refused_completed
  · obtain ⟨i, hi, means⟩ := decides.ok hn
    have decided : requestPass m k c v1.toNat v2 u =
        if u.bus.pass.length < 16 then done (arbitrate (passJoined i u)) else refuse u .queueFull := by rw [requestPass, hi]; rfl
    rw [decided]
    refine ⟨i, means, fun full => ?_, fun room => ?_⟩
    · rw [if_neg (by rw [bus]; omega)]
      exact refused_completed
    · rw [if_pos (by rw [bus]; exact room)]
      refine ⟨finish_closed (u := passJoined i u) (busUpdate_frame u _)
        (show u.bus.transmission = _ by rw [bus]), fun busy => ?_⟩
      have kept := ((finish_arbitrate_ends p (passJoined i u) .ok).busy (by rw [← bus] at busy; exact busy)).at .bus
      refine kept.trans ?_
      rw [passJoined, bus]

end Sys2Proof.Machine
end

section
/-! PROOF. The stored records by their checks: zones, songs, setup, setlist (R152 to R155, R186). -/

namespace Sys2Proof.Machine

variable {n : Nat} {b : Byte}

/-! ## Values and their numbers -/

theorem byte_eq_of_toNat {b c : Byte} (h : b.toNat = c.toNat) : b = c := BitVec.eq_of_toNat_eq h

theorem onOff_isSome (b : Byte) : (onOff b).isSome = decide (b.toNat ≤ 1) := by
  by_cases h : b.toNat ≤ 1
  · rw [onOff_some h, decide_eq_true h]; rfl
  · rw [onOff_none (by omega), decide_eq_false h]; rfl

theorem onOff_value {x : Bool} (h : onOff b = some x) : x = decide (b.toNat = 1) := by
  by_cases hb : b.toNat ≤ 1
  · rw [onOff_some hb] at h
    rw [← Option.some.inj h, Bool.eq_iff_iff, beq_iff_eq, decide_eq_true_iff]
    exact ⟨fun e => e ▸ rfl, fun e => byte_eq_of_toNat e⟩
  · rw [onOff_none (by omega)] at h
    cases h

theorem sourceChannelOf_isSome (v : Nat) : (sourceChannelOf v).isSome = decide (v ≤ 16) := by
  unfold sourceChannelOf
  split
  · next h => subst h; rfl
  · rw [Option.isSome_map, channelOf_isSome]
    exact decide_eq_decide.2 (by omega)

theorem sourceChannelOf_some {v : Nat} {c : Option Channel} :
    sourceChannelOf v = some c → (match c with | none => 0 | some k => k.val + 1) = v := by
  intro h
  unfold sourceChannelOf at h
  split at h
  · next h0 => cases h; exact h0.symm
  · obtain ⟨k, hk, rfl⟩ := Option.map_eq_some_iff.1 h
    exact channelOf_some hk

theorem curveOf_isSome (v : Nat) : (curveOf v).isSome = decide (v ≤ 3) := by
  match v with
  | 0 | 1 | 2 | 3 => rfl
  | v + 4 => exact (decide_eq_false (by omega)).symm

theorem curveOf_some {v : Nat} {c : Curve} :
    curveOf v = some c → (match c with | .linear => 0 | .soft => 1 | .hard => 2 | .fixed => 3) = v := by
  intro h
  match v, h with
  | 0, rfl | 1, rfl | 2, rfl | 3, rfl => rfl

theorem pedalOf_isSome (v : Nat) : (pedalOf v).isSome = decide (v ≤ 2) := by
  match v with
  | 0 | 1 | 2 => rfl
  | v + 3 => exact (decide_eq_false (by omega)).symm

theorem pedalOf_some {v : Nat} {x : Option PedalId} :
    pedalOf v = some x → (match x with | none => 0 | some p => p.val + 1) = v := by
  intro h
  match v, h with
  | 0, rfl | 1, rfl | 2, rfl => rfl

theorem accentOf_isSome (v : Nat) : (accentOf v).isSome = decide (v ≤ 2) := by
  match v with
  | 0 | 1 | 2 => rfl
  | v + 3 => exact (decide_eq_false (by omega)).symm

theorem accentOf_some {v : Nat} {x : Accent} :
    accentOf v = some x → (match x with | .silent => 0 | .beat => 1 | .accent => 2) = v := by
  intro h
  match v, h with
  | 0, rfl | 1, rfl | 2, rfl => rfl

theorem tempoSourceOf_isSome (v : Nat) : (tempoSourceOf v).isSome = decide (v ≤ 2) := by
  match v with
  | 0 | 1 | 2 => rfl
  | v + 3 => exact (decide_eq_false (by omega)).symm

theorem tempoSourceOf_some {v : Nat} {x : TempoSource} :
    tempoSourceOf v = some x → (match x with | .internal => 0 | .follow => 1 | .tap => 2) = v := by
  intro h
  match v, h with
  | 0, rfl | 1, rfl | 2, rfl => rfl

theorem subdivisionOf_isSome (v : Nat) : (subdivisionOf v).isSome = decide (v = 1 ∨ v = 2 ∨ v = 3 ∨ v = 4 ∨ v = 6) := by
  unfold subdivisionOf
  split <;> simp_all

theorem subdivisionOf_some {v x : Nat} (h : subdivisionOf v = some x) : x = v := by
  unfold subdivisionOf at h
  split at h
  · exact (Option.some.inj h).symm
  · cases h

theorem byte_high (b : Byte) : b.getLsbD 7 = decide (128 ≤ b.toNat) := by
  have := b.isLt
  rw [← BitVec.testBit_toNat, Nat.testBit_eq_decide_div_mod_eq]
  exact decide_eq_decide.2 (by omega)

theorem signedByte_eq (b : Byte) : signedByte b = if b.toNat < 128 then (b.toNat : Int) else (b.toNat : Int) - 256 := by
  rw [signedByte, BitVec.toInt_eq_toNat_cond]
  split <;> split <;> omega

theorem signedByte_inRange (b : Byte) :
    (decide (-48 ≤ signedByte b) && decide (signedByte b ≤ 48)) = decide (b.toNat ≤ 48 ∨ 208 ≤ b.toNat) := by
  have := b.isLt
  rw [signedByte_eq, ← Bool.decide_and]
  refine decide_eq_decide.2 ?_
  split <;> omega

theorem links_toNat {v : Nat} (h : v ≤ 15) : (BitVec.ofNat 4 v).toNat = v := by
  rw [BitVec.toNat_ofNat]
  omega

theorem inRange_zero (v hi : Nat) : inRange v 0 hi = decide (v ≤ hi) := by simp [inRange]

theorem lowBits (b : Byte) : byteBits b 1 0 = b.toNat % 4 := by simp [byteBits]

theorem middleBits (b : Byte) : byteBits b 6 2 = b.toNat / 4 % 32 := rfl

theorem beq_eq_decide (v w : Nat) : (v == w) = decide (v = w) := rfl

/-! ## Zones (Tables 5-1 and 12-8) -/

theorem parseZone_decides (base : Nat) (r : List Byte) : Decides (parseZone base r) (zoneChecks base r) (ZoneMeans r) := by
  unfold parseZone
  refine Decides.pick (onOff_isSome _) fun enabled henabled => ?_
  refine Decides.field (inRange_eq ..) fun hlinks => ?_
  refine Decides.pick (sourceChannelOf_isSome _) fun source hsource => ?_
  refine Decides.field (inRange_zero _ _) fun _ => ?_
  refine Decides.field (inRange_eq ..) fun _ => ?_
  refine Decides.field (inRange_eq ..) fun _ => ?_
  refine Decides.field (inRange_eq ..) fun _ => ?_
  refine Decides.pick (moduleOf_isSome _) fun module hmodule => ?_
  refine Decides.pick (channelOf_isSome _) fun channel hchannel => ?_
  refine Decides.field (signedByte_inRange _) fun _ => ?_
  refine Decides.pick (curveOf_isSome _) fun curve hcurve => ?_
  refine Decides.field (inRange_eq ..) fun _ => ?_
  refine Decides.field (inRange_zero _ _) fun _ => ?_
  refine Decides.pick (b := decide (octet r 13 % 4 ≤ 2)) (by rw [lowBits, pedalOf_isSome]; rfl) fun pedal hpedal => ?_
  refine Decides.field (b := decide (octet r 13 / 4 % 32 = 0)) (by rw [middleBits, beq_eq_decide]; rfl) fun _ => ?_
  exact .done {
    enabled := onOff_value henabled
    links := links_toNat (of_decide_eq_true hlinks).2
    source := sourceChannelOf_some hsource
    keys := ⟨rfl, rfl⟩
    velocities := ⟨rfl, rfl⟩
    destination := ⟨moduleOf_some hmodule, channelOf_some hchannel⟩
    transpose := signedByte_eq _
    curve := curveOf_some hcurve
    fixedVelocity := rfl
    level := rfl
    pedal := (pedalOf_some hpedal).trans (lowBits _)
    passControllers := byte_high _ }

/-- The zone records of a song from index `i` on. -/
theorem parseZones_decides (r : List Byte) : ∀ (k i : Nat), Decides (parseZones (27 + 15 * i) k (r.drop (32 + 14 * i)))
    ((List.range' i k).flatMap (fun j => zoneChecks (27 + 15 * j) (zoneBytes r j)))
    (fun zs => zs.length = k ∧ ∀ (j : Nat) (z : Zone), zs[j]? = some z → ZoneMeans (zoneBytes r (i + j)) z)
  | 0, i => .done ⟨rfl, fun j z h => by simp at h⟩
  | k + 1, i => by
    rw [List.range'_succ, List.flatMap_cons, parseZones]
    refine (parseZone_decides _ _).bind fun z _ hz => ?_
    have rest := parseZones_decides r k (i + 1)
    rw [show 27 + 15 * (i + 1) = 27 + 15 * i + 15 by ring, show 32 + 14 * (i + 1) = 32 + 14 * i + 14 by ring] at rest
    have all := rest.bind (ds := []) (k := fun zs => .ok (z :: zs)) (Q := fun zs => zs.length = k + 1 ∧
      ∀ (j : Nat) (y : Zone), zs[j]? = some y → ZoneMeans (zoneBytes r (i + j)) y) fun zs _ ⟨hl, hzs⟩ => .done ?_
    · rw [List.append_nil] at all
      rw [List.drop_drop]
      exact all
    · refine ⟨by simp [hl], fun j y hy => ?_⟩
      cases j with
      | zero => rw [List.getElem?_cons_zero] at hy; exact Option.some.inj hy ▸ hz
      | succ j =>
        rw [List.getElem?_cons_succ] at hy
        have := hzs j y hy
        rwa [show i + 1 + j = i + (j + 1) by ring] at this

/-! ## Program entries (Table 12-8) -/

/-- Two entries name the same module and channel where their first bytes agree. -/
theorem programMeans_same {a c : List Byte} {x : ProgramEntry} {m : ModuleId} {k : Channel} (hx : ProgramMeans a x)
    (hm : m.val + 1 = octet c 0 / 16) (hk : k.val = octet c 0 % 16) : (x.module == m && x.channel == k) = decide (octet a 0 = octet c 0) := by
  have xm := hx.module
  have xk := hx.channel
  rw [Bool.eq_iff_iff, Bool.and_eq_true, beq_iff_eq, beq_iff_eq, decide_eq_true_iff, Fin.ext_iff, Fin.ext_iff]
  omega

theorem earlier_fresh {earlier : List ProgramEntry} {f : Nat → List Byte} {c : List Byte} {m : ModuleId} {k : Channel}
    (he : ∀ (i : Nat) (x : ProgramEntry), earlier[i]? = some x → ProgramMeans (f i) x)
    (hm : m.val + 1 = octet c 0 / 16) (hk : k.val = octet c 0 % 16) :
    earlier.all (fun e => !(e.module == m && e.channel == k)) = decide (∀ i < earlier.length, octet (f i) 0 ≠ octet c 0) := by
  rw [Bool.eq_iff_iff, List.all_eq_true, decide_eq_true_iff]
  constructor
  · intro h i hi
    have fresh := h earlier[i] (List.getElem_mem hi)
    rw [programMeans_same (he i _ (List.getElem?_eq_getElem hi)) hm hk] at fresh
    simpa using fresh
  · intro h x hx
    obtain ⟨i, hi, rfl⟩ := List.mem_iff_getElem.1 hx
    rw [programMeans_same (he i _ (List.getElem?_eq_getElem hi)) hm hk]
    simpa using h i hi

theorem highNibble (b : Byte) : byteBits b 7 4 = b.toNat / 16 := by
  have := b.isLt
  show b.toNat / 16 % 16 = _
  omega

theorem lowNibble (b : Byte) : byteBits b 3 0 = b.toNat % 16 := by simp [byteBits]

theorem parseProgram_decides (r : List Byte) {earlier : List ProgramEntry}
    (he : ∀ (i : Nat) (x : ProgramEntry), earlier[i]? = some x → ProgramMeans (programBytesOf r i) x) :
    Decides (parseProgram (27 + 15 * octet r 27 + 4 * earlier.length) earlier (programBytesOf r earlier.length))
      (programChecks r earlier.length) (ProgramMeans (programBytesOf r earlier.length)) := by
  have low := Nat.mod_lt (octet (programBytesOf r earlier.length) 0) (by decide : 0 < 16)
  have high : octet (programBytesOf r earlier.length) 0 < 256 := BitVec.isLt _
  unfold parseProgram
  refine Decides.pick (b := decide (1 ≤ octet (programBytesOf r earlier.length) 0 / 16 ∧ octet (programBytesOf r earlier.length) 0 / 16 ≤ 8))
    (by rw [highNibble, moduleOf_isSome]; rfl) fun m hm => ?_
  have module : m.val + 1 = octet (programBytesOf r earlier.length) 0 / 16 := (moduleOf_some hm).trans (highNibble _)
  have channel : ∃ k, finOf 16 (byteBits (byteAt (programBytesOf r earlier.length) 0) 3 0) = some k ∧
      k.val = octet (programBytesOf r earlier.length) 0 % 16 := by
    rw [lowNibble]
    exact ⟨⟨_, low⟩, dif_pos low, rfl⟩
  obtain ⟨k, hk, channel⟩ := channel
  rw [hk]
  refine Decides.field (earlier_fresh he module channel) fun _ => ?_
  refine Decides.field (by rw [middleBits, beq_eq_decide]; rfl) fun _ => ?_
  refine Decides.field ?_ fun _ => ?_
  · rw [byte_high, inRange_zero, Bool.eq_iff_iff, Bool.or_eq_true, Bool.not_eq_true', decide_eq_false_iff_not, decide_eq_true_iff,
      decide_eq_true_iff]
    exact or_congr Nat.not_le Iff.rfl
  · refine .done ⟨module, channel, ?_, ?_⟩
    · show byteBits _ 1 0 * 256 + _ = _
      rw [lowBits]
      rfl
    · show (if (byteAt _ 1).getLsbD 7 then _ else _) = _
      rw [byte_high]
      exact if_congr decide_eq_true_iff rfl rfl

theorem parsePrograms_decides (r : List Byte) : ∀ (k : Nat) (earlier : List ProgramEntry),
    (∀ (i : Nat) (x : ProgramEntry), earlier[i]? = some x → ProgramMeans (programBytesOf r i) x) →
    Decides (parsePrograms (27 + 15 * octet r 27 + 4 * earlier.length) earlier k (r.drop (32 + 14 * octet r 27 + 4 * earlier.length)))
      ((List.range' earlier.length k).flatMap (programChecks r))
      (fun es => es.length = earlier.length + k ∧ ∀ (i : Nat) (x : ProgramEntry), es[i]? = some x → ProgramMeans (programBytesOf r i) x)
  | 0, earlier, he => .done ⟨rfl, he⟩
  | k + 1, earlier, he => by
    rw [List.range'_succ, List.flatMap_cons, parsePrograms]
    refine (parseProgram_decides r he).bind fun e _ hx => ?_
    have extended (i : Nat) (x : ProgramEntry) (hi : (earlier ++ [e])[i]? = some x) : ProgramMeans (programBytesOf r i) x := by
      rcases Nat.lt_trichotomy i earlier.length with h | h | h
      · rw [List.getElem?_append_left h] at hi; exact he i x hi
      · subst h; simp at hi; exact hi ▸ hx
      · rw [List.getElem?_eq_none (by simp; omega)] at hi; cases hi
    have rest := parsePrograms_decides r k (earlier ++ [e]) extended
    rw [List.length_append, List.length_singleton] at rest
    rw [List.drop_drop]
    refine rest.mono fun es ⟨hl, hes⟩ => ⟨by omega, hes⟩

/-! ## Songs (Table 12-7) -/

theorem slice_all {r : List Byte} (f : Byte → Bool) : ∀ (n i : Nat), i + n ≤ r.length →
    (slice r i n).all f = (List.range' i n).all (fun j => f (byteAt r j))
  | 0, i, _ => by simp [slice]
  | n + 1, i, h => by
    have rest := slice_all (r := r) f n (i + 1) (by omega)
    have here : r.drop i = byteAt r i :: r.drop (i + 1) := by
      have hi : i < r.length := by omega
      rw [List.drop_eq_getElem_cons hi, byteAt, List.getD_eq_getElem _ _ hi]
    rw [slice] at rest ⊢
    rw [here, List.take_succ_cons, List.all_cons, List.range'_succ, List.all_cons, rest]

/-- A list whose tail behind its longest beginning with `f` has `g` is one that splits somewhere into the two. -/
theorem dropWhile_all {α : Type} (f g : α → Bool) : ∀ l : List α,
    (l.dropWhile f).all g = (List.range (l.length + 1)).any (fun k => (l.take k).all f && (l.drop k).all g)
  | [] => rfl
  | x :: xs => by
    rw [List.length_cons, List.range_succ_eq_map, List.any_cons, List.any_map, List.dropWhile_cons]
    have rest := dropWhile_all f g xs
    by_cases hx : f x = true
    · rw [if_pos hx, rest]
      simp only [Function.comp_def, List.take_succ_cons, List.drop_succ_cons, List.all_cons, hx, Bool.true_and, List.take_zero,
        List.drop_zero, List.all_nil]
      cases hg : (g x && xs.all g) with
      | false => rw [Bool.false_or]
      | true =>
        have all : xs.all g = true := by simp_all
        rw [Bool.true_or, List.any_eq_true]
        exact ⟨0, by simp, by simp [all]⟩
    · rw [if_neg hx]
      simp [Function.comp_def, hx]

theorem any_congr_mem {α : Type} {l : List α} {f g : α → Bool} (h : ∀ x ∈ l, f x = g x) : l.any f = l.any g := by
  rw [Bool.eq_iff_iff, List.any_eq_true, List.any_eq_true]
  exact exists_congr fun x => and_congr_right fun hx => by rw [h x hx]

theorem all_congr_mem {α : Type} {l : List α} {f g : α → Bool} (h : ∀ x ∈ l, f x = g x) : l.all f = l.all g := by
  rw [Bool.eq_iff_iff, List.all_eq_true, List.all_eq_true]
  exact forall₂_congr fun x hx => by rw [h x hx]

/-- A character of a name. -/
def printable (b : Byte) : Bool := decide (32 ≤ b.toNat) && decide (b.toNat ≤ 126)

theorem printable_eq (r : List Byte) (i : Nat) : printable (byteAt r i) = decide (32 ≤ octet r i ∧ octet r i ≤ 126) :=
  (Bool.decide_and _ _).symm

theorem byte_beq_zero (r : List Byte) (i : Nat) : (byteAt r i == 0) = (octet r i == 0) := by
  rw [Bool.eq_iff_iff, beq_iff_eq, beq_iff_eq]
  exact ⟨fun h => congrArg BitVec.toNat h, fun h => byte_eq_of_toNat h⟩

/-- The name field's check, by the place where its characters end. -/
theorem nameOk_eq {r : List Byte} (h : 16 ≤ r.length) : nameOk (r.take 16) =
    (List.range 17).any (fun k => (List.range 16).all (fun i =>
      if i < k then decide (32 ≤ octet r i ∧ octet r i ≤ 126) else octet r i == 0)) := by
  refine (dropWhile_all printable (· == 0) (r.take 16)).trans ?_
  rw [List.length_take, Nat.min_eq_left h]
  refine any_congr_mem fun k hk => ?_
  have bound : k ≤ 16 := Nat.le_of_lt_succ (List.mem_range.1 hk)
  have front : (r.take 16).take k = slice r 0 k := by rw [List.take_take, Nat.min_eq_left bound]; rfl
  have back : (r.take 16).drop k = slice r k (16 - k) := List.drop_take ..
  rw [front, back, slice_all _ _ _ (by omega), slice_all _ _ _ (by omega), List.range_eq_range',
    show List.range' 0 16 = List.range' 0 k ++ List.range' k (16 - k) by
      rw [show 16 = k + (16 - k) by omega, ← List.range'_append_1]; simp [bound], List.all_append]
  refine congrArg₂ and (all_congr_mem fun i hi => ?_) (all_congr_mem fun i hi => ?_)
  · rw [if_pos (by have := List.mem_range'_1.1 hi; omega)]
    exact printable_eq r i
  · rw [if_neg (by have := List.mem_range'_1.1 hi; omega)]
    exact byte_beq_zero r i

theorem accentBits_eq (r : List Byte) {i : Nat} (h : i < 15) : accentBits r i = accentValue r i := by
  have a : octet r 23 < 256 := BitVec.isLt _
  have b : octet r 24 < 256 := BitVec.isLt _
  have c : octet r 25 < 256 := BitVec.isLt _
  have d : octet r 26 < 256 := BitVec.isLt _
  interval_cases i <;> simp only [accentBits, accentValue, byteBits, octets] <;> change octet r _ / _ % _ = _ <;> norm_num <;> omega

theorem parseAccents_decides (r : List Byte) : ∀ (k i : Nat), i + k ≤ 15 → Decides (parseAccents r i k)
    ((List.range' i k).map (fun j => (10 + j, decide (accentValue r j ≤ 2))))
    (fun l => l.length = k ∧ ∀ (j : Nat) (a : Accent), l[j]? = some a →
      (match a with | .silent => 0 | .beat => 1 | .accent => 2) = accentValue r (i + j))
  | 0, i, _ => .done ⟨rfl, fun j a h => by simp at h⟩
  | k + 1, i, h => by
    rw [List.range'_succ, List.map_cons, parseAccents, accentBits_eq r (by omega)]
    refine Decides.pick (accentOf_isSome _) fun a ha => ?_
    have all := (parseAccents_decides r k (i + 1) (by omega)).bind (ds := []) (k := fun l => .ok (a :: l)) (Q := fun l => l.length = k + 1 ∧
      ∀ (j : Nat) (y : Accent), l[j]? = some y → (match y with | .silent => 0 | .beat => 1 | .accent => 2) = accentValue r (i + j))
      fun l _ ⟨hl, hs⟩ => .done ?_
    · rw [List.append_nil] at all
      exact all
    · refine ⟨by simp [hl], fun j y hy => ?_⟩
      cases j with
      | zero => rw [List.getElem?_cons_zero] at hy; exact Option.some.inj hy ▸ accentOf_some ha
      | succ j =>
        rw [List.getElem?_cons_succ] at hy
        have := hs j y hy
        rwa [show i + 1 + j = i + (j + 1) by ring] at this

/-- A song record by its fields. -/
theorem parseSong_decides (r : List Byte) : Decides (parseSong r) (songChecks r) (SongMeans r) := by
  unfold parseSong songChecks
  simp only [List.append_assoc, List.cons_append, List.nil_append]
  refine Decides.field (by rw [beq_eq_decide]; rfl) fun hlength => ?_
  have length : 32 ≤ r.length := by
    have := of_decide_eq_true hlength
    omega
  refine Decides.field (nameOk_eq (by omega)) fun _ => ?_
  refine Decides.field (inRange_eq ..) fun _ => ?_
  refine Decides.pick (tempoSourceOf_isSome _) fun source hsource => ?_
  refine Decides.field (inRange_eq ..) fun _ => ?_
  refine Decides.pick (subdivisionOf_isSome _) fun subdivision hsub => ?_
  refine Decides.field (inRange_zero _ _) fun _ => ?_
  refine Decides.field (inRange_zero _ _) fun _ => ?_
  rw [List.range_eq_range']
  refine (parseAccents_decides r 15 0 (by omega)).bind fun accents _ ⟨hla, haccents⟩ => ?_
  refine Decides.field (by rw [lowBits, beq_eq_decide]; rfl) fun _ => ?_
  refine Decides.field (inRange_eq ..) fun _ => ?_
  refine Decides.field (inRange_zero _ _) fun _ => ?_
  refine Decides.field ?_ fun _ => ?_
  · rw [slice_all _ _ _ (by omega), Bool.eq_iff_iff, List.all_eq_true, decide_eq_true_iff]
    simp only [byte_beq_zero, beq_iff_eq]
    simp [List.range'_succ]
  rw [List.range_eq_range', List.range_eq_range']
  refine (parseZones_decides r _ 0).bind fun zones _ ⟨hlz, hzones⟩ => ?_
  have programs := (parsePrograms_decides r (octet r 28) [] (by simp)).bind (ds := [])
    (k := fun l => .ok { name := r.take 16, tempo := word16At r 16, source, meter := (byteAt r 19).toNat, subdivision,
                         countIn := (byteAt r 21).toNat, rampBeats := (byteAt r 22).toNat, accents, zones, programs := l })
    (Q := SongMeans r) fun l _ ⟨hlp, hprograms⟩ => .done (P := SongMeans r) {
      name := rfl
      tempo := rfl
      source := by exact tempoSourceOf_some hsource
      meter := ⟨rfl, by exact subdivisionOf_some hsub, rfl, rfl⟩
      accents := ⟨hla, fun i a h => by have := haccents i a h; rwa [Nat.zero_add] at this⟩
      zones := ⟨hlz, fun i z h => by have := hzones i z h; rwa [Nat.zero_add] at this⟩
      programs := ⟨by rw [hlp]; exact Nat.zero_add _, hprograms⟩ }
  rw [List.append_nil] at programs
  exact programs

theorem Decides.toOption {α : Type} {c : Checked α} {cs : List FieldCheck} {P : α → Prop} (h : Decides c cs P) :
    c.toOption.isSome = (firstFailing cs).isNone ∧ ∀ x, c.toOption = some x → P x := by
  cases hf : firstFailing cs with
  | some n => rw [h.error hf]; exact ⟨rfl, nofun⟩
  | none =>
    obtain ⟨x, hx, px⟩ := h.ok hf
    rw [hx]
    exact ⟨rfl, fun y hy => Option.some.inj hy ▸ px⟩

end Sys2Proof.Machine
end

section
/-! PROOF. The setup record by its checks (Table 12-9, R155, R162), and the store requests (O48). -/

namespace Sys2Proof.Machine

variable {s t u : State} {p q : Port} {n : Nat}

/-- Two checks of one field, as one. -/
theorem Decides.split {α : Type} {c : Checked α} {cs : List FieldCheck} {P : α → Prop} {b b₁ b₂ : Bool} (hb : b = (b₁ && b₂))
    (h : Decides c ((n, b₁) :: (n, b₂) :: cs) P) : Decides c ((n, b) :: cs) P := by
  subst hb
  cases b₁ <;> exact h

/-! ## Actions (Table 10-3) -/

theorem Action.isSustain_eq (a : Action) : a.isSustain = decide (a.octets.1 = 5) := by cases a <;> rfl

theorem parseAction_decides (n : Nat) (press : Bool) (x y : Byte) : Decides (parseAction n press x y)
    [(n, decide (x.toNat ≤ 9 ∧ (press = false → x.toNat ≠ 5))), (n + 1, actionArgument x.toNat y.toNat)]
    (fun a => a.octets = (x.toNat, y.toNat)) := by
  have plain (v : Nat) (a : Action) (ha : a.octets = (v, 0)) (hv : actionArgument v y.toNat = decide (y.toNat = 0)) :
      Decides (Machine.field (n + 1) (y.toNat == 0) >>= fun _ => .ok a) [(n + 1, actionArgument v y.toNat)]
        (fun a => a.octets = (v, y.toNat)) := .field hv.symm fun h => .done (by
    rw [hv] at h
    rw [ha, of_decide_eq_true h])
  unfold parseAction
  generalize x.toNat = v
  match v with
  | 0 => exact .skip (by simp) (plain 0 .none rfl rfl)
  | 1 => exact .skip (by simp) (plain 1 .startStop rfl rfl)
  | 2 => exact .skip (by simp) (plain 2 .tap rfl rfl)
  | 3 => exact .skip (by simp) (plain 3 .clickMute rfl rfl)
  | 4 => exact .skip (by simp) (.field (inRange_zero _ _) fun _ => .done rfl)
  | 5 => exact .field (by simp) fun _ => .field (inRange_eq ..) fun h => .done (congrArg (Prod.mk 5) (links_toNat (of_decide_eq_true h).2))
  | 6 =>
    refine .skip (by simp) (.field (b := actionArgument 6 y.toNat) (Bool.decide_or _ _).symm fun h => .done ?_)
    show (6, if (y.toNat == 1) = true then 1 else 255) = _
    rcases of_decide_eq_true h with e | e <;> rw [e] <;> rfl
  | 7 => exact .skip (by simp) (.field (inRange_zero _ _) fun _ => .done rfl)
  | 8 => exact .skip (by simp) (plain 8 .cancelCue rfl rfl)
  | 9 => exact .skip (by simp) (plain 9 .takeNow rfl rfl)
  | v + 10 =>
    rw [show decide (v + 10 ≤ 9 ∧ (press = false → v + 10 ≠ 5)) = false by simp]
    exact ⟨fun m hm => congrArg Except.error (Option.some.inj hm), nofun⟩

theorem byteAt_drop (r : List Byte) (m i : Nat) : byteAt (r.drop m) i = byteAt r (m + i) := by
  simp [byteAt, List.getD_eq_getElem?_getD, List.getElem?_drop]

theorem byteAt_take (r : List Byte) {m i : Nat} (h : i < m) : byteAt (r.take m) i = byteAt r i := by
  simp [byteAt, List.getD_eq_getElem?_getD, h]

/-- What a switch's two actions are in the record. -/
def SwitchMeans (r : List Byte) (f : Nat) (a : Action × Action) : Prop :=
  a.1.octets = (octet r (20 + 4 * f), octet r (21 + 4 * f)) ∧ a.2.octets = (octet r (22 + 4 * f), octet r (23 + 4 * f))

theorem switchMeans_of {r : List Byte} {f : Nat} {a h : Action}
    (ha : a.octets = (octet r (20 + 4 * f + 0), octet r (20 + 4 * f + 1)))
    (hh : h.octets = (octet r (20 + 4 * f + 2), octet r (20 + 4 * f + 3))) : SwitchMeans r f (a, h) := by
  refine ⟨ha.trans ?_, hh.trans ?_⟩
  · rw [show 21 + 4 * f = 20 + 4 * f + 1 by ring]; rfl
  · rw [show 22 + 4 * f = 20 + 4 * f + 2 by ring, show 23 + 4 * f = 20 + 4 * f + 3 by ring]

theorem parseSwitch_decides (r : List Byte) (f : Nat) :
    Decides (parseSwitch (18 + 4 * f) ((r.drop (20 + 4 * f)).take 4)) (switchChecks r f) (SwitchMeans r f) := by
  have at' (i : Nat) (hi : i < 4) : byteAt ((r.drop (20 + 4 * f)).take 4) i = byteAt r (20 + 4 * f + i) := by
    rw [byteAt_take _ hi, byteAt_drop]
  have zero (x : Byte) : (x == 0) = decide (x.toNat = 0) := by
    rw [Bool.eq_iff_iff, beq_iff_eq, decide_eq_true_iff]
    exact ⟨fun e => e ▸ rfl, fun e => byte_eq_of_toNat e⟩
  unfold parseSwitch
  rw [at' 0 (by decide), at' 1 (by decide), at' 2 (by decide), at' 3 (by decide)]
  have press := parseAction_decides (18 + 4 * f) true (byteAt r (20 + 4 * f + 0)) (byteAt r (20 + 4 * f + 1))
  rw [show decide ((byteAt r (20 + 4 * f + 0)).toNat ≤ 9 ∧ (true = false → (byteAt r (20 + 4 * f + 0)).toNat ≠ 5)) =
    decide (octet r (20 + 4 * f + 0) ≤ 9) from decide_eq_decide.2 (and_iff_left nofun), show 18 + 4 * f + 1 = 19 + 4 * f by ring] at press
  rw [show 18 + 4 * f + 2 = 20 + 4 * f by ring]
  refine press.bind fun a _ ha => ?_
  refine Decides.split (b₁ := decide (octet r (20 + 4 * f + 0) = 5 → octet r (20 + 4 * f + 2) = 0))
    (b₂ := decide (octet r (20 + 4 * f + 2) ≤ 9 ∧ (false = false → octet r (20 + 4 * f + 2) ≠ 5))) ?_ ?_
  · rw [← Bool.decide_and]
    exact decide_eq_decide.2 (by tauto)
  · refine Decides.field ?_ fun _ => ?_
    · rw [a.isSustain_eq, ha, zero, Bool.eq_iff_iff, Bool.or_eq_true, Bool.not_eq_true', decide_eq_false_iff_not, decide_eq_true_iff,
        decide_eq_true_iff]
      exact Decidable.imp_iff_not_or.symm
    · have hold := (parseAction_decides (20 + 4 * f) false (byteAt r (20 + 4 * f + 2)) (byteAt r (20 + 4 * f + 3))).bind
        (ds := []) (k := fun h => .ok (a, h)) (Q := SwitchMeans r f) fun h _ hh => .done (switchMeans_of ha hh)
      rw [List.append_nil, show 20 + 4 * f + 1 = 21 + 4 * f by ring] at hold
      exact hold

theorem parseSwitches_decides (r : List Byte) : ∀ (k f : Nat), Decides (parseSwitches (18 + 4 * f) k (r.drop (20 + 4 * f)))
    ((List.range' f k).flatMap (switchChecks r))
    (fun l => l.length = k ∧ ∀ (j : Nat) (a : Action × Action), l[j]? = some a → SwitchMeans r (f + j) a)
  | 0, f => .done ⟨rfl, fun j a h => by simp at h⟩
  | k + 1, f => by
    rw [List.range'_succ, List.flatMap_cons, parseSwitches]
    refine (parseSwitch_decides r f).bind fun a _ ha => ?_
    have all := (parseSwitches_decides r k (f + 1)).bind (ds := []) (k := fun l => .ok (a :: l)) (Q := fun l => l.length = k + 1 ∧
      ∀ (j : Nat) (y : Action × Action), l[j]? = some y → SwitchMeans r (f + j) y) fun l _ ⟨hl, hs⟩ => .done ?_
    · rw [List.append_nil] at all
      rw [List.drop_drop]
      exact all
    · refine ⟨by simp [hl], fun j y hy => ?_⟩
      cases j with
      | zero => rw [List.getElem?_cons_zero] at hy; exact Option.some.inj hy ▸ ha
      | succ j =>
        rw [List.getElem?_cons_succ] at hy
        have := hs j y hy
        rwa [show f + 1 + j = f + (j + 1) by ring] at this

/-! ## Calibrations and indicators (Table 10-6) -/

theorem parseCalibration_decides (n : Nat) (r : List Byte) (m : Nat) : Decides (parseCalibration n (r.drop m))
    [(n, decide (octets r m ≤ 1019)), (n + 1, decide (octets r m ≤ octets r (m + 2) ∧ octets r (m + 2) ≤ 1019))]
    (fun c => c = (octets r m, octets r (m + 2))) := by
  have word (i : Nat) : word16At (r.drop m) i = octets r (m + i) := by
    rw [word16At, byteAt_drop, byteAt_drop, ← Nat.add_assoc]
    rfl
  unfold parseCalibration
  rw [word 0, word 2]
  exact .field (inRange_zero _ _) fun _ => .field (inRange_eq ..) fun _ => .done rfl

theorem parseIndicator_decides (n : Nat) (x y : Byte) : Decides (parseIndicator n x y)
    [(n, decide (x.toNat ≤ 18)), (n + 1, indicatorArgument x.toNat y.toNat)] (fun i => i.octets = (x.toNat, y.toNat)) := by
  have plain (v : Nat) (a : Indicator) (ha : a.octets = (v, 0)) (hv : indicatorArgument v y.toNat = decide (y.toNat = 0)) :
      Decides (Machine.field (n + 1) (y.toNat == 0) >>= fun _ => .ok a) [(n + 1, indicatorArgument v y.toNat)]
        (fun a => a.octets = (v, y.toNat)) := .field hv.symm fun h => .done (by
    rw [hv] at h
    rw [ha, of_decide_eq_true h])
  unfold parseIndicator
  generalize x.toNat = v
  match v with
  | 0 => exact .skip (by simp) (plain 0 .off rfl rfl)
  | 1 => exact .skip (by simp) (plain 1 .beat rfl rfl)
  | 2 => exact .skip (by simp) (plain 2 .downbeat rfl rfl)
  | 3 => exact .skip (by simp) (plain 3 .transport rfl rfl)
  | 4 => exact .skip (by simp) (plain 4 .countIn rfl rfl)
  | 5 => exact .skip (by simp) (plain 5 .cue rfl rfl)
  | 6 => exact .skip (by simp) (plain 6 .switching rfl rfl)
  | 7 => exact .skip (by simp) (plain 7 .retained rfl rfl)
  | 8 => exact .skip (by simp) (plain 8 .follow rfl rfl)
  | 9 => exact .skip (by simp) (plain 9 .clickMute rfl rfl)
  | 10 => exact .skip (by simp) (.field (inRange_zero _ _) fun _ => .done rfl)
  | 11 => exact .skip (by simp) (.pick (moduleOf_isSome _) fun m hm => .done (congrArg (Prod.mk 11) (moduleOf_some hm)))
  | 12 => exact .skip (by simp) (plain 12 .anyStall rfl rfl)
  | 13 =>
    exact .skip (by simp) (.pick ((finOf_isSome _ _).trans (decide_eq_decide.2 (by omega))) fun l hl =>
      .done (congrArg (Prod.mk 13) (finOf_some hl)))
  | 14 => exact .skip (by simp) (plain 14 .pedalFault rfl rfl)
  | 15 => exact .skip (by simp) (.pick (moduleOf_isSome _) fun m hm => .done (congrArg (Prod.mk 15) (moduleOf_some hm)))
  | 16 => exact .skip (by simp) (plain 16 .timebase rfl rfl)
  | 17 => exact .skip (by simp) (plain 17 .showMode rfl rfl)
  | 18 => exact .skip (by simp) (plain 18 .storeBusy rfl rfl)
  | v + 19 =>
    rw [show decide (v + 19 ≤ 18) = false by simp]
    exact ⟨fun m hm => congrArg Except.error (Option.some.inj hm), nofun⟩

/-- The checks of indicator `i`. -/
def indicatorChecks (r : List Byte) (i : Nat) : List FieldCheck :=
  [(55 + 2 * i, decide (octet r (61 + 2 * i) ≤ 18)), (56 + 2 * i, indicatorArgument (octet r (61 + 2 * i)) (octet r (62 + 2 * i)))]

theorem parseIndicators_decides (r : List Byte) : ∀ (k i : Nat), Decides (parseIndicators (55 + 2 * i) k (r.drop (61 + 2 * i)))
    ((List.range' i k).flatMap (indicatorChecks r))
    (fun l => l.length = k ∧ ∀ (j : Nat) (a : Indicator), l[j]? = some a →
      a.octets = (octet r (61 + 2 * (i + j)), octet r (62 + 2 * (i + j))))
  | 0, i => .done ⟨rfl, fun j a h => by simp at h⟩
  | k + 1, i => by
    rw [List.range'_succ, List.flatMap_cons, parseIndicators, byteAt_drop, byteAt_drop]
    have one := parseIndicator_decides (55 + 2 * i) (byteAt r (61 + 2 * i + 0)) (byteAt r (61 + 2 * i + 1))
    rw [show 61 + 2 * i + 1 = 62 + 2 * i by ring, show 55 + 2 * i + 1 = 56 + 2 * i by ring] at one
    rw [show 61 + 2 * i + 1 = 62 + 2 * i by ring]
    refine one.bind fun a _ ha => ?_
    have all := (parseIndicators_decides r k (i + 1)).bind (ds := []) (k := fun l => .ok (a :: l)) (Q := fun l => l.length = k + 1 ∧
      ∀ (j : Nat) (y : Indicator), l[j]? = some y → y.octets = (octet r (61 + 2 * (i + j)), octet r (62 + 2 * (i + j))))
      fun l _ ⟨hl, hs⟩ => .done ?_
    · rw [List.append_nil] at all
      rw [List.drop_drop]
      exact all
    · refine ⟨by simp [hl], fun j y hy => ?_⟩
      cases j with
      | zero => rw [List.getElem?_cons_zero] at hy; exact Option.some.inj hy ▸ ha
      | succ j =>
        rw [List.getElem?_cons_succ] at hy
        have := hs j y hy
        rwa [show i + 1 + j = i + (j + 1) by ring] at this

/-! ## Setup (Table 12-9) -/

theorem followSourceOf_isSome (v : Nat) : (followSourceOf v).isSome = decide (v ≤ 2) := by
  match v with
  | 0 | 1 | 2 => rfl
  | v + 3 => exact (decide_eq_false (by omega)).symm

theorem followSourceOf_some {v : Nat} {x : FollowSource} : followSourceOf v = some x → (match x with | .cpA => 0 | .cpB => 1 | .refin => 2) = v := by
  intro h
  match v, h with
  | 0, rfl | 1, rfl | 2, rfl => rfl

theorem onLossOf_isSome (v : Nat) : (onLossOf v).isSome = decide (v ≤ 1) := by
  match v with
  | 0 | 1 => rfl
  | v + 2 => exact (decide_eq_false (by omega)).symm

theorem onLossOf_some {v : Nat} {x : OnLoss} : onLossOf v = some x → (match x with | .freewheel => 0 | .songTempo => 1) = v := by
  intro h
  match v, h with
  | 0, rfl | 1, rfl => rfl

theorem partModeOf_isSome (v : Nat) : (partModeOf v).isSome = decide (v ≤ 1) := by
  match v with
  | 0 | 1 => rfl
  | v + 2 => exact (decide_eq_false (by omega)).symm

theorem partModeOf_some {v : Nat} {x : PartMode} : partModeOf v = some x → (match x with | .prep => 0 | .show => 1) = v := by
  intro h
  match v, h with
  | 0, rfl | 1, rfl => rfl

theorem footBoundaryOf_isSome (v : Nat) : (footBoundaryOf v).isSome = decide (v ≤ 2) := by
  match v with
  | 0 | 1 | 2 => rfl
  | v + 3 => exact (decide_eq_false (by omega)).symm

theorem footBoundaryOf_some {v : Nat} {x : Boundary} (h : footBoundaryOf v = some x) :
    x = if v = 0 then .immediate else if v = 1 then .nextBeat else .nextBar := by
  match v, h with
  | 0, rfl | 1, rfl | 2, rfl => rfl

theorem clickModule_eq {v : Nat} (h : v ≤ 8) : (match moduleOf v with | none => 0 | some m => m.val + 1) = v := by
  cases hm : moduleOf v with
  | some m => exact moduleOf_some hm
  | none =>
    have none := moduleOf_isSome v
    rw [hm] at none
    have : ¬ (1 ≤ v ∧ v ≤ 8) := of_decide_eq_false none.symm
    show 0 = v
    omega

theorem getAt_ofFn {α : Type} {n : Nat} (f : Fin n → α) (i : Fin n) : getAt (Vector.ofFn f) i = f i := Vector.getElem_ofFn i.2

theorem getD_of_lt {α : Type} {P : Nat → α → Prop} {l : List α} {m : Nat} (hl : l.length = m) (h : ∀ (j : Nat) (a : α), l[j]? = some a → P (0 + j) a)
    (d : α) (i : Fin m) : P i.val (l.getD i.val d) := by
  have hi : i.val < l.length := by rw [hl]; exact i.2
  rw [List.getD_eq_getElem _ _ hi]
  have := h i.val _ (List.getElem?_eq_getElem hi)
  rwa [Nat.zero_add] at this

/-- A setup record by its fields. -/
theorem parseSetup_decides (r : List Byte) : Decides (parseSetup r) (setupChecks r) (SetupMeans r) := by
  unfold parseSetup setupChecks
  rw [List.range_eq_range', List.range_eq_range']
  simp only [List.append_assoc, List.cons_append, List.nil_append]
  refine Decides.pick (followSourceOf_isSome _) fun followSource hfollow => ?_
  refine Decides.field (inRange_eq ..) fun _ => ?_
  refine Decides.field (inRange_eq ..) fun _ => ?_
  refine Decides.pick (onLossOf_isSome _) fun onLoss hloss => ?_
  refine Decides.field (inRange_zero _ _) fun hmodule => ?_
  refine Decides.pick (channelOf_isSome _) fun clickChannel hchannel => ?_
  refine Decides.field (by rw [Bool.eq_iff_iff]; simp [or_assoc]; rfl) fun _ => ?_
  refine Decides.field (inRange_zero _ _) fun hlinks => ?_
  refine Decides.field (inRange_zero _ _) fun hprograms => ?_
  refine Decides.pick (footBoundaryOf_isSome _) fun footBoundary hfoot => ?_
  refine Decides.pick (onOff_isSome _) fun fastBus hfast => ?_
  refine Decides.field (inRange_zero _ _) fun _ => ?_
  refine Decides.field (inRange_eq ..) fun _ => ?_
  refine Decides.field (inRange_eq ..) fun _ => ?_
  refine Decides.field (inRange_eq ..) fun _ => ?_
  refine Decides.field (inRange_eq ..) fun _ => ?_
  refine (parseSwitches_decides r 8 0).bind fun switches _ ⟨hls, hswitches⟩ => ?_
  refine (parseCalibration_decides 50 r 52).bind (ds := (52, _) :: (53, _) :: (54, _) :: _) fun ex1 _ h1 => ?_
  refine (parseCalibration_decides 52 r 56).bind (ds := (54, _) :: _) fun ex2 _ h2 => ?_
  refine Decides.field (inRange_eq ..) fun _ => ?_
  refine (parseIndicators_decides r 32 0).bind fun indicators _ ⟨hli, hindicators⟩ => ?_
  refine Decides.pick (partModeOf_isSome _) fun startMode hmode => .done {
    follow := ⟨by exact followSourceOf_some hfollow, rfl, rfl, by exact onLossOf_some hloss⟩
    click := ⟨by exact clickModule_eq (of_decide_eq_true hmodule), channelOf_some hchannel, rfl⟩
    links := ⟨links_toNat (of_decide_eq_true hlinks), links_toNat (of_decide_eq_true hprograms)⟩
    footBoundary := footBoundaryOf_some hfoot
    bus := ⟨onOff_value hfast, rfl, rfl, rfl⟩
    retention := rfl
    times := ⟨rfl, rfl⟩
    switches := fun f => by
      have := getD_of_lt hls hswitches (.none, .none) f
      rw [getAt_ofFn]
      exact this
    pedals := fun p => by
      match p with
      | 0 => exact h1
      | 1 => exact h2
    brightness := rfl
    indicators := fun i => by
      have := getD_of_lt (P := fun j a => a.octets = (octet r (61 + 2 * j), octet r (62 + 2 * j))) hli hindicators .off i
      rw [getAt_ofFn]
      exact this
    startMode := by exact partModeOf_some hmode }

/-! ## The store requests (R148) -/

/-- A store request by the checks of its fields: the refusals in their order, or the operation begun. -/
theorem storeRequest_answer {f : Frame} {kind : OpKind} {fields : Checked (Sector × List Byte)} {checks : List FieldCheck} {sector : Nat}
    {r : List Byte} (h : Decides fields checks (fun v => v.1.val = sector ∧ v.2 = r)) (s : State) :
    StoreAnswer p f kind checks sector r s (finish p (storeRequest kind p fields (s.taking p f))) := by
  set u := s.taking p f with hu
  have store : u.store = s.store := taking_store s p f
  unfold storeRequest
  rw [store]
  refine ⟨fun show' => ?_, fun prep busy => ?_, fun prep idle low => ?_, fun prep idle high => ⟨fun n bad => ?_, fun k good hk => ?_⟩⟩
  · rw [if_pos show']
    exact refused_completed
  all_goals rw [if_neg (by rw [prep]; decide)]
  · rw [if_pos busy]
    exact refused_completed
  all_goals rw [if_neg (not_not.2 idle)]
  · rw [if_pos low]
    exact refused_completed
  all_goals rw [if_neg (by rw [high]; decide)]
  · rw [h.error bad]
    exact refused_completed
  · obtain ⟨⟨k', r'⟩, hv, hk', hr⟩ := h.ok good
    rw [hv]
    have same : k' = k := Fin.ext (hk'.trans hk.symm)
    subst same
    obtain rfl : r' = r := hr
    refine ⟨finish_completed (setOp_frame _ u), ?_⟩
    exact (((finish_frame p (beginOp kind k' p r' u) .accepted).at .store)).trans (by
      show ({ u.store with activity := _ } : Store) = _
      rw [store])

theorem slotField_decides (x : Byte) : Decides (slotField x) [(1, decide (x.toNat ≤ 63))] (fun k => k.val = x.toNat + 2) :=
  .pick ((finOf_isSome _ _).trans (decide_eq_decide.2 (by omega))) fun k hk => .done (by
    show k.val + 2 = _
    rw [finOf_some hk])

theorem songFields_decides (x : Byte) (r : List Byte) : Decides (songFields x r) ((1, decide (x.toNat ≤ 63)) :: songChecks r)
    (fun v => v.1.val = x.toNat + 2 ∧ v.2 = r) := by
  refine (slotField_decides x).bind fun k _ hk => ?_
  have record := (parseSong_decides r).bind (ds := []) (k := fun _ => .ok (k, r)) (Q := fun v => v.1.val = x.toNat + 2 ∧ v.2 = r)
    fun _ _ _ => .done ⟨hk, rfl⟩
  rw [List.append_nil] at record
  exact record

theorem eraseFields_decides (x : Byte) : Decides (do let k ← slotField x; return (k, ([] : List Byte))) [(1, decide (x.toNat ≤ 63))]
    (fun v => v.1.val = x.toNat + 2 ∧ v.2 = []) :=
  (slotField_decides x).bind (ds := []) fun _ _ hk => .done ⟨hk, rfl⟩

theorem entryFields_decides : ∀ (es : List Byte) (n : Nat), Decides (entryFields n es)
    ((es.zipIdx (n - 2)).map (fun e => (e.2 + 2, decide (e.1.toNat < 64)))) (fun _ => ∀ b ∈ es, b.toNat < 64) ∨ n < 2
  | [], n => .inl (.done fun _ h => absurd h List.not_mem_nil)
  | b :: bs, n => by
    by_cases hn : n < 2
    · exact .inr hn
    · left
      rw [List.zipIdx_cons, List.map_cons, entryFields, show n - 2 + 2 = n by omega]
      refine Decides.field rfl fun hb => ?_
      have rest := (entryFields_decides bs (n + 1)).resolve_right (by omega)
      rw [show n + 1 - 2 = n - 2 + 1 by omega] at rest
      exact rest.mono fun _ h => List.forall_mem_cons.2 ⟨of_decide_eq_true hb, h⟩

/-- What the fields of a WRITE_SETLIST give where none fails. -/
def SetlistFields (n : Byte) (es : List Byte) (v : Sector × List Byte) : Prop :=
  v = (1, n :: es) ∧ n.toNat = es.length ∧ ∀ b ∈ es, b.toNat < 64

theorem setlistFields_decides (n : Byte) (es : List Byte) : Decides (setlistFields n es) (setlistChecks n es) (SetlistFields n es) := by
  refine Decides.field (Bool.decide_and _ _).symm fun hc => ?_
  have entries := ((entryFields_decides es 2).resolve_right (by decide)).bind (ds := []) (k := fun _ => .ok ((1 : Sector), n :: es))
    (Q := SetlistFields n es) fun _ _ hb => .done ⟨rfl, (of_decide_eq_true hc).2, hb⟩
  rw [List.append_nil] at entries
  exact entries

theorem setupFields_decides (r : List Byte) : Decides (setupFields r) (setupChecks r) (fun v => v.1.val = 0 ∧ v.2 = r) := by
  have record := (parseSetup_decides r).bind (ds := []) (k := fun _ => .ok ((0 : Sector), r)) (Q := fun v => v.1.val = 0 ∧ v.2 = r)
    fun _ _ _ => .done ⟨rfl, rfl⟩
  rw [List.append_nil] at record
  exact record

theorem decodeSetup_iff (r : List Byte) : (decodeSetup r).isSome = (decide (r.length = 126) && (firstFailing (setupChecks r)).isNone) ∧
    ∀ u, decodeSetup r = some u → SetupMeans r u := by
  obtain ⟨isSome, means⟩ := (parseSetup_decides r).toOption
  unfold decodeSetup
  split
  · next h => rw [decide_eq_true h, Bool.true_and]; exact ⟨isSome, means⟩
  · next h => rw [decide_eq_false h, Bool.false_and]; exact ⟨rfl, nofun⟩

/-- The entries of a setlist record are its bytes behind the count. -/
theorem decodeSetlist_eq (n : Byte) (es : List Byte) (h : firstFailing (setlistChecks n es) = none) :
    (decodeSetlist (n :: es)).map (fun k : Slot => k.val) = es.map (fun b : Byte => b.toNat) := by
  obtain ⟨_, -, -, count, small⟩ := (setlistFields_decides n es).ok h
  have all : slice (n :: es) 1 (byteAt (n :: es) 0).toNat = es := by
    show List.take n.toNat es = es
    rw [count, List.take_length]
  rw [decodeSetlist, all]
  clear all count h
  induction es with
  | nil => rfl
  | cons b bs ih =>
    have hb : finOf 64 b.toNat = some ⟨b.toNat, small b (by simp)⟩ := dif_pos _
    rw [List.filterMap_cons, hb]
    simp only [List.map_cons]
    rw [ih fun x hx => small x (by simp [hx])]

/-- Settles O48: each request by the checks of its fields, and the records they stand for. -/
theorem storeRequests : Obligations.StoreRequests := by
  refine ⟨fun p tag x r s h lo hi => ⟨_, ?_, storeRequest_answer (songFields_decides x r) s⟩,
    fun p tag x s h => ⟨_, ?_, storeRequest_answer (eraseFields_decides x) s⟩,
    fun p tag n es s h hl => ⟨_, ?_, storeRequest_answer ((setlistFields_decides n es).mono fun v hv => by rw [hv.1]; exact ⟨rfl, rfl⟩) s⟩,
    fun p tag r s h hl => ⟨_, ?_, storeRequest_answer (setupFields_decides r) s⟩,
    fun r => (parseSong_decides r).toOption, decodeSetup_iff, decodeSetlist_eq⟩
  · exact congrArg _ (arrive_known (k := .writeSong) h (by simp [RequestKind.lengthOk, inRange]; omega))
  · exact congrArg _ (arrive_known (k := .eraseSong) h rfl)
  · exact congrArg _ (arrive_known (k := .writeSetlist) h (by simp [RequestKind.lengthOk, inRange]; omega))
  · exact congrArg _ (arrive_known (k := .writeSetup) h (by rw [hl]; rfl))

end Sys2Proof.Machine
end

section
/-! PROOF. The cue slot: offers, cancels and loading (R128 to R131); CUE, CANCEL_CUE and SETLIST_STEP (O43). -/

namespace Sys2Proof.Machine

variable {s t u v : State} {p q : Port}

/-! ## Fetches of a cue (R146) -/

theorem requestFetch_cases (f : Fetch) (s : State) : (requestFetch f s).fetches = s.fetches ++ [f] ∨ (requestFetch f s).fetches = f :: s.fetches := by
  unfold requestFetch
  split
  · next idle => exact .inr (by simp [State.fetches, idle])
  · next busy =>
    left
    unfold State.fetches
    split <;> simp_all

theorem requestFetch_mem (f : Fetch) (s : State) : f ∈ (requestFetch f s).fetches := by
  rcases requestFetch_cases f s with h | h <;> simp [h]

theorem requestFetch_others {f : Fetch} (s : State) (h : f.kind = .cue) : (requestFetch f s).otherFetches = s.otherFetches := by
  unfold State.otherFetches
  rcases requestFetch_cases f s with e | e <;> simp [e, List.filter_append, h]

theorem requestFetch_added (f : Fetch) (s : State) (k : FetchKind) :
    (requestFetch f s).fetchCount k = s.fetchCount k + (f.kind == k).toNat := by
  rw [fetchCount_eq, fetchCount_eq]
  rcases requestFetch_cases f s with e | e <;> rw [e] <;> cases hk : f.kind == k <;> simp [hk, List.countP_append]

theorem filter_forCue (l : List Fetch) : (l.filter (fun g => !g.forCue)).filter (fun f => f.kind != .cue) = l.filter (fun f => f.kind != .cue) := by
  rw [List.filter_filter]
  exact List.filter_congr fun f _ => Bool.and_self _

theorem abandonCueFetch_others (s : State) : (abandonCueFetch s).otherFetches = s.otherFetches := by
  have waiting {x : State} (hx : ∀ f, x.store.activity ≠ .fetching f) : x.fetches = x.store.queue := by
    unfold State.fetches
    split
    · next h => exact absurd h (hx _)
    · rfl
  unfold State.otherFetches abandonCueFetch
  split
  · next f hf =>
    have held : s.fetches = f :: s.store.queue := by rw [State.fetches, hf]
    split
    · next hc =>
      rw [storeNext_fetches, held, List.filter_cons_of_neg (by simpa [Fetch.forCue] using hc)]
    · next hc =>
      have kept : (f.kind != .cue) = true := by simpa [Fetch.forCue] using hc
      have front (l : List Fetch) : (f :: l).filter (fun g => g.kind != .cue) = f :: l.filter (fun g => g.kind != .cue) :=
        List.filter_cons_of_pos kept
      have left : State.fetches { s with store := { s.store with queue := s.store.queue.filter (fun g => !g.forCue) } } =
          f :: s.store.queue.filter (fun g => !g.forCue) := by rw [State.fetches, hf]
      rw [left, held, front, front, filter_forCue]
  · next hf =>
    rw [waiting fun f h => hf f h]
    exact (congrArg (List.filter _) (waiting (x := { s with store := { s.store with queue := s.store.queue.filter (fun g => !g.forCue) } })
      fun f h => hf f h)).trans (filter_forCue _)

/-! ## The slot, whoever looks -/

/-- Two states agree in the slot, the banks and the store. -/
structure SlotSame (v t : State) : Prop where
  seq : t.seq = v.seq
  banks : t.banks = v.banks
  store : t.store = v.store

section
variable (h : SlotSame v t)
include h

theorem SlotSame.activeBank : t.activeBank = v.activeBank := by rw [State.activeBank, State.bank.eq_def, h.banks]; rfl
theorem SlotSame.standbyBank : t.standbyBank = v.standbyBank := by rw [State.standbyBank, State.bank.eq_def, h.banks]; rfl
theorem SlotSame.fetches : t.fetches = v.fetches := by rw [State.fetches, h.store]; rfl
theorem SlotSame.fetchCount (k : FetchKind) : t.fetchCount k = v.fetchCount k := by rw [fetchCount_eq, fetchCount_eq, h.fetches]
theorem SlotSame.otherFetches : t.otherFetches = v.otherFetches := by rw [State.otherFetches, State.otherFetches, h.fetches]
theorem SlotSame.cueIs (x : CueState) : t.cueIs x = v.cueIs x := by rw [State.cueIs, State.cueIs, h.seq]
theorem SlotSame.begins {c : Cue} (b : BeginsToLoad c v) : BeginsToLoad c t :=
  ⟨by rw [h.seq]; exact b.cue, by rw [h.standbyBank]; exact b.bank, by rw [h.fetches]; exact b.fetch⟩

end

theorem SameBut.slotSame {ps : List Part} (h : SameBut ps v t) (hs : Part.seq ∉ ps := by decide) (hb : Part.banks ∉ ps := by decide)
    (ht : Part.store ∉ ps := by decide) : SlotSame v t := ⟨h.at .seq hs, h.at .banks hb, h.at .store ht⟩

/-! ## Loading (R131) -/

theorem emptyStandby_standby (s : State) : (emptyStandby s).standbyBank = s.standbyBank.emptied := by
  unfold emptyStandby State.standbyBank
  rw [State.setBank_active, State.setBank_bank_same]

theorem emptyStandby_active (s : State) : (emptyStandby s).activeBank = s.activeBank := by
  unfold emptyStandby State.activeBank
  rw [State.setBank_active, setBank_bank_other]
  cases s.banks.active <;> decide

theorem examineLoad_loads {c : Cue} (hc : s.seq.cue = some c) (hw : c.state = .waiting) (hm : s.mayLoad = true) : examineLoad s =
    requestFetch ⟨.cue, slotSector c.slot⟩ { emptyStandby s with seq := { s.seq with cue := some { c with state := .loading } } } := by
  unfold examineLoad
  rw [hc]
  exact if_pos ⟨hw, hm⟩

theorem examineLoad_holds (h : ∀ c, s.seq.cue = some c → c.state = .waiting → s.mayLoad = false) : examineLoad s = s := by
  unfold examineLoad
  split
  · next c hc =>
    refine if_neg fun ⟨hw, hm⟩ => ?_
    rw [h c hc hw] at hm
    cases hm
  · rfl

/-- The WAITING cue begins to load where its bank and the store allow it. -/
theorem examineLoad_begins {c : Cue} (hc : s.seq.cue = some c) (hw : c.state = .waiting) (hm : s.mayLoad = true) :
    BeginsToLoad c (examineLoad s) := by
  rw [examineLoad_loads hc hw hm]
  set w : State := { emptyStandby s with seq := { s.seq with cue := some { c with state := .loading } } }
  have frame := requestFetch_frame ⟨.cue, slotSector c.slot⟩ w
  have banks : (requestFetch ⟨.cue, slotSector c.slot⟩ w).banks = (emptyStandby s).banks := frame.at .banks
  have standby : (requestFetch ⟨.cue, slotSector c.slot⟩ w).standbyBank = s.standbyBank.emptied := by
    rw [← emptyStandby_standby, State.standbyBank, State.bank.eq_def, banks]
    rfl
  refine ⟨?_, ?_, requestFetch_mem _ _⟩
  · rw [show (requestFetch ⟨.cue, slotSector c.slot⟩ w).seq = w.seq from frame.at .seq]
  · rw [standby]
    exact ⟨rfl, rfl⟩

theorem examineLoad_seq {c : Cue} (hc : s.seq.cue = some c) (hw : c.state = .waiting) (hm : s.mayLoad = true) :
    (examineLoad s).seq = { s.seq with cue := some { c with state := .loading } } := by
  rw [examineLoad_loads hc hw hm]
  exact (requestFetch_frame _ _).at .seq

theorem examineLoad_active (s : State) : (examineLoad s).activeBank = s.activeBank := by
  unfold examineLoad
  split
  · split
    · have banks (w : State) (f : Fetch) : (requestFetch f w).activeBank = w.activeBank := by
        rw [State.activeBank, State.bank.eq_def, show (requestFetch f w).banks = w.banks from (requestFetch_frame f w).at .banks]
        rfl
      rw [banks]
      exact emptyStandby_active s
    · rfl
  · rfl

theorem otherFetches_congr (h : t.store = s.store) : t.otherFetches = s.otherFetches := by
  rw [State.otherFetches, State.otherFetches, State.fetches, State.fetches, h]

theorem fetchCount_congr (h : t.store = s.store) (k : FetchKind) : t.fetchCount k = s.fetchCount k := by
  rw [State.fetchCount, State.fetchCount, State.fetches, State.fetches, h]

theorem examineLoad_others (s : State) : (examineLoad s).otherFetches = s.otherFetches := by
  unfold examineLoad
  split
  · split
    · rw [requestFetch_others _ rfl]
      exact otherFetches_congr ((emptyStandby_frame s).at .store)
    · rfl
  · rfl

/-! ## A cue leaves the slot (R129) -/

theorem cueLeft_seq (c : Cue) (s : State) : (cueLeft c s).seq = { s.seq with cue := none } := by
  unfold cueLeft
  dsimp only
  split
  · rfl
  · exact (abandonCueFetch_frame _).at .seq
  · exact (emptyStandby_frame _).at .seq

theorem cueLeft_banks {c : Cue} (h : c.state ≠ .armed) (s : State) : (cueLeft c s).banks = s.banks := by
  unfold cueLeft
  dsimp only
  split
  · rfl
  · exact (abandonCueFetch_frame _).at .banks
  · next ha => exact absurd ha h

theorem cueLeft_store {c : Cue} (h : c.state ≠ .loading) (s : State) : (cueLeft c s).store = s.store := by
  unfold cueLeft
  dsimp only
  split
  · rfl
  · next hl => exact absurd hl h
  · exact (emptyStandby_frame _).at .store

theorem cueLeft_active (c : Cue) (s : State) : (cueLeft c s).activeBank = s.activeBank := by
  by_cases h : c.state = .armed
  · unfold cueLeft
    rw [h]
    exact emptyStandby_active { s with seq := { s.seq with cue := none } }
  · rw [State.activeBank, State.bank.eq_def, cueLeft_banks h]
    rfl

theorem cueLeft_empties {c : Cue} (h : c.state = .armed) (s : State) : (cueLeft c s).standbyBank.image = none := by
  unfold cueLeft
  rw [h]
  exact congrArg Bank.image (emptyStandby_standby { s with seq := { s.seq with cue := none } })

theorem cueLeft_others (c : Cue) (s : State) : (cueLeft c s).otherFetches = s.otherFetches := by
  by_cases h : c.state = .loading
  · unfold cueLeft
    rw [h]
    exact abandonCueFetch_others { s with seq := { s.seq with cue := none } }
  · rw [State.otherFetches, State.otherFetches, State.fetches, cueLeft_store h]
    rfl

theorem cueLeft_count {c : Cue} (hc : s.seq.cue = some c) (h : s.fetchCount .cue = (s.cueIs .loading).toNat) :
    (cueLeft c s).fetchCount .cue = 0 := by
  by_cases hl : c.state = .loading
  · unfold cueLeft
    rw [hl]
    have one : State.fetchCount { s with seq := { s.seq with cue := none } } .cue ≤ 1 := h ▸ Bool.toNat_le _
    exact (abandonCueFetch_count one .cue).trans (if_pos rfl)
  · rw [fetchCount_eq, State.fetches, cueLeft_store hl]
    refine h.trans ?_
    simp [State.cueIs, hc, hl]

theorem storeNext_notBusy (s : State) : (storeNext s).store.busy = false := by
  unfold storeNext
  split <;> rfl

theorem abandonCueFetch_busy (s : State) : (abandonCueFetch s).store.busy = s.store.busy := by
  unfold abandonCueFetch
  split
  · next f hf =>
    split
    · rw [storeNext_notBusy, Store.busy, hf]
    · rfl
  · rfl

theorem cueLeft_busy (c : Cue) (s : State) : (cueLeft c s).store.busy = s.store.busy := by
  by_cases h : c.state = .loading
  · unfold cueLeft
    rw [h]
    exact abandonCueFetch_busy _
  · rw [cueLeft_store h]

theorem cueLeft_retained (c : Cue) (s : State) : (cueLeft c s).banks.retained = s.banks.retained := by
  by_cases h : c.state = .armed
  · unfold cueLeft
    rw [h]
    exact State.setBank_retained _ _ _
  · rw [cueLeft_banks h]

theorem cueLeft_mayLoad (c : Cue) (s : State) : (cueLeft c s).mayLoad = s.mayLoad := by
  have resetting : (cueLeft c s).inReset = s.inReset := by
    rw [State.inReset, show (cueLeft c s).resetting = s.resetting from (cueLeft_frame c s).at .resetting]
    rfl
  rw [State.mayLoad, State.mayLoad, cueLeft_seq, cueLeft_retained, cueLeft_busy, resetting]

/-! ## An offer (R128) -/

theorem yieldsTo_iff (c : Cue) (o : Origin) : c.yieldsTo o = true ↔ Yields c o := by
  simp [Cue.yieldsTo, Yields, or_assoc]

/-- The slot as an offer that is accepted finds it. -/
def State.vacated (s : State) (o : Origin) : State :=
  match s.seq.cue with
  | none => s
  | some h => displaceCue h o true s

theorem offerCue_accepted {c : Cue} (h : ∀ x, s.seq.cue = some x → Yields x c.origin) : offerCue c s = (acceptCue c (s.vacated c.origin), true) := by
  unfold offerCue State.vacated
  cases hc : s.seq.cue with
  | none => rfl
  | some x => exact if_pos ((yieldsTo_iff x c.origin).2 (h x hc))

/-- What makes way for an accepted cue, apart from its notice. -/
structure Vacated (s d : State) : Prop where
  seq : d.seq = { s.seq with cue := none }
  active : d.activeBank = s.activeBank
  others : d.otherFetches = s.otherFetches
  count : s.fetchCount .cue = (s.cueIs .loading).toNat → d.fetchCount .cue = 0
  banks : s.cueIs .armed = false → d.banks = s.banks
  store : s.cueIs .loading = false → d.store = s.store
  mayLoad : d.mayLoad = s.mayLoad
  grid : d.grid = s.grid
  empties : ∀ h, s.seq.cue = some h → h.state = .armed → d.standbyBank.image = none

theorem cueLeft_vacates {c : Cue} (hc : s.seq.cue = some c) : Vacated s (cueLeft c s) where
  seq := cueLeft_seq c s
  active := cueLeft_active c s
  others := cueLeft_others c s
  count := cueLeft_count hc
  banks := fun h => cueLeft_banks (by simpa [State.cueIs, hc] using h) s
  store := fun h => cueLeft_store (by simpa [State.cueIs, hc] using h) s
  mayLoad := cueLeft_mayLoad c s
  grid := (cueLeft_frame c s).at .grid
  empties := fun x hx ha => by
    rw [hc] at hx
    obtain rfl := Option.some.inj hx
    exact cueLeft_empties ha s

theorem Vacated.posted (h : Vacated s t) (b : NoticeBody) (o : Option Origin) : Vacated s (post b o t) := by
  have frame := post_frame b o t
  have same : SlotSame t (post b o t) := frame.slotSame
  have resetting : (post b o t).resetting = t.resetting := frame.at .resetting
  refine ⟨same.seq.trans h.seq, same.activeBank.trans h.active, same.otherFetches.trans h.others,
    fun hc => (same.fetchCount _).trans (h.count hc), fun ha => same.banks.trans (h.banks ha), fun hl => same.store.trans (h.store hl), ?_,
    (frame.at .grid).trans h.grid, fun x hx ha => same.standbyBank ▸ h.empties x hx ha⟩
  rw [← h.mayLoad, State.mayLoad, State.mayLoad, State.inReset, State.inReset, same.seq, same.banks, same.store, resetting]

theorem vacated_vacates (o : Origin) (s : State) : Vacated s (s.vacated o) := by
  unfold State.vacated
  cases hc : s.seq.cue with
  | none =>
    dsimp only
    have same : ({ s.seq with cue := none } : Sequencer) = s.seq := by rw [← hc]
    exact ⟨same.symm, rfl, rfl, fun h => by rw [h]; simp [State.cueIs, hc], fun _ => rfl, fun _ => rfl, rfl, rfl,
      fun h hx => by rw [hc] at hx; cases hx⟩
  | some h =>
    dsimp only
    rw [displaceCue_eq]
    exact (cueLeft_vacates hc).posted _ _

theorem displaceCue_posting (h : Cue) (o : Origin) (r : Bool) (s : State) : Posting 1 s (displaceCue h o r s) := by
  rw [displaceCue_eq]
  exact ((cueLeft_frame h s).posting.then (post_posting _ _ _)).mono (by decide)

theorem displaceCue_posts (h : Cue) (o : Origin) (r : Bool) (s : State) :
    Posts ⟨.cueSuperseded h.target h.slot h.origin h.state r, false, s.grid.position, some o⟩ s (displaceCue h o r s) := by
  rw [displaceCue_eq]
  have posts := (cueLeft_frame h s).posting.post (.cueSuperseded h.target h.slot h.origin h.state r) (some o)
  rw [show (cueLeft h s).grid.position = s.grid.position from congrArg Grid.position ((cueLeft_frame h s).at .grid)] at posts
  exact posts

theorem vacated_posting (o : Origin) (s : State) : Posting 1 s (s.vacated o) := by
  unfold State.vacated
  split
  · exact (Posting.refl s).mono (by decide)
  · exact displaceCue_posting _ o true s

theorem examineLoad_keeps (s : State) : Posting 0 s (examineLoad s) := (examineLoad_frame s).posting

/-- The cue has entered the slot, apart from its notice and its loading. -/
def State.entered (c : Cue) (s : State) : State := { s with seq := { s.seq with cue := some { c with state := .waiting } } }

theorem acceptCue_eq (c : Cue) (s : State) : acceptCue c s =
    examineLoad (post (.cueAccepted c.kind c.target c.slot c.boundary c.firmness) (some c.origin) (s.entered c)) := rfl

/-- The close of an accepted offer: the slot as the offer leaves it, the notices told. -/
theorem cueEnters_of {within : List Part → Prop} {c : Cue} (hw : c.state = .waiting) (inFrame : within [.banks, .seq, .store])
    (same : SlotSame (acceptCue c (s.vacated c.origin)) t)
    (told : ∀ n, Posts n s (acceptCue c (s.vacated c.origin)) → Tells n s t) : CueEnters within c s t := by
  have waiting : { c with state := .waiting } = c := by rw [← hw]
  set d := s.vacated c.origin with hd
  have vacated : Vacated s d := vacated_vacates c.origin s
  set e := post (.cueAccepted c.kind c.target c.slot c.boundary c.firmness) (some c.origin) (d.entered c) with he
  have posted : SlotSame (d.entered c) e := (post_frame _ _ _).slotSame
  have seq : e.seq = { s.seq with cue := some c } := by
    rw [posted.seq, State.entered, vacated.seq, waiting]
  have mayLoad : e.mayLoad = s.mayLoad := by
    rw [← vacated.mayLoad, State.mayLoad, State.mayLoad, State.inReset, State.inReset, posted.seq, posted.banks, posted.store,
      show e.resetting = d.resetting from (post_frame _ _ _).at .resetting]
    rfl
  have cue : e.seq.cue = some c := by rw [seq]
  have accepted : acceptCue c d = examineLoad e := acceptCue_eq c d
  rw [accepted] at same told
  have kept : KeepsNotices d (examineLoad e) :=
    ((seqUpdate_frame d _).keepsNotices.then (post_keepsNotices _ _ (d.entered c))).then (examineLoad_keeps e).keeps
  refine ⟨inFrame, ?_, ?_, fun hcount => ?_, fun hm => ?_, fun hm => ?_, ?_, fun h hc => ⟨fun ha => ?_, ?_⟩⟩
  · rw [same.activeBank, examineLoad_active, posted.activeBank]
    exact vacated.active
  · rw [same.otherFetches, examineLoad_others, posted.otherFetches]
    exact vacated.others
  · have empty : e.fetchCount .cue = 0 := (posted.fetchCount _).trans (vacated.count hcount)
    rw [same.fetchCount]
    by_cases hm : s.mayLoad = true
    · rw [hm, examineLoad_loads cue hw (by rw [mayLoad, hm]), requestFetch_added]
      have before : State.fetchCount { emptyStandby e with seq := { e.seq with cue := some { c with state := .loading } } } .cue = 0 :=
        (fetchCount_congr ((emptyStandby_frame e).at .store) .cue).trans empty
      rw [before]
      rfl
    · rw [Bool.eq_false_iff.2 hm, examineLoad_holds fun _ _ _ => by rw [mayLoad]; exact Bool.eq_false_iff.2 hm, empty]
      rfl
  · have held : examineLoad e = e := examineLoad_holds fun _ _ _ => by rw [mayLoad, hm]
    rw [held] at same
    exact ⟨same.seq.trans seq, fun ha => (same.banks.trans posted.banks).trans (vacated.banks ha),
      fun hl => (same.store.trans posted.store).trans (vacated.store hl)⟩
  · have begins := same.begins (examineLoad_begins cue hw (by rw [mayLoad, hm]))
    refine ⟨?_, begins.bank.1, begins.fetch⟩
    rw [same.seq, examineLoad_seq cue hw (by rw [mayLoad, hm]), seq]
  · refine told _ ?_
    have posts := ((vacated_posting c.origin s).then (show SameBut [.seq] d (d.entered c) from seqUpdate_frame d _).posting).post
      (.cueAccepted c.kind c.target c.slot c.boundary c.firmness) (some c.origin)
    have place : (d.entered c).grid.position = s.grid.position := congrArg Grid.position vacated.grid
    rw [place] at posts
    exact posts.kept (examineLoad_keeps e).keeps
  · rw [same.standbyBank]
    by_cases hm : e.mayLoad = true
    · exact (examineLoad_begins cue hw hm).bank.1
    · rw [examineLoad_holds fun _ _ _ => Bool.eq_false_iff.2 hm, posted.standbyBank]
      exact vacated.empties h hc ha
  · refine told _ (Posts.kept ?_ kept)
    have posts := displaceCue_posts h c.origin true s
    rw [hd, State.vacated, hc]
    exact posts

/-! ## A cancel (R130) -/

theorem cueCancelled_of {within : List Part → Prop} {h : Cue} {o : Origin} (hc : s.seq.cue = some h) (inFrame : within [.banks, .seq, .store])
    (same : SlotSame (displaceCue h o false s) t) (told : ∀ n, Posts n s (displaceCue h o false s) → Tells n s t) :
    CueCancelled within o h s t := by
  have vacated : Vacated s (displaceCue h o false s) := by
    rw [displaceCue_eq]
    exact (cueLeft_vacates hc).posted _ _
  have is (x : CueState) : s.cueIs x = (h.state == x) := by simp [State.cueIs, hc]
  refine ⟨inFrame, same.seq.trans vacated.seq, same.activeBank.trans vacated.active, same.otherFetches.trans vacated.others,
    fun hcount => (same.fetchCount _).trans (vacated.count hcount), fun ha => same.banks.trans (vacated.banks (by simpa [is] using ha)),
    fun hl => same.store.trans (vacated.store (by simpa [is] using hl)), fun ha => ?_, told _ (displaceCue_posts h o false s)⟩
  rw [same.standbyBank]
  exact vacated.empties h hc ha

end Sys2Proof.Machine
end

section
/-! PROOF. CUE, CANCEL_CUE and SETLIST_STEP (O43). -/

namespace Sys2Proof.Machine

variable {s t u : State} {p q : Port} {f : Frame}

/-! ## The request taken for service leaves the slot alone -/

theorem taking_fetches (s : State) (p : Port) (f : Frame) : (s.taking p f).fetches = s.fetches := by
  rw [State.fetches, taking_store]; rfl
theorem taking_cueIs (s : State) (p : Port) (f : Frame) (x : CueState) : (s.taking p f).cueIs x = s.cueIs x := by
  rw [State.cueIs, taking_seq]; rfl
theorem taking_mayLoad (s : State) (p : Port) (f : Frame) : (s.taking p f).mayLoad = s.mayLoad := by
  simp [State.mayLoad, State.inReset]
theorem taking_tells {n : Notice} : Tells n (s.taking p f) t ↔ Tells n s t := by
  refine forall_congr' fun q => ?_
  rw [taking_admits, taking_notices]

theorem taking_cueLeaves {h : Cue} {o : Origin} {r : Bool} : CueLeaves h o r (s.taking p f) t ↔ CueLeaves h o r s t := by
  simp [CueLeaves, taking_tells]

theorem taking_cueEnters {within : List Part → Prop} {c : Cue} : CueEnters within c (s.taking p f) t ↔ CueEnters within c s t := by
  simp [CueEnters, taking_cueLeaves, taking_tells, taking_cueIs, taking_mayLoad, State.otherFetches, State.fetchCount, taking_fetches]

theorem taking_cueCancelled {within : List Part → Prop} {h : Cue} {o : Origin} :
    CueCancelled within o h (s.taking p f) t ↔ CueCancelled within o h s t := by
  simp [CueCancelled, taking_cueLeaves, taking_cueIs, State.otherFetches, State.fetchCount, taking_fetches]

/-! ## A request's offer, and its cancel -/

theorem offered_enters {c : Cue} (ho : c.origin = .port p) (hw : c.state = .waiting)
    (h : ∀ x, s.seq.cue = some x → Yields x (.port p)) :
    CueEnters (fun l => Completed p f .ok l s (finish p (offered (offerCue c (s.taking p f))))) c s
      (finish p (offered (offerCue c (s.taking p f)))) := by
  set u := s.taking p f with hu
  have accepted : offerCue c u = (acceptCue c (u.vacated c.origin), true) :=
    offerCue_accepted fun x hx => by rw [ho]; exact h x (by rw [← hx, hu, taking_seq])
  have frame : SameBut cueParts u (offerCue c u).1 := offerCue_frame c u
  rw [offered, accepted] at *
  rw [← taking_cueEnters (f := f)]
  have ends := finish_ends p (acceptCue c (u.vacated c.origin)) .ok
  exact cueEnters_of hw ((finish_completed frame).mono) (finish_frame p _ .ok).slotSame fun n hn => hn.tells ends

theorem offered_held {c : Cue} {x : Cue} (ho : c.origin = .port p) (hx : s.seq.cue = some x) (h : ¬ Yields x (.port p)) :
    Completed p f .cueHeld [] s (finish p (offered (offerCue c (s.taking p f)))) := by
  have held : (s.taking p f).seq.cue = some x := by rw [taking_seq, hx]
  have refused : offerCue c (s.taking p f) = (s.taking p f, false) := by
    unfold offerCue
    rw [held]
    dsimp only
    rw [ho, if_neg (by rwa [yieldsTo_iff])]
  rw [offered, refused]
  exact refused_completed

/-! ## The fields of a CUE -/

theorem boundaryOf_decides (b : Byte) (bar : Nat) : Decides (boundaryOf b.toNat bar)
    [(3, decide (b.toNat ≤ 3)), (4, decide (b = 3 → 1 ≤ bar ∧ bar ≤ 9999))]
    (fun x => x = if b = 0 then .immediate else if b = 1 then .nextBeat else if b = 2 then .nextBar else .atBar bar) := by
  by_cases h : b.toNat ≤ 3
  · have cases : b = 0 ∨ b = 1 ∨ b = 2 ∨ b = 3 := by
      have : b.toNat = 0 ∨ b.toNat = 1 ∨ b.toNat = 2 ∨ b.toNat = 3 := by omega
      exact this.imp byte_eq_of_toNat <| Or.imp byte_eq_of_toNat <| Or.imp byte_eq_of_toNat byte_eq_of_toNat
    rw [decide_eq_true h]
    rcases cases with rfl | rfl | rfl | rfl
    · exact .skip rfl (.skip (by simp) (.done rfl))
    · exact .skip rfl (.skip (by simp) (.done rfl))
    · exact .skip rfl (.skip (by simp) (.done rfl))
    · refine .skip rfl ?_
      have bar3 : boundaryOf (3 : Byte).toNat bar = (field 4 (inRange bar 1 9999) >>= fun _ => .ok (.atBar bar)) := by
        show (if inRange bar 1 9999 then _ else _) = _
        cases inRange bar 1 9999 <;> rfl
      rw [bar3]
      exact .field (by simp [inRange]) fun _ => .done rfl
  · have unknown : ∀ v, 3 < v → boundaryOf v bar = .error 3
      | v + 4, _ => rfl
    rw [unknown _ (by omega), decide_eq_false h]
    exact ⟨fun n hn => congrArg Except.error (Option.some.inj hn), nofun⟩

theorem targetKindOf_isSome (v : Nat) : (targetKindOf v).isSome = decide (v ≤ 1) := by
  match v with
  | 0 | 1 => rfl
  | n + 2 => exact (decide_eq_false (by omega)).symm

theorem firmnessOf_isSome (v : Nat) : (firmnessOf v).isSome = decide (v ≤ 1) := by
  match v with
  | 0 | 1 => rfl
  | n + 2 => exact (decide_eq_false (by omega)).symm

theorem byte_eq_zero_iff (b : Byte) : b = 0 ↔ b.toNat = 0 := ⟨fun h => congrArg BitVec.toNat h, fun h => byte_eq_of_toNat h⟩

theorem targetKindOf_some {b : Byte} {k : TargetKind} : targetKindOf b.toNat = some k → k = if b = 0 then .setlist else .slot := by
  rw [if_congr (byte_eq_zero_iff b) rfl rfl]
  intro h
  match b.toNat, h with
  | 0, rfl | 1, rfl => rfl

theorem firmnessOf_some {b : Byte} {k : Firmness} : firmnessOf b.toNat = some k → k = if b = 0 then .soft else .firm := by
  rw [if_congr (byte_eq_zero_iff b) rfl rfl]
  intro h
  match b.toNat, h with
  | 0, rfl | 1, rfl => rfl

theorem cueFields_decides (s : State) (p : Port) (k x b : Byte) (bar : Nat) (f : Byte) :
    Decides (s.cueFields p k x b bar f) (s.cueChecks k x b bar f) (s.CueMeans p k x b bar f) := by
  refine Decides.pick (targetKindOf_isSome _) fun kind hkind => ?_
  obtain rfl := targetKindOf_some hkind
  refine Decides.pick (b := decide (x.toNat < if k = 0 then s.store.setlist.length else 64)) ?_ fun slot hslot => ?_
  · by_cases h : k = 0
    · rw [if_pos h, if_pos h]
      exact Bool.eq_iff_iff.2 (by simp [State.resolve])
    · rw [if_neg h, if_neg h]
      exact finOf_isSome ..
  · refine (boundaryOf_decides b bar).bind fun boundary _ hb => ?_
    refine Decides.pick (firmnessOf_isSome _) fun firmness hf => ?_
    refine .done ⟨rfl, rfl, ?_, hb, firmnessOf_some hf, rfl, rfl⟩
    by_cases h : k = 0
    · rw [if_pos h] at hslot ⊢
      exact hslot
    · rw [if_neg h] at hslot ⊢
      exact finOf_some hslot

/-! ## The target of a setlist step (R157) -/

/-- The entry a step goes from. -/
def State.stepFrom (s : State) : Option Nat :=
  match s.seq.cue with
  | some c => if c.kind = .setlist then some c.target else s.store.position
  | none => s.store.position

theorem stepTarget_of (s : State) (forward : Bool) : s.stepTarget forward = match s.stepFrom with
    | some b => if forward then some (b + 1) else if b = 0 then none else some (b - 1)
    | none => if forward then some 0 else if s.store.setlist.length = 0 then none else some (s.store.setlist.length - 1) := rfl

theorem stepEntry_of (s : State) (forward : Bool) : s.stepEntry forward = match s.stepFrom with
    | some e => if forward then (e : Int) + 1 else (e : Int) - 1
    | none => if forward then 0 else (s.store.setlist.length : Int) - 1 := by
  unfold State.stepEntry State.stepFrom
  cases s.seq.cue with
  | none => cases s.store.position <;> rfl
  | some c => by_cases h : c.kind = .setlist <;> cases s.store.position <;> simp [h]

theorem stepTarget_eq (s : State) (forward : Bool) : s.stepTarget forward =
    if s.stepEntry forward < 0 then none else some (s.stepEntry forward).toNat := by
  rw [stepTarget_of, stepEntry_of]
  cases s.stepFrom with
  | none =>
    cases forward with
    | true => rfl
    | false => dsimp only; split <;> split <;> simp_all
  | some b =>
    cases forward with
    | true => dsimp only; split <;> simp_all; omega
    | false => dsimp only; split <;> split <;> simp_all

theorem stepCue_none {forward : Bool} (o : Origin)
    (h : s.stepEntry forward < 0 ∨ (s.store.setlist.length : Int) ≤ s.stepEntry forward) : s.stepCue forward o = none := by
  rw [State.stepCue, stepTarget_eq]
  by_cases neg : s.stepEntry forward < 0
  · rw [if_pos neg]
  · rw [if_neg neg]
    show s.entryCue _ o = none
    rw [State.entryCue, List.getElem?_eq_none (by omega)]

theorem stepCue_some {forward : Bool} {k : Slot} (o : Origin) (h : 0 ≤ s.stepEntry forward)
    (hk : s.store.setlist[(s.stepEntry forward).toNat]? = some k) :
    s.stepCue forward o = some (s.softCue (s.stepEntry forward).toNat k o) := by
  rw [State.stepCue, stepTarget_eq, if_neg (by omega)]
  show s.entryCue _ o = _
  rw [State.entryCue, hk]
  rfl

theorem taking_stepCue (s : State) (p : Port) (f : Frame) (forward : Bool) (o : Origin) :
    (s.taking p f).stepCue forward o = s.stepCue forward o := by
  simp [State.stepCue, State.stepTarget, State.entryCue]

/-! ## The three requests -/

theorem cueRequest (p : Port) (tag kind target boundary : Byte) (bar : BitVec 16) (firm : Byte) (s : State) (d : List Byte) (h : s.serves p)
    (hd : d = [kind, target, boundary] ++ word2 bar ++ [firm]) : ∃ t, exec (.cue p tag kind target boundary bar firm) s = .next t ∧
    (∀ n, firstFailing (s.cueChecks kind target boundary bar.toNat firm) = some n → Completed p ⟨0x10, tag, d⟩ (.badField n) [] s t) ∧
    (firstFailing (s.cueChecks kind target boundary bar.toNat firm) = none → ∃ c, s.CueMeans p kind target boundary bar.toNat firm c ∧
      (∀ h, s.seq.cue = some h → ¬ Yields h (.port p) → Completed p ⟨0x10, tag, d⟩ .cueHeld [] s t) ∧
      ((∀ h, s.seq.cue = some h → Yields h (.port p)) → CueEnters (fun l => Completed p ⟨0x10, tag, d⟩ .ok l s t) c s t)) := by
  subst hd
  set f : Frame := ⟨0x10, tag, [kind, target, boundary] ++ word2 bar ++ [firm]⟩
  have run : exec (.cue p tag kind target boundary bar firm) s =
      .next (finish p (requestCue p kind target boundary bar.toNat firm (s.taking p f))) := by
    rw [← word16At_word2 bar]
    exact congrArg _ (arrive_known (k := .cue) h rfl)
  have fields : (s.taking p f).cueFields p kind target boundary bar.toNat firm = s.cueFields p kind target boundary bar.toNat firm := by
    simp [State.cueFields, State.resolve]
  have decides := cueFields_decides s p kind target boundary bar.toNat firm
  refine ⟨_, run, fun n hn => ?_, fun hn => ?_⟩
  · rw [requestCue, fields, decides.error hn]
    exact refused_completed
  · obtain ⟨c, hc, means⟩ := decides.ok hn
    rw [requestCue, fields, hc]
    exact ⟨c, means, fun x hx hy => offered_held means.origin hx hy, fun hy => offered_enters means.origin means.state hy⟩

theorem cancelCue_held {x : Cue} {o : Origin} (hx : s.seq.cue = some x) (h : ¬ Yields x o) : cancelCue o s = (s, true) := by
  unfold cancelCue
  rw [hx]
  exact if_neg (by rwa [yieldsTo_iff])

theorem cancelCue_yields {x : Cue} {o : Origin} (hx : s.seq.cue = some x) (h : Yields x o) :
    cancelCue o s = (displaceCue x o false s, false) := by
  unfold cancelCue
  rw [hx]
  exact if_pos ((yieldsTo_iff _ _).2 h)

theorem cancelCue_none (o : Origin) (h : s.seq.cue = none) : cancelCue o s = (s, false) := by
  unfold cancelCue
  rw [h]

theorem cancelCueRequest (p : Port) (tag : Byte) (s : State) (h : s.serves p) : ∃ t, exec (.cancelCue p tag) s = .next t ∧
    (s.seq.cue = none → Completed p ⟨0x11, tag, []⟩ .ok [] s t) ∧
    ∀ h, s.seq.cue = some h →
      (¬ Yields h (.port p) → Completed p ⟨0x11, tag, []⟩ .cueHeld [] s t) ∧
      (Yields h (.port p) → CueCancelled (fun l => Completed p ⟨0x11, tag, []⟩ .ok l s t) (.port p) h s t) := by
  set u := s.taking p ⟨0x11, tag, []⟩ with hu
  have run : exec (.cancelCue p tag) s = .next (finish p (requestCancel p u)) := congrArg _ (arrive_known (k := .cancelCue) h rfl)
  have slot : u.seq.cue = s.seq.cue := by rw [hu, taking_seq]
  refine ⟨_, run, fun hc => ?_, fun x hx => ⟨fun hy => ?_, fun hy => ?_⟩⟩
  · rw [requestCancel, cancelCue_none _ (slot.trans hc)]
    exact refused_completed
  · rw [requestCancel, cancelCue_held (slot.trans hx) hy]
    exact refused_completed
  · have displaced : requestCancel p u = (displaceCue x (.port p) false u, some .ok) := by
      rw [requestCancel, cancelCue_yields (slot.trans hx) hy]
      rfl
    rw [displaced, ← taking_cueCancelled (f := ⟨0x11, tag, []⟩)]
    have ends := finish_ends p (displaceCue x (.port p) false u) .ok
    exact cueCancelled_of (slot.trans hx) (finish_completed (displaceCue_frame x (.port p) false u)).mono (finish_frame p _ .ok).slotSame
      fun n hn => hn.tells ends

theorem setlistStepRequest (p : Port) (tag x : Byte) (s : State) (h : s.serves p) : ∃ t, exec (.setlistStep p tag x) s = .next t ∧
    (x ≠ 1 → x ≠ 0xFF → Completed p ⟨0x13, tag, [x]⟩ (.badField 1) [] s t) ∧
    (x = 1 ∨ x = 0xFF → ∀ n, n = s.stepEntry (x == 1) →
      (n < 0 ∨ (s.store.setlist.length : Int) ≤ n → Completed p ⟨0x13, tag, [x]⟩ .endOfList [] s t) ∧
      ∀ k, 0 ≤ n → s.store.setlist[n.toNat]? = some k →
        (∀ h, s.seq.cue = some h → ¬ Yields h (.port p) → Completed p ⟨0x13, tag, [x]⟩ .cueHeld [] s t) ∧
        ((∀ h, s.seq.cue = some h → Yields h (.port p)) →
          CueEnters (fun l => Completed p ⟨0x13, tag, [x]⟩ .ok l s t) (s.softCue n.toNat k (.port p)) s t)) := by
  have run : exec (.setlistStep p tag x) s = .next (finish p (requestStep p x (s.taking p ⟨0x13, tag, [x]⟩))) :=
    congrArg _ (arrive_known (k := .setlistStep) h rfl)
  refine ⟨_, run, fun h1 h2 => ?_, fun hx n hn => ?_⟩
  · rw [requestStep, directionOf, if_neg h1, if_neg h2]
    exact refused_completed
  · subst hn
    have direction : directionOf x = some (x == 1) := by rcases hx with rfl | rfl <;> rfl
    have stepped : requestStep p x (s.taking p ⟨0x13, tag, [x]⟩) = (match s.stepCue (x == 1) (.port p) with
        | none => refuse (s.taking p ⟨0x13, tag, [x]⟩) .endOfList
        | some c => offered (offerCue c (s.taking p ⟨0x13, tag, [x]⟩))) := by
      rw [← taking_stepCue s p ⟨0x13, tag, [x]⟩, requestStep, direction]
      rfl
    rw [stepped]
    refine ⟨fun out => ?_, fun k inside hk => ?_⟩
    · rw [stepCue_none _ out]
      exact refused_completed
    · rw [stepCue_some _ inside hk]
      exact ⟨fun c hc hy => offered_held rfl hc hy, fun hy => offered_enters rfl rfl hy⟩

/-- Settles O43: the fields of each request, and what the slot's rule makes of the cue. -/
theorem cueRequests : Obligations.CueRequests := ⟨cueRequest, cancelCueRequest, setlistStepRequest⟩

end Sys2Proof.Machine
end

section
/-! PROOF. What the arbiter's look is made of: a look at a collection, the end of a destination, a settle; and what of the banks, the cue slot
and the store stands through it. -/

namespace Sys2Proof.Machine

variable {s t u : State} {p q : Port}

/-- A work of the arbiter's look. -/
inductive ArbiterWork (s : State) : State → Prop where
  | serve {t : State} (h : SameBut [.layer, .notes, .bus] s t) : ArbiterWork s t
  | ended (n i : Nat) : ArbiterWork s (endDest n i s)
  | settled : ArbiterWork s (examineSettle s)

theorem SameBut.works {ps : List Part} (h : SameBut ps s t) (hs : ∀ q ∈ ps, q ∈ [Part.layer, .notes, .bus] := by decide) :
    Runs ArbiterWork s t := .single (.serve (h.mono hs))

theorem decideCandidate_works (c : Candidate) (s : State) : Runs ArbiterWork s (decideCandidate c s).1 := by
  unfold decideCandidate
  repeat' split
  all_goals first
    | exact .refl
    | exact .single (.ended _ _)
    | exact ((layerUpdate_frame s _).chain (flagDest_frame _ _ _ _) (rs := [.layer, .notes])).works.tail (.ended _ _)

theorem serveKeyOffs_works : ∀ (cs : List Candidate) (s : State), Runs ArbiterWork s (serveKeyOffs cs s).1
  | [], _ => .refl
  | c :: cs, s => by
    have h := decideCandidate_works c s
    unfold serveKeyOffs
    split
    · next h' => rw [h'] at h; exact h
    · next h' => rw [h'] at h; exact h.trans (serveKeyOffs_works cs _)

theorem serveKeyOns_works (s : State) : Runs ArbiterWork s (serveKeyOns s).1 := by
  have h : SameBut [.layer, .notes, .bus] s ((scanQueue (KeyOnItem.verdict s) s.layer.keyOns).dropped.foldl dropKeyOn
      { s with layer := { s.layer with keyOns := (scanQueue (KeyOnItem.verdict s) s.layer.keyOns).rest } }) :=
    (layerUpdate_frame s _).chain (SameBut.foldl dropKeyOn_frame _ _)
  unfold serveKeyOns
  dsimp only
  split
  · exact h.works
  · split
    · exact (h.chain (flagDest_frame _ _ _ _) (rs := [.layer, .notes, .bus])).works
    · exact h.works

theorem serveControls_works (s : State) : Runs ArbiterWork s (serveControls s).1 := by
  unfold serveControls
  dsimp only
  split <;> exact ((layerUpdate_frame s _).chain (discardAll_frame _ _) (rs := [.layer, .notes, .bus])).works

theorem serveLevels_works (s : State) : Runs ArbiterWork s (serveLevels s).1 := by
  unfold serveLevels
  dsimp only
  split <;> exact ((layerUpdate_frame s _).chain (discardAll_frame _ _) (rs := [.layer, .notes, .bus])).works

theorem orElseServe_works {a : State × Option Choice} {g : State → State × Option Choice} (ha : Runs ArbiterWork s a.1)
    (hg : ∀ x, Runs ArbiterWork x (g x).1) : Runs ArbiterWork s (orElseServe a g).1 := by
  obtain ⟨x, _ | c⟩ := a
  · exact ha.trans (hg x)
  · exact ha

theorem serveLive_works (s : State) : Runs ArbiterWork s (serveLive s).1 :=
  orElseServe_works (serveKeyOffs_works _ s) fun x =>
    orElseServe_works (serveKeyOns_works x) fun y => orElseServe_works (serveControls_works y) serveLevels_works

theorem serveChange_works (s : State) : Runs ArbiterWork s (serveChange s).1 := by
  unfold serveChange
  dsimp only
  split
  · exact .refl
  · exact ((busUpdate_frame s _).then (recordProgram_frame _ _ _)).works

theorem servePass_works (s : State) : Runs ArbiterWork s (servePass s).1 := by
  unfold servePass
  dsimp only
  split
  · exact ((busUpdate_frame s _).then (discardAll_frame _ _)).works
  · exact (((busUpdate_frame s _).then (discardAll_frame _ _)).then (recordProgram_frame _ _ _)).works

theorem choose_works (s : State) : Runs ArbiterWork s (choose s).1 := by
  refine orElseServe_works (serveRealtime_frame s).works fun x => ?_
  split
  · exact orElseServe_works (serveLive_works x) fun y => orElseServe_works (servePass_works y) serveChange_works
  · exact orElseServe_works (serveChange_works x) fun y => orElseServe_works (serveLive_works y) servePass_works
  · exact orElseServe_works (serveChange_works x) fun y => orElseServe_works (servePass_works y) serveLive_works
  · exact orElseServe_works (servePass_works x) fun y => orElseServe_works (serveLive_works y) serveChange_works
  · exact orElseServe_works (servePass_works x) fun y => orElseServe_works (serveChange_works y) serveLive_works
  · exact orElseServe_works (serveLive_works x) fun y => orElseServe_works (serveChange_works y) servePass_works

theorem choices_works : ∀ (n : Nat) (s : State), Runs ArbiterWork s (choices n s)
  | 0, _ => .refl
  | n + 1, s => by
    have h := choose_works s
    unfold choices
    split
    · next t c h' =>
      rw [h'] at h
      have begun : Runs ArbiterWork s (beginTransmission c.target c.message c.fromTake false t) :=
        h.trans (beginTransmission_frame _ _ _ _ _).works
      dsimp only
      split
      · exact begun.tail .settled
      · exact begun
    · next t h' =>
      rw [h'] at h
      split
      · exact h.trans (choices_works n t)
      · exact h

theorem arbitrate_works (s : State) : Runs ArbiterWork s (arbitrate s) := by
  unfold arbitrate
  split
  · exact .refl
  · exact choices_works _ s

/-! ## The ACTIVE bank stands -/

theorem activeBank_congr (h : t.banks = s.banks) : t.activeBank = s.activeBank := by
  rw [State.activeBank, State.bank.eq_def, h]; rfl

theorem post_activeBank (b : NoticeBody) (o : Option Origin) (s : State) : (post b o s).activeBank = s.activeBank :=
  activeBank_congr ((post_frame b o s).at .banks)

theorem bankFree_activeBank (n : Nat) (s : State) : (bankFree n s).activeBank = s.activeBank := by
  unfold bankFree
  split
  · exact (examineLoad_active _).trans (by rw [State.activeBank, State.bank.eq_def]; rfl)
  · rfl

theorem endDest_activeBank (n i : Nat) (s : State) : (endDest n i s).activeBank = s.activeBank :=
  (bankFree_activeBank _ _).trans (activeBank_congr rfl)

/-- The settle before its notice: the take's entries for the modules that are gone have left, and the phase is NONE (R140). -/
def settleCleared (s : State) : State :=
  { s with
    bus := { s.bus with pending := s.bus.pending.filter (fun e => !(e.kind == .take && (s.module e.module).mode.gone)) }
    seq := { s.seq with phase := .none, settle := .idle } }

/-- The settle but for the examination of the WAITING cue (R140). -/
def settleTold (s : State) : State :=
  let told := post (.changeSettled s.failedModules (since s.now s.seq.takeTime / 1000)) none (settleCleared s)
  { told with seq := { told.seq with takeModules := 0 } }

theorem settle_eq (s : State) : settle s = examineLoad (settleTold s) := rfl

theorem settleTold_banks (s : State) : (settleTold s).banks = s.banks :=
  (post_frame (.changeSettled s.failedModules (since s.now s.seq.takeTime / 1000)) none (settleCleared s)).at .banks

theorem examineSettle_activeBank (s : State) : (examineSettle s).activeBank = s.activeBank := by
  unfold examineSettle
  split
  · rw [settle_eq, examineLoad_active]
    exact activeBank_congr (settleTold_banks s)
  · rfl

theorem ArbiterWork.activeBank (h : ArbiterWork s t) : t.activeBank = s.activeBank := by
  cases h with
  | serve h => exact activeBank_congr (h.at .banks)
  | ended n i => exact endDest_activeBank n i s
  | settled => exact examineSettle_activeBank s

theorem arbitrate_activeBank (s : State) : (arbitrate s).activeBank = s.activeBank := by
  have runs := arbitrate_works s
  generalize arbitrate s = t at runs
  induction runs with
  | refl => rfl
  | tail _ h ih => exact h.activeBank.trans ih

/-! ## Where no bank is RETAINED and no take settles -/

/-- Nothing of the arbiter's look can end a change or free a bank. -/
structure AtRest (s : State) : Prop where
  retained : s.banks.retained = false
  phase : s.seq.phase = .none

theorem bankFree_atRest {n : Nat} (h : s.banks.retained = false) : bankFree n s = s := by
  unfold bankFree
  rw [if_neg (by simp [h])]

theorem examineSettle_atRest (h : s.seq.phase = .none) : examineSettle s = s := by
  unfold examineSettle State.settled
  rw [h]
  rfl

theorem ArbiterWork.atRest (h : ArbiterWork s t) (r : AtRest s) : SameBut [.layer, .notes, .bus] s t := by
  cases h with
  | serve h => exact h
  | ended n i =>
    have kept : s.banks.retained = false := r.retained
    unfold endDest
    dsimp only
    rw [bankFree_atRest (by exact kept)]
    exact (notesUpdate_frame s _).mono
  | settled =>
    rw [examineSettle_atRest r.phase]
    exact .refl _ s

/-- The arbiter's look then leaves the banks, the cue slot and the store alone. -/
theorem arbitrate_atRest (r : AtRest s) : SameBut [.layer, .notes, .bus] s (arbitrate s) := by
  have runs := arbitrate_works s
  generalize arbitrate s = t at runs
  induction runs with
  | refl => exact .refl _ s
  | tail _ h ih =>
    refine ih.then (h.atRest ⟨?_, ?_⟩)
    · rw [show _ = s.banks from ih.at .banks, r.retained]
    · rw [show _ = s.seq from ih.at .seq, r.phase]

/-! ## The ACTIVE bank at a close -/

theorem transmitAll_activeBank (s : State) : (transmitAll s).activeBank = s.activeBank := activeBank_congr ((transmitAll_frame s).at .banks)

theorem close_activeBank (s : State) : (close s).activeBank = s.activeBank := (transmitAll_activeBank _).trans (arbitrate_activeBank s)

theorem finish_activeBank (p : Port) (r : Served) : (finish p r).activeBank = r.1.activeBank := by
  obtain ⟨u, r | r⟩ := r
  · exact transmitAll_activeBank u
  · exact activeBank_congr ((finish_frame p u r).at .banks)

end Sys2Proof.Machine
end

section
/-! PROOF. What a request's or an event's work leaves to its close, whoever asked for it; and the tick: its tempo records, its receivers, the
first tick of a start. With them START (R6, R11, R19). -/

namespace Sys2Proof.Machine

variable {s t u x : State} {within : List Part → Prop}

/-! ## A work and its close -/

/-- The parts a work leaves to the port that asked for it and to the timebase. -/
abbrev askedParts : List Part := [.timebase, .serviceA, .serviceB]

/-- `t` is what the work from `x` to `u` comes to at its close; `within` names the frame of the one that asked. -/
structure Carries (within : List Part → Prop) (x u t : State) : Prop where
  ends : Ends u t
  frame : ∀ l : List Part, (∀ q ∈ l, q ∉ askedParts) → SameBut (l ++ noticeParts) x u → u.bus.transmission = x.bus.transmission → within l

theorem Carries.framed {l : List Part} (h : Carries within x u t) (f : SameBut (l ++ noticeParts) x u)
    (b : u.bus.transmission = x.bus.transmission) (hl : ∀ q ∈ l, q ∉ askedParts := by decide) : within l := h.frame l hl f b

/-- A work that leaves the bus. -/
theorem Carries.still {l : List Part} (h : Carries within x u t) (f : SameBut (l ++ noticeParts) x u)
    (hb : Part.bus ∉ l ++ noticeParts := by decide) (hl : ∀ q ∈ l, q ∉ askedParts := by decide) : within l :=
  h.frame l hl f (by rw [(f.at .bus hb : u.bus = x.bus)])

theorem Carries.tells {n : Notice} (h : Carries within x u t) (p : Posts n x u) : Tells n x t := p.tells h.ends

theorem noticeParts_unasked {l : List Part} (h : ∀ q ∈ l, q ∉ askedParts) : ∀ q ∈ l ++ noticeParts, q ∉ askedParts := fun q hq =>
  (List.mem_append.1 hq).elim (h q) fun hn => (by decide : ∀ q ∈ noticeParts, q ∉ askedParts) q hn

theorem mem_notices_ports {l : List Part} : ∀ q ∈ l ++ noticeParts, q ∈ l ++ portParts := fun q hq =>
  List.mem_append.2 ((List.mem_append.1 hq).imp id ((by decide : ∀ q ∈ noticeParts, q ∈ portParts) q))

/-- A request that closes with the arbiter's look. -/
theorem arbitrated_carries (p : Port) (f : Frame) (r : Reply) (s u : State) :
    Carries (fun l => ClosedRequest p f r l s (finish p (arbitrate u, some r))) (s.taking p f) u (finish p (arbitrate u, some r)) where
  ends := finish_arbitrate_ends p u r
  frame l hl same bus :=
    (finish_closed same (by rw [bus, taking_bus]) fun q hq hm => noticeParts_unasked hl q hq hm).mono mem_notices_ports

/-- A request that is carried out alone. -/
theorem finished_carries (p : Port) (f : Frame) (r : Reply) (s u : State) :
    Carries (fun l => Completed p f r l s (finish p (u, some r))) (s.taking p f) u (finish p (u, some r)) where
  ends := finish_ends p u r
  frame l hl same _ :=
    have out (q : Part) (hq : q ∈ askedParts) : q ∉ l ++ noticeParts := fun hm => noticeParts_unasked hl q hm hq
    (finish_completed same (out _ (by decide)) (out _ (by decide)) (out _ (by decide))).mono mem_notices_ports

/-- An event. -/
theorem close_carries (s u : State) : Carries (fun l => Closed l s (close u)) s u (close u) where
  ends := close_ends u
  frame _ _ same bus := close_closed same bus

/-- An expiry, which finds the count at the timer's due value. -/
theorem expired_carries (tm : Timer) (f : State → State) (s : State) :
    Carries (fun l => Closed l (s.expired tm) (expireAt tm (fun y => close (f y)) s)) (s.atCount tm.due) (f (s.atCount tm.due))
      (expireAt tm (fun y => close (f y)) s) where
  ends := expireAt_ends (f := fun y => close (f y)) (close_ends _)
  frame _ _ same bus := expired_close_closed same bus

/-! ## The tempo records at a tick (R19, R21) -/

/-- The grid after a ramp step. -/
def Grid.rampTaken (g : Grid) : Grid := { g.retuned (g.ramped g.position).1 with ramp := (g.ramped g.position).2 }

/-- The grid after a tick has counted for its correction record. -/
def Grid.correctionTaken (g : Grid) (target : Nat) : Grid :=
  { g.retuned (countedCorrection g.correction g.tempo target).1 with correction := (countedCorrection g.correction g.tempo target).2 }

theorem Grid.retuned_self (g : Grid) : g.retuned g.tempo = g := by simp [Grid.retuned]

theorem Position.isBeat_iff (p : Position) : p.isBeat = true ↔ p.tick = 0 := by simp [Position.isBeat]

theorem rampStep_grid (s : State) : (rampStep s).grid = s.grid.rampTaken := by
  unfold rampStep Grid.rampTaken Grid.ramped
  cases h : s.grid.ramp with
  | none => simp [Grid.retuned_self, ← h]
  | some r =>
    by_cases beat : s.grid.position.tick = 0
    · simp [beat, Position.isBeat_iff, setTempo_grid, Ramp.at]
    · simp [beat, Position.isBeat_iff, Grid.retuned_self, ← h]

theorem correctionTick_grid (s : State) : (correctionTick s).grid = s.grid.correctionTaken s.follower.tempo := by
  unfold correctionTick Grid.correctionTaken countedCorrection
  cases h : s.grid.correction with
  | none => simp [Grid.retuned_self, ← h]
  | some c =>
    dsimp only
    by_cases counting : c.counting = true
    · by_cases last : c.remaining ≤ 1
      · simp [counting, last, setTempo_grid, Grid.retuned]
      · simp [counting, last, Grid.retuned_self]
    · simp [counting, Grid.retuned_self]

theorem Grid.rampTaken_none {g : Grid} (h : g.ramp = none) : g.rampTaken = g := by
  simp [Grid.rampTaken, Grid.ramped, h, Grid.retuned_self]
  rw [← h]

theorem Grid.correctionTaken_none {g : Grid} (target : Nat) (h : g.correction = none) : g.correctionTaken target = g := by
  simp [Grid.correctionTaken, countedCorrection, h, Grid.retuned_self]
  rw [← h]

/-- The grid after a tick's receivers: a ramp steps but at a take's own tick, a correction counts a tick that ends an interval (R9). -/
def Grid.received (ofTake ends : Bool) (target : Nat) (g : Grid) : Grid :=
  if ends then (if ofTake then g else g.rampTaken).correctionTaken target else if ofTake then g else g.rampTaken

theorem tickReceivers_received (ofTake ends : Bool) (s : State) :
    (tickReceivers ofTake ends s).grid = s.grid.received ofTake ends s.follower.tempo := by
  have clicked := (clickTick_frame s).chain (clkoutTick_frame _) (rs := [.click, .bus])
  have ramped : (if ofTake then clkoutTick (clickTick s) else rampStep (clkoutTick (clickTick s))).grid =
      if ofTake then s.grid else s.grid.rampTaken := by
    split
    · exact clicked.at .grid
    · rw [rampStep_grid, (clicked.at .grid : _ = s.grid)]
  have tempo : (if ofTake then clkoutTick (clickTick s) else rampStep (clkoutTick (clickTick s))).follower = s.follower := by
    split
    · exact clicked.at .follower
    · exact (clicked.chain (rampStep_frame _) (rs := [.grid, .click, .bus])).at .follower
  have last : (tickReceivers ofTake ends s).grid = _ := (tickEnd_frame _).at .grid
  rw [last]
  unfold Grid.received
  split
  · rw [correctionTick_grid, ramped, tempo]
  · exact ramped

theorem tickReceivers_busSame (ofTake ends : Bool) (s : State) :
    (tickReceivers ofTake ends s).bus.transmission = s.bus.transmission := by
  have clicked : (if ofTake then clkoutTick (clickTick s) else rampStep (clkoutTick (clickTick s))).bus = (clickTick s).bus := by
    split
    · exact (clkoutTick_frame _).at .bus
    · exact ((clkoutTick_frame (clickTick s)).chain (rampStep_frame _) (rs := [.grid, .click])).at .bus
  have counted : (if ends then correctionTick (if ofTake then clkoutTick (clickTick s) else rampStep (clkoutTick (clickTick s)))
      else if ofTake then clkoutTick (clickTick s) else rampStep (clkoutTick (clickTick s))).bus = (clickTick s).bus := by
    split
    · rw [((correctionTick_frame _).at .bus : _ = _), clicked]
    · exact clicked
  have last : (tickReceivers ofTake ends s).bus = _ := (tickEnd_frame _).at .bus
  rw [last, counted, clickTick_transmission]

/-- A tick posts at most POSITION, to each port. -/
theorem positionNotice_posting (p : Port) (s : State) : Posting 1 s (positionNotice p s) := by
  unfold positionNotice
  split
  · exact postTo_posting _ _ _ s
  · exact (Posting.refl s).mono (Nat.zero_le 1)

theorem tickReceivers_posting (ofTake ends : Bool) (s : State) : Posting 2 s (tickReceivers ofTake ends s) := by
  have clicked := (clickTick_frame s).chain (clkoutTick_frame _) (rs := [.click, .bus, .grid])
  have ramped : SameBut [.click, .bus, .grid] s (if ofTake then clkoutTick (clickTick s) else rampStep (clkoutTick (clickTick s))) := by
    split
    · exact clicked
    · exact clicked.chain (rampStep_frame _)
  have counted : SameBut [.click, .bus, .grid] s (if ends then correctionTick (if ofTake then clkoutTick (clickTick s) else
      rampStep (clkoutTick (clickTick s))) else if ofTake then clkoutTick (clickTick s) else rampStep (clkoutTick (clickTick s))) := by
    split
    · exact ramped.chain (correctionTick_frame _)
    · exact ramped
  have flashed := counted.chain (flashTick_frame _) (rs := [.click, .bus, .grid, .board])
  exact (flashed.posting.then (positionNotice_posting .a _)).then (positionNotice_posting .b _)

theorem nextInterval_posting (s : State) : Posting 0 s (nextInterval s) := (nextInterval_frame s).posting

/-! ## The first tick of a start (R6, R34) -/

theorem firstTick_readied (ofTake : Bool) (s : State) :
    firstTick ofTake s = nextInterval (tickReceivers ofTake false s.readied) := rfl

theorem firstTick_ticked (ofTake : Bool) (s : State) :
    (firstTick ofTake s).grid = (({ s.grid with remainder := 0 } : Grid).received ofTake false s.follower.tempo).interval s.now := by
  have timebase : (tickReceivers ofTake false s.readied).timebase = s.timebase := (tickReceivers_frame ofTake false s.readied).at .timebase
  rw [firstTick_readied, nextInterval, tickReceivers_received, State.now, timebase]
  rfl

theorem firstTick_paceless (ofTake : Bool) (s : State) : (firstTick ofTake s).follower = { s.follower with paceTimer := none } :=
  ((tickReceivers_frame ofTake false s.readied).chain (nextInterval_frame _) (rs := tickParts)).at .follower

theorem firstTick_busSame (ofTake : Bool) (s : State) : (firstTick ofTake s).bus.transmission = s.bus.transmission :=
  tickReceivers_busSame ofTake false s.readied

theorem firstTick_posting (ofTake : Bool) (s : State) : Posting 2 s (firstTick ofTake s) :=
  ((readied_frame s).posting.then (tickReceivers_posting ofTake false _)).then (nextInterval_posting _)

/-- The interval after a first tick: T_g as the tick leaves it, and r = 0. -/
theorem Grid.first_interval (g : Grid) (now : Count) : ({ g with remainder := 0 }.received false false n).interval now = { g with
    tempo := (g.ramped g.position).1, ramp := (g.ramped g.position).2, fresh := false
    remainder := 25000000 - 25000000 / (g.ramped g.position).1 * (g.ramped g.position).1
    countdown := some ⟨now, 25000000 / (g.ramped g.position).1⟩ } := by
  simp [Grid.received, Grid.rampTaken, Grid.interval, Grid.retuned, Grid.ramped]

/-! ## START (R11, R15) -/

theorem enterTransport_posting (new : Transport) (o : Option Origin) (s : State) : Posting 1 s (enterTransport new o s) := by
  have entered : Posting 0 s { s with grid := { s.grid with transport := new } } := (gridUpdate_frame s _).posting
  exact (entered.then (post_posting _ _ _)).mono (by decide)

/-- TRANSPORT is posted with the position the grid then holds. -/
theorem enterTransport_posts (new : Transport) (o : Option Origin) (s : State) :
    Posts ⟨.transport new s.grid.position, false, s.grid.position, o⟩ s (enterTransport new o s) :=
  (gridUpdate_frame s { s.grid with transport := new }).posting.post _ o

/-- TRANSPORT joins the queue of a port with room for it. -/
theorem enterTransport_mem (new : Transport) (o : Option Origin) (s : State) (q : Port)
    (ha : (s.port q).admits (.transport new s.grid.position) = true) (hl : (s.port q).notices.length < 32) :
    ⟨.transport new s.grid.position, false, s.grid.position, o⟩ ∈ ((enterTransport new o s).port q).notices := by
  rw [enterTransport_port]
  exact ControlPort.mem_post ha hl

theorem startAt_grid (new : Transport) (p : Position) (o : Option Origin) (s : State) :
    (startAt new p o s).grid = { s.grid with
      transport := new, position := p, tempo := (s.grid.ramped p).1, ramp := (s.grid.ramped p).2, fresh := false
      remainder := 25000000 - 25000000 / (s.grid.ramped p).1 * (s.grid.ramped p).1
      countdown := some ⟨s.now, 25000000 / (s.grid.ramped p).1⟩ } := by
  have timebase : (enterTransport new o (setPosition p s)).timebase = s.timebase := (enterTransport_frame _ _ _).at .timebase
  rw [startAt, firstTick_ticked, enterTransport_grid, State.now, timebase]
  exact Grid.first_interval { s.grid with transport := new, position := p } _

theorem startAt_follower (new : Transport) (p : Position) (o : Option Origin) (s : State) :
    (startAt new p o s).follower = { s.follower with paceTimer := none } := by
  rw [startAt, firstTick_paceless, ((enterTransport_frame _ _ _).at .follower : (enterTransport new o (setPosition p s)).follower = _)]
  rfl

theorem startAt_busSame (new : Transport) (p : Position) (o : Option Origin) (s : State) :
    (startAt new p o s).bus.transmission = s.bus.transmission := by
  rw [startAt, firstTick_busSame, ((enterTransport_frame _ _ _).at .bus : (enterTransport new o (setPosition p s)).bus = _)]
  rfl

theorem startAt_posting (new : Transport) (p : Position) (o : Option Origin) (s : State) : Posting 3 s (startAt new p o s) := by
  have placed : Posting 0 s (setPosition p s) := (setPosition_frame p s).posting
  exact ((placed.then (enterTransport_posting new o _)).then (firstTick_posting false _)).mono (by decide)

theorem startAt_posts (new : Transport) (p : Position) (o : Option Origin) (s : State) :
    Posts ⟨.transport new p, false, p, o⟩ s (startAt new p o s) := by
  have placed : Posting 0 s (setPosition p s) := (setPosition_frame p s).posting
  have entered : Posting 0 s { setPosition p s with grid := { (setPosition p s).grid with transport := new } } :=
    (placed.then (gridUpdate_frame _ _).posting).mono (by decide)
  exact (entered.post (.transport new p) o).kept (firstTick_posting false _).keeps

/-- START in STOPPED outside FOLLOW. -/
theorem start_begins {o : Origin} (hs : s.grid.transport = .stopped) (hf : s.grid.source ≠ .follow) :
    start o s = startAt s.startPlace.1 s.startPlace.2 (some o) s := by
  unfold start State.startPlace
  rw [hs]
  dsimp only
  rw [if_neg hf]
  have top : s.grid.position = Position.top ↔ s.grid.position = ⟨1, 1, 0⟩ := Iff.rfl
  simp only [top]
  split <;> rfl

theorem start_pends {o : Origin} (hs : s.grid.transport = .stopped) (hf : s.grid.source = .follow) :
    start o s = enterTransport .startPending (some o) s := by
  unfold start
  rw [hs]
  exact if_pos hf

theorem start_other {o : Origin} (hs : s.grid.transport ≠ .stopped) : start o s = s := by
  unfold start
  split
  · next h => exact absurd h hs
  · rfl

theorem start_busSame (o : Origin) (s : State) : (start o s).bus.transmission = s.bus.transmission := by
  by_cases hs : s.grid.transport = .stopped
  · by_cases hf : s.grid.source = .follow
    · rw [start_pends hs hf, ((enterTransport_frame _ _ _).at .bus : (enterTransport _ _ s).bus = _)]
    · rw [start_begins hs hf, startAt_busSame]
  · rw [start_other hs]

/-- What a START does, whoever asks for it. -/
theorem start_done {o : Origin} (c : Carries within s (start o s) t) : StartDone within o s.now s t := by
  refine ⟨c.framed ((start_frame o s).mono (by decide)) (start_busSame o s), fun hs hf => ?_, fun hs hf => ?_, fun hs => ?_, fun hs => ?_⟩
  · rw [start_pends hs hf] at c
    have frame := enterTransport_frame .startPending (some o) s
    exact ⟨by rw [c.ends.grid, enterTransport_grid], by rw [c.ends.follower]; exact frame.at .follower,
      by rw [c.ends.click]; exact frame.at .click, by rw [c.ends.board]; exact frame.at .board⟩
  · rw [start_begins hs hf] at c
    exact ⟨by rw [c.ends.follower, startAt_follower], (s.grid.ramped s.startPlace.2).1, (s.grid.ramped s.startPlace.2).2, rfl,
      by rw [c.ends.grid, startAt_grid]⟩
  · rw [c.ends.grid]
    by_cases hf : s.grid.source = .follow
    · rw [start_pends hs hf] at c ⊢
      rw [enterTransport_grid]
      exact c.tells (enterTransport_posts _ _ s)
    · rw [start_begins hs hf] at c ⊢
      rw [startAt_grid]
      exact c.tells (startAt_posts _ _ _ s)
  · rw [start_other hs] at c
    exact ⟨c.ends.grid, c.ends.follower, c.ends.click, c.ends.board⟩

theorem taking_startPlace (s : State) (p : Port) (f : Frame) : (s.taking p f).startPlace = s.startPlace := by
  simp [State.startPlace]

/-- Settles O14. -/
theorem startRequest : Obligations.StartRequest := by
  intro p tag s h
  have run : exec (.start p tag) s = .next (finish p (arbitrate (start (.port p) (s.taking p ⟨0x01, tag, []⟩)), some .ok)) :=
    congrArg _ (arrive_known (k := .start) h rfl)
  have done := start_done (arbitrated_carries p ⟨0x01, tag, []⟩ .ok s (start (.port p) (s.taking p ⟨0x01, tag, []⟩)))
  refine ⟨_, run, ?_⟩
  unfold StartDone at done ⊢
  simpa only [taking_grid, taking_follower, taking_click, taking_board, taking_now, taking_startPlace, taking_tells] using done

end Sys2Proof.Machine
end

section
/-! PROOF. TOGGLE_ZONE (O36), EDIT_ZONE (O37) and PANIC (O38). -/

namespace Sys2Proof.Machine

variable {s t u : State} {p q : Port} {f : Frame}

/-! ## A zone's enabled state (R80) -/

theorem State.setBank_activeBank (b : Bank) (s : State) : (s.setBank s.banks.active b).activeBank = b := by
  rw [State.activeBank, State.setBank_active, State.setBank_bank_same]

/-- The ACTIVE bank of a zone set, its level slot apart. -/
theorem setZoneOn_activeBank (i : Nat) (on : Bool) (s : State) (hi : i < s.activeBank.enabled.length) :
    (setZoneOn i on s).activeBank = { s.activeBank with enabled := s.activeBank.enabled.set i on } := by
  have taken := s.setBank_activeBank { s.activeBank with enabled := s.activeBank.enabled.set i on }
  unfold setZoneOn
  split
  · next h =>
    have same : s.activeBank.enabled.set i on = s.activeBank.enabled := by
      rw [← h, Bank.zoneOn, List.getD_eq_getElem _ _ hi, List.set_getElem_self]
    rw [same]
  · dsimp only
    split
    · split
      · split <;> exact taken
      · exact taken
    · exact taken

theorem setZoneOn_layer {i : Nat} {z : Zone} (on : Bool) (hz : s.activeBank.zones[i]? = some z) :
    (setZoneOn i on s).layer = { s.layer with
      levels := if on = s.activeBank.zoneOn i then s.layer.levels
      else if on = false then s.layer.levels.set i none
      else match z.pedal with
        | some q => s.layer.levels.set i (some ((s.pedal q).output * z.level / 127))
        | none => s.layer.levels } := by
  have kept (b : Bank) : (s.setBank s.banks.active b).layer = s.layer := by cases s.banks.active <;> rfl
  unfold setZoneOn
  by_cases h : s.activeBank.zoneOn i = on
  · rw [if_pos h, if_pos h.symm]
  · rw [if_neg h, if_neg (show ¬ on = s.activeBank.zoneOn i from fun e => h e.symm)]
    cases on with
    | false => exact congrArg (fun y : Layer => { y with levels := y.levels.set i none }) (kept _)
    | true =>
      rw [if_pos rfl, if_neg (by decide), hz]
      dsimp only
      unfold State.entryLevel
      cases z.pedal with
      | none => exact kept _
      | some x => exact congrArg (fun y : Layer => { y with levels := y.levels.set i (some ((s.pedal x).output * z.level / 127)) }) (kept _)

theorem zoneSet_of {within : List Part → Prop} {i : Nat} {on : Bool} (inFrame : within [.banks, .layer])
    (hi : i < s.activeBank.enabled.length) (bank : t.activeBank = (setZoneOn i on s).activeBank)
    (layer : s.bus.transmission.isSome = true → t.layer = (setZoneOn i on s).layer) : ZoneSet within i on s t := by
  rw [setZoneOn_activeBank i on s hi] at bank
  refine ⟨inFrame, by rw [bank], ?_, fun j hj => ?_, fun busy z hz => (layer busy).trans (setZoneOn_layer on hz)⟩
  · rw [bank]
    show (s.activeBank.enabled.set i on).getD i false = on
    rw [List.getD_eq_getElem _ _ (by rwa [List.length_set]), List.getElem_set_self]
  · rw [bank]
    show (s.activeBank.enabled.set i on).getD j false = s.activeBank.enabled.getD j false
    rw [List.getD_eq_getElem?_getD, List.getD_eq_getElem?_getD, List.getElem?_set_ne (Ne.symm hj)]

theorem taking_pedal (s : State) (p : Port) (f : Frame) (x : PedalId) : (s.taking p f).pedal x = s.pedal x := by
  rw [State.pedal, taking_board]; rfl

theorem taking_zoneSet {within : List Part → Prop} {i : Nat} {on : Bool} : ZoneSet within i on (s.taking p f) t ↔ ZoneSet within i on s t := by
  simp [ZoneSet, taking_pedal]

/-- Settles O36: the two checks, and the zone's state set. -/
theorem toggleZoneRequest : Obligations.ToggleZoneRequest := by
  intro p tag i x s h same
  set f : Frame := ⟨0x21, tag, [i, x]⟩
  set u := s.taking p f with hu
  have run : exec (.toggleZone p tag i x) s = .next (finish p (requestToggle i x u)) := congrArg _ (arrive_known (k := .toggleZone) h rfl)
  have bank : u.activeBank = s.activeBank := taking_activeBank s p f
  refine ⟨_, run, fun hi => ?_, fun hi hx => ?_, fun on hi hx hon => ?_⟩
  · rw [requestToggle, if_pos (by rw [bank]; exact hi)]
    exact refused_completed
  · rw [requestToggle, if_neg (by rw [bank]; omega), onOffToggle_none _ hx]
    exact refused_completed
  · have set : requestToggle i x u = (arbitrate (setZoneOn i.toNat on u), some .ok) := by
      rw [requestToggle, if_neg (by rw [bank]; omega), onOffToggle_some _ hx, bank, ← hon]
      rfl
    have frame := setZoneOn_frame i.toNat on u
    have bus : (setZoneOn i.toNat on u).bus = s.bus := (frame.at .bus).trans (taking_bus s p f)
    rw [set, ← taking_zoneSet (p := p) (f := f)]
    refine zoneSet_of (finish_closed (u := setZoneOn i.toNat on u) frame (by rw [bus])) (by rw [bank, same]; exact hi) ?_ fun busy => ?_
    · exact (finish_activeBank p _).trans (arbitrate_activeBank _)
    · rw [taking_bus, ← bus] at busy
      exact ((finish_arbitrate_ends p (setZoneOn i.toNat on u) .ok).busy busy).at .layer

/-! ## EDIT_ZONE (R82, R83) -/

/-- What the fields of an EDIT_ZONE stand for: whether it names ACTIVE, the zone's index, and the zone of its record. -/
inductive EditMeans (bank i : Byte) (r : List Byte) : Bool × Nat × Zone → Prop where
  | of (z : Zone) (means : ZoneMeans r z) : EditMeans bank i r (decide (bank = 0), i.toNat, z)

theorem editBankOf_isSome (b : Byte) : (editBankOf b).isSome = decide (b.toNat ≤ 1) := by
  unfold editBankOf
  by_cases h0 : b = 0
  · rw [if_pos h0, h0]; rfl
  · by_cases h1 : b = 1
    · rw [if_neg h0, if_pos h1, h1]; rfl
    · rw [if_neg h0, if_neg h1]
      have n0 : b.toNat ≠ 0 := fun e => h0 (byte_eq_of_toNat e)
      have n1 : b.toNat ≠ 1 := fun e => h1 (byte_eq_of_toNat e)
      exact (decide_eq_false (by omega)).symm

theorem editBankOf_some {b : Byte} {x : Bool} (h : editBankOf b = some x) : x = decide (b = 0) := by
  unfold editBankOf at h
  split at h
  · next h0 => rw [decide_eq_true h0]; exact (Option.some.inj h).symm
  · next h0 =>
    split at h
    · rw [decide_eq_false h0]; exact (Option.some.inj h).symm
    · cases h

theorem editFields_decides (s : State) (bank i : Byte) (r : List Byte) :
    Decides (s.editFields bank i r) (s.editChecks bank i r) (EditMeans bank i r) := by
  refine Decides.pick (editBankOf_isSome _) fun active ha => ?_
  obtain rfl := editBankOf_some ha
  refine Decides.field ?_ fun _ => ?_
  · rw [← Bool.decide_and]
    simp
  · have zone := (parseZone_decides 2 r).bind (ds := []) (k := fun z => .ok (decide (bank = 0), i.toNat, z))
      (Q := EditMeans bank i r) fun z _ hz => .done (.of z hz)
    rw [List.append_nil] at zone
    exact zone

theorem taking_editFields (s : State) (p : Port) (f : Frame) (bank i : Byte) (r : List Byte) :
    (s.taking p f).editFields bank i r = s.editFields bank i r := by simp [State.editFields]

theorem putZone_of {b : Bank} {x : Song} (h : b.image = some x) (i : Nat) (z : Zone) : b.putZone i z = { b with
    image := some { x with zones := if i < x.zones.length then x.zones.set i z else x.zones ++ [z] }
    enabled := if i < b.enabled.length then b.enabled.set i z.enabled else b.enabled ++ [z.enabled] } := by
  unfold Bank.putZone
  rw [h]
  rfl

theorem loadingOrArmed_iff (s : State) : s.loadingOrArmed = true ↔ s.cueIs .loading = true ∨ s.cueIs .armed = true := by
  unfold State.loadingOrArmed State.cueIs
  cases s.seq.cue with
  | none => simp
  | some c => cases h : c.state <;> simp [h]

/-- An EDIT_ZONE whose fields are in order, by the bank it names. -/
theorem requestEdit_fields {bank i : Byte} {r : List Byte} {z : Zone} (h : u.editFields bank i r = .ok (decide (bank = 0), i.toNat, z)) :
    requestEdit bank i r u =
      if bank = 0 then if u.activeBank.image.isNone then refuse u .emptySlot else done (arbitrate (editActive i.toNat z u))
      else if u.loadingOrArmed || u.banks.retained then refuse u .busy
      else if u.standbyBank.image.isNone then refuse u .emptySlot
      else done (editStandby i.toNat z u) := by
  rw [requestEdit, h]
  show (if decide (bank = 0) = true then _ else _) = _
  exact if_congr (decide_eq_true_iff) rfl rfl

theorem editActive_activeBank (i : Nat) (z : Zone) (s : State) : (editActive i z s).activeBank = s.activeBank.putZone i z :=
  s.setBank_activeBank _

theorem editActive_layer (i : Nat) (z : Zone) (s : State) : (editActive i z s).layer = { s.layer with
    levels := putAt i (if z.enabled then s.entryLevel z else none) s.layer.levels } := by
  have kept : (s.setBank s.banks.active (s.activeBank.putZone i z)).layer = s.layer := by cases s.banks.active <;> rfl
  exact congrArg (fun y : Layer => { y with levels := putAt i (if z.enabled then s.entryLevel z else none) y.levels }) kept

theorem editStandby_banks (i : Nat) (z : Zone) (s : State) :
    (editStandby i z s).activeBank = s.activeBank ∧ (editStandby i z s).standbyBank = s.standbyBank.putZone i z := by
  unfold editStandby State.standbyBank State.activeBank
  rw [State.setBank_active, State.setBank_bank_same, setBank_bank_other]
  · exact ⟨rfl, rfl⟩
  · cases s.banks.active <;> decide

theorem standbyBank_congr (h : t.banks = s.banks) : t.standbyBank = s.standbyBank := by
  rw [State.standbyBank, State.bank.eq_def, h]; rfl

/-- Settles O37: the fields by their checks, and the record's zone in the bank named. -/
theorem editZoneRequest : Obligations.EditZoneRequest := by
  intro p tag bank i r s h hr
  set f : Frame := ⟨0x20, tag, bank :: i :: r⟩
  set u := s.taking p f with hu
  have long : (bank :: i :: r).length = 16 := by simp [hr]
  have run : exec (.editZone p tag bank i r) s = .next (finish p (requestEdit bank i r u)) :=
    congrArg _ (arrive_known (k := .editZone) h (by rw [long]; rfl))
  have decides := editFields_decides s bank i r
  have active : u.activeBank = s.activeBank := taking_activeBank s p f
  have standby : u.standbyBank = s.standbyBank := taking_standbyBank s p f
  refine ⟨_, run, fun n hn => ?_, fun hn hb => ?_, fun hn hb => ?_⟩
  · rw [requestEdit, taking_editFields, decides.error hn]
    exact refused_completed
  · obtain ⟨_, hz, z, means⟩ := decides.ok hn
    rw [requestEdit_fields (u := u) ((taking_editFields s p f bank i r).trans hz), if_pos hb, active]
    refine ⟨fun empty => ?_, fun x hx => ?_⟩
    · rw [if_pos (by rw [empty]; rfl)]
      exact refused_completed
    · rw [if_neg (by rw [hx]; exact nofun)]
      have frame := editActive_frame i.toNat z u
      have bus : (editActive i.toNat z u).bus = s.bus := (frame.at .bus).trans (taking_bus s p f)
      refine ⟨finish_closed (u := editActive i.toNat z u) frame (by rw [bus]), z, means, ?_, fun busy v hv => ?_⟩
      · rw [show ∀ y, finish p (done y) = finish p (y, some .ok) from fun _ => rfl, finish_activeBank, arbitrate_activeBank,
          editActive_activeBank, active]
        exact putZone_of hx _ _
      · rw [← bus] at busy
        refine (((finish_arbitrate_ends p (editActive i.toNat z u) .ok).busy busy).at .layer).trans ?_
        rw [editActive_layer, hu, taking_layer]
        have level : (if z.enabled then (s.taking p f).entryLevel z else none) = v := by
          rw [hv, State.entryLevel]
          cases z.pedal with
          | none => exact ite_self _
          | some q => dsimp only; rw [taking_pedal]; rfl
        rw [level]
        rfl
  · obtain ⟨_, hz, z, means⟩ := decides.ok hn
    have cue : u.loadingOrArmed = s.loadingOrArmed := by simp [State.loadingOrArmed, hu]
    have retained : u.banks.retained = s.banks.retained := by rw [hu, taking_banks]
    rw [requestEdit_fields (u := u) ((taking_editFields s p f bank i r).trans hz), if_neg (by rw [hb]; decide), cue, retained, standby]
    refine ⟨fun busy => ?_, fun hl ha hk => ⟨fun empty => ?_, fun x hx => ?_⟩⟩
    · have held : (s.loadingOrArmed || s.banks.retained) = true := by
        rw [Bool.or_eq_true, loadingOrArmed_iff, or_assoc]
        exact busy
      rw [if_pos held]
      exact refused_completed
    · have free : ¬ (s.loadingOrArmed || s.banks.retained) = true := by
        rw [Bool.or_eq_true, loadingOrArmed_iff, hl, ha, hk]
        decide
      rw [if_neg free, if_pos (by rw [empty]; rfl)]
      exact refused_completed
    · have free : ¬ (s.loadingOrArmed || s.banks.retained) = true := by
        rw [Bool.or_eq_true, loadingOrArmed_iff, hl, ha, hk]
        decide
      rw [if_neg free, if_neg (by rw [hx]; exact nofun)]
      have banks : (finish p (editStandby i.toNat z u, some .ok)).banks = (editStandby i.toNat z u).banks :=
        (finish_frame p (editStandby i.toNat z u) .ok).at .banks
      have edited := editStandby_banks i.toNat z u
      rw [active, standby] at edited
      refine ⟨finish_completed (editStandby_frame i.toNat z u), (activeBank_congr banks).trans edited.1, z, means, ?_⟩
      exact ((standbyBank_congr banks).trans edited.2).trans (putZone_of hx _ _)

/-! ## PANIC (R64, R85, R101, R112, R121) -/

theorem scanQueue_picks {α : Type} {judge : α → Verdict} {x : α} (hx : judge x = .send) : ∀ {l : List α}, x ∈ l →
    (scanQueue judge l).pick.isSome = true
  | y :: l, h => by
    unfold scanQueue
    cases hy : judge y with
    | send => rfl
    | wait => exact scanQueue_picks hx ((List.mem_cons.1 h).resolve_left fun e => by rw [← e, hx] at hy; cases hy)
    | drop => exact scanQueue_picks hx ((List.mem_cons.1 h).resolve_left fun e => by rw [← e, hx] at hy; cases hy)

theorem choose_of_realtime {c : Choice} (h : (serveRealtime s).2 = some c) : choose s = serveRealtime s := by
  unfold choose
  generalize serveRealtime s = r at h
  obtain ⟨x, o⟩ := r
  obtain rfl : o = some c := h
  rfl

/-- A choice of REALTIME leaves no part of a take. -/
theorem serveRealtime_takeLeft {c : Choice} (h : (serveRealtime s).2 = some c) : c.takeLeft = false := by
  unfold serveRealtime at h
  dsimp only at h
  split at h
  · cases h
  · exact (Option.some.inj h).symm ▸ rfl
  · exact (Option.some.inj h).symm ▸ rfl

theorem serveRealtime_serves (h : RealtimeItem.silence ∈ s.bus.realtime) : ∃ c, (serveRealtime s).2 = some c := by
  have picks := scanQueue_picks (judge := RealtimeItem.verdict s) (x := .silence) rfl h
  unfold serveRealtime
  dsimp only
  split
  · next none => rw [none] at picks; cases picks
  · exact ⟨_, rfl⟩
  · exact ⟨_, rfl⟩

/-- The arbiter's look on an idle bus where REALTIME yields a message. -/
theorem arbitrate_of_realtime {c : Choice} (hc : (serveRealtime s).2 = some c) (idle : s.bus.transmission = none)
    (hr : s.resetting ≠ .silence) : arbitrate s = beginTransmission c.target c.message c.fromTake false (serveRealtime s).1 := by
  unfold arbitrate
  rw [if_neg (by simp [idle, hr]), choices, choose_of_realtime hc]
  generalize hx : serveRealtime s = r at hc
  obtain ⟨x, o⟩ := r
  obtain rfl : o = some c := hc
  have left := serveRealtime_takeLeft (s := s) (c := c) (by rw [hx])
  show (if c.takeLeft = true then _ else _) = _
  rw [left]
  rfl

/-- A SILENCE that waits keeps the arbiter in REALTIME. -/
theorem arbitrate_silence_frame (h : RealtimeItem.silence ∈ s.bus.realtime) : SameBut [.bus] s (arbitrate s) := by
  by_cases run : s.bus.transmission = none ∧ s.resetting ≠ .silence
  · obtain ⟨c, hc⟩ := serveRealtime_serves h
    rw [arbitrate_of_realtime hc run.1 run.2]
    exact (serveRealtime_frame s).then (beginTransmission_frame _ _ _ _ _)
  · unfold arbitrate
    rw [if_pos]
    · exact .refl _ s
    · rw [Bool.or_eq_true, beq_iff_eq]
      by_contra no
      rw [not_or] at no
      exact run ⟨by simpa using no.1, no.2⟩

theorem serveRealtime_silence {l : List RealtimeItem} (h : s.bus.realtime = .silence :: l) :
    serveRealtime s = ({ s with bus := { s.bus with realtime := l } }, some ⟨none, .silence 15, false, false⟩) := by
  unfold serveRealtime
  rw [h]
  rfl

/-- The state of a panic before its entries are removed: the SILENCE placed, the queues and slots emptied, the sustains cleared. -/
def panicEmptied (s : State) : State :=
  let s1 := placeSilence s
  { s1 with layer := { s1.layer with keyOns := [], controls := [], levels := s1.layer.levels.map (fun _ => none) }
            links := s1.links.map KeyLink.atPanic }

theorem panicAll_eq (s : State) : panicAll s = arbitrate (panicNotes (panicEmptied s)) := rfl

theorem saturate_min (n : Nat) : saturate n = min 65535 n := by
  unfold saturate
  split <;> omega

theorem placeSilence_silencePlaced (s : State) : placeSilence s = { s with
    bus := { s.bus with realtime := s.silencePlaced.1 }, click := { s.click with drops := s.silencePlaced.2 } } := by
  unfold placeSilence State.silencePlaced
  rw [if_congr List.contains_iff_mem rfl rfl]
  split
  · rfl
  · split
    · rfl
    · rw [saturate_min]

theorem silencePlaced_mem (s : State) : RealtimeItem.silence ∈ s.silencePlaced.1 := by
  unfold State.silencePlaced
  split
  · next h => exact h
  · split <;> exact List.mem_cons_self

theorem panicEmptied_eq (s : State) : panicEmptied s = { s with
    bus := { s.bus with realtime := s.silencePlaced.1 }, click := { s.click with drops := s.silencePlaced.2 }
    layer := { s.layer with keyOns := [], controls := [], levels := s.layer.levels.map (fun _ => none) }
    links := s.links.map KeyLink.atPanic } := by
  unfold panicEmptied
  rw [placeSilence_silencePlaced]

theorem panicNotes_entries (s : State) : (panicNotes s).notes.entries = [] := by
  unfold panicNotes
  dsimp only
  split
  · rw [show ∀ x, (examineLoad x).notes = x.notes from fun x => (examineLoad_frame x).at .notes]
  · rfl

theorem examineLoad_retained (s : State) : (examineLoad s).banks.retained = s.banks.retained := by
  unfold examineLoad
  split
  · split
    · rw [show ∀ f x, (requestFetch f x).banks = x.banks from fun f x => (requestFetch_frame f x).at .banks]
      exact State.setBank_retained ..
    · rfl
  · rfl

theorem panicNotes_retained (s : State) : (panicNotes s).banks.retained = false := by
  unfold panicNotes
  dsimp only
  split
  · exact examineLoad_retained _
  · next h => exact Bool.eq_false_iff.2 h

/-- The cue that waits for the bank freed begins to load. -/
theorem panicNotes_begins {c : Cue} (hc : s.seq.cue = some c) (hw : c.state = .waiting) (hr : s.banks.retained = true)
    (hp : s.seq.phase = .none) (hb : s.store.busy = false) (hi : s.resetting = .none) : BeginsToLoad c (panicNotes s) := by
  unfold panicNotes
  rw [if_pos hr]
  refine examineLoad_begins hc hw ?_
  simp [State.mayLoad, hp, hb, State.inReset, hi]

theorem atPanic_link (k : KeyLink) : k.atPanic = { k with
    sustain := 0, footSustain := false
    event := match k.event with | some (.strike _ _ _) => none | x => x } := by
  unfold KeyLink.atPanic
  cases k.event with
  | none => rfl
  | some e => cases e <;> rfl

theorem getAt_map {α : Type} {n : Nat} (g : α → α) (v : Vector α n) (i : Fin n) : getAt (v.map g) i = g (getAt v i) :=
  Vector.getElem_map ..

theorem taking_silencePlaced (s : State) (p : Port) (f : Frame) : (s.taking p f).silencePlaced = s.silencePlaced := by
  simp [State.silencePlaced]

theorem taking_link (s : State) (p : Port) (f : Frame) (l : LinkId) : (s.taking p f).link l = s.link l := by
  rw [State.link, taking_links]; rfl

/-- Settles O38: what the panic empties and frees, the SILENCE it places, and the SILENCE sent at once on an idle bus. -/
theorem panicRequest : Obligations.PanicRequest := by
  intro p tag s h
  set f : Frame := ⟨0x22, tag, []⟩
  set u := s.taking p f with hu
  have run : exec (.panic p tag) s = .next (finish p (panicAll u, some .ok)) := congrArg _ (arrive_known (k := .panic) h rfl)
  set x := panicNotes (panicEmptied u) with hx
  have notesFrame : SameBut noteParts (panicEmptied u) x := panicNotes_frame _
  have silent : RealtimeItem.silence ∈ x.bus.realtime := by
    rw [show x.bus = (panicEmptied u).bus from notesFrame.at .bus, panicEmptied_eq]
    exact silencePlaced_mem u
  have looked : SameBut [.bus] x (panicAll u) := arbitrate_silence_frame silent
  have after : SameBut (.bus :: portParts) x (finish p (panicAll u, some .ok)) := looked.chain (finish_frame p _ .ok)
  have layer : (finish p (panicAll u, some .ok)).layer =
      { s.layer with keyOns := [], controls := [], levels := s.layer.levels.map (fun _ => none) } := by
    refine (after.at .layer).trans ((notesFrame.at .layer).trans ?_)
    rw [panicEmptied_eq, hu, taking_layer]
  have bus : x.bus = { s.bus with realtime := s.silencePlaced.1 } := by
    refine (notesFrame.at .bus).trans ?_
    rw [panicEmptied_eq, hu, taking_bus, taking_silencePlaced]
  refine ⟨_, run, (finish_completed (panicAll_frame u)).mono, ?_, by rw [layer], by rw [layer], ?_, ?_, ?_, ?_, fun l => ?_, fun q n hq => ?_⟩
  · rw [show (finish p (panicAll u, some .ok)).notes = x.notes from after.at .notes]
    exact panicNotes_entries _
  · rw [layer]
    intro v hv
    obtain ⟨_, _, rfl⟩ := List.mem_map.1 hv
    rfl
  · rw [layer]
    exact List.length_map _
  · rw [show (finish p (panicAll u, some .ok)).banks = x.banks from after.at .banks]
    exact panicNotes_retained _
  · intro c hc hw hr hp hb
    refine after.slotSame.begins (panicNotes_begins ?_ hw ?_ ?_ ?_ ?_) <;> rw [panicEmptied_eq]
    · simpa [hu] using hc
    · simpa [hu] using hr
    · simpa [hu] using hp
    · simpa [hu] using hb
    · simpa [hu] using h.2.1
  · refine Eq.trans ?_ (atPanic_link (s.link l))
    rw [← taking_link s p f l, State.link, show (finish p (panicAll u, some .ok)).links = x.links from after.at .links,
      show x.links = (panicEmptied u).links from notesFrame.at .links, panicEmptied_eq]
    exact getAt_map KeyLink.atPanic u.links l
  · obtain ⟨rfl, rfl⟩ : q = s.silencePlaced.1 ∧ n = s.silencePlaced.2 := ⟨congrArg Prod.fst hq, congrArg Prod.snd hq⟩
    refine ⟨?_, fun busy => ?_, fun idle head => ?_⟩
    · refine (after.at .click).trans ((notesFrame.at .click).trans ?_)
      rw [panicEmptied_eq, hu, taking_click, taking_silencePlaced]
    · refine ((finish_frame p (panicAll u) .ok).at .bus).trans ?_
      rw [panicAll_eq, arbitrate_busy _ (by rw [show (panicNotes (panicEmptied u)).bus = _ from bus]; exact busy)]
      exact bus
    · obtain ⟨l, hl⟩ : ∃ l, s.silencePlaced.1 = .silence :: l := by
        cases hs : s.silencePlaced.1 with
        | nil => rw [hs] at head; cases head
        | cons a l => rw [hs] at head; exact ⟨l, by rw [Option.some.inj head]⟩
      have served := serveRealtime_silence (s := x) (l := l) (by rw [bus]; exact hl)
      have begun := arbitrate_of_realtime (s := x) (c := ⟨none, .silence 15, false, false⟩) (by rw [served]) (by rw [bus]; exact idle)
        (by rw [show x.resetting = (panicEmptied u).resetting from notesFrame.at .resetting, panicEmptied_eq]
            simp [hu, h.2.1])
      have final : (finish p (panicAll u, some .ok)).bus =
          (beginTransmission none (.silence 15) false false { x with bus := { x.bus with realtime := l } }).bus := by
        refine ((finish_frame p (panicAll u) .ok).at .bus).trans ?_
        rw [panicAll_eq, ← hx, begun, served]
      rw [final, hl]
      refine ⟨rfl, rfl, _, rfl, rfl, rfl, ?_⟩
      show (x.bus.selection != .all) = _
      rw [bus]

end Sys2Proof.Machine
end

section
/-! PROOF. Marks: the checks of a MARK; the phase correction and the realignment that an accepted mark owes the grid, the start of a pending
transport, and what the Follower becomes in each of its states (R12, R24 to R35). -/

namespace Sys2Proof.Machine

variable {s t u x : State} {within : List Part → Prop}

/-! ## What a start mark makes of a pending grid (R12) -/

/-- Where a pending transport starts: at the held position, or at tick 0 of the following beat. -/
def Grid.startsAt (g : Grid) : Position := if g.position.tick = 0 then g.position else g.position.followingBeat g.meter

/-- The state of a pending grid that a start mark has started. -/
structure StartedBy (s u : State) : Prop where
  transport : u.grid.transport = .running
  tempo : u.grid.tempo = s.follower.tempo
  correction : u.grid.correction = none
  meter : u.grid.meter = s.grid.meter
  source : u.grid.source = s.grid.source
  position : u.grid.position = s.grid.startsAt
  countdown : u.grid.countdown = some ⟨s.now, 25000000 / s.follower.tempo⟩ ∨ u.grid.countdown = some ⟨s.now, 25000000 / s.grid.tempo⟩
  follower : u.follower = { s.follower with paceTimer := none }
  bus : u.bus.transmission = s.bus.transmission
  posting : Posting 3 s u
  posts : Posts ⟨.transport .running s.grid.startsAt, false, s.grid.startsAt, none⟩ s u

/-! ## Steering the grid (R31, R32) -/

theorem correctPhase_grid (e : Int) (s : State) : (correctPhase e s).grid = s.grid.steered s.follower.tempo e 0 := by
  have clamped : (if e < -24 then -24 else if 24 < e then 24 else e) = clampError e := rfl
  unfold correctPhase Grid.steered
  dsimp only
  rw [clamped]
  by_cases zero : clampError e = 0
  · simp [zero, setTempo_grid, Grid.retuned]
  · simp only [zero, if_false, setTempo_grid]
    rfl

theorem correctedBeat_eq (e : Int) (beat meter : Nat) :
    correctedBeat e beat meter = if 0 ≤ e then beat else if beat < meter then beat + 1 else 1 := rfl

/-- Realignment rewrites the beat where the corrected beat differs. -/
theorem steered_realign (g : Grid) (tempo : Nat) (e : Int) (b : Nat) : g.steered tempo e b = { g.steered tempo e 0 with
    position := if b ≠ 0 ∧ b ≤ g.meter ∧ g.transport.emits = true ∧ correctedBeat e g.position.beat g.meter ≠ b then
      { g.position with beat := rewrittenBeat e b g.meter } else g.position } := rfl

theorem realign_grid (e : Int) (b : Nat) (o : Option Origin) (s : State) : (realign e b o s).grid = { s.grid with
    position := if b ≠ 0 ∧ b ≤ s.grid.meter ∧ s.grid.transport.emits = true ∧ correctedBeat e s.grid.position.beat s.grid.meter ≠ b then
      { s.grid.position with beat := rewrittenBeat e b s.grid.meter } else s.grid.position } := by
  unfold realign
  dsimp only
  split
  · exact (post_frame _ _ _).at .grid
  · rfl

theorem realign_posting (e : Int) (b : Nat) (o : Option Origin) (s : State) : Posting 1 s (realign e b o s) := by
  unfold realign
  dsimp only
  split
  · exact (((setPosition_frame _ s).posting.then (post_posting _ _ _))).mono (by decide)
  · exact (Posting.refl s).mono (by decide)

theorem realign_posts {k : Nat} {e : Int} {b : Nat} {o : Option Origin} (h : Posting k s u) (moved : (realign e b o u).grid.position ≠ u.grid.position)
    (hk : k ≤ 8 := by decide) :
    Posts ⟨.barRealigned u.grid.position (realign e b o u).grid.position, false, (realign e b o u).grid.position, o⟩ s (realign e b o u) := by
  unfold realign at moved ⊢
  dsimp only at moved ⊢
  split at moved
  · next rewrites =>
    rw [if_pos rewrites, ((post_frame _ _ _).at .grid : (post _ _ _).grid = _)]
    exact (h.then (setPosition_frame _ u).posting).post _ o (by omega)
  · exact absurd rfl moved

/-- What an accepted mark owes a grid that is not pending. -/
def steer (e : Int) (b : Nat) (o : Option Origin) (s : State) : State := realign e b o (correctPhase e s)

theorem steer_frame (e : Int) (b : Nat) (o : Option Origin) (s : State) : SameBut [.grid, .noticesA, .noticesB] s (steer e b o s) :=
  (correctPhase_frame e s).chain (realign_frame e b o _)

theorem steer_grid (e : Int) (b : Nat) (o : Option Origin) (s : State) : (steer e b o s).grid = s.grid.steered s.follower.tempo e b := by
  rw [steer, realign_grid, correctPhase_grid, steered_realign (b := b)]
  rfl

theorem correctPhase_posting (e : Int) (s : State) : Posting 0 s (correctPhase e s) := (correctPhase_frame e s).posting

theorem correctPhase_position (e : Int) (s : State) : (correctPhase e s).grid.position = s.grid.position := by
  rw [correctPhase_grid]
  simp [Grid.steered]

theorem steer_posting (e : Int) (b : Nat) (o : Option Origin) (s : State) : Posting 1 s (steer e b o s) :=
  ((correctPhase_posting e s).then (realign_posting e b o _)).mono (by decide)

theorem steer_posts {e : Int} {b : Nat} {o : Option Origin} (h : Posting 0 x s) (moved : (steer e b o s).grid.position ≠ s.grid.position) :
    Posts ⟨.barRealigned s.grid.position (steer e b o s).grid.position, false, (steer e b o s).grid.position, o⟩ x (steer e b o s) := by
  have told := realign_posts (e := e) (b := b) (o := o) (h.then (correctPhase_posting e s)) (by rw [correctPhase_position]; exact moved)
  rw [correctPhase_position] at told
  exact told

theorem markWork_steers {e : Int} {b : Nat} {o : Option Origin} (h : s.grid.transport ≠ .startPending) : markWork e b o s = steer e b o s :=
  if_neg h

/-! ## The start of a pending transport (R12) -/

/-- The grid after a start at a mark, before the phase correction and the realignment. -/
theorem startAtMark_grid (h : s.grid.ramp = none) : (startAtMark s).grid = { s.grid with
    transport := .running, position := s.grid.startsAt, fresh := false
    remainder := 25000000 - 25000000 / s.grid.tempo * s.grid.tempo, countdown := some ⟨s.now, 25000000 / s.grid.tempo⟩ } := by
  have still (q : Position) : s.grid.ramped q = (s.grid.tempo, none) := by simp [Grid.ramped, h]
  rw [startAtMark, startAt_grid, still]
  simp [Grid.startsAt, ← h]

/-- The correction of a start mark, whose error is 0: T_g takes T_f, with no correction record. -/
theorem correctPhase_zero (s : State) : (correctPhase 0 s).grid = { s.grid.retuned s.follower.tempo with correction := none } := by
  rw [correctPhase_grid]
  rfl

/-- What an accepted mark owes a pending grid, but for the realignment: correction and start, in either order (log entry 6). -/
def startWork (s : State) : State :=
  if Config.followerBeforeStart s.draws then startAtMark (correctPhase 0 s.drew) else correctPhase 0 (startAtMark s.drew)

theorem markWork_starts {e : Int} {b : Nat} {o : Option Origin} (h : s.grid.transport = .startPending) :
    markWork e b o s = realign 0 b o (startWork s) := by
  unfold markWork startWork
  rw [if_pos h]
  split <;> rfl

theorem startAtMark_posting (s : State) : Posting 3 s (startAtMark s) := startAt_posting _ _ _ s

theorem startAtMark_posts (h : Posting 0 x s) :
    Posts ⟨.transport .running s.grid.startsAt, false, s.grid.startsAt, none⟩ x (startAtMark s) :=
  h.posts fun q ha hl => by
    have placed : Posting 0 s (setPosition s.grid.startsAt s) := (setPosition_frame _ s).posting
    have entered : (enterTransport .running none (setPosition s.grid.startsAt s)).port q =
        (s.port q).post ⟨.transport .running s.grid.startsAt, false, s.grid.startsAt, none⟩ := by
      rw [enterTransport_port]
      cases q <;> rfl
    refine (firstTick_posting false _).keeps q ?_
    show _ ∈ ((enterTransport .running none (setPosition s.grid.startsAt s)).port q).notices
    rw [entered]
    exact ControlPort.mem_post ha hl

theorem startWork_started (h : s.grid.ramp = none) : StartedBy s (startWork s) := by
  unfold startWork
  split
  · have ramp : (correctPhase 0 s.drew).grid.ramp = none := by rw [correctPhase_zero]; exact h
    have posted : Posting 0 s (correctPhase 0 s.drew) := ((drew_frame s).posting.then (correctPhase_posting 0 _))
    have follower : (correctPhase 0 s.drew).follower = s.follower := (correctPhase_frame 0 s.drew).at .follower
    have now : (correctPhase 0 s.drew).now = s.now := congrArg Timebase.count ((correctPhase_frame 0 s.drew).at .timebase)
    have place : (correctPhase 0 s.drew).grid.startsAt = s.grid.startsAt := by rw [correctPhase_zero]; rfl
    have told := startAtMark_posts posted
    rw [place] at told
    refine ⟨?_, ?_, ?_, ?_, ?_, ?_, .inl ?_, ?_, ?_, (posted.then (startAtMark_posting _)).mono (by decide), told⟩
    all_goals try rw [startAtMark_grid ramp]
    · rw [correctPhase_zero]; rfl
    · rw [correctPhase_zero]
    · rw [correctPhase_zero]; rfl
    · rw [correctPhase_zero]; rfl
    · exact place
    · rw [now, correctPhase_zero]; rfl
    · rw [startAtMark, startAt_follower, follower]
    · rw [startAtMark, startAt_busSame, ((correctPhase_frame 0 s.drew).at .bus : _ = s.drew.bus)]; rfl
  · have posted : Posting 0 s s.drew := (drew_frame s).posting
    have told := startAtMark_posts posted
    have follower : (startAtMark s.drew).follower = { s.follower with paceTimer := none } := startAt_follower ..
    refine ⟨?_, ?_, ?_, ?_, ?_, ?_, .inr ?_, ?_, ?_, ((posted.then (startAtMark_posting _)).then (correctPhase_posting 0 _)).mono (by decide),
      told.kept (correctPhase_posting 0 _).keeps⟩
    all_goals try rw [correctPhase_zero, startAtMark_grid (by exact h)]
    · rfl
    · simp only [Grid.retuned, follower]
    · rfl
    · rfl
    · rfl
    · rfl
    · rw [((correctPhase_frame 0 _).at .follower : _ = (startAtMark s.drew).follower), follower]
    · rw [((correctPhase_frame 0 _).at .bus : _ = (startAtMark s.drew).bus), startAtMark, startAt_busSame]; rfl

/-- A beat rewritten by a mark's beat-in-bar in a grid that emits ticks, the phase error being 0. -/
theorem realign_zero_position {b : Nat} {o : Option Origin} (h : s.grid.transport.emits = true) :
    (realign 0 b o s).grid.position =
      if b ≠ 0 ∧ b ≤ s.grid.meter then { s.grid.position with beat := b } else s.grid.position := by
  rw [realign_grid]
  simp only [correctedBeat, rewrittenBeat, Int.le_refl, if_true, h, true_and]
  by_cases within : b ≠ 0 ∧ b ≤ s.grid.meter
  · by_cases same : s.grid.position.beat = b
    · rw [if_neg fun all => all.2.2 same, if_pos within, ← same]
    · simp [within, same]
  · rw [if_neg within, if_neg fun all => within ⟨all.1, all.2.1⟩]

/-! ## An accepted mark, in the state the Follower takes (R28, R29, R34) -/

/-- The mark's work with the Follower `f`, the reference time and the holdover timer after it. -/
def acceptMark (e : Int) (b : Nat) (o : Option Origin) (f : Follower) (s : State) : State :=
  setFollower ((markWork e b o (setFollower f s)).follower.heldFrom s.now) (markWork e b o (setFollower f s))

theorem lock_eq (l : List Nat) (b : Nat) (o : Option Origin) (s : State) : lock l b o s =
    followNotice .seeking (acceptMark (phaseError s.grid.phase) b o { s.follower with
      state := .locked, tempo := clampTempo (roundHalfUp 18000000000 l.sum), outliers := 0, intervals := [], reference := some s.now } s) := rfl

theorem markAccepted_eq (i : Nat) (e : Int) (b : Nat) (o : Option Origin) (s : State) : markAccepted i e b o s =
    acceptMark e b o { s.follower with outliers := 0, tempo := s.filteredTempo i } s := rfl

theorem markHoldover_eq (b : Nat) (o : Option Origin) (s : State) : markHoldover b o s =
    if -24 ≤ phaseError s.grid.phase ∧ phaseError s.grid.phase ≤ 24 then
      followNotice .holdover (acceptMark (phaseError s.grid.phase) b o { s.follower with state := .locked, outliers := 0, paceTimer := none } s)
    else seekFromMark .holdover s := rfl

section
variable {e : Int} {b : Nat} {o : Option Origin} {f : Follower}

theorem acceptMark_steers (h : s.grid.transport ≠ .startPending) :
    SameBut [.grid, .follower, .noticesA, .noticesB] s (acceptMark e b o f s) ∧
    (acceptMark e b o f s).grid = s.grid.steered f.tempo e b ∧ (acceptMark e b o f s).follower = f.heldFrom s.now ∧
    Posting 1 s (acceptMark e b o f s) ∧
    ((acceptMark e b o f s).grid.position ≠ s.grid.position → Posts ⟨.barRealigned s.grid.position (acceptMark e b o f s).grid.position, false,
      (acceptMark e b o f s).grid.position, o⟩ s (acceptMark e b o f s)) := by
  have steers : markWork e b o (setFollower f s) = steer e b o (setFollower f s) := markWork_steers h
  have frame := steer_frame e b o (setFollower f s)
  unfold acceptMark
  rw [steers]
  have set : SameBut [.grid, .follower, .noticesA, .noticesB] s (setFollower f s) := (setFollower_frame f s).mono (by decide)
  refine ⟨(set.chain frame (rs := [.grid, .follower, .noticesA, .noticesB])).chain (setFollower_frame _ _), steer_grid e b o _, ?_, ?_, fun moved => ?_⟩
  · rw [(frame.at .follower : (steer e b o (setFollower f s)).follower = _)]
    rfl
  · exact (((setFollower_frame f s).posting.then (steer_posting e b o _)).then (setFollower_frame _ _).posting).mono (by decide)
  · exact (steer_posts (setFollower_frame f s).posting moved).kept (setFollower_frame _ _).keepsNotices

/-- A pending transport is started by an accepted mark. -/
theorem acceptMark_starts (h : s.grid.transport = .startPending) (hr : s.grid.ramp = none) :
    ∃ u, StartedBy (setFollower f s) u ∧ acceptMark e b o f s = setFollower (u.follower.heldFrom s.now) (realign 0 b o u) := by
  refine ⟨_, startWork_started (s := setFollower f s) hr, ?_⟩
  unfold acceptMark
  rw [markWork_starts (by exact h), ((realign_frame 0 b o _).at .follower : (realign 0 b o _).follower = _)]

theorem followNotice_keepsNotices (prev : FollowState) (s : State) : KeepsNotices s (followNotice prev s) := post_keepsNotices _ _ s

/-- FOLLOW_STATE for a lock, after at most eight other notices. -/
theorem followNotice_posts {k : Nat} {prev : FollowState} (h : Posting k s u) (hl : u.follower.state = .locked)
    (hs : u.grid.source = .follow) (hk : k ≤ 8 := by decide) :
    Posts ⟨.followState .locked prev u.follower.tempo .follow, false, u.grid.position, none⟩ s (followNotice prev u) := by
  have posts := h.post (.followState u.follower.state prev u.follower.tempo u.grid.source) none hk
  rw [hl, hs] at posts
  unfold followNotice
  rw [hl, hs]
  exact posts

/-- What an accepted mark has done in a grid that is not pending, whatever is told after it. -/
theorem accepted_done {v : State} (c : Carries within s v t) (h : s.grid.transport ≠ .startPending)
    (same : SameBut noticeParts (acceptMark e b o f s) v) (keeps : KeepsNotices (acceptMark e b o f s) v) :
    within [.grid, .follower] ∧ t.grid = s.grid.steered f.tempo e b ∧ RealignTold o s t ∧ t.follower = f.heldFrom s.now := by
  obtain ⟨frame, grid, follower, -, realigned⟩ := acceptMark_steers (e := e) (b := b) (o := o) (f := f) h
  have position : t.grid = (acceptMark e b o f s).grid := c.ends.grid.trans (same.at .grid)
  refine ⟨c.still (l := [.grid, .follower]) (frame.chain same), position.trans grid, fun moved => ?_,
    (c.ends.follower.trans (same.at .follower)).trans follower⟩
  rw [position] at moved ⊢
  exact c.tells ((realigned moved).kept keeps)

/-- FOLLOW_STATE after an accepted mark. -/
theorem accepted_told {prev : FollowState} (c : Carries within s (followNotice prev (acceptMark e b o f s)) t)
    (h : s.grid.transport ≠ .startPending) (hl : f.state = .locked) (hs : s.grid.source = .follow) :
    Tells ⟨.followState .locked prev f.tempo .follow, false, t.grid.position, none⟩ s t := by
  obtain ⟨-, grid, follower, posting, -⟩ := acceptMark_steers (e := e) (b := b) (o := o) (f := f) h
  have told := followNotice_posts (prev := prev) posting (by rw [follower]; exact hl) (by rw [grid]; exact hs)
  rw [follower] at told
  rw [c.ends.grid, ((followNotice_frame _ _).at .grid : (followNotice prev _).grid = _)]
  exact c.tells told

end

/-! ## SEEKING entered from a mark (R29, R34, R35) -/

theorem seekFromMark_done (prev : FollowState) (c : Carries within s (seekFromMark prev s) t) (hp : s.follower.state = prev)
    (hs : s.grid.source = .follow) : SeeksAfresh within s t := by
  have frame := seekFromMark_frame prev s
  refine ⟨c.still (l := [.follower]) frame, ?_, ?_⟩
  · rw [c.ends.follower]
    exact (followNotice_frame _ _).at .follower
  · have set : Posting 0 s (setFollower { s.follower.restartLock s.now with
        state := .seeking, outliers := 0, holdoverTimer := none, paceTimer := none } s) := (setFollower_frame _ s).posting
    have posts := set.post (.followState .seeking prev s.follower.tempo s.grid.source) none
    rw [← hp, hs] at posts
    refine c.tells ?_
    rw [← hs, ← hp] at *
    exact posts

/-! ## The marks by state -/

/-- A mark in SEEKING leaves the interval list `listAfter`, or locks where it holds three (R27). -/
theorem markSeeking_eq (b : Nat) (o : Option Origin) (s : State) : markSeeking b o s =
    if (s.follower.listAfter s.setup.tolerance s.now).length < 3 then
      setFollower { s.follower with reference := some s.now, intervals := s.follower.listAfter s.setup.tolerance s.now } s
    else lock (s.follower.listAfter s.setup.tolerance s.now) b o s := by
  unfold markSeeking
  dsimp only
  cases reference : s.follower.reference with
  | none => simp [Follower.listAfter, reference, Follower.restartLock]
  | some ref =>
    by_cases window : 200000 ≤ since s.now ref ∧ since s.now ref ≤ 2000000
    · have inside : inWindow (since s.now ref) = true := by simp [inWindow, window]
      cases last : s.follower.intervals.getLast? with
      | none => simp [Follower.listAfter, reference, last, window, inside]
      | some previous =>
        by_cases near : 100 * apart (since s.now ref) previous ≤ s.setup.tolerance * previous
        · simp [Follower.listAfter, reference, last, window, inside, near, withinTolerance]
        · simp [Follower.listAfter, reference, last, window, inside, near, withinTolerance, Follower.restartLock]
    · have outside : inWindow (since s.now ref) = false := by simp [inWindow] at window ⊢; omega
      simp [Follower.listAfter, reference, window, outside, Follower.restartLock]

/-- What a mark in SEEKING does. -/
theorem markSeeking_done {o : Option Origin} {b : Nat} (c : Carries within s (markSeeking b o s) t) (hs : s.grid.source = .follow) :
    SeekingMark within o b s t := by
  rw [markSeeking_eq] at c
  refine ⟨fun few => ?_, fun i1 i2 i3 three still => ?_⟩
  · rw [if_pos few] at c
    exact ⟨c.still (l := [.follower]) ((setFollower_frame _ s).mono (by decide)), c.ends.follower⟩
  · rw [if_neg (by simp [three]), lock_eq, three] at c
    have sum : [i1, i2, i3].sum = i1 + i2 + i3 := by simp [Nat.add_assoc]
    rw [sum] at c
    obtain ⟨frame, grid, realigned, follower⟩ := accepted_done c still (followNotice_frame _ _) (followNotice_keepsNotices _ _)
    have told := accepted_told c still rfl hs
    exact ⟨_, rfl, frame, grid, realigned, follower, told⟩

/-- The tests of R29 on a mark in LOCKED. -/
theorem markLocked_eq {ref : Count} (b : Nat) (o : Option Origin) (h : s.follower.reference = some ref) : markLocked b o s =
    if InTolerance s (since s.now ref) ∧ -48 ≤ phaseError s.grid.phase ∧ phaseError s.grid.phase ≤ 48 then
      acceptMark (phaseError s.grid.phase) b o { s.follower with outliers := 0, tempo := s.filteredTempo (since s.now ref) } s
    else markOutlier s := by
  simp only [markLocked, h, inWindow, withinTolerance, InTolerance, Bool.and_eq_true, decide_eq_true_eq, and_assoc, markAccepted_eq]

theorem markLocked_done {o : Option Origin} {b : Nat} {ref : Count} (c : Carries within s (markLocked b o s) t)
    (hs : s.grid.source = .follow) (hf : s.follower.state = .locked) (hr : s.follower.reference = some ref) : LockedMark within o b ref s t := by
  rintro i e rfl rfl
  rw [markLocked_eq b o hr] at c
  split
  · next accepted =>
    rw [if_pos accepted] at c
    intro still
    obtain ⟨frame, grid, realigned, follower⟩ := accepted_done c still (.refl _ _) (.refl _)
    exact ⟨s.filteredTempo (since s.now ref), rfl, frame, grid, realigned, follower⟩
  · next outlier =>
    rw [if_neg outlier, markOutlier] at c
    refine ⟨fun first => ?_, fun second => ?_⟩
    · rw [if_pos first] at c
      exact ⟨c.still (l := [.follower]) ((setFollower_frame _ s).mono (by decide)), c.ends.follower⟩
    · rw [if_neg second] at c
      exact seekFromMark_done _ c hf hs

theorem returning_done {o : Option Origin} {b : Nat} (c : Carries within s (takeMark b o s) t) (hs : s.grid.source = .follow) :
    ReturningMark within o b s t := by
  refine ⟨fun hold low high still => ?_, fun lost => ?_⟩
  · have accepts : takeMark b o s = followNotice .holdover (acceptMark (phaseError s.grid.phase) b o
        { s.follower with state := .locked, outliers := 0, paceTimer := none } s) := by
      unfold takeMark
      rw [hold]
      exact (markHoldover_eq b o s).trans (if_pos ⟨low, high⟩)
    rw [accepts] at c
    obtain ⟨frame, grid, realigned, follower⟩ := accepted_done c still (followNotice_frame _ _) (followNotice_keepsNotices _ _)
    have told := accepted_told c still rfl hs
    exact ⟨frame, grid, realigned, follower, told⟩
  · rcases lost with lost | ⟨hold, far⟩
    · have seeks : takeMark b o s = seekFromMark .lost s := by unfold takeMark; rw [lost]
      rw [seeks] at c
      exact seekFromMark_done _ c lost hs
    · have seeks : takeMark b o s = seekFromMark .holdover s := by
        unfold takeMark; rw [hold]; exact (markHoldover_eq b o s).trans (if_neg (by omega))
      rw [seeks] at c
      exact seekFromMark_done _ c hold hs

/-! ## Start marks (R12) -/

/-- What an accepted mark has done to a pending grid. -/
theorem accepted_started {v : State} {e : Int} {b : Nat} {o : Option Origin} {f : Follower} (c : Carries within s v t)
    (h : s.grid.transport = .startPending) (hr : s.grid.ramp = none)
    (same : SameBut noticeParts (acceptMark e b o f s) v) (keeps : KeepsNotices (acceptMark e b o f s) v)
    (frame : SameBut markParts s v) :
    within [.grid, .follower, .click, .bus, .board, .draws] ∧
    t.grid.transport = .running ∧ t.grid.tempo = f.tempo ∧ t.grid.correction = none ∧ t.grid.meter = s.grid.meter ∧
    (∃ q, q = (if s.grid.position.tick = 0 then s.grid.position else { s.grid.position with tick := 239 }.next s.grid.meter) ∧
      t.grid.position = (if b ≠ 0 ∧ b ≤ s.grid.meter then { q with beat := b } else q) ∧
      Tells ⟨.transport .running q, false, q, none⟩ s t ∧
      (t.grid.position ≠ q → Tells ⟨.barRealigned q t.grid.position, false, t.grid.position, o⟩ s t)) ∧
    (t.grid.countdown = some ⟨s.now, 25000000 / f.tempo⟩ ∨ t.grid.countdown = some ⟨s.now, 25000000 / s.grid.tempo⟩) ∧
    t.follower = { f with paceTimer := none }.heldFrom s.now := by
  obtain ⟨u, started, accepts⟩ := acceptMark_starts (e := e) (b := b) (o := o) (f := f) h hr
  have set : SameBut [.follower] (realign 0 b o u) (acceptMark e b o f s) := by rw [accepts]; exact setFollower_frame _ _
  have bus : v.bus.transmission = s.bus.transmission := by
    rw [(same.at .bus : v.bus = _), (set.at .bus : _ = (realign 0 b o u).bus), ((realign_frame 0 b o u).at .bus : _ = u.bus), started.bus]
    rfl
  have grid : t.grid = (realign 0 b o u).grid := (c.ends.grid.trans (same.at .grid)).trans (set.at .grid)
  have emits : u.grid.transport.emits = true := by rw [started.transport]; rfl
  have posting : Posting 3 s u := ((setFollower_frame f s).posting.then started.posting).mono (by decide)
  have later {n : Notice} (p : Posts n s (realign 0 b o u)) : Tells n s t := c.tells ((p.kept set.keepsNotices).kept keeps)
  have place : t.grid.position = if b ≠ 0 ∧ b ≤ s.grid.meter then { s.grid.startsAt with beat := b } else s.grid.startsAt := by
    rw [grid, realign_zero_position emits, started.meter, started.position]
    rfl
  refine ⟨c.framed (l := [.grid, .follower, .click, .bus, .board, .draws]) (frame.mono (by decide)) bus, ?_, ?_, ?_, ?_,
    ⟨s.grid.startsAt, rfl, place, later ?_, fun moved => later ?_⟩, ?_, ?_⟩
  · rw [grid, realign_grid]; exact started.transport
  · rw [grid, realign_grid]; exact started.tempo
  · rw [grid, realign_grid]; exact started.correction
  · rw [grid, realign_grid]; exact started.meter
  · have told : Posts ⟨.transport .running s.grid.startsAt, false, s.grid.startsAt, none⟩ s u := started.posts
    exact told.kept (realign_posting 0 b o u).keeps
  · have told := realign_posts (e := 0) (b := b) (o := o) posting (by rw [← grid, started.position]; exact moved)
    rw [started.position, ← grid] at told
    exact told
  · rw [grid, realign_grid]; exact started.countdown
  · rw [c.ends.follower, (same.at .follower : v.follower = _), accepts]
    show u.follower.heldFrom s.now = _
    rw [started.follower]
    rfl

/-- FOLLOW_STATE after a start mark that locks. -/
theorem started_told {prev : FollowState} {e : Int} {b : Nat} {o : Option Origin} {f : Follower}
    (c : Carries within s (followNotice prev (acceptMark e b o f s)) t) (h : s.grid.transport = .startPending) (hr : s.grid.ramp = none)
    (hl : f.state = .locked) (hs : s.grid.source = .follow) :
    Tells ⟨.followState .locked prev f.tempo .follow, false, t.grid.position, none⟩ s t := by
  obtain ⟨u, started, accepts⟩ := acceptMark_starts (e := e) (b := b) (o := o) (f := f) h hr
  have source : (acceptMark e b o f s).grid.source = .follow := by
    rw [accepts]
    show (realign 0 b o u).grid.source = _
    rw [realign_grid]
    exact started.source.trans hs
  have follower : (acceptMark e b o f s).follower = { f with paceTimer := none }.heldFrom s.now := by
    rw [accepts]
    show u.follower.heldFrom s.now = _
    rw [started.follower]
    rfl
  have posting : Posting 4 s (acceptMark e b o f s) := by
    rw [accepts]
    exact ((((setFollower_frame f s).posting.then started.posting).then (realign_posting 0 b o u)).then
      (setFollower_frame _ _).posting).mono (by decide)
  have told := followNotice_posts (prev := prev) posting (by rw [follower]; exact hl) source
  rw [follower] at told
  rw [c.ends.grid, ((followNotice_frame _ _).at .grid : (followNotice prev _).grid = _)]
  exact c.tells told

theorem phase_pending (h : s.grid.transport = .startPending) : phaseError s.grid.phase = 0 := by
  rw [Grid.phase, h]
  rfl

/-- Every start mark starts a pending transport. -/
theorem starting_done {o : Option Origin} {b : Nat} (c : Carries within s (takeMark b o s) t) (hs : s.grid.source = .follow) :
    StartsPending within o b s t := by
  intro pending ramp f start
  have frame := takeMark_frame b o s
  unfold IsStartMark at start
  cases state : s.follower.state with
  | off => rw [state] at start; exact start.elim
  | lost => rw [state] at start; exact start.elim
  | seeking =>
    rw [state] at start
    obtain ⟨l, rfl, three, rfl⟩ := start
    have locks : takeMark b o s = lock (s.follower.listAfter s.setup.tolerance s.now) b o s := by
      unfold takeMark
      rw [state]
      exact (markSeeking_eq b o s).trans (if_neg (by rw [three]; decide))
    rw [locks, lock_eq] at c frame
    have all := accepted_started c pending ramp (followNotice_frame _ _) (followNotice_keepsNotices _ _) frame
    have told := started_told c pending ramp rfl hs
    obtain ⟨parts, transport, tempo, correction, meter, place, countdown, follower⟩ := all
    exact ⟨parts, transport, tempo, correction, meter, place, countdown, follower, fun _ => told⟩
  | locked =>
    rw [state] at start
    obtain ⟨ref, reference, tolerance, rfl⟩ := start
    have accepts : takeMark b o s = acceptMark (phaseError s.grid.phase) b o
        { s.follower with outliers := 0, tempo := s.filteredTempo (since s.now ref) } s := by
      unfold takeMark
      rw [state]
      exact (markLocked_eq b o reference).trans (if_pos ⟨tolerance, by rw [phase_pending pending]; decide⟩)
    rw [accepts] at c frame
    have all := accepted_started c pending ramp (.refl _ _) (.refl _) frame
    obtain ⟨parts, transport, tempo, correction, meter, place, countdown, follower⟩ := all
    refine ⟨parts, transport, tempo, correction, meter, place, countdown, ?_, fun other => absurd rfl other⟩
    rw [follower]
    simp [Follower.heldFrom, Follower.period, state]
  | holdover =>
    rw [state] at start
    subst start
    have accepts : takeMark b o s = followNotice .holdover (acceptMark (phaseError s.grid.phase) b o
        { s.follower with state := .locked, outliers := 0, paceTimer := none } s) := by
      unfold takeMark
      rw [state]
      exact (markHoldover_eq b o s).trans (if_pos (by rw [phase_pending pending]; decide))
    rw [accepts] at c frame
    have all := accepted_started c pending ramp (followNotice_frame _ _) (followNotice_keepsNotices _ _) frame
    have told := started_told c pending ramp rfl hs
    obtain ⟨parts, transport, tempo, correction, meter, place, countdown, follower⟩ := all
    exact ⟨parts, transport, tempo, correction, meter, place, countdown, follower, fun _ => told⟩

/-- What a mark does in every state of the Follower, whoever makes it. -/
theorem mark_done {o : Option Origin} {b : Nat} (c : Carries within s (takeMark b o s) t) (hs : s.grid.source = .follow) :
    MarkTaken within o b s t := by
  refine ⟨fun seeking => ?_, fun locked ref reference => ?_, returning_done c hs, starting_done c hs⟩
  · rw [show takeMark b o s = markSeeking b o s by unfold takeMark; rw [seeking]] at c
    exact markSeeking_done c hs
  · rw [show takeMark b o s = markLocked b o s by unfold takeMark; rw [locked]] at c
    exact markLocked_done c hs locked reference

/-! ## MARK (R24) -/

theorem isPort_iff (x : FollowSource) (p : Port) : x.isPort p = true ↔ x = ofPort p := by
  cases x <;> cases p <;> decide

theorem exec_mark {p : Port} {s : State} (tag b : Byte) (h : s.serves p) :
    exec (.mark p tag b) s = .next (finish p (requestMark p b (s.taking p ⟨0x06, tag, [b]⟩))) :=
  congrArg _ (arrive_known (k := .mark) h rfl)

/-- A MARK that reaches the Follower. -/
theorem requestMark_heard {p : Port} {b : Byte} {s : State} (tag : Byte) (h : s.hears p b) :
    requestMark p b (s.taking p ⟨0x06, tag, [b]⟩) =
      (arbitrate (takeMark b.toNat (some (.port p)) (s.taking p ⟨0x06, tag, [b]⟩)), some .ok) := by
  obtain ⟨-, small, source, port⟩ := h
  rw [requestMark, if_neg (by omega), if_neg (by rw [taking_grid]; simp [source]),
    if_pos (by rw [taking_setup]; exact (isPort_iff _ _).2 port)]
  rfl

theorem takeMark_busSame (b : Nat) (o : Option Origin) (s : State) : (takeMark b o s).bus.transmission = s.bus.transmission := by
  have started (x : State) : (startWork x).bus.transmission = x.bus.transmission := by
    unfold startWork
    split
    · rw [startAtMark, startAt_busSame, ((correctPhase_frame 0 _).at .bus : _ = x.drew.bus)]
      rfl
    · rw [((correctPhase_frame 0 _).at .bus : _ = (startAtMark x.drew).bus), startAtMark, startAt_busSame]
      rfl
  have accepted (e : Int) (f : Follower) : (acceptMark e b o f s).bus.transmission = s.bus.transmission := by
    show (markWork e b o (setFollower f s)).bus.transmission = _
    by_cases pending : (setFollower f s).grid.transport = .startPending
    · rw [markWork_starts pending, ((realign_frame 0 b o _).at .bus : _ = (startWork _).bus), started]
      rfl
    · rw [markWork_steers pending, ((steer_frame e b o _).at .bus : _ = (setFollower f s).bus)]
      rfl
  have told (prev : FollowState) (x : State) : (followNotice prev x).bus = x.bus := (followNotice_frame prev x).at .bus
  have sought (prev : FollowState) : (seekFromMark prev s).bus = s.bus := (seekFromMark_frame prev s).at .bus
  unfold takeMark
  split
  · rfl
  · rw [markSeeking_eq]
    split
    · rfl
    · rw [lock_eq, told, accepted]
  · have outlier : (markOutlier s).bus = s.bus := by
      unfold markOutlier
      split
      · rfl
      · exact sought _
    cases reference : s.follower.reference with
    | none => rw [show markLocked b o s = markOutlier s by simp [markLocked, reference], outlier]
    | some ref =>
      rw [markLocked_eq b o reference]
      split
      · exact accepted _ _
      · rw [outlier]
  · rw [markHoldover_eq]
    split
    · rw [told, accepted]
    · rw [sought]
  · rw [sought]

/-- Settles O19: the checks of a MARK are those of `requestMark`, in its order. -/
theorem markChecks : Obligations.MarkChecks := by
  intro p tag b s h
  refine ⟨_, exec_mark tag b h, fun large => ?_, fun small wrong => ?_, fun small source port => ?_⟩
  · rw [requestMark, if_pos large]
    exact refused_completed
  · rw [requestMark, if_neg (by omega)]
    by_cases source : s.grid.source = .follow
    · rw [if_neg (by rw [taking_grid]; simp [source]), if_neg (by
        rw [taking_setup, isPort_iff]; exact wrong.resolve_left (fun n => n source))]
      exact refused_completed
    · rw [if_pos (by rw [taking_grid]; exact source)]
      exact refused_completed
  · rw [requestMark_heard tag ⟨h, small, source, port⟩]
    exact (arbitrated_carries p ⟨0x06, tag, [b]⟩ .ok s _).framed (l := [.grid, .follower, .click, .bus, .board, .draws])
      ((takeMark_frame _ _ _).mono (by decide)) (takeMark_busSame _ _ _)

theorem taking_filteredTempo (s : State) (p : Port) (f : Frame) (i : Nat) : (s.taking p f).filteredTempo i = s.filteredTempo i := by
  simp [State.filteredTempo]

/-- What a MARK that reaches the Follower does. -/
theorem mark_request {p : Port} {b : Byte} {s : State} (tag : Byte) (h : s.hears p b) : ∃ t, exec (.mark p tag b) s = .next t ∧
    MarkTaken (fun l => ClosedRequest p ⟨0x06, tag, [b]⟩ .ok l s t) (some (.port p)) b.toNat s t := by
  have done := mark_done (arbitrated_carries p ⟨0x06, tag, [b]⟩ .ok s (takeMark b.toNat (some (.port p)) (s.taking p ⟨0x06, tag, [b]⟩)))
    (by rw [taking_grid]; exact h.2.2.1)
  refine ⟨_, (exec_mark tag b h.1).trans (by rw [requestMark_heard tag h]), ?_⟩
  unfold MarkTaken SeekingMark LockedMark ReturningMark StartsPending SeeksAfresh RealignTold IsStartMark InTolerance at done ⊢
  simpa only [taking_grid, taking_follower, taking_setup, taking_now, taking_filteredTempo, taking_tells] using done

/-- Settles O20: a mark taken in SEEKING. -/
theorem markInSeeking : Obligations.MarkInSeeking := by
  intro p tag b s h seeking
  obtain ⟨t, run, done, -⟩ := mark_request tag h
  exact ⟨t, run, done seeking⟩

/-- Settles O21: a mark taken in LOCKED. -/
theorem markInLocked : Obligations.MarkInLocked := by
  intro p tag b s ref h locked reference
  obtain ⟨t, run, -, done, -⟩ := mark_request tag h
  exact ⟨t, run, done locked ref reference⟩

/-- Settles O22: a start mark is an accepted mark of a pending grid. -/
theorem startMark : Obligations.StartMark := by
  intro p tag b s f h _ _ _
  obtain ⟨t, run, -, -, -, done⟩ := mark_request tag h
  exact ⟨t, run, done⟩

/-- Settles O23: a mark taken in HOLDOVER or LOST. -/
theorem markInHoldoverOrLost : Obligations.MarkInHoldoverOrLost := by
  intro p tag b s h _
  obtain ⟨t, run, -, -, done, -⟩ := mark_request tag h
  exact ⟨t, run, done⟩

end Sys2Proof.Machine
end

section
/-! PROOF. The timebase: power-up (O11), crystal loss (O12). -/

namespace Sys2Proof.Machine

variable {s t u : State} {p q : Port}

/-! ## A timer that is due leaves the timebase (R1, R3) -/

theorem expireAt_timebase {tm : Timer} {f : State → State} (due : tm.elapsed s.now = true) (hf : ∀ x, (f x).timebase = x.timebase) :
    (expireAt tm f s).timebase = s.timebase := by
  rw [running_of_elapsed due]
  show { (f (s.atCount tm.due)).timebase with count := s.timebase.count } = s.timebase
  rw [hf]
  rfl

theorem mem_timed {o : Option Timer} {e : Instr} {te : Timer × Instr} : te ∈ timed o e ↔ ∃ x, o = some x ∧ te = (x, e) := by
  cases o <;> simp [timed]

/-- The expiries of the timers listed, where they are due, leave the count and the source. -/
structure ExpiriesKeep (s : State) (l : List (Timer × Instr)) : Prop where
  keep : ∀ te ∈ l, te.1.elapsed s.now = true → (runTimer te.2 s).timebase = s.timebase

theorem ExpiriesKeep.append {l m : List (Timer × Instr)} (h : ExpiriesKeep s l) (k : ExpiriesKeep s m) : ExpiriesKeep s (l ++ m) :=
  ⟨fun te hte => (List.mem_append.1 hte).elim (h.keep te) (k.keep te)⟩

theorem ExpiriesKeep.flatMap {α : Type} {xs : List α} {g : α → List (Timer × Instr)} (h : ∀ x, ExpiriesKeep s (g x)) :
    ExpiriesKeep s (xs.flatMap g) := by
  refine ⟨fun te hte => ?_⟩
  obtain ⟨x, -, hx⟩ := List.mem_flatMap.1 hte
  exact (h x).keep te hx

theorem timed_keep {o : Option Timer} {e : Instr} {f : State → State} (on : ∀ x, o = some x → runTimer e s = expireAt x f s)
    (hf : ∀ x, (f x).timebase = x.timebase) : ExpiriesKeep s (timed o e) := by
  refine ⟨fun te h due => ?_⟩
  obtain ⟨x, hx, rfl⟩ := mem_timed.1 h
  rw [on x hx]
  exact expireAt_timebase due hf

/-- A work that closes with the arbiter's look leaves the timebase. -/
theorem closing_timebase {ps : List Part} {f : State → State} (hf : ∀ x, SameBut ps x (f x)) (hp : Part.timebase ∉ ps := by decide) (x : State) :
    (close (f x)).timebase = x.timebase := ((close_frame _).at .timebase).trans ((hf x).at .timebase hp)

theorem busEvents_keep (s : State) : ExpiriesKeep s s.busEvents := by
  refine ⟨fun te h due => ?_⟩
  unfold State.busEvents at h
  split at h
  · next tr htr =>
    obtain rfl := List.mem_singleton.1 h
    have run : runTimer (if tr.forRestart = true then .restartSilenceEnd else .endOfTransmission) s =
        if tr.forRestart then silenceEnd tr s else expireAt tr.timer (messageEnd tr) s := by
      split <;> rw [runTimer, onTransmission, htr] <;> simp_all
    show (runTimer (if tr.forRestart = true then _ else _) s).timebase = _
    rw [run]
    split
    · exact expireAt_timebase due fun x => ((transmitAll_frame _).at .timebase).trans ((restartReset_frame x).at .timebase)
    · exact expireAt_timebase due fun x => (messageEnd_frame tr x).at .timebase
  · cases h

theorem settleEvents_keep (s : State) : ExpiriesKeep s s.settleEvents := by
  refine ⟨fun te h due => ?_⟩
  unfold State.settleEvents at h
  split at h
  · next tm htm =>
    obtain rfl := List.mem_singleton.1 h
    rw [runTimer, onSettleTimer, htm]
    exact expireAt_timebase due (closing_timebase (f := fun x => examineSettle { x with seq := { x.seq with settle := .expired } })
      fun x => (seqUpdate_frame x _).chain (examineSettle_frame _) (rs := closeParts))
  · cases h

theorem opEvents_keep (s : State) : ExpiriesKeep s s.opEvents := by
  unfold State.opEvents
  split
  · next op hop =>
    split
    · next k hk =>
      exact timed_keep (fun x hx => by simp only [runTimer, onWord, hop, hk, opExpiry, hx]) (closing_timebase (wordEnd_frame op k))
    · next hk => exact timed_keep (fun x hx => by simp only [runTimer, onMarker, hop, hk, opExpiry, hx]) (closing_timebase (markerEnd_frame op))
    · exact ⟨nofun⟩
  · exact ⟨nofun⟩

theorem holdEvents_keep (f : SwitchId) (s : State) : ExpiriesKeep s (holdEvents f (s.switch f)) := by
  unfold holdEvents
  split
  · next down => exact timed_keep (fun x hx => by rw [runTimer, onHoldTimer, down, hx]) (closing_timebase (holdExpired_frame f))
  · exact ⟨nofun⟩

theorem portEvents_keep (p : Port) (s : State) : ExpiriesKeep s (portEvents p (s.port p)) := by
  refine ExpiriesKeep.append ?_ ⟨fun te h due => ?_⟩
  · exact timed_keep (fun x hx => by rw [runTimer, onGapTimer, hx])
      fun x => ((transmitAll_frame _).at .timebase).trans ((discardFrame_frame p .gap x).at .timebase)
  · obtain ⟨x, hx, rfl⟩ := mem_timed.1 h
    obtain ⟨fr, hfr, rfl⟩ := Option.map_eq_some_iff.1 hx
    rw [runTimer, onFrameTimer, hfr]
    exact expireAt_timebase due fun x => (frameSent_frame p fr x).at .timebase

theorem gridTimers_keep (s : State) : ExpiriesKeep s (timed s.grid.countdown .intervalCountdownExpiry ++
    timed s.follower.holdoverTimer .holdoverTimerExpiry ++ timed s.follower.paceTimer .holdoverPaceTimerExpiry) :=
  ((timed_keep (fun x hx => by rw [runTimer, onCountdown, hx]) (closing_timebase tickExpiry_frame)).append
    (timed_keep (fun x hx => by rw [runTimer, onHoldoverTimer, hx]) (closing_timebase enterHoldover_frame))).append
    (timed_keep (fun x hx => by rw [runTimer, onPaceTimer, hx]) (closing_timebase paceExpiry_frame))

theorem clickTimer_keep (k : ClickLine) (s : State) : ExpiriesKeep s (timed (s.click.timer k) (.clickPulseTimerExpiry k)) :=
  timed_keep (f := fun x => { x with click := x.click.lower k }) (fun x hx => by rw [runTimer, onClickTimer, hx]) fun _ => rfl

theorem clkoutTimer_keep (s : State) : ExpiriesKeep s (timed s.click.clkout .clkoutPulseTimerExpiry) :=
  timed_keep (f := fun x => { x with click := { x.click with clkout := none } }) (fun x hx => by rw [runTimer, onClkoutTimer, hx]) fun _ => rfl

theorem keepAliveTimer_keep (l : LinkId) (s : State) : ExpiriesKeep s (timed (s.link l).timer (.keepAliveTimerExpiry l)) :=
  timed_keep (fun x hx => by rw [runTimer, onKeepAliveTimer, hx]) (closing_timebase (linkSilent_frame l))

theorem idleTimer_keep (s : State) : ExpiriesKeep s (timed s.bus.idleTimer .idleTimerExpiry) :=
  timed_keep (f := fun x => { x with bus := { x.bus with idleTimer := none, selection := .none } })
    (fun x hx => by rw [runTimer, onIdleTimer, hx]) fun _ => rfl

theorem busyTimer_keep (m : ModuleId) (s : State) : ExpiriesKeep s (timed (s.module m).timer (.busyTimerExpiry m)) :=
  timed_keep (fun x hx => by rw [runTimer, onBusyTimer, hx])
    fun x => ((transmitAll_frame _).at .timebase).trans ((enterStalled_frame m x).at .timebase)

theorem retentionTimer_keep (s : State) : ExpiriesKeep s (timed s.seq.retention .retentionTimerExpiry) :=
  timed_keep (fun x hx => by rw [runTimer, onRetentionTimer, hx]) (closing_timebase retentionExpired_frame)

theorem adcTimer_keep (s : State) : ExpiriesKeep s (timed s.board.adcTimer .adcConversionBegin) :=
  timed_keep (fun x hx => by rw [runTimer, onAdcTimer, hx]) fun x => (beginConversion_frame x).at .timebase

theorem slotTimer_keep (s : State) : ExpiriesKeep s (timed s.board.slotTimer .indicatorSlotStart) :=
  timed_keep (fun x hx => by rw [runTimer, onSlotTimer, hx]) fun x => (slotStart_frame x).at .timebase

theorem driveTimer_keep (s : State) : ExpiriesKeep s (timed s.board.driveTimer .indicatorDriveEnd) :=
  timed_keep (fun x hx => by rw [runTimer, onDriveTimer, hx]) fun x => (driveEnd_frame x).at .timebase

theorem flashTimers_keep (s : State) : ExpiriesKeep s (timed s.board.beatFlash .beatFlashTimerExpiry) ∧
    ExpiriesKeep s (timed s.board.downbeatFlash .downbeatFlashTimerExpiry) ∧ ExpiriesKeep s (timed s.board.blinkTimer .blinkPhaseToggle) :=
  ⟨timed_keep (f := fun x => { x with board := { x.board with beatFlash := none } }) (fun x hx => by rw [runTimer, onBeatFlash, hx])
      fun _ => rfl,
   timed_keep (f := fun x => { x with board := { x.board with downbeatFlash := none } })
      (fun x hx => by rw [runTimer, onDownbeatFlash, hx]) fun _ => rfl,
   timed_keep (fun x hx => by rw [runTimer, onBlinkTimer, hx]) fun x => (blinkToggle_frame x).at .timebase⟩

theorem timers_keep (s : State) : ExpiriesKeep s s.timers := by
  obtain ⟨beat, downbeat, blink⟩ := flashTimers_keep s
  have links : ExpiriesKeep s ((allFin 4).flatMap fun l => timed (s.link l).timer (.keepAliveTimerExpiry l)) :=
    .flatMap fun l => keepAliveTimer_keep l s
  have modules : ExpiriesKeep s ((allFin 8).flatMap fun m => timed (s.module m).timer (.busyTimerExpiry m)) :=
    .flatMap fun m => busyTimer_keep m s
  have switches : ExpiriesKeep s ((allFin 8).flatMap fun f => holdEvents f (s.switch f)) := .flatMap fun f => holdEvents_keep f s
  have clicks := (((gridTimers_keep s).append (clickTimer_keep .accent s)).append (clickTimer_keep .beat s)).append (clickTimer_keep .sub s)
  have lines := (((clicks.append (clkoutTimer_keep s)).append links).append (idleTimer_keep s)).append (busEvents_keep s)
  have stores := (((lines.append modules).append (settleEvents_keep s)).append (retentionTimer_keep s)).append (opEvents_keep s)
  have drivers := (((stores.append switches).append (adcTimer_keep s)).append (slotTimer_keep s)).append (driveTimer_keep s)
  exact ((((drivers.append beat).append downbeat).append blink).append (portEvents_keep .a s)).append (portEvents_keep .b s)

/-- The expiry of a timer that is due leaves the count and the source. -/
theorem runTimer_timebase {te : Timer × Instr} (h : te ∈ s.timers) (due : te.1.elapsed s.now = true) :
    (runTimer te.2 s).timebase = s.timebase := (timers_keep s).keep te h due

/-! ## The gap of a crystal loss (R3) -/

theorem earliestDue_timer {e : Instr} (h : e ∈ s.earliestDue) : ∃ x, (x, e) ∈ s.timers ∧ x.elapsed s.now = true := by
  obtain ⟨te, hte, rfl⟩ := List.mem_map.1 h
  exact ⟨te.1, List.mem_filter.1 (List.mem_filter.1 hte).1⟩

theorem pickFree_mem {n : Nat} {es : List Instr} {e : Instr} (h : pickFree n es = some e) : e ∈ es := by
  match es, h with
  | [_], h => exact List.mem_singleton.2 (Option.some.inj h).symm
  | _ :: _ :: _, h => exact List.mem_of_getElem? h

theorem runOverdue_timebase : ∀ (n : Nat) (s : State), (runOverdue n s).timebase = s.timebase
  | 0, _ => rfl
  | n + 1, s => by
    unfold runOverdue
    split
    · rfl
    · next e he =>
      obtain ⟨x, hx, due⟩ := earliestDue_timer (s := s) (e := e) (by rw [he]; exact List.mem_singleton_self e)
      exact (runOverdue_timebase n _).trans (runTimer_timebase hx due)
    · next e f r he =>
      split
      · next g hg =>
        obtain ⟨x, hx, due⟩ := earliestDue_timer (s := s) (e := g) (by rw [he]; exact pickFree_mem hg)
        exact (runOverdue_timebase n _).trans (runTimer_timebase (s := s.drew) (te := (x, g)) hx due)
      · rfl

theorem runOverdue_quiet {n : Nat} (h : s.timers.all (fun te => !te.1.elapsed s.now) = true) : runOverdue n s = s := by
  cases n with
  | zero => rfl
  | succ n =>
    have none : s.dueTimers = [] := List.filter_eq_nil_iff.2 fun te hte => by simpa using List.all_eq_true.1 h te hte
    have empty : s.earliestDue = [] := by rw [State.earliestDue, none]; rfl
    unfold runOverdue
    rw [empty]

/-- The count after the gap. -/
def State.gapPassed (s : State) : State := { s with timebase := ⟨.rcOnly, some .rc, s.timebase.count + 50, s.timebase.waited⟩ }

theorem gapPassed_frame (s : State) : SameBut [.timebase] s s.gapPassed := by
  refine ⟨fun q hq => ?_⟩
  cases q <;> first | rfl | exact absurd (by decide) hq

theorem loseCrystal_timebase (s : State) : (loseCrystal s).timebase = s.gapPassed.timebase :=
  ((transmitAll_frame _).at .timebase).trans
    (((post_frame (.timebaseDegraded .crystalLost) none (runOverdue (64 + s.timers.length) s.gapPassed)).at .timebase).trans
      (runOverdue_timebase _ s.gapPassed))

theorem loseCrystal_quiet (h : s.timers.all (fun te => !te.1.elapsed (s.now + 50)) = true) :
    loseCrystal s = transmitAll (post (.timebaseDegraded .crystalLost) none s.gapPassed) := by
  have passed : runOverdue (64 + s.timers.length) s.gapPassed = s.gapPassed := runOverdue_quiet h
  show transmitAll (post _ none (runOverdue (64 + s.timers.length) s.gapPassed)) = _
  rw [passed]

/-- Settles O12: the loss's work, and the gap in which nothing fell due. -/
theorem crystalLoss : Obligations.CrystalLoss := by
  refine ⟨fun s watch => ?_, fun s other => by rw [exec, execCrystalLoss, if_neg other]⟩
  have run : exec .crystalLoss s = .next (loseCrystal s) := by rw [exec, execCrystalLoss, if_pos watch]
  have timebase := loseCrystal_timebase s
  refine ⟨_, run, by rw [timebase]; rfl, by rw [timebase]; rfl, by rw [timebase]; rfl, fun quiet => ?_⟩
  rw [loseCrystal_quiet quiet]
  exact ⟨((gapPassed_frame s).chain (post_frame _ none _) (rs := .timebase :: lineParts)).chain (transmitAll_frame _),
    ((gapPassed_frame s).posting.post (.timebaseDegraded .crystalLost) none).tells (transmitAll_ends _)⟩

/-! ## Power-up (R2) -/

/-- Outside an erase in progress the flash reads as before. -/
theorem interrupted_read {a : Nat} (h : ∀ op, s.store.activity = .operating op → op.phase = .erasing →
    a < sectorBase op.sector ∨ sectorBase op.sector + 512 ≤ a) : readFlash s.interrupted a = readFlash s.flash a := by
  unfold State.interrupted
  split
  · next op hop =>
    have operating : s.store.activity = .operating op := by
      unfold State.op? at hop
      split at hop
      · next o ho => rw [ho, Option.some.inj hop]
      · cases hop
    split
    · next he => exact readFlash_eraseSector_other _ _ _ (h op operating he)
    · rfl
  · rfl

theorem powerUp_frame (s : State) : SameBut [.flash, .draws, .pending] State.reset (powerUp s) := by
  refine ⟨fun q hq => ?_⟩
  cases q <;> first | rfl | exact absurd (by decide) hq

/-- What the count's start changes of the reset state. -/
abbrev startedParts : List Part := [.timebase, .flash, .pending, .draws, .resetting, .store, .board]

theorem countStart_frame (m : Monitor) (x : Source) (s : State) : SameBut startedParts State.reset (countStart m x s) := by
  refine ⟨fun q hq => ?_⟩
  cases q <;> first | rfl | exact absurd (by decide) hq

theorem countStart_store (m : Monitor) (x : Source) (s : State) : (countStart m x s).store =
    { Store.initial with activity := .fetching ⟨.setup, 0⟩, supplyTimer := some ⟨0, 0⟩ } := rfl

/-- Settles O11: the two ways in which the count starts, and the state of the wait. -/
theorem powerUp_holds : Obligations.PowerUp := by
  refine ⟨fun s => ⟨powerUp s, rfl, powerUp_frame s, rfl, fun a ha => interrupted_read ha⟩, fun s wait => ?_, fun s wait => ?_, fun s run => ?_⟩
  · exact ⟨countStart .crystalWatch .crystal s, by rw [exec, execCrystalFound, wait]; rfl, rfl, rfl, rfl, rfl, rfl, rfl, countStart_frame ..⟩
  · set u := countStart .rcOnly .rc s with hu
    have after : SameBut lineParts u (transmitAll (post (.timebaseDegraded .noCrystal) none u)) :=
      (post_frame _ none u).chain (transmitAll_frame _)
    refine ⟨transmitAll (post (.timebaseDegraded .noCrystal) none u), by rw [exec, execCrystalWaitTimeout, wait]; rfl,
      after.at .timebase, after.at .flash, after.at .pending, after.at .resetting, after.at .store, after.at .board, fun q => ?_,
      (countStart_frame .rcOnly .rc s).chain after⟩
    have port : (transmitAll (post (.timebaseDegraded .noCrystal) none u)).port q =
        (ControlPort.initial.post ⟨.timebaseDegraded .noCrystal, true, Position.top, none⟩).transmit Position.top 0 := by
      have initial : u.port q = ControlPort.initial := by cases q <;> rfl
      have place : (post (.timebaseDegraded .noCrystal) none u).grid = u.grid := after.at .grid
      have now : (post (.timebaseDegraded .noCrystal) none u).timebase = u.timebase := after.at .timebase
      rw [transmitAll_port, post_port, initial, State.now, place, now]
      rfl
    rw [port]
    exact ⟨rfl, _, rfl⟩
  · constructor
    · rw [exec, execCrystalFound, if_pos run]
    · rw [exec, execCrystalWaitTimeout, if_pos run]

end Sys2Proof.Machine
end

section
/-! PROOF. The REFIN line, the holdover timer and the taps (R25, R33, R39, R40). -/

namespace Sys2Proof.Machine

variable {s t u : State} {within : List Part → Prop}

/-! ## The REFIN line (R25) -/

theorem refinSampled_counts {high : Bool} (h : s.follower.refinSample ≠ some high ∨ s.follower.refinLevel = some high) :
    refinSampled high s = setFollower { s.follower with refinSample := some high } s :=
  if_neg fun both => h.elim (fun n => n both.1) both.2

/-- A change of the filtered level that is no rising edge. -/
theorem refinSampled_settles {high : Bool} (h : s.follower.refinSample = some high) (hl : s.follower.refinLevel ≠ some high)
    (hn : s.follower.refinLevel ≠ some false) : refinSampled high s = setFollower { s.follower with refinLevel := some high } s := by
  unfold refinSampled
  dsimp only
  rw [if_pos ⟨h, hl⟩, if_neg hn, ← h]
  rfl

/-- A rising edge is heard under FOLLOW with source REFIN. -/
theorem refinEdge_heard (h : s.grid.source = .follow) (hr : s.setup.followSource = .refin) :
    refinEdge s = takeMark 0 none (setFollower { s.follower with refinLevel := some true } s) := if_pos ⟨h, hr⟩

theorem refinEdge_ignored (h : s.grid.source ≠ .follow ∨ s.setup.followSource ≠ .refin) :
    refinEdge s = setFollower { s.follower with refinLevel := some true } s :=
  if_neg fun both => h.elim (fun n => n both.1) fun n => n both.2

theorem setFollower_closed (f : Follower) (s : State) :
    Closed [.follower] s (close (setFollower f s)) ∧ (close (setFollower f s)).follower = f :=
  ⟨(close_carries s _).still ((setFollower_frame f s).mono (by decide)), (close_ends _).follower⟩

theorem whileRunning_running {f : State → State} (h : s.running = true) : whileRunning f s = f s := if_pos h

/-- The work of REFIN_RISING_EDGE. -/
theorem exec_refinRisingEdge (hr : s.running = true) (hl : s.follower.refinLevel ≠ some true) :
    exec .refinRisingEdge s = .next (close (refinEdge (setFollower { s.follower with refinSample := some true } s))) := by
  refine congrArg _ ((whileRunning_running hr).trans ?_)
  exact if_pos hl

theorem exec_refinSample (high : Bool) (hr : s.running = true) : exec (.refinSample high) s = .next (close (refinSampled high s)) := by
  exact congrArg _ (whileRunning_running hr)

/-- Settles O24: the filter is `refinSampled`, and a rising edge that is heard is a mark without beat number. -/
theorem refinLine : Obligations.RefinLine := by
  refine ⟨fun high s hr => ⟨_, exec_refinSample high hr, fun counts => ?_, fun agrees differs quiet => ?_⟩, fun s hr low high => ?_,
    fun s hr low => ⟨_, exec_refinRisingEdge hr low, fun ignored => ?_, fun source refin u hu => ?_⟩⟩
  · rw [refinSampled_counts counts]
    exact setFollower_closed _ s
  · by_cases rises : s.follower.refinLevel = some false
    · obtain rfl : high = true := by
        cases high
        · exact absurd rises differs
        · rfl
      have ignored : s.grid.source ≠ .follow ∨ s.setup.followSource ≠ .refin := by simpa [rises] using quiet
      have edge : refinSampled true s = setFollower { s.follower with refinLevel := some true } s := by
        unfold refinSampled
        dsimp only
        rw [if_pos ⟨agrees, differs⟩, if_pos rises, refinEdge_ignored (s := setFollower { s.follower with refinSample := some true } s) ignored, ← agrees]
        rfl
      rw [edge]
      exact setFollower_closed _ s
    · rw [refinSampled_settles agrees differs rises]
      exact setFollower_closed _ s
  · have differs : s.follower.refinLevel ≠ some true := by simp [low]
    rw [exec_refinSample true hr, exec_refinRisingEdge hr differs]
    unfold refinSampled
    dsimp only
    rw [if_pos ⟨high, differs⟩, if_pos low]
  · rw [refinEdge_ignored (s := setFollower { s.follower with refinSample := some true } s) ignored]
    exact setFollower_closed { s.follower with refinSample := some true, refinLevel := some true } s
  · subst hu
    rw [refinEdge_heard (s := setFollower { s.follower with refinSample := some true } s) source refin]
    exact mark_done (close_carries _ _) source

/-! ## The holdover timer (R33) -/

theorem enterHoldover_grid (s : State) : (enterHoldover s).grid = { s.grid.retuned s.follower.tempo with correction := none } := by
  have told : (enterHoldover s).grid = (setTempo s.follower.tempo { s with grid := { s.grid with correction := none } }).grid :=
    (followNotice_frame _ _).at .grid
  rw [told, setTempo_grid]
  rfl

theorem enterHoldover_follower (s : State) : (enterHoldover s).follower = { s.follower with
    state := .holdover, outliers := 0, holdoverBeats := 0, holdoverTimer := none
    paceTimer := if s.grid.transport.emits then none else some ⟨s.now, s.follower.period⟩ } :=
  (followNotice_frame _ _).at .follower

/-- FOLLOW_STATE names the state, T_f and source of the state it is posted from. -/
theorem followNotice_from {k : Nat} {prev state : FollowState} {tempo : Nat} {source : TempoSource} {position : Position} (h : Posting k s u)
    (hf : u.follower.state = state ∧ u.follower.tempo = tempo) (hg : u.grid.source = source ∧ u.grid.position = position)
    (hk : k ≤ 8 := by decide) :
    Posts ⟨.followState state prev tempo source, (NoticeBody.followState state prev tempo source).urgent, position, none⟩ s
      (followNotice prev u) := by
  obtain ⟨rfl, rfl⟩ := hf
  obtain ⟨rfl, rfl⟩ := hg
  exact h.post _ none hk

theorem enterHoldover_posts (s : State) :
    Posts ⟨.followState .holdover .locked s.follower.tempo s.grid.source, false, s.grid.position, none⟩ s (enterHoldover s) := by
  have set := (gridUpdate_frame s { s.grid with correction := none }).then (setTempo_frame s.follower.tempo _)
  have grid := setTempo_grid s.follower.tempo { s with grid := { s.grid with correction := none } }
  exact followNotice_from (set.posting.then (setFollower_frame _ _).posting) ⟨rfl, rfl⟩
    ⟨(congrArg Grid.source grid :), (congrArg Grid.position grid :)⟩

/-- Settles O25: the expiry is `enterHoldover` at the timer's due value. -/
theorem holdoverBegins : Obligations.HoldoverBegins := by
  intro s tm h
  have run : exec .holdoverTimerExpiry s = .next (expireAt tm (fun x => close (enterHoldover x)) s) := by
    have work : onHoldoverTimer s = expireAt tm (fun x => close (enterHoldover x)) s := by rw [onHoldoverTimer, h]
    exact congrArg _ work
  have c := expired_carries tm enterHoldover s
  exact ⟨_, run, c.still (l := [.grid, .follower]) ((enterHoldover_frame _).mono (by decide)),
    c.ends.grid.trans (enterHoldover_grid _), c.ends.follower.trans (enterHoldover_follower _), c.tells (enterHoldover_posts _)⟩

/-! ## Taps (R39, R40) -/

theorem appendInterval_lastFour {x : TapTimer} (t : Nat) (h : x.intervals.length ≤ 4) : appendInterval x.intervals t = x.lastFour t := by
  unfold appendInterval TapTimer.lastFour
  simp only [List.length_append, List.length_singleton]
  split
  · rw [show x.intervals.length + 1 - 4 = 1 by omega]
  · rw [show x.intervals.length + 1 - 4 = 0 by omega]
    rfl

/-- The grid and the Follower after a tap tempo `v`. -/
theorem applyTap_outside {v : Nat} (h : s.grid.source ≠ .tap) : applyTap v s = { s with tap := { s.tap with tempo := some v } } := if_neg h

theorem applyTap_follower {v : Nat} (h : s.grid.source = .tap) : (applyTap v s).follower = { s.follower with tempo := v } := by
  unfold applyTap
  dsimp only
  rw [if_pos h]
  split
  · rw [((correctPhase_frame _ _).at .follower : _ = _)]
    exact (setTempo_frame _ _).at .follower
  · exact (setTempo_frame _ _).at .follower

theorem applyTap_grid {v : Nat} (h : s.grid.source = .tap) : (applyTap v s).grid =
    if s.grid.transport = .running then (s.grid.retuned v).steered v (phaseError s.grid.phase) 0
    else { s.grid.retuned v with correction := none } := by
  unfold applyTap
  dsimp only
  rw [if_pos h]
  split
  · rw [correctPhase_grid, setTempo_grid, ((setTempo_frame _ _).at .follower : _ = _)]
    rfl
  · rw [setTempo_grid]
    rfl

theorem applyTap_tap (v : Nat) (s : State) : (applyTap v s).tap = { s.tap with tempo := some v } := by
  unfold applyTap
  dsimp only
  split
  · split
    · rw [((correctPhase_frame _ _).at .tap : _ = _)]
      exact (setTempo_frame _ _).at .tap
    · exact (setTempo_frame _ _).at .tap
  · rfl

/-- A tap within the window, by the number of intervals then held. -/
theorem takeTap_window {last : Count} (hl : s.tap.intervals.length ≤ 4) (h : s.tap.last = some last) (lo : 200000 ≤ since s.now last)
    (hi : since s.now last ≤ 2000000) : takeTap s =
      if 2 ≤ (s.tap.lastFour (since s.now last)).length then
        applyTap (tapTempo (s.tap.lastFour (since s.now last))) { s with tap := { s.tap with last := some s.now, intervals := s.tap.lastFour (since s.now last) } }
      else { s with tap := { s.tap with last := some s.now, intervals := s.tap.lastFour (since s.now last) } } := by
  unfold takeTap
  rw [h]
  dsimp only
  rw [if_neg (by omega), if_neg (by omega), appendInterval_lastFour _ hl]

theorem takeTap_early {last : Count} (h : s.tap.last = some last) (lo : since s.now last < 200000) : takeTap s = s := by
  unfold takeTap
  rw [h]
  dsimp only
  rw [if_neg (by omega), if_pos lo]

theorem takeTap_fresh (h : ∀ last, s.tap.last = some last → 2000000 < since s.now last) :
    takeTap s = { s with tap := { s.tap with last := some s.now, intervals := [] } } := by
  unfold takeTap
  split
  · rfl
  · next last hl => exact if_pos (h last hl)

/-- What a tap does, whoever makes it. -/
theorem tap_done (c : Carries within s (takeTap s) t) (hl : s.tap.intervals.length ≤ 4) : TapDone within s.now s t := by
  refine ⟨c.still ((takeTap_frame s).mono (by decide)), fun fresh => ?_, fun last h => ⟨fun early => ?_, fun lo hi => ⟨_, rfl, fun few => ?_, fun two => ⟨_, rfl, ?_, fun out => ?_, fun inTap => ?_⟩⟩⟩⟩
  · rw [takeTap_fresh fresh] at c
    exact ⟨c.ends.tap, c.ends.grid, c.ends.follower⟩
  · rw [takeTap_early h early] at c
    exact ⟨c.ends.tap, c.ends.grid, c.ends.follower⟩
  · rw [takeTap_window hl h lo hi, if_neg (by omega)] at c
    exact ⟨c.ends.tap, c.ends.grid, c.ends.follower⟩
  all_goals rw [takeTap_window hl h lo hi, if_pos two] at c
  · exact c.ends.tap.trans (applyTap_tap _ _)
  · rw [applyTap_outside (by exact out)] at c
    exact ⟨c.ends.grid, c.ends.follower⟩
  · exact ⟨c.ends.follower.trans (applyTap_follower (by exact inTap)), c.ends.grid.trans (applyTap_grid (by exact inTap))⟩

/-- Settles O27: a TAP is `takeTap`, closed without the arbiter's look. -/
theorem tapRequest : Obligations.TapRequest := by
  intro p tag s h hl
  have run : exec (.tap p tag) s = .next (finish p (takeTap (s.taking p ⟨0x05, tag, []⟩), some .ok)) :=
    congrArg _ (arrive_known (k := .tap) h rfl)
  have done := tap_done (finished_carries p ⟨0x05, tag, []⟩ .ok s (takeTap (s.taking p ⟨0x05, tag, []⟩))) (by rw [taking_tap]; exact hl)
  refine ⟨_, run, ?_⟩
  unfold TapDone at done ⊢
  simpa only [taking_grid, taking_follower, taking_tap, taking_now] using done

end Sys2Proof.Machine
end

section
/-! PROOF. The tick and the holdover beat: what each leaves of the grid and the Follower, LOST and the SONG_TEMPO fallback (R6 to R9, R14,
R19, R21, R34, R35). -/

namespace Sys2Proof.Machine

variable {s t u : State} {within : List Part → Prop}

/-! ## The SONG_TEMPO fallback (R35) -/

/-- The end of the fallback to the song `x`: its ramp or tempo, TEMPO_FALLBACK and the FOLLOW_STATE for OFF. -/
def fellBack (old : Nat) (x : Song) (s : State) : State :=
  followNotice .lost (post (.tempoFallback old x.tempo) none (fallbackTempo x.tempo s))

theorem songFallback_still {x : Song} (hx : s.activeBank.image = some x) (h : s.grid.transport ≠ .startPending) :
    songFallback s = fellBack s.grid.tempo x (switchSource .internal s) := by
  have stays : endPending none (switchSource .internal s) = switchSource .internal s := if_neg fun both => h both.1
  unfold songFallback fellBack
  dsimp only
  rw [hx, if_neg h, stays]

theorem songFallback_starts {x : Song} (hx : s.activeBank.image = some x) (h : s.grid.transport = .startPending) :
    songFallback s = fellBack s.grid.tempo x (firstTick false (enterTransport .running none (switchSource .internal s))) := by
  have starts : endPending none (switchSource .internal s) = enterTransport .running none (switchSource .internal s) := if_pos ⟨h, nofun⟩
  unfold songFallback fellBack
  dsimp only
  rw [hx, if_pos h, starts]

theorem fallbackTempo_grid (n : Nat) (s : State) : (fallbackTempo n s).grid =
    if s.grid.transport.emits = true then { s.grid with ramp := some ⟨s.grid.tempo, n, 4, 0⟩ } else s.grid.retuned n := by
  unfold fallbackTempo
  split
  · rfl
  · exact setTempo_grid n s

theorem fallbackTempo_place (n : Nat) (s : State) :
    (fallbackTempo n s).grid.source = s.grid.source ∧ (fallbackTempo n s).grid.position = s.grid.position := by
  rw [fallbackTempo_grid]
  split <;> exact ⟨rfl, rfl⟩

theorem fellBack_frame (n : Nat) (x : Song) (s : State) : SameBut [.grid, .noticesA, .noticesB] s (fellBack n x s) :=
  ((fallbackTempo_frame x.tempo s).chain (post_frame _ _ _) (rs := [.grid, .noticesA, .noticesB])).chain (followNotice_frame _ _)

theorem fellBack_grid (n : Nat) (x : Song) (s : State) : (fellBack n x s).grid = (fallbackTempo x.tempo s).grid :=
  ((post_frame (.tempoFallback n x.tempo) none _).chain (followNotice_frame .lost _) (rs := noticeParts)).at .grid

theorem fellBack_posting (n : Nat) (x : Song) (s : State) : Posting 2 s (fellBack n x s) :=
  (((fallbackTempo_frame x.tempo s).posting.then (post_posting _ _ _)).then (post_posting _ _ _)).mono (by decide)

/-- TEMPO_FALLBACK, after at most eight others. -/
theorem fellBack_tempo {k n : Nat} {x : Song} (h : Posting k s u) (hk : k ≤ 8 := by decide) :
    Posts ⟨.tempoFallback n x.tempo, false, u.grid.position, none⟩ s (fellBack n x u) := by
  have set : Posting k s (fallbackTempo x.tempo u) := (h.then (fallbackTempo_frame x.tempo u).posting).mono (by omega)
  have first := set.post (.tempoFallback n x.tempo) none hk
  rw [(fallbackTempo_place x.tempo u).2] at first
  exact first.kept (followNotice_keepsNotices _ _)

/-- The notices of the fallback, after at most seven others. -/
theorem fellBack_posts {k n : Nat} {x : Song} (h : Posting k s u) (hf : u.follower.state = .off) (hs : u.grid.source = .internal)
    (hk : k ≤ 7 := by decide) :
    Posts ⟨.tempoFallback n x.tempo, false, u.grid.position, none⟩ s (fellBack n x u) ∧
    Posts ⟨.followState .off .lost u.follower.tempo .internal, false, u.grid.position, none⟩ s (fellBack n x u) := by
  obtain ⟨source, position⟩ := fallbackTempo_place x.tempo u
  have set : Posting k s (fallbackTempo x.tempo u) := (h.then (fallbackTempo_frame x.tempo u).posting).mono (by omega)
  have told : Posting (k + 1) s (post (.tempoFallback n x.tempo) none (fallbackTempo x.tempo u)) := set.then (post_posting _ _ _)
  have kept := post_frame (.tempoFallback n x.tempo) none (fallbackTempo x.tempo u)
  have follower : (fallbackTempo x.tempo u).follower = u.follower := (fallbackTempo_frame x.tempo u).at .follower
  constructor
  · exact fellBack_tempo h (by omega)
  · refine followNotice_from told ⟨?_, ?_⟩ ⟨?_, ?_⟩ (by omega)
    · rw [(kept.at .follower : _ = (fallbackTempo x.tempo u).follower), follower, hf]
    · rw [(kept.at .follower : _ = (fallbackTempo x.tempo u).follower), follower]
    · rw [(kept.at .grid : _ = (fallbackTempo x.tempo u).grid), source, hs]
    · rw [(kept.at .grid : _ = (fallbackTempo x.tempo u).grid), position]

/-- What the fallback to the song `x` from `s` leaves, whatever the transport. -/
structure FellBack (x : Song) (s u : State) : Prop where
  follower : u.follower = s.follower.turnOff
  bus : u.bus.transmission = s.bus.transmission
  frame : SameBut [.grid, .follower, .click, .bus, .board, .noticesA, .noticesB] s u
  posts : ∀ (k : Nat) (o : State), k ≤ 4 → Posting k o s → Posts ⟨.tempoFallback s.grid.tempo x.tempo, false, s.grid.position, none⟩ o u ∧
    Posts ⟨.followState .off .lost s.follower.tempo .internal, false, s.grid.position, none⟩ o u

theorem switchSource_internal_follower (h : s.grid.source = .follow) : (switchSource .internal s).follower = s.follower.turnOff := by
  simp [switchSource, h]

theorem songFallback_fellBack {x : Song} (hx : s.activeBank.image = some x) (h : s.grid.source = .follow) : FellBack x s (songFallback s) := by
  have switched := switchSource_frame .internal s
  have follower := switchSource_internal_follower h
  have back (v : State) : (fellBack s.grid.tempo x v).follower = v.follower ∧ (fellBack s.grid.tempo x v).bus = v.bus :=
    ⟨(fellBack_frame _ x v).at .follower, (fellBack_frame _ x v).at .bus⟩
  by_cases pending : s.grid.transport = .startPending
  · rw [songFallback_starts hx pending]
    have entered := switched.chain (enterTransport_frame .running none _) (rs := sourceParts)
    have ticked := entered.chain (firstTick_frame false _) (rs := [.grid, .follower, .click, .bus, .board, .noticesA, .noticesB])
    have off : (firstTick false (enterTransport .running none (switchSource .internal s))).follower = s.follower.turnOff := by
      rw [firstTick_paceless, ((enterTransport_frame .running none _).at .follower : _ = (switchSource .internal s).follower), follower]
      rfl
    have grid : (firstTick false (enterTransport .running none (switchSource .internal s))).grid.source = .internal ∧
        (firstTick false (enterTransport .running none (switchSource .internal s))).grid.position = s.grid.position := by
      rw [firstTick_grid (by rw [enterTransport_grid]; rfl), enterTransport_grid]
      exact ⟨rfl, rfl⟩
    refine ⟨(back _).1.trans off, ?_, ticked.chain (fellBack_frame _ x _), fun k o hk posted => ?_⟩
    · rw [(back _).2, firstTick_busSame, (entered.at .bus : _ = s.bus)]
    · have posting := ((posted.then switched.posting).then (enterTransport_posting .running none _)).then (firstTick_posting false _)
      have told := fellBack_posts (n := s.grid.tempo) (x := x) posting (by rw [off]; rfl) grid.1 (by omega)
      rw [off, grid.2] at told
      exact told
  · rw [songFallback_still hx pending]
    refine ⟨(back _).1.trans follower, ?_, switched.chain (fellBack_frame _ x _), fun k o hk posted => ?_⟩
    · rw [(back _).2]
      rfl
    · have told := fellBack_posts (n := s.grid.tempo) (x := x) (posted.then switched.posting) (by rw [follower]; rfl) rfl (by omega)
      rw [follower] at told
      exact told

/-- In a grid that is not pending the fallback touches the grid and the Follower alone. -/
theorem songFallback_frame_still {x : Song} (hx : s.activeBank.image = some x) (h : s.grid.transport ≠ .startPending) :
    SameBut [.grid, .follower, .noticesA, .noticesB] s (songFallback s) := by
  rw [songFallback_still hx h]
  exact (switchSource_frame .internal s).chain (fellBack_frame _ x _)

theorem songFallback_grid_stopped {x : Song} (hx : s.activeBank.image = some x) (h : s.grid.transport = .stopped) :
    (songFallback s).grid = { s.grid with
      source := .internal, ramp := none, correction := none, tempo := x.tempo
      fresh := if x.tempo = s.grid.tempo then s.grid.fresh else true } := by
  have still : (switchSource .internal s).grid.transport.emits = false := by
    show s.grid.transport.emits = false
    rw [h]
    rfl
  rw [songFallback_still hx (by simp [h]), fellBack_grid, fallbackTempo_grid, if_neg (by simp [still])]
  rfl

theorem songFallback_grid_emits {x : Song} (hx : s.activeBank.image = some x) (h : s.grid.transport.emits = true) :
    (songFallback s).grid = { s.grid with source := .internal, ramp := some ⟨s.grid.tempo, x.tempo, 4, 0⟩, correction := none } := by
  have going : (switchSource .internal s).grid.transport.emits = true := h
  rw [songFallback_still hx (fun pending => by rw [pending] at h; cases h), fellBack_grid, fallbackTempo_grid, if_pos going]
  rfl

theorem songFallback_grid_starts {x : Song} (hx : s.activeBank.image = some x) (h : s.grid.transport = .startPending) :
    (songFallback s).grid = { s.grid with
      source := .internal, transport := .running, correction := none, ramp := some ⟨s.grid.tempo, x.tempo, 4, 0⟩, fresh := false
      remainder := 25000000 - 25000000 / s.grid.tempo * s.grid.tempo, countdown := some ⟨s.now, 25000000 / s.grid.tempo⟩ } := by
  have timebase : (enterTransport .running none (switchSource .internal s)).timebase = s.timebase :=
    ((switchSource_frame .internal s).chain (enterTransport_frame .running none _) (rs := sourceParts)).at .timebase
  have grid : (firstTick false (enterTransport .running none (switchSource .internal s))).grid = { s.grid with
      source := .internal, transport := .running, correction := none, ramp := none, fresh := false
      remainder := 25000000 - 25000000 / s.grid.tempo * s.grid.tempo, countdown := some ⟨s.now, 25000000 / s.grid.tempo⟩ } := by
    rw [firstTick_grid (by rw [enterTransport_grid]; rfl), enterTransport_grid, State.now, timebase]
    simp [Grid.interval, switchSource, State.now]
  rw [songFallback_starts hx h, fellBack_grid, fallbackTempo_grid, if_pos (by rw [grid]; rfl), grid]

/-- The start of a pending transport by the fallback is told. -/
theorem songFallback_start_posts {k : Nat} {x : Song} (hx : u.activeBank.image = some x) (h : u.grid.transport = .startPending)
    (posted : Posting k s u) (hk : k ≤ 8 := by decide) :
    Posts ⟨.transport .running u.grid.position, false, u.grid.position, none⟩ s (songFallback u) := by
  have switched := switchSource_frame .internal u
  rw [songFallback_starts hx h]
  have told : Posts ⟨.transport .running u.grid.position, false, u.grid.position, none⟩ s
      (enterTransport .running none (switchSource .internal u)) :=
    (posted.then switched.posting).posts (fun q ha hl => enterTransport_mem .running none _ q ha hl) (by omega)
  exact (told.kept (firstTick_posting false _).keeps).kept (fellBack_posting _ x _).keeps

theorem songFallback_keepsNotices (s : State) : KeepsNotices s (songFallback s) := by
  have pended (v : State) : KeepsNotices v (endPending none v) := by
    unfold endPending
    split
    · exact (enterTransport_posting _ _ _).keeps
    · exact .refl v
  have switched := (switchSource_frame .internal s).keepsNotices.then (pended _)
  have begun : KeepsNotices s (if s.grid.transport = .startPending then firstTick false (endPending none (switchSource .internal s))
      else endPending none (switchSource .internal s)) := by
    split
    · exact switched.then (firstTick_posting false _).keeps
    · exact switched
  unfold songFallback
  dsimp only
  refine KeepsNotices.then ?_ (followNotice_keepsNotices _ _)
  split
  · exact (begun.then (fallbackTempo_frame _ _).keepsNotices).then (post_keepsNotices _ _ _)
  · exact (begun.then (drew_frame _).keepsNotices).then (post_keepsNotices _ _ _)

/-! ## LOST (R35) -/

/-- The Follower in LOST after `n` beats. -/
def Follower.lostAfter (f : Follower) (n : Nat) : Follower := { f with state := .lost, holdoverBeats := n, paceTimer := none }

/-- LOST is told. -/
def toldLost (n : Nat) (s : State) : State := followNotice .holdover (setFollower (s.follower.lostAfter n) s)

theorem toldLost_frame (n : Nat) (s : State) : SameBut [.follower, .noticesA, .noticesB] s (toldLost n s) :=
  (setFollower_frame _ s).chain (followNotice_frame _ _)

theorem toldLost_follower (n : Nat) (s : State) : (toldLost n s).follower = s.follower.lostAfter n := (followNotice_frame _ _).at .follower

theorem toldLost_posting (n : Nat) (s : State) : Posting 1 s (toldLost n s) :=
  ((setFollower_frame _ s).posting.then (post_posting _ _ _)).mono (by decide)

theorem toldLost_posts {k n : Nat} (h : Posting k s u) (hk : k ≤ 8 := by decide) :
    Posts ⟨.followState .lost .holdover u.follower.tempo u.grid.source, true, u.grid.position, none⟩ s (toldLost n u) :=
  followNotice_from (h.then (setFollower_frame _ u).posting) ⟨rfl, rfl⟩ ⟨rfl, rfl⟩ (by omega)

/-- A holdover beat below H. -/
theorem countHoldover_few (h : s.follower.holdoverBeats + 1 < s.setup.holdoverBeats) :
    countHoldover s = setFollower { s.follower with holdoverBeats := s.follower.holdoverBeats + 1 } s := if_neg (Nat.not_le.2 h)

theorem countHoldover_freewheel (h : s.setup.holdoverBeats ≤ s.follower.holdoverBeats + 1) (hl : s.setup.onLoss = .freewheel) :
    countHoldover s = toldLost (s.follower.holdoverBeats + 1) s := by
  have loss (x : State) (hx : x.setup.onLoss = .freewheel) :
      enterLost x = followNotice .holdover (setFollower { x.follower with state := .lost, paceTimer := none } x) := by
    unfold enterLost
    dsimp only
    rw [hx]
  unfold countHoldover
  dsimp only
  rw [if_pos h]
  exact loss (setFollower _ s) hl

theorem countHoldover_songTempo (h : s.setup.holdoverBeats ≤ s.follower.holdoverBeats + 1) (hl : s.setup.onLoss = .songTempo) :
    countHoldover s = songFallback (toldLost (s.follower.holdoverBeats + 1) s) := by
  have loss (x : State) (hx : x.setup.onLoss = .songTempo) :
      enterLost x = songFallback (followNotice .holdover (setFollower { x.follower with state := .lost, paceTimer := none } x)) := by
    unfold enterLost
    dsimp only
    rw [hx]
  unfold countHoldover
  dsimp only
  rw [if_pos h]
  exact loss (setFollower _ s) hl

/-- LOST is told whatever the on-loss action is. -/
theorem countHoldover_lost {k : Nat} (h : Posting k s u) (hb : u.setup.holdoverBeats ≤ u.follower.holdoverBeats + 1) (hk : k ≤ 8 := by decide) :
    Posts ⟨.followState .lost .holdover u.follower.tempo u.grid.source, true, u.grid.position, none⟩ s (countHoldover u) := by
  cases loss : u.setup.onLoss with
  | freewheel =>
    rw [countHoldover_freewheel hb loss]
    exact toldLost_posts h hk
  | songTempo =>
    rw [countHoldover_songTempo hb loss]
    exact (toldLost_posts h hk).kept (songFallback_keepsNotices _)

/-! ## Holdover beats by the pace timer (R34) -/

/-- The pace timer runs again. -/
def repaced (s : State) : State := setFollower { s.follower with paceTimer := some (s.timer s.follower.period) } s

theorem repaced_frame (s : State) : SameBut [.follower] s (repaced s) := setFollower_frame _ s

theorem paceExpiry_eq (s : State) : paceExpiry s = countHoldover (repaced s) := rfl

/-- The state in which a holdover beat of the pace timer has told LOST. -/
def paceLost (s : State) : State := toldLost (s.follower.holdoverBeats + 1) (repaced s)

theorem paceLost_frame (s : State) : SameBut [.follower, .noticesA, .noticesB] s (paceLost s) :=
  (repaced_frame s).chain (toldLost_frame _ _)

theorem paceLost_posting (s : State) : Posting 1 s (paceLost s) :=
  ((repaced_frame s).posting.then (toldLost_posting _ _)).mono (by decide)

theorem paceLost_follower (s : State) : (paceLost s).follower = s.follower.lostAfter (s.follower.holdoverBeats + 1) :=
  toldLost_follower _ _

theorem SameBut.activeBank {ps : List Part} (h : SameBut ps s t) (hb : Part.banks ∉ ps := by decide) : t.activeBank = s.activeBank :=
  activeBank_congr (h.at .banks hb)

/-- What the SONG_TEMPO fallback does at the H-th beat of the pace timer. -/
theorem pace_fallback {x : Song} (c : Carries within s (songFallback (paceLost s)) t) (hx : s.activeBank.image = some x)
    (hs : s.grid.source = .follow) :
    Tells ⟨.tempoFallback s.grid.tempo x.tempo, false, s.grid.position, none⟩ s t ∧
    Tells ⟨.followState .off .lost s.follower.tempo .internal, false, s.grid.position, none⟩ s t ∧
    t.follower = { s.follower with
      state := .off, reference := none, intervals := [], outliers := 0, holdoverTimer := none, holdoverBeats := 0, paceTimer := none } ∧
    (s.grid.transport = .stopped → within [.grid, .follower] ∧
      t.grid = { s.grid with
        source := .internal, ramp := none, correction := none, tempo := x.tempo
        fresh := if x.tempo = s.grid.tempo then s.grid.fresh else true }) ∧
    (s.grid.transport = .startPending → within [.grid, .follower, .click, .bus, .board] ∧
      t.grid = { s.grid with
        source := .internal, transport := .running, correction := none, ramp := some ⟨s.grid.tempo, x.tempo, 4, 0⟩, fresh := false
        remainder := 25000000 - 25000000 / s.grid.tempo * s.grid.tempo, countdown := some ⟨s.now, 25000000 / s.grid.tempo⟩ } ∧
      Tells ⟨.transport .running s.grid.position, false, s.grid.position, none⟩ s t) := by
  have lost := paceLost_frame s
  have grid : (paceLost s).grid = s.grid := lost.at .grid
  have image : (paceLost s).activeBank.image = some x := by rw [lost.activeBank]; exact hx
  have now : (paceLost s).now = s.now := congrArg Timebase.count (lost.at .timebase)
  have fell := songFallback_fellBack image (by rw [grid]; exact hs)
  obtain ⟨tempo, off⟩ := fell.posts 1 s (by decide) (paceLost_posting s)
  rw [grid] at tempo off
  rw [paceLost_follower] at off
  refine ⟨c.tells tempo, c.tells off, ?_, fun stopped => ⟨c.still (l := [.grid, .follower]) ?_, ?_⟩, fun pending => ⟨c.framed ?_ ?_, ?_, c.tells ?_⟩⟩
  · rw [c.ends.follower, fell.follower, paceLost_follower]
    rfl
  · exact lost.chain (songFallback_frame_still image (by rw [grid, stopped]; decide))
  · rw [c.ends.grid, songFallback_grid_stopped image (by rw [grid, stopped]), grid]
  · exact lost.chain fell.frame
  · rw [fell.bus, (lost.at .bus : (paceLost s).bus = s.bus)]
  · rw [c.ends.grid, songFallback_grid_starts image (by rw [grid, pending]), grid, now]
  · have told := songFallback_start_posts image (by rw [grid, pending]) (paceLost_posting s)
    rw [grid] at told
    exact told

/-! ## The tick (R6, R8, R14) -/

/-- The position moves on, and a count-in that reaches 1.1.0 ends. -/
def State.advanced (s : State) (q : Position) : State :=
  if s.grid.transport = .countIn ∧ q = Position.top then enterTransport .running none (setPosition q s) else setPosition q s

theorem tickExpiry_advances (h : s.dueAt (s.grid.position.next s.grid.meter) = none) :
    tickExpiry s = emitTick false (s.advanced (s.grid.position.next s.grid.meter)) := by
  unfold tickExpiry State.advanced
  dsimp only
  rw [h]
  dsimp only
  split <;> rfl

theorem advanced_frame (s : State) (q : Position) : SameBut [.grid, .noticesA, .noticesB] s (s.advanced q) := by
  unfold State.advanced
  split
  · exact (setPosition_frame q s).chain (enterTransport_frame _ _ _)
  · exact (setPosition_frame q s).mono (by decide)

theorem advanced_ends {q : Position} (h : s.grid.transport = .countIn ∧ q = ⟨1, 1, 0⟩) :
    s.advanced q = enterTransport .running none (setPosition q s) := if_pos h

theorem advanced_goes {q : Position} (h : ¬ (s.grid.transport = .countIn ∧ q = ⟨1, 1, 0⟩)) : s.advanced q = setPosition q s := if_neg h

theorem advanced_grid (s : State) (q : Position) : (s.advanced q).grid = { s.grid with
    position := q, transport := if s.grid.transport = .countIn ∧ q = ⟨1, 1, 0⟩ then .running else s.grid.transport } := by
  by_cases ends : s.grid.transport = .countIn ∧ q = ⟨1, 1, 0⟩
  · rw [advanced_ends ends, enterTransport_grid, if_pos ends]
    rfl
  · rw [advanced_goes ends, if_neg ends]
    rfl

theorem advanced_posting (s : State) (q : Position) : Posting 1 s (s.advanced q) := by
  unfold State.advanced
  split
  · exact ((setPosition_frame q s).posting.then (enterTransport_posting _ _ _)).mono (by decide)
  · exact (setPosition_frame q s).posting.mono (by decide)

theorem advanced_posts {q : Position} (h : s.grid.transport = .countIn) (hq : q = ⟨1, 1, 0⟩) :
    Posts ⟨.transport .running q, false, q, none⟩ s (s.advanced q) := by
  rw [advanced_ends ⟨h, hq⟩]
  exact (setPosition_frame q s).posting.posts fun p ha hl => enterTransport_mem .running none (setPosition q s) p ha hl

/-! ### The holdover beat of a tick (R34) -/

/-- A tick that makes no fallback counts its beat and leaves the grid. -/
theorem holdoverTick_counts (h : ¬ s.FallsBack s.grid.position) :
    (holdoverTick s).follower = s.tickedFollower s.grid.position ∧ SameBut [.follower, .noticesA, .noticesB] s (holdoverTick s) ∧
    Posting 1 s (holdoverTick s) := by
  unfold holdoverTick State.tickedFollower
  simp only [Position.isBeat_iff]
  by_cases beat : s.follower.state = .holdover ∧ s.grid.position.tick = 0
  · rw [if_pos beat, if_pos beat]
    by_cases last : s.setup.holdoverBeats ≤ s.follower.holdoverBeats + 1
    · have loss : s.setup.onLoss = .freewheel := by
        cases e : s.setup.onLoss
        · rfl
        · exact absurd ⟨beat.1, beat.2, last, e⟩ h
      rw [if_pos last, countHoldover_freewheel last loss]
      exact ⟨toldLost_follower _ _, toldLost_frame _ _, toldLost_posting _ _⟩
    · rw [if_neg last, countHoldover_few (by omega)]
      exact ⟨rfl, (setFollower_frame _ s).mono (by decide), (setFollower_frame _ s).posting.mono (by decide)⟩
  · rw [if_neg beat, if_neg beat]
    exact ⟨rfl, .refl _ s, (Posting.refl s).mono (by decide)⟩

theorem holdoverTick_grid (h : ¬ s.FallsBack s.grid.position) : (holdoverTick s).grid = s.grid :=
  (holdoverTick_counts h).2.1.at .grid

/-! ### The tick's work (R9) -/

/-- What a tick may change when it makes no fallback without a song. -/
abbrev tickedParts : List Part := [.grid, .follower, .click, .bus, .board, .noticesA, .noticesB]

theorem received_place (g : Grid) (ofTake ends : Bool) (n : Nat) :
    (g.received ofTake ends n).position = g.position ∧ (g.received ofTake ends n).source = g.source ∧
    (g.received ofTake ends n).transport = g.transport ∧ (g.received ofTake ends n).meter = g.meter := by
  cases ofTake <;> cases ends <;> exact ⟨rfl, rfl, rfl, rfl⟩

section
variable (ofTake : Bool) (s)

theorem tickReceivers_follower (ends : Bool) : (tickReceivers ofTake ends s).follower = s.follower := (tickReceivers_frame ofTake ends s).at .follower

theorem tickReceivers_position (ends : Bool) : (tickReceivers ofTake ends s).grid.position = s.grid.position := by
  rw [tickReceivers_received]
  exact (received_place ..).1

theorem tickReceivers_fallsBack (ends : Bool) (q : Position) : (tickReceivers ofTake ends s).FallsBack q ↔ s.FallsBack q := by
  have setup : (tickReceivers ofTake ends s).setup = s.setup := (tickReceivers_frame ofTake ends s).at .setup
  unfold State.FallsBack
  rw [tickReceivers_follower, setup]

theorem tickReceivers_tickedFollower (ends : Bool) (q : Position) : (tickReceivers ofTake ends s).tickedFollower q = s.tickedFollower q := by
  have setup : (tickReceivers ofTake ends s).setup = s.setup := (tickReceivers_frame ofTake ends s).at .setup
  unfold State.tickedFollower
  rw [tickReceivers_follower, setup]

theorem emitTick_ticks : emitTick ofTake s = nextInterval (holdoverTick (tickReceivers ofTake true s)) := rfl

theorem nextInterval_grid : (nextInterval s).grid = s.grid.interval s.now := rfl

end

/-- What a tick does that makes no fallback. -/
structure Emitted (ofTake : Bool) (s u : State) : Prop where
  grid : u.grid = (s.grid.received ofTake true s.follower.tempo).interval s.now
  follower : u.follower = s.tickedFollower s.grid.position
  frame : SameBut tickedParts s u
  bus : u.bus.transmission = s.bus.transmission
  posting : Posting 3 s u

theorem emitTick_emitted {ofTake : Bool} (h : ¬ s.FallsBack s.grid.position) : Emitted ofTake s (emitTick ofTake s) := by
  have kept : ¬ (tickReceivers ofTake true s).FallsBack (tickReceivers ofTake true s).grid.position := by
    rw [tickReceivers_fallsBack, tickReceivers_position]
    exact h
  obtain ⟨follower, frame, posting⟩ := holdoverTick_counts kept
  have received := tickReceivers_frame ofTake true s
  have now : (holdoverTick (tickReceivers ofTake true s)).now = s.now :=
    congrArg Timebase.count ((received.chain frame (rs := tickedParts)).at .timebase)
  rw [emitTick_ticks]
  refine ⟨?_, ?_, (received.chain frame (rs := tickedParts)).chain (nextInterval_frame _), ?_,
    (((tickReceivers_posting ofTake true s).then posting).then (nextInterval_posting _)).mono (by decide)⟩
  · rw [nextInterval_grid, now, holdoverTick_grid kept, tickReceivers_received]
  · rw [((nextInterval_frame _).at .follower : _ = (holdoverTick (tickReceivers ofTake true s)).follower), follower,
      tickReceivers_position, tickReceivers_tickedFollower]
  · rw [((nextInterval_frame _).at .bus : _ = (holdoverTick (tickReceivers ofTake true s)).bus),
      (frame.at .bus : _ = (tickReceivers ofTake true s).bus), tickReceivers_busSame]

/-- The state in which the tick has told LOST. -/
def tickLost (ofTake : Bool) (s : State) : State :=
  toldLost (s.follower.holdoverBeats + 1) (tickReceivers ofTake true s)

theorem tickLost_frame (ofTake : Bool) (s : State) : SameBut tickedParts s (tickLost ofTake s) :=
  (tickReceivers_frame ofTake true s).chain (toldLost_frame _ _)

theorem tickLost_posting (ofTake : Bool) (s : State) : Posting 3 s (tickLost ofTake s) :=
  (tickReceivers_posting ofTake true s).then (toldLost_posting _ _)

theorem tickLost_grid (ofTake : Bool) (s : State) : (tickLost ofTake s).grid = s.grid.received ofTake true s.follower.tempo :=
  ((toldLost_frame _ _).at .grid : (tickLost ofTake s).grid = _).trans (tickReceivers_received ofTake true s)

/-- A tick that makes the fallback. -/
theorem emitTick_falls {ofTake : Bool} (h : s.FallsBack s.grid.position) :
    emitTick ofTake s = nextInterval (songFallback (tickLost ofTake s)) := by
  have setup : (tickReceivers ofTake true s).setup = s.setup := (tickReceivers_frame ofTake true s).at .setup
  have follower := tickReceivers_follower s ofTake true
  obtain ⟨hold, beat, last, loss⟩ := h
  have counts : holdoverTick (tickReceivers ofTake true s) = countHoldover (tickReceivers ofTake true s) := by
    refine if_pos ⟨?_, ?_⟩
    · rw [follower]; exact hold
    · rw [Position.isBeat_iff, tickReceivers_position]; exact beat
  rw [emitTick_ticks, counts, countHoldover_songTempo (by rw [setup, follower]; exact last) (by rw [setup]; exact loss), tickLost, follower]

/-- What a tick does that falls back to the tempo of the song `x`. -/
structure EmittedLast (ofTake : Bool) (x : Song) (s u : State) : Prop where
  grid : u.grid = ({ s.grid.received ofTake true s.follower.tempo with
    source := .internal, ramp := some ⟨(s.grid.received ofTake true s.follower.tempo).tempo, x.tempo, 4, 0⟩, correction := none } : Grid).interval s.now
  follower : u.follower = s.follower.turnOff
  frame : SameBut tickedParts s u
  bus : u.bus.transmission = s.bus.transmission
  tempo : ∀ k o, k ≤ 1 → Posting k o s →
    Posts ⟨.tempoFallback (s.grid.received ofTake true s.follower.tempo).tempo x.tempo, false, s.grid.position, none⟩ o u ∧
    Posts ⟨.followState .off .lost s.follower.tempo .internal, false, s.grid.position, none⟩ o u

theorem emitTick_last {ofTake : Bool} {x : Song} (h : s.FallsBack s.grid.position) (he : s.grid.transport.emits = true)
    (hs : s.grid.source = .follow) (hx : s.activeBank.image = some x) : EmittedLast ofTake x s (emitTick ofTake s) := by
  have frame := tickLost_frame ofTake s
  have grid := tickLost_grid ofTake s
  obtain ⟨position, source, transport, -⟩ := received_place s.grid ofTake true s.follower.tempo
  have image : (tickLost ofTake s).activeBank.image = some x := by rw [frame.activeBank]; exact hx
  have fell := songFallback_fellBack image (by rw [grid, source]; exact hs)
  have told := fell.posts
  have follower : (tickLost ofTake s).follower = s.follower.lostAfter (s.follower.holdoverBeats + 1) := by
    rw [tickLost, toldLost_follower, tickReceivers_follower]
  have all := frame.chain fell.frame (rs := tickedParts)
  have now : (songFallback (tickLost ofTake s)).now = s.now := congrArg Timebase.count (all.at .timebase)
  rw [emitTick_falls h]
  refine ⟨?_, ?_, all.chain (nextInterval_frame _), ?_, fun k o hk posted => ?_⟩
  · rw [nextInterval_grid, now, songFallback_grid_emits image (by rw [grid, transport]; exact he), grid]
  · rw [((nextInterval_frame _).at .follower : _ = (songFallback (tickLost ofTake s)).follower), fell.follower, follower]
    rfl
  · rw [((nextInterval_frame _).at .bus : _ = (songFallback (tickLost ofTake s)).bus), fell.bus]
    exact tickReceivers_busSame ofTake true s
  · obtain ⟨tempo, off⟩ := told (k + 3) o (by omega) (posted.then (tickLost_posting ofTake s))
    rw [grid, position] at tempo
    rw [grid, position, follower] at off
    exact ⟨tempo.kept (nextInterval_posting _).keeps, off.kept (nextInterval_posting _).keeps⟩

/-- Whatever the on-loss action, the tick of the H-th beat tells LOST. -/
theorem emitTick_lost {k : Nat} {ofTake : Bool} {o : State} (hold : s.follower.state = .holdover) (beat : s.grid.position.tick = 0)
    (last : s.setup.holdoverBeats ≤ s.follower.holdoverBeats + 1) (posted : Posting k o s) (hk : k ≤ 6 := by decide) :
    Posts ⟨.followState .lost .holdover s.follower.tempo s.grid.source, true, s.grid.position, none⟩ o (emitTick ofTake s) := by
  have setup : (tickReceivers ofTake true s).setup = s.setup := (tickReceivers_frame ofTake true s).at .setup
  have follower := tickReceivers_follower s ofTake true
  obtain ⟨position, source, -, -⟩ := received_place s.grid ofTake true s.follower.tempo
  have counts : holdoverTick (tickReceivers ofTake true s) = countHoldover (tickReceivers ofTake true s) := by
    refine if_pos ⟨?_, ?_⟩
    · rw [follower]; exact hold
    · rw [Position.isBeat_iff, tickReceivers_position]; exact beat
  have told := countHoldover_lost (posted.then (tickReceivers_posting ofTake true s)) (by rw [setup, follower]; exact last) (by omega)
  rw [follower, tickReceivers_received, source, position] at told
  rw [emitTick_ticks, counts]
  exact told.kept (nextInterval_posting _).keeps

theorem countHoldover_keepsNotices (s : State) : KeepsNotices s (countHoldover s) := by
  have set (x : Follower) := (setFollower_frame x s).keepsNotices
  have lost (x : State) : KeepsNotices x (enterLost x) := by
    have told := (setFollower_frame { x.follower with state := .lost, paceTimer := none } x).keepsNotices.then
      (followNotice_keepsNotices .holdover _)
    unfold enterLost
    dsimp only
    split
    · exact told
    · exact told.then (songFallback_keepsNotices _)
  unfold countHoldover
  dsimp only
  split
  · exact (set _).then (lost _)
  · exact set _

theorem holdoverTick_keepsNotices (s : State) : KeepsNotices s (holdoverTick s) := by
  unfold holdoverTick
  split
  · exact countHoldover_keepsNotices s
  · exact .refl s

/-- Nothing a tick posts displaces a notice. -/
theorem emitTick_keepsNotices (ofTake : Bool) (s : State) : KeepsNotices s (emitTick ofTake s) :=
  ((tickReceivers_posting ofTake true s).keeps.then (holdoverTick_keepsNotices _)).then (nextInterval_posting _).keeps

end Sys2Proof.Machine
end

section
/-! PROOF. The key links: reception (O30), silence (O31); and what a release leaves of the Held-Note Table. -/

namespace Sys2Proof.Machine

variable {s t u : State} {p q : Port}

/-! ## Reception (R55, R56, R66) -/

theorem enterKeepAlive_link (l : LinkId) (x : KeepAlive) (tm : Option Timer) (n : Option Nat) (s : State) (l' : LinkId) :
    (enterKeepAlive l x tm n s).link l' = (s.setLink l { s.link l with keepAlive := x, timer := tm }).link l' := by
  have links : (enterKeepAlive l x tm n s).links = (s.setLink l { s.link l with keepAlive := x, timer := tm }).links :=
    (post_frame _ _ _).at .links
  rw [State.link, links]
  rfl

theorem goodByte_link (l : LinkId) (s : State) : (goodByte l s).link l = { s.link l with
    keepAlive := if (s.link l).keepAlive = .silent then .alive else (s.link l).keepAlive
    timer := if (s.link l).keepAlive = .neverSeen then (s.link l).timer else some ⟨s.now, 330000⟩ } := by
  unfold goodByte
  cases h : (s.link l).keepAlive with
  | neverSeen =>
    dsimp only
    rw [if_neg (by decide), if_pos rfl, ← h]
  | alive =>
    dsimp only
    rw [State.setLink_link_same, if_neg (by decide), if_neg (by decide), ← h]
    rfl
  | silent =>
    dsimp only
    rw [enterKeepAlive_link, State.setLink_link_same]
    rfl

theorem goodByte_link_other {l l' : LinkId} (h : l' ≠ l) (s : State) : (goodByte l s).link l' = s.link l' := by
  unfold goodByte
  split
  · rfl
  · exact State.setLink_link_other _ _ h
  · exact (enterKeepAlive_link ..).trans (State.setLink_link_other _ _ h)

theorem linkCharacter_link_other {l l' : LinkId} (h : l' ≠ l) (b : Byte) (stop : Bool) (s : State) :
    (linkCharacter l b stop s).link l' = s.link l' := by
  unfold linkCharacter
  split
  · rfl
  · split
    · exact State.setLink_link_other _ _ h
    · exact (State.setLink_link_other _ _ h).trans (goodByte_link_other h s)

theorem setLink_posting (l : LinkId) (x : KeyLink) (s : State) : Posting 0 s (s.setLink l x) := (setLink_frame s l x).posting

/-- Settles O30: the disabled link, the framing error, and the good byte by the link's keep-alive state and its FIFO. -/
theorem linkReception : Obligations.LinkReception := by
  intro l b stop s k run hk
  subst hk
  have ends := transmitAll_ends (linkCharacter l b stop s)
  refine ⟨transmitAll (linkCharacter l b stop s), by rw [exec, execKeyLinkCharacter, whileRunning, if_pos run],
    (linkCharacter_frame l b stop s).chain (transmitAll_frame _), fun l' hl => ?_, fun off => ?_, fun on hs => ?_, fun on hs => ?_⟩
  · rw [ends.link, linkCharacter_link_other hl]
  · rw [ends.link, linkCharacter, State.linkOn, off]
    rfl
  · rw [ends.link, linkCharacter, State.linkOn, on, hs]
    show (s.setLink l (s.link l).misframed).link l = _
    rw [State.setLink_link_same, KeyLink.misframed, saturate_min]
  · have good : linkCharacter l b stop s = (goodByte l s).setLink l (((goodByte l s).link l).offer b s.now) := by
      rw [linkCharacter, State.linkOn, on, hs]
      rfl
    refine ⟨?_, fun silent => ?_⟩
    · rw [ends.link, good, State.setLink_link_same, goodByte_link, KeyLink.offer, ← saturate_min]
      dsimp only
      split <;> rfl
    · refine Posts.tells ?_ ends
      have alive : goodByte l s = post (.linkState .alive .silent (s.link l).framing (s.link l).overruns none) (some (.link l))
          (s.setLink l { s.link l with keepAlive := .alive, timer := some (s.timer 330000) }) := by
        unfold goodByte
        rw [silent]
        dsimp only
        rw [enterKeepAlive, silent]
      have posts := (setLink_posting l { s.link l with keepAlive := .alive, timer := some (s.timer 330000) } s).post
        (.linkState .alive .silent (s.link l).framing (s.link l).overruns none) (some (.link l))
      rw [State.setLink_grid] at posts
      rw [good, alive]
      exact posts.kept (setLink_posting l _ _).keeps

/-! ## Release (R94, R98) -/

variable {w : Entry → Bool} {n : Count} {e : Entry} {es : List Entry}

theorem releaseScan_moved (w : Entry → Bool) : ∀ (n : Count) (es : List Entry),
    (releaseScan w n es).moved = es.countP (fun e => !e.releasing && w e)
  | _, [] => rfl
  | n, e :: es => by
    unfold releaseScan
    split
    · next h =>
      rw [List.countP_cons, ← releaseScan_moved w (n + 1) es, if_pos h]
      dsimp only
      split <;> rfl
    · next h =>
      rw [List.countP_cons, ← releaseScan_moved w n es, if_neg h]
      rfl

/-- An entry of the table after a release is RELEASING, or the release does not name it. -/
theorem releaseScan_mem (h : e ∈ (releaseScan w n es).entries) : e.releasing = true ∨ w e = false := by
  obtain ⟨y, -, r⟩ := (releaseScan_thinned w n es).mem h
  cases r with
  | stands h => exact h
  | moves n h => exact .inl rfl

/-- An entry that is RELEASING or that the release does not name stands. -/
theorem releaseScan_stands : ∀ {n : Count} {es : List Entry}, e ∈ es → e.releasing = true ∨ w e = false → e ∈ (releaseScan w n es).entries
  | n, x :: es, h, hw => by
    unfold releaseScan
    split
    · next hx =>
      have rest : e ∈ (releaseScan w (n + 1) es).entries := by
        refine releaseScan_stands ((List.mem_cons.1 h).resolve_left fun same => ?_) hw
        subst same
        rcases hw with hw | hw <;> simp [hw] at hx
      dsimp only
      split
      · exact rest
      · exact List.mem_cons_of_mem _ rest
    · rcases List.mem_cons.1 h with rfl | rest
      · exact List.mem_cons_self
      · exact List.mem_cons_of_mem _ (releaseScan_stands rest hw)

/-- The entries of a kind the release does not name, and that a release leaves in its kind, stand in their places. -/
theorem releaseScan_filter {g : Entry → Bool} (hg : ∀ n e, g (e.release n) = g e) (hw : ∀ e, w e = true → g e = false) :
    ∀ (n : Count) (es : List Entry), (releaseScan w n es).entries.filter g = es.filter g
  | _, [] => rfl
  | n, e :: es => by
    unfold releaseScan
    split
    · next h =>
      have out : g e = false := hw e (Bool.and_eq_true_iff.1 h).2
      dsimp only
      split
      · rw [releaseScan_filter hg hw, List.filter_cons_of_neg (by simp [out])]
      · rw [List.filter_cons_of_neg (by simp [hg, out]), releaseScan_filter hg hw, List.filter_cons_of_neg (by simp [out])]
    · rw [List.filter_cons, List.filter_cons, releaseScan_filter hg hw]

theorem releaseEntries_moved (w : Entry → Bool) (s : State) :
    (releaseEntries w s).2 = s.notes.entries.countP (fun e => !e.releasing && w e) := releaseScan_moved w _ _

theorem releaseEntries_posting (w : Entry → Bool) (s : State) : Posting 0 s (releaseEntries w s).1 := (releaseEntries_frame w s).posting

/-! ## Silence (R66, R67, R100) -/

theorem linkSilent_link (l : LinkId) (s : State) : (linkSilent l s).link l = { (s.link l).silenced with keepAlive := .silent, timer := none } := by
  unfold linkSilent
  dsimp only
  rw [enterKeepAlive_link, State.setLink_link_same, State.link,
    show (linkSilence l (s.setLink l (s.link l).silenced)).1.links = _ from (linkSilence_frame l _).at .links]
  exact congrArg (fun k : KeyLink => { k with keepAlive := .silent, timer := none }) (State.setLink_link_same ..)

theorem linkSilent_link_other {l l' : LinkId} (h : l' ≠ l) (s : State) : (linkSilent l s).link l' = s.link l' := by
  unfold linkSilent
  dsimp only
  rw [enterKeepAlive_link, State.setLink_link_other _ _ h, State.link,
    show (linkSilence l (s.setLink l (s.link l).silenced)).1.links = _ from (linkSilence_frame l _).at .links]
  exact State.setLink_link_other _ _ h

theorem linkSilent_entries (l : LinkId) (s : State) : (linkSilent l s).notes.entries =
    (releaseScan (fun e => e.link == l) s.notes.nextRelease s.notes.entries).entries := by
  have silenced := congrArg Notes.entries (releaseEntries_notes (fun e => e.link == l) (s.setLink l (s.link l).silenced))
  rw [State.setLink_notes] at silenced
  refine Eq.trans (congrArg Notes.entries ?_) silenced
  exact (enterKeepAlive_frame _ _ _ _ _).at .notes

/-- The link that falls silent tells it, with the number of entries its release moves. -/
theorem linkSilent_posts (l : LinkId) (s : State) : Posts ⟨.linkState .silent (s.link l).keepAlive (s.link l).framing (s.link l).overruns
    (some (s.notes.entries.countP (fun e => e.link == l && !e.releasing))), false, s.grid.position, some (.link l)⟩ s (linkSilent l s) := by
  set x := (linkSilence l (s.setLink l (s.link l).silenced)).1 with hx
  have moved : (linkSilence l (s.setLink l (s.link l).silenced)).2 = s.notes.entries.countP (fun e => e.link == l && !e.releasing) := by
    refine (releaseEntries_moved _ _).trans ?_
    rw [State.setLink_notes]
    exact congrArg (fun g => List.countP g s.notes.entries) (funext fun e => Bool.and_comm _ _)
  have link : x.link l = (s.link l).silenced := by
    rw [State.link, show x.links = _ from (linkSilence_frame l _).at .links]
    exact State.setLink_link_same ..
  have frame : SameBut parseParts s (x.setLink l { x.link l with keepAlive := .silent, timer := none }) :=
    ((setLink_frame s l (s.link l).silenced).chain (linkSilence_frame l _) (rs := parseParts)).chain (setLink_frame x l _)
  have posting : Posting 0 s (x.setLink l { x.link l with keepAlive := .silent, timer := none }) :=
    ((setLink_posting l (s.link l).silenced s).then (releaseEntries_posting (fun e => e.link == l) _)).then (setLink_posting l _ x)
  have posts : Posts ⟨.linkState .silent (x.link l).keepAlive (x.link l).framing (x.link l).overruns
      (some (linkSilence l (s.setLink l (s.link l).silenced)).2), false,
      (x.setLink l { x.link l with keepAlive := .silent, timer := none }).grid.position, some (.link l)⟩ s (linkSilent l s) := posting.post _ _
  rw [show State.grid _ = s.grid from frame.at .grid, link, moved] at posts
  exact posts

/-- Settles O31: the silence's work at the expiry, and what the release leaves of the table. -/
theorem linkSilence_holds : Obligations.LinkSilence := by
  intro l s tm htm
  set a := s.atCount tm.due with ha
  have run : exec (.keepAliveTimerExpiry l) s = .next (expireAt tm (fun x => close (linkSilent l x)) s) := by
    rw [exec, execKeepAliveTimerExpiry, onKeepAliveTimer, htm]
  have ends : Ends (linkSilent l a) (expireAt tm (fun x => close (linkSilent l x)) s) := expireAt_ends (close_ends _)
  have bus : (linkSilent l a).bus = s.bus := (linkSilent_frame l a).at .bus
  have link (l' : LinkId) : a.link l' = s.link l' := rfl
  refine ⟨_, run, expired_close_closed (f := linkSilent l) ((linkSilent_frame l a).mono) (congrArg _ bus), fun l' hl => ?_, ?_, ?_, fun busy => ?_⟩
  · rw [ends.link, linkSilent_link_other hl, link]
  · rw [ends.link, linkSilent_link, link]
    rfl
  · exact Posts.tells (s := a) (linkSilent_posts l a) ends
  · have entries : (expireAt tm (fun x => close (linkSilent l x)) s).notes.entries = (linkSilent l a).notes.entries :=
      congrArg Notes.entries ((ends.busy (by rw [bus]; exact busy)).at .notes)
    rw [entries, linkSilent_entries]
    refine ⟨fun e he hl => ?_, ?_⟩
    · exact (releaseScan_mem he).resolve_right (by simp [hl])
    · exact releaseScan_filter (fun _ _ => rfl) (fun e he => by simpa using he) _ _

end Sys2Proof.Machine
end

section
/-! PROOF. The tick's countdown (R6 to R9, R14, R19, R21), the holdover beats (R34, R35), and what a tick shows at the clicks, CLKOUT, the
flashes and the ports (R44 to R50, R167). -/

namespace Sys2Proof.Machine

variable {s t u : State} {within : List Part → Prop}

/-! ## The tick's interval -/

/-- The grid once T_g and its records have taken a value, and the next interval is computed. -/
theorem Grid.retuned_interval (g : Grid) (m : Nat) (r : Option Ramp) (c : Option Correction) (now : Count) :
    ({ g.retuned m with ramp := r, correction := c } : Grid).interval now = { g with
      tempo := m, ramp := r, correction := c, fresh := false
      remainder := 25000000 + (if m ≠ g.tempo ∨ g.fresh = true then 0 else g.remainder) -
        (25000000 + (if m ≠ g.tempo ∨ g.fresh = true then 0 else g.remainder)) / m * m
      countdown := some ⟨now, (25000000 + (if m ≠ g.tempo ∨ g.fresh = true then 0 else g.remainder)) / m⟩ } := by
  by_cases same : m = g.tempo
  · simp [Grid.interval, Grid.retuned, same]
  · simp [Grid.interval, Grid.retuned, same]

/-- With one record at most, a tick's receivers step the ramp or count for the correction. -/
theorem Grid.received_ramp {g : Grid} (n : Nat) (h : g.correction = none) :
    g.received false true n = { g.retuned (g.ramped g.position).1 with ramp := (g.ramped g.position).2, correction := none } := by
  have none : g.rampTaken.correction = none := h
  show g.rampTaken.correctionTaken n = _
  rw [Grid.correctionTaken_none n none, Grid.rampTaken, ← h]
  rfl

theorem Grid.received_correction {g : Grid} (n : Nat) (h : g.ramp = none) : g.received false true n =
    { g.retuned (countedCorrection g.correction g.tempo n).1 with
      ramp := none, correction := (countedCorrection g.correction g.tempo n).2 } := by
  show g.rampTaken.correctionTaken n = _
  rw [Grid.rampTaken_none h, Grid.correctionTaken, ← h]
  rfl

theorem Grid.received_none {g : Grid} (n : Nat) (hr : g.ramp = none) (hc : g.correction = none) : g.received false true n = g := by
  show g.rampTaken.correctionTaken n = g
  rw [Grid.rampTaken_none hr, Grid.correctionTaken_none n hc]

/-! ## The countdown's expiry -/

theorem exec_countdown {tm : Timer} (h : s.grid.countdown = some tm) :
    exec .intervalCountdownExpiry s = .next (expireAt tm (fun x => close (tickExpiry x)) s) := by
  have work : onCountdown s = expireAt tm (fun x => close (tickExpiry x)) s := by rw [onCountdown, h]
  exact congrArg _ work

theorem advanced_fallsBack (q : Position) : (s.advanced q).FallsBack q ↔ s.FallsBack q := by
  have frame := advanced_frame s q
  unfold State.FallsBack
  rw [(frame.at .follower : (s.advanced q).follower = _), (frame.at .setup : (s.advanced q).setup = _)]

theorem advanced_follower (q : Position) : (s.advanced q).follower = s.follower := (advanced_frame s q).at .follower

theorem advanced_setup (q : Position) : (s.advanced q).setup = s.setup := (advanced_frame s q).at .setup

theorem advanced_now (q : Position) : (s.advanced q).now = s.now := congrArg Timebase.count ((advanced_frame s q).at .timebase)

theorem advanced_position (q : Position) : (s.advanced q).grid.position = q := by rw [advanced_grid]

theorem advanced_tickedFollower (q : Position) : (s.advanced q).tickedFollower q = s.tickedFollower q := by
  unfold State.tickedFollower
  rw [advanced_follower, advanced_setup]

/-- A tick at `q` that makes no fallback, from the position before it. -/
structure Advanced (q : Position) (s u : State) : Prop where
  grid : u.grid = ((s.advanced q).grid.received false true s.follower.tempo).interval s.now
  follower : u.follower = s.tickedFollower q
  frame : SameBut tickedParts s u
  bus : u.bus.transmission = s.bus.transmission
  posts : s.grid.transport = .countIn → q = ⟨1, 1, 0⟩ → Posts ⟨.transport .running q, false, q, none⟩ s u

theorem emitTick_advanced {q : Position} (h : ¬ s.FallsBack q) : Advanced q s (emitTick false (s.advanced q)) := by
  have emitted := emitTick_emitted (ofTake := false) (s := s.advanced q) (by rw [advanced_position, advanced_fallsBack]; exact h)
  refine ⟨?_, ?_, (advanced_frame s q).chain emitted.frame, ?_, fun counting top => (advanced_posts counting top).kept emitted.posting.keeps⟩
  · rw [emitted.grid, advanced_follower, advanced_now]
  · rw [emitted.follower, advanced_position, advanced_tickedFollower]
  · rw [emitted.bus, ((advanced_frame s q).at .bus : (s.advanced q).bus = _)]

/-- With at most one record, the grid after a tick at `q`. -/
theorem advanced_received_grid {q : Position} (h : s.grid.ramp = none ∨ s.grid.correction = none) (n : Nat) (now : Count) :
    ∃ m r c, ((s.advanced q).grid.received false true n).interval now = { s.grid with
        position := q, transport := if s.grid.transport = .countIn ∧ q = ⟨1, 1, 0⟩ then .running else s.grid.transport
        tempo := m, ramp := r, correction := c, fresh := false
        remainder := 25000000 + (if m ≠ s.grid.tempo ∨ s.grid.fresh = true then 0 else s.grid.remainder) -
          (25000000 + (if m ≠ s.grid.tempo ∨ s.grid.fresh = true then 0 else s.grid.remainder)) / m * m
        countdown := some ⟨now, (25000000 + (if m ≠ s.grid.tempo ∨ s.grid.fresh = true then 0 else s.grid.remainder)) / m⟩ } ∧
      (s.grid.correction = none → (m, r) = s.grid.ramped q ∧ c = none) ∧
      (s.grid.ramp = none → (m, c) = countedCorrection s.grid.correction s.grid.tempo n ∧ r = none) := by
  rw [advanced_grid]
  rcases h with ramp | correction
  · refine ⟨(countedCorrection s.grid.correction s.grid.tempo n).1, none, (countedCorrection s.grid.correction s.grid.tempo n).2, ?_,
      fun correction => ?_, fun _ => ⟨rfl, rfl⟩⟩
    · rw [Grid.received_correction n (by exact ramp), Grid.retuned_interval]
    · rw [correction]
      exact ⟨by simp [Grid.ramped, ramp, countedCorrection], rfl⟩
  · refine ⟨(s.grid.ramped q).1, (s.grid.ramped q).2, none, ?_, fun _ => ⟨rfl, rfl⟩, fun ramp => ?_⟩
    · rw [Grid.received_ramp n (by exact correction), Grid.retuned_interval]
      rfl
    · rw [correction]
      exact ⟨by simp [Grid.ramped, ramp, countedCorrection], by simp [Grid.ramped, ramp]⟩

/-- Settles O16: the expiry is a tick without fallback at the timer's due value. -/
theorem tickAdvances : Obligations.TickAdvances := by
  intro s tm h due stays records
  have c := expired_carries tm tickExpiry s
  set x := s.atCount tm.due with hx
  have advances : tickExpiry x = emitTick false (x.advanced (s.grid.position.next s.grid.meter)) := tickExpiry_advances due
  rw [advances] at c
  have work := emitTick_advanced (s := x) (q := s.grid.position.next s.grid.meter) stays
  obtain ⟨m, r, k, grid, ramped, counted⟩ :=
    advanced_received_grid (s := x) (q := s.grid.position.next s.grid.meter) records x.follower.tempo x.now
  have grid := (c.ends.grid.trans work.grid).trans grid
  refine ⟨_, exec_countdown h, c.framed work.frame work.bus, c.ends.follower.trans work.follower, ?_⟩
  rw [grid]
  refine ⟨rfl, rfl, rfl, rfl, fun counting top => ?_, fun ramp correction => ?_, fun r ramp correction => ?_, fun k correction ramp => ?_,
    _, rfl, rfl, rfl, rfl⟩
  · have told := c.tells (work.posts counting top)
    rw [top] at told
    exact told
  · obtain ⟨stepped, rfl⟩ := ramped correction
    rw [show x.grid.ramped _ = (s.grid.tempo, none) by simp [Grid.ramped, hx, State.atCount, ramp]] at stepped
    obtain ⟨rfl, rfl⟩ := Prod.mk.inj stepped
    exact ⟨rfl, rfl, rfl⟩
  · obtain ⟨stepped, -⟩ := ramped correction
    have ramp : x.grid.ramp = some r := ramp
    simp only [Grid.ramped, ramp] at stepped
    split at stepped
    all_goals
      next beat =>
      obtain ⟨rfl, rfl⟩ := Prod.mk.inj stepped
      simp [beat, hx, State.atCount]
  · obtain ⟨stepped, -⟩ := counted ramp
    have correction : x.grid.correction = some k := correction
    simp only [countedCorrection, correction] at stepped
    repeat' split at stepped
    all_goals
      obtain ⟨rfl, rfl⟩ := Prod.mk.inj stepped
      simp_all [State.atCount]

/-! ## Holdover beats (R34, R35) -/

theorem exec_pace {tm : Timer} (h : s.follower.paceTimer = some tm) :
    exec .holdoverPaceTimerExpiry s = .next (expireAt tm (fun x => close (paceExpiry x)) s) := by
  have work : onPaceTimer s = expireAt tm (fun x => close (paceExpiry x)) s := by rw [onPaceTimer, h]
  exact congrArg _ work

/-- What a beat of the pace timer does. -/
theorem pace_done (c : Carries within s (paceExpiry s) t) :
    (s.follower.holdoverBeats + 1 < s.setup.holdoverBeats →
      within [.follower] ∧
      t.follower = { s.follower with holdoverBeats := s.follower.holdoverBeats + 1, paceTimer := some ⟨s.now, s.follower.period⟩ }) ∧
    (s.setup.holdoverBeats ≤ s.follower.holdoverBeats + 1 →
      Tells ⟨.followState .lost .holdover s.follower.tempo s.grid.source, true, s.grid.position, none⟩ s t ∧
      (s.setup.onLoss = .freewheel →
        within [.follower] ∧
        t.follower = { s.follower with state := .lost, holdoverBeats := s.follower.holdoverBeats + 1, paceTimer := none })) := by
  have few (h : s.follower.holdoverBeats + 1 < s.setup.holdoverBeats) : paceExpiry s = setFollower
      { s.follower with holdoverBeats := s.follower.holdoverBeats + 1, paceTimer := some ⟨s.now, s.follower.period⟩ } s :=
    countHoldover_few (s := repaced s) h
  have freewheel (h : s.setup.holdoverBeats ≤ s.follower.holdoverBeats + 1) (hl : s.setup.onLoss = .freewheel) : paceExpiry s = paceLost s :=
    countHoldover_freewheel (s := repaced s) h hl
  refine ⟨fun h => ?_, fun h => ⟨c.tells ?_, fun hl => ?_⟩⟩
  · rw [few h] at c
    exact ⟨c.still (l := [.follower]) ((setFollower_frame _ s).mono (by decide)), c.ends.follower⟩
  · exact countHoldover_lost (u := repaced s) (repaced_frame s).posting h
  · rw [freewheel h hl] at c
    exact ⟨c.still (l := [.follower]) (paceLost_frame s), c.ends.follower.trans (paceLost_follower s)⟩

/-- What the tick at `q` that is the H-th beat does under SONG_TEMPO, the song `x` being ACTIVE. -/
theorem tick_fallback {x : Song} {q : Position} (c : Carries within s (emitTick false (s.advanced q)) t) (h : s.FallsBack q)
    (hr : s.grid.ramp = none) (hc : s.grid.correction = none) (he : s.grid.transport.emits = true) (hs : s.grid.source = .follow)
    (hx : s.activeBank.image = some x) :
    within [.grid, .follower, .click, .bus, .board] ∧
    t.grid = { s.grid.ticked q s.now with source := .internal, ramp := some ⟨s.grid.tempo, x.tempo, 4, 0⟩ } ∧
    t.follower = { s.follower with
      state := .off, reference := none, intervals := [], outliers := 0, holdoverTimer := none, holdoverBeats := 0, paceTimer := none } ∧
    Tells ⟨.tempoFallback s.grid.tempo x.tempo, false, q, none⟩ s t ∧
    Tells ⟨.followState .off .lost s.follower.tempo .internal, false, q, none⟩ s t := by
  have frame := advanced_frame s q
  have grid := advanced_grid s q
  have received : (s.advanced q).grid.received false true (s.advanced q).follower.tempo = (s.advanced q).grid :=
    Grid.received_none _ (by rw [grid]; exact hr) (by rw [grid]; exact hc)
  have emits : (s.advanced q).grid.transport.emits = true := by
    rw [grid]
    show Transport.emits (if _ then _ else _) = true
    split
    · rfl
    · exact he
  have last := emitTick_last (ofTake := false) (x := x) (s := s.advanced q) (by rw [advanced_position, advanced_fallsBack]; exact h) emits
    (by rw [grid]; exact hs) (by rw [frame.activeBank]; exact hx)
  obtain ⟨tempo, off⟩ := last.tempo 1 s (by decide) (advanced_posting s q)
  rw [received, grid] at tempo
  rw [advanced_follower, grid] at off
  refine ⟨c.framed (l := [.grid, .follower, .click, .bus, .board]) (frame.chain last.frame) ?_, ?_, ?_, c.tells tempo, c.tells off⟩
  · rw [last.bus, (frame.at .bus : (s.advanced q).bus = s.bus)]
  · rw [c.ends.grid, last.grid, received, advanced_now, grid]
    simp [Grid.interval, Grid.ticked, hc]
  · rw [c.ends.follower, last.follower, advanced_follower]
    rfl

/-- A tick that finds no record leaves T_g. -/
theorem advanced_received_none {q : Position} (hr : s.grid.ramp = none) (hc : s.grid.correction = none) (n : Nat) :
    ((s.advanced q).grid.received false true n).interval s.now = s.grid.ticked q s.now := by
  rw [advanced_grid, Grid.received_none n (by exact hr) (by exact hc)]
  simp [Grid.interval, Grid.ticked]

/-- Settles O26: a beat of the pace timer, and the beat that a tick counts, each below H, at H under FREEWHEEL and at H under SONG_TEMPO. -/
theorem holdoverBeats : Obligations.HoldoverBeats := by
  refine ⟨fun s tm h _ => ⟨_, exec_pace h, ?_⟩, fun s tm q h hq due hold hr hc he => ⟨_, exec_countdown h, ?_⟩⟩
  · have c := expired_carries tm paceExpiry s
    obtain ⟨few, lost⟩ := pace_done c
    refine ⟨few, fun last => ⟨(lost last).1, (lost last).2, fun loss source x image => ?_⟩⟩
    have falls : paceExpiry (s.atCount tm.due) = songFallback (paceLost (s.atCount tm.due)) :=
      countHoldover_songTempo (s := repaced (s.atCount tm.due)) last loss
    have done := pace_fallback (x := x) (s := s.atCount tm.due) (by rw [← falls]; exact c) image source
    exact done
  · have c := expired_carries tm tickExpiry s
    have advances : tickExpiry (s.atCount tm.due) = emitTick false ((s.atCount tm.due).advanced q) := by
      subst hq
      exact tickExpiry_advances due
    rw [advances] at c
    have posted := advanced_posting (s.atCount tm.due) q
    have ticked (k : ¬ s.FallsBack q) : Advanced q (s.atCount tm.due) (emitTick false ((s.atCount tm.due).advanced q)) := emitTick_advanced k
    have follower (k : ¬ s.FallsBack q) := c.ends.follower.trans (ticked k).follower
    refine ⟨fun counting top => c.tells ((advanced_posts (s := s.atCount tm.due) counting top).kept (emitTick_keepsNotices _ _)), fun between => ?_,
      fun beat few => ?_, fun beat last => ⟨c.tells ?_, fun loss => ?_, fun loss source x image => ?_⟩, fun k => ⟨c.framed (ticked k).frame (ticked k).bus, ?_⟩⟩
    · rw [follower fun ⟨_, beat, _⟩ => between beat]
      exact if_neg fun both => between both.2
    · rw [follower fun ⟨_, _, last, _⟩ => by omega]
      exact (if_pos ⟨hold, beat⟩).trans (if_neg (Nat.not_le.2 few))
    · have told := emitTick_lost (ofTake := false) (s := (s.atCount tm.due).advanced q) (by rw [advanced_follower]; exact hold)
        (by rw [advanced_position]; exact beat) (by rw [advanced_follower, advanced_setup]; exact last) posted
      rw [advanced_follower, advanced_grid] at told
      exact told
    · rw [follower fun ⟨_, _, _, tempo⟩ => by rw [loss] at tempo; cases tempo]
      exact (if_pos ⟨hold, beat⟩).trans (if_pos last)
    · exact tick_fallback c ⟨hold, beat, last, loss⟩ hr hc he source image
    · rw [c.ends.grid, (ticked k).grid]
      exact advanced_received_none (s := s.atCount tm.due) hr hc _

end Sys2Proof.Machine
end

section
/-! PROOF. What a tick shows at the clicks, CLKOUT, the flashes and the ports (R44 to R50, R167, R176). -/

namespace Sys2Proof.Machine

variable {s t u : State} {within : List Part → Prop}

/-! ## The holdover beat leaves the outputs alone -/

/-- What a holdover beat leaves of a grid that is not pending: the outputs, and the transport. -/
structure BeatFalls (s t : State) : Prop where
  frame : SameBut [.grid, .follower, .draws, .noticesA, .noticesB] s t
  transport : t.grid.transport = s.grid.transport

/-- The fallback of a grid that is not pending, with a song or without. -/
theorem songFallback_unpending (h : s.grid.transport ≠ .startPending) : BeatFalls s (songFallback s) := by
  have switched := switchSource_frame .internal s
  have stays : endPending none (switchSource .internal s) = switchSource .internal s := if_neg fun both => h both.1
  cases image : s.activeBank.image with
  | some x =>
    refine ⟨(songFallback_frame_still image h).mono (by decide), ?_⟩
    rw [songFallback_still image h, fellBack_grid, fallbackTempo_grid]
    split <;> rfl
  | none =>
    have eq : songFallback s = followNotice .lost (post (.tempoFallback s.grid.tempo (Config.fallbackTarget s.draws)) none
        (switchSource .internal s).drew) := by
      unfold songFallback
      dsimp only
      rw [image, if_neg h, stays]
    rw [eq]
    have told := (post_frame (.tempoFallback s.grid.tempo (Config.fallbackTarget s.draws)) none (switchSource .internal s).drew).chain
      (followNotice_frame .lost _) (rs := noticeParts)
    refine ⟨(switched.chain (drew_frame _) (rs := [.grid, .follower, .draws, .noticesA, .noticesB])).chain told, ?_⟩
    rw [(told.at .grid : _ = (switchSource .internal s).drew.grid)]
    rfl

theorem holdoverTick_unpending (h : s.grid.transport ≠ .startPending) : BeatFalls s (holdoverTick s) := by
  by_cases falls : s.FallsBack s.grid.position
  · obtain ⟨hold, beat, last, loss⟩ := falls
    have counts : holdoverTick s = songFallback (toldLost (s.follower.holdoverBeats + 1) s) := by
      rw [← countHoldover_songTempo last loss]
      exact if_pos ⟨hold, (Position.isBeat_iff _).2 beat⟩
    have lost := toldLost_frame (s.follower.holdoverBeats + 1) s
    have grid : (toldLost (s.follower.holdoverBeats + 1) s).grid = s.grid := lost.at .grid
    obtain ⟨frame, transport⟩ := songFallback_unpending (s := toldLost (s.follower.holdoverBeats + 1) s) (by rw [grid]; exact h)
    rw [counts]
    exact ⟨lost.chain frame, by rw [transport, grid]⟩
  · exact ⟨(holdoverTick_counts falls).2.1.mono (by decide), by rw [holdoverTick_grid falls]⟩

theorem emitTick_unpending {ofTake : Bool} (h : s.grid.transport ≠ .startPending) :
    SameBut [.grid, .follower, .draws, .noticesA, .noticesB] (tickReceivers ofTake true s) (emitTick ofTake s) ∧
    (emitTick ofTake s).grid.transport = s.grid.transport := by
  have transport : (tickReceivers ofTake true s).grid.transport = s.grid.transport := by
    rw [tickReceivers_received]
    exact (received_place ..).2.2.1
  obtain ⟨frame, same⟩ := holdoverTick_unpending (s := tickReceivers ofTake true s) (by rw [transport]; exact h)
  exact ⟨frame.chain (nextInterval_frame _), same.trans transport⟩

/-! ## The click of a tick (R42 to R49) -/

theorem Click.at_eq (c : Click) (p : Position) : c.at p =
    match c.entry p.beat with
    | .silent => none
    | .accent => if p.tick = 0 then some .accent else if p.tick % (240 / c.subdivision) = 0 then some .sub else none
    | .beat => if p.tick = 0 then some .beat else if p.tick % (240 / c.subdivision) = 0 then some .sub else none := by
  unfold Click.at
  by_cases beat : p.tick = 0
  · rw [if_pos beat]
    cases c.entry p.beat <;> simp [beat]
  · rw [if_neg beat]
    cases c.entry p.beat <;> simp [beat]

/-- The click of the tick at `q`. -/
theorem advanced_click (q : Position) (he : s.grid.transport.emits = true) : (s.advanced q).tickClick =
    if s.click.mute = true ∧ (s.grid.transport = .running ∨ q = ⟨1, 1, 0⟩) then none else s.click.at q := by
  have click : (s.advanced q).click = s.click := (advanced_frame s q).at .click
  unfold State.tickClick
  rw [click, advanced_grid]
  dsimp only
  cases transport : s.grid.transport with
  | stopped => rw [transport] at he; cases he
  | startPending => rw [transport] at he; cases he
  | running => simp
  | countIn => by_cases top : q = ⟨1, 1, 0⟩ <;> simp [top]

/-- What the click of a tick writes: its line, its message or the drop of it. -/
theorem clickTick_click (s : State) : (clickTick s).click = { s.click with
    accentLine := if s.tickClick = some .accent then some (s.timer 10000) else s.click.accentLine
    beatLine := if s.tickClick = some .beat then some (s.timer 10000) else s.click.beatLine
    subLine := if s.tickClick = some .sub then some (s.timer 10000) else s.click.subLine
    drops := (clickTick s).click.drops } := by
  have offered (k : ClickLine) (x : State) : (offerClick k x).click = { x.click with drops := (offerClick k x).click.drops } := by
    unfold offerClick
    repeat' split
    all_goals rfl
  unfold clickTick
  cases s.tickClick with
  | none => simp
  | some k =>
    dsimp only
    rw [offered]
    cases k <;> simp [pulseLine]

/-- The CLICK message joins REALTIME, or is counted as dropped (R48). -/
theorem clickTick_offers {k : ClickLine} {m : ModuleId} (h : s.tickClick = some k) (hm : s.setup.clickModule = some m) :
    if s.bus.realtime.length < 8 then
      (clickTick s).click.drops = s.click.drops ∧ (clickTick s).bus = { s.bus with realtime := s.bus.realtime ++
        [.click ⟨m, .click s.setup.clickChannel (clickStrength k)⟩] }
    else (clickTick s).bus = s.bus ∧ (clickTick s).click.drops = saturate (s.click.drops + 1) := by
  have line := pulseLine_frame k s
  have bus : (pulseLine k s).bus = s.bus := line.at .bus
  have setup : (pulseLine k s).setup = s.setup := line.at .setup
  have drops : (pulseLine k s).click.drops = s.click.drops := by cases k <;> rfl
  unfold clickTick
  rw [h]
  dsimp only
  unfold offerClick
  rw [setup, hm]
  dsimp only
  rw [bus]
  split
  · exact ⟨drops, rfl⟩
  · exact ⟨rfl, by rw [drops]⟩

theorem clkoutTick_click (s : State) : (clkoutTick s).click = { s.click with
    clkout := if s.grid.position.tick % (240 / s.setup.clkoutRate) = 0
      then some (s.timer (clkoutWidth s.setup.clkoutRate s.grid.tempo)) else s.click.clkout } := by
  unfold clkoutTick
  split <;> rfl

theorem flashTick_board (s : State) : (flashTick s).board = { s.board with
    beatFlash := if s.grid.position.tick = 0 then some (s.timer 100000) else s.board.beatFlash
    downbeatFlash := if s.grid.position.tick = 0 ∧ s.grid.position.beat = 1 then some (s.timer 100000) else s.board.downbeatFlash } := by
  unfold flashTick
  by_cases beat : s.grid.position.tick = 0 <;> simp [beat]

/-! ## POSITION (R9, R176) -/

theorem positionNotice_other {p q : Port} (h : q ≠ p) (s : State) : (positionNotice p s).port q = s.port q := by
  unfold positionNotice
  split
  · exact State.setPort_port_other _ _ h
  · rfl

theorem positionNotice_mem {q : Port} (hc : (s.port q).positions.calls s.grid.position = true)
    (ha : (s.port q).admits (.position s.grid.transport s.grid.tempo) = true) (hl : (s.port q).notices.length < 32) :
    ⟨.position s.grid.transport s.grid.tempo, false, s.grid.position, none⟩ ∈ ((positionNotice q s).port q).notices := by
  unfold positionNotice
  rw [if_pos hc, postTo, State.setPort_port_same]
  exact ControlPort.mem_post (n := s.notice (.position s.grid.transport s.grid.tempo) none) ha hl

theorem positionNotices_mem {q : Port} (hc : (s.port q).positions.calls s.grid.position = true)
    (ha : (s.port q).admits (.position s.grid.transport s.grid.tempo) = true) (hl : (s.port q).notices.length < 32) :
    ⟨.position s.grid.transport s.grid.tempo, false, s.grid.position, none⟩ ∈
      ((positionNotice .b (positionNotice .a s)).port q).notices := by
  cases q with
  | a => exact positionNotice_keepsNotices .b _ .a (positionNotice_mem hc ha hl)
  | b =>
    have grid : (positionNotice .a s).grid = s.grid := (positionNotice_frame .a s).at .grid
    have port : (positionNotice .a s).port .b = s.port .b := positionNotice_other (by decide) s
    have mem := positionNotice_mem (s := positionNotice .a s) (q := .b) (by rw [port, grid]; exact hc) (by rw [port, grid]; exact ha)
      (by rw [port]; exact hl)
    rw [grid] at mem
    exact mem

/-! ## The outputs of a tick -/

/-- The clicks, CLKOUT and the tempo records of a tick, which all come ahead of its flashes and POSITION notices (R9). -/
def sounded (s : State) : State := correctionTick (rampStep (clkoutTick (clickTick s)))

theorem tickReceivers_sounded (s : State) :
    tickReceivers false true s = positionNotice .b (positionNotice .a (flashTick (sounded s))) := rfl

theorem sounded_frame (s : State) : SameBut [.grid, .click, .bus] s (sounded s) := (tickStart_frame s).chain (correctionTick_frame _)

theorem sounded_grid (s : State) : (sounded s).grid = s.grid.received false true s.follower.tempo :=
  ((tickEnd_frame (sounded s)).at .grid).symm.trans (tickReceivers_received false true s)

theorem tickReceivers_click (s : State) : (tickReceivers false true s).click = (clkoutTick (clickTick s)).click := by
  have records : (sounded s).click = (clkoutTick (clickTick s)).click :=
    ((rampStep_frame _).chain (correctionTick_frame _) (rs := [.grid])).at .click
  rw [tickReceivers_sounded, ((tickEnd_frame (sounded s)).at .click : _ = (sounded s).click), records]

theorem tickReceivers_bus (s : State) : (tickReceivers false true s).bus = (clickTick s).bus := by
  have records : (sounded s).bus = (clickTick s).bus :=
    (((clkoutTick_frame (clickTick s)).chain (rampStep_frame _) (rs := [.grid, .click])).chain (correctionTick_frame _)
      (rs := [.grid, .click])).at .bus
  rw [tickReceivers_sounded, ((tickEnd_frame (sounded s)).at .bus : _ = (sounded s).bus), records]

theorem tickReceivers_board (s : State) : (tickReceivers false true s).board = { s.board with
    beatFlash := if s.grid.position.tick = 0 then some (s.timer 100000) else s.board.beatFlash
    downbeatFlash := if s.grid.position.tick = 0 ∧ s.grid.position.beat = 1 then some (s.timer 100000) else s.board.downbeatFlash } := by
  have told : (tickReceivers false true s).board = (flashTick (sounded s)).board :=
    ((positionNotice_frame .a _).chain (positionNotice_frame .b _) (rs := noticeParts)).at .board
  have position : (sounded s).grid.position = s.grid.position := by
    rw [sounded_grid]
    exact (received_place ..).1
  have now : (sounded s).timer 100000 = s.timer 100000 := by
    rw [State.timer, State.now, ((sounded_frame s).at .timebase : (sounded s).timebase = s.timebase)]
    rfl
  rw [told, flashTick_board, position, now, ((sounded_frame s).at .board : (sounded s).board = s.board)]

/-- A tick tells POSITION to each port whose setting asks for it. -/
theorem tickReceivers_mem {q : Port} (hg : s.grid.received false true s.follower.tempo = s.grid)
    (hc : (s.port q).positions.calls s.grid.position = true)
    (ha : (s.port q).admits (.position s.grid.transport s.grid.tempo) = true) (hl : (s.port q).notices.length < 32) :
    ⟨.position s.grid.transport s.grid.tempo, false, s.grid.position, none⟩ ∈ ((tickReceivers false true s).port q).notices := by
  have same := (sounded_frame s).chain (flashTick_frame _) (rs := [.grid, .click, .bus, .board])
  have notices : ((flashTick (sounded s)).port q).notices = (s.port q).notices := congrArg (·.1) (same.queue q)
  have positions : ((flashTick (sounded s)).port q).positions = (s.port q).positions := congrArg (·.2.2.2.2.2.2) (same.service q (by decide) (by decide))
  have grid : (flashTick (sounded s)).grid = s.grid := by
    rw [((flashTick_frame _).at .grid : _ = (sounded s).grid), sounded_grid, hg]
  have mem := positionNotices_mem (s := flashTick (sounded s)) (q := q) (by rw [positions, grid]; exact hc)
    (by rw [grid, same.admits]; exact ha) (by rw [notices]; exact hl)
  rw [grid] at mem
  exact mem

/-! ## The tick at `q` (R9) -/

/-- The outputs of a tick at `q` that is no take's, in a grid that emits ticks. -/
theorem advanced_outputs {q : Position} (he : s.grid.transport.emits = true) :
    (emitTick false (s.advanced q)).click = { s.click with
      accentLine := if (s.advanced q).tickClick = some .accent then some (s.timer 10000) else s.click.accentLine
      beatLine := if (s.advanced q).tickClick = some .beat then some (s.timer 10000) else s.click.beatLine
      subLine := if (s.advanced q).tickClick = some .sub then some (s.timer 10000) else s.click.subLine
      clkout := if q.tick % (240 / s.setup.clkoutRate) = 0
        then some (s.timer (clkoutWidth s.setup.clkoutRate s.grid.tempo)) else s.click.clkout
      drops := (clickTick (s.advanced q)).click.drops } ∧
    (emitTick false (s.advanced q)).board = { s.board with
      beatFlash := if q.tick = 0 then some (s.timer 100000) else s.board.beatFlash
      downbeatFlash := if q.tick = 0 ∧ q.beat = 1 then some (s.timer 100000) else s.board.downbeatFlash } ∧
    (emitTick false (s.advanced q)).bus = (clickTick (s.advanced q)).bus := by
  have frame := advanced_frame s q
  have grid := advanced_grid s q
  have click : (s.advanced q).click = s.click := frame.at .click
  have setup : (s.advanced q).setup = s.setup := frame.at .setup
  have board : (s.advanced q).board = s.board := frame.at .board
  have timer (n : Nat) : (s.advanced q).timer n = s.timer n := by rw [State.timer, advanced_now]; rfl
  have clicked := clickTick_frame (s.advanced q)
  have tempo : (clickTick (s.advanced q)).grid = (s.advanced q).grid := clicked.at .grid
  have same : (clickTick (s.advanced q)).setup = s.setup := (clicked.at .setup : _ = (s.advanced q).setup).trans setup
  have now (n : Nat) : (clickTick (s.advanced q)).timer n = s.timer n := by
    rw [State.timer, State.now, (clicked.at .timebase : _ = (s.advanced q).timebase)]
    exact timer n
  obtain ⟨kept, -⟩ := emitTick_unpending (ofTake := false) (s := s.advanced q) (fun pending => by
    rw [grid] at pending
    dsimp only at pending
    split at pending
    · cases pending
    · rw [pending] at he
      cases he)
  refine ⟨?_, ?_, ?_⟩
  · rw [(kept.at .click : _ = _), tickReceivers_click, clkoutTick_click, clickTick_click, tempo, same, now, grid, click, timer]
  · rw [(kept.at .board : _ = _), tickReceivers_board, grid, board, timer]
  · rw [(kept.at .bus : _ = _), tickReceivers_bus]

/-- POSITION at a tick at `q` that finds no tempo record. -/
theorem advanced_position_mem {q : Position} {p : Port} (he : s.grid.transport.emits = true) (hr : s.grid.ramp = none)
    (hc : s.grid.correction = none) (ha : (s.port p).mask.getLsbD 7 = true) (hl : (s.port p).notices.length < 24)
    (hp : (s.port p).positions = .beat ∧ q.tick = 0 ∨ (s.port p).positions = .bar ∧ q.tick = 0 ∧ q.beat = 1) :
    ⟨.position (emitTick false (s.advanced q)).grid.transport s.grid.tempo, false, q, none⟩ ∈
      ((emitTick false (s.advanced q)).port p).notices := by
  have frame := advanced_frame s q
  have posted := advanced_posting s q
  have grid := advanced_grid s q
  have positions : ((s.advanced q).port p).positions = (s.port p).positions := congrArg (·.2.2.2.2.2.2) (frame.service p (by decide) (by decide))
  have calls : (s.port p).positions.calls q = true := by
    rcases hp with ⟨setting, beat⟩ | ⟨setting, beat, first⟩
    · simp [setting, PositionSetting.calls, Position.isBeat, beat]
    · simp [setting, PositionSetting.calls, Position.isDownbeat, beat, first]
  obtain ⟨-, transport⟩ := emitTick_unpending (ofTake := false) (s := s.advanced q) (fun pending => by
    rw [grid] at pending
    dsimp only at pending
    split at pending
    · cases pending
    · rw [pending] at he
      cases he)
  have received : (s.advanced q).grid.received false true (s.advanced q).follower.tempo = (s.advanced q).grid :=
    Grid.received_none _ (by rw [grid]; exact hr) (by rw [grid]; exact hc)
  have mem := tickReceivers_mem (s := s.advanced q) (q := p) received (by rw [positions, advanced_position]; exact calls)
    (by rw [frame.admits]; simp [ControlPort.admits, NoticeBody.code, ha]) (by have := posted.length p; omega)
  rw [transport]
  rw [advanced_position] at mem
  have kept := (holdoverTick_keepsNotices (tickReceivers false true (s.advanced q))).then (nextInterval_posting _).keeps
  have tempo : (s.advanced q).grid.tempo = s.grid.tempo := by rw [grid]
  rw [tempo] at mem
  exact kept p mem

/-- Settles O29: the click, CLKOUT and the flashes are those of the tick's receivers, which the holdover beat and the close leave. -/
theorem tickClicks : Obligations.TickClicks := by
  intro s tm q k h hq due he hk
  have c := expired_carries tm tickExpiry s
  have advances : tickExpiry (s.atCount tm.due) = emitTick false ((s.atCount tm.due).advanced q) := by
    subst hq
    exact tickExpiry_advances due
  rw [advances] at c
  obtain ⟨click, board, bus⟩ := advanced_outputs (s := s.atCount tm.due) (q := q) he
  have kind : ((s.atCount tm.due).advanced q).tickClick = k := by
    rw [advanced_click (s := s.atCount tm.due) q he, hk, Click.at_eq]
    rfl
  rw [kind] at click
  refine ⟨_, exec_countdown h, ?_⟩
  rw [c.ends.click, c.ends.board, click, board]
  refine ⟨rfl, rfl, rfl, rfl, rfl, rfl, rfl, rfl, rfl, fun hr hc p ha hl hp => ?_, fun busy m x hm hx => ?_⟩
  · rw [c.ends.grid]
    exact c.ends.told p _ (advanced_position_mem (s := s.atCount tm.due) he hr hc (by cases p <;> exact ha) (by cases p <;> exact hl)
      (by cases p <;> exact hp))
  · have same := advanced_frame (s.atCount tm.due) q
    have before : ((s.atCount tm.due).advanced q).bus = s.bus := same.at .bus
    have line : ((s.atCount tm.due).advanced q).click = s.click := same.at .click
    have use : ((s.atCount tm.due).advanced q).setup = s.setup := same.at .setup
    have offers := clickTick_offers (kind.trans hx) (by rw [use]; exact hm)
    have sent : (clickTick ((s.atCount tm.due).advanced q)).bus.transmission = s.bus.transmission := by
      rw [clickTick_transmission, before]
    have after := (c.ends.busy (by rw [bus, sent]; exact busy)).at .bus
    rw [(after : _ = (emitTick false ((s.atCount tm.due).advanced q)).bus), bus]
    rw [before, line, use] at offers
    cases x <;> exact offers

end Sys2Proof.Machine
end

section
/-! PROOF. What a take writes, step by step, whoever makes it and whatever follows (R135 to R138, R18, R36, R37, R52, R84). -/

namespace Sys2Proof.Machine

variable {s t u w y : State} {judged : Transport} {x : Song} {place : Option Nat} {o : Option Origin}

/-! ## What the steps make -/

/-- The transport a take leaves: a pending one starts where the source leaves FOLLOW by it (R12). -/
def Grid.takenTransport (g : Grid) (judged : Transport) (x : Song) : Transport :=
  if takeTransport judged x = .startPending ∧ x.source ≠ g.source ∧ x.source ≠ .follow then .running else takeTransport judged x

/-- What steps 3 to 6 of a take make of `w`. -/
structure StepsTaken (judged : Transport) (x : Song) (place : Option Nat) (o : Option Origin) (w y : State) : Prop where
  grid : y.grid = { w.grid with
    meter := x.meter, position := takePosition judged x, source := x.source
    transport := w.grid.takenTransport judged x
    tempo := x.takenTempo judged.emits w.grid.tempo
    fresh := if x.takenTempo judged.emits w.grid.tempo = w.grid.tempo then w.grid.fresh else true
    ramp := if x.source = .internal ∧ 1 ≤ x.rampBeats ∧ judged.emits = true then some ⟨w.grid.tempo, x.tempo, x.rampBeats, 0⟩ else none
    correction := if x.source = w.grid.source ∧ x.source ≠ .tap then w.grid.correction else none }
  follower : y.follower = if w.TurnsFollower x then w.turnedFollower x w.grid.tempo
    else { w.follower with tempo := if x.source = .tap then x.tempo else w.follower.tempo }
  click : y.click = { w.click with subdivision := x.subdivision, accents := x.accents }
  layer : y.layer = { w.layer with levels := w.formedLevels w.activeBank }
  store : y.store = { w.store with activeSlot := w.activeBank.source, position := place }
  bus : y.bus = { w.bus with pending := x.programs.foldl (fun l e => postProgram e.takePost l) w.bus.pending }
  seq : y.seq = { w.seq with settle := .running ⟨w.now, 20000⟩ }
  banks : y.banks = w.banks
  frame : SameBut [.grid, .click, .layer, .follower, .bus, .seq, .store, .noticesA, .noticesB] w y
  posting : Posting 4 w y

/-! ## The steps, one by one -/

theorem takeGrid_grid (judged : Transport) (x : Song) (s : State) : (takeGrid judged x s).grid = { s.grid with
    meter := x.meter, position := takePosition judged x, transport := takeTransport judged x } := by
  unfold takeGrid
  dsimp only
  split
  · next same => rw [same]
  · rw [enterTransport_grid]

theorem takeGrid_posting (judged : Transport) (x : Song) (s : State) : Posting 1 s (takeGrid judged x s) := by
  have set := (gridUpdate_frame s { s.grid with meter := x.meter, position := takePosition judged x }).posting
  unfold takeGrid
  dsimp only
  split
  · exact set.mono (by decide)
  · exact (set.then (enterTransport_posting _ _ _)).mono (by decide)

/-- TRANSPORT is told where the step changes the transport. -/
theorem takeGrid_posts {k : Nat} (h : Posting k s u) (changed : takeTransport judged x ≠ u.grid.transport) (hk : k ≤ 8 := by decide) :
    Posts ⟨.transport (takeTransport judged x) (takePosition judged x), false, takePosition judged x, none⟩ s (takeGrid judged x u) := by
  have set := (gridUpdate_frame u { u.grid with meter := x.meter, position := takePosition judged x }).posting
  unfold takeGrid
  dsimp only
  rw [if_neg changed]
  exact (h.then set).posts (fun q ha hl => enterTransport_mem (takeTransport judged x) none _ q ha hl) (by omega)

theorem takePattern_click (x : Song) (s : State) :
    (takePattern x s).click = { s.click with subdivision := x.subdivision, accents := x.accents } := rfl

theorem takePattern_layer (x : Song) (s : State) :
    (takePattern x s).layer = { s.layer with levels := s.formedLevels s.activeBank } := rfl

/-- The level slots formed for a bank (R84). -/
theorem formedLevels_get {b : Bank} {i : Nat} {z : Zone} (s : State) (h : b.zones[i]? = some z) : (s.formedLevels b)[i]? = some (
    match z.pedal with
    | some q => if b.zoneOn i then some ((s.pedal q).output * z.level / 127) else none
    | none => none) := by
  unfold State.formedLevels Bank.zonesOn
  rw [List.getElem?_map, List.getElem?_map, List.getElem?_zipIdx, h]
  cases on : b.zoneOn i <;> cases pedal : z.pedal <;> simp [State.entryLevel, Zone.levelFor, on, pedal]

theorem formedLevels_length (s : State) (b : Bank) : (s.formedLevels b).length = b.zones.length := by
  simp [State.formedLevels, Bank.zonesOn]

/-- T_g and the records once the song's row of R18 is applied. -/
theorem takeTempo_grid (judged : Transport) (x : Song) (s : State) (hr : s.grid.ramp = none) : (takeTempo judged x s).grid = { s.grid with
    tempo := x.takenTempo judged.emits s.grid.tempo
    fresh := if x.takenTempo judged.emits s.grid.tempo = s.grid.tempo then s.grid.fresh else true
    ramp := if x.source = .internal ∧ 1 ≤ x.rampBeats ∧ judged.emits = true then some ⟨s.grid.tempo, x.tempo, x.rampBeats, 0⟩ else none
    correction := if x.source = .tap then none else s.grid.correction } := by
  unfold takeTempo Song.takenTempo
  cases source : x.source with
  | internal =>
    by_cases ramps : judged.emits = true ∧ 1 ≤ x.rampBeats
    · simp [ramps]
    · simp only [if_neg ramps, setTempo_grid, Grid.retuned]
      have not : ¬ (1 ≤ x.rampBeats ∧ judged.emits = true) := fun h => ramps ⟨h.2, h.1⟩
      simp [not, ← hr]
  | tap => simp [setFollower, setTempo_grid, Grid.retuned, ← hr]
  | follow => simp [← hr]

theorem takeTempo_follower (judged : Transport) (x : Song) (s : State) : (takeTempo judged x s).follower =
    { s.follower with tempo := if x.source = .tap then x.tempo else s.follower.tempo } := by
  unfold takeTempo
  cases source : x.source with
  | internal =>
    dsimp only
    split
    · rfl
    · exact (setTempo_frame _ s).at .follower
  | tap =>
    have kept : (setTempo x.tempo { s with grid := { s.grid with correction := none } }).follower = s.follower :=
      (setTempo_frame _ _).at .follower
    simp only [setFollower, if_true, kept]
  | follow => rfl

/-- The grid before the song's row of R18: the source changed where it differs. -/
def sourceTaken (x : Song) (s : State) : State :=
  if x.source = s.grid.source then { s with grid := { s.grid with ramp := none } }
  else endPending none (changeSource x.source { s with grid := { s.grid with ramp := none } })

theorem takeSource_eq (judged : Transport) (x : Song) (s : State) : takeSource judged x s = takeTempo judged x (sourceTaken x s) := rfl

theorem sourceTaken_grid (x : Song) (s : State) : (sourceTaken x s).grid = { s.grid with
    source := x.source, ramp := none, correction := if x.source = s.grid.source then s.grid.correction else none
    transport := if s.grid.transport = .startPending ∧ x.source ≠ s.grid.source ∧ x.source ≠ .follow then .running
      else s.grid.transport } := by
  unfold sourceTaken
  by_cases same : x.source = s.grid.source
  · simp [same]
  · rw [if_neg same, endPending_grid, changeSource_grid]
    simp [same]

theorem sourceTaken_follower (x : Song) (s : State) : (sourceTaken x s).follower =
    if s.TurnsFollower x then { s.turnedFollower x s.grid.tempo with tempo := if x.source = .internal then s.follower.tempo else s.grid.tempo }
    else { s.follower with tempo := if x.source = .tap ∧ s.grid.source ≠ .tap then s.grid.tempo else s.follower.tempo } := by
  unfold sourceTaken State.TurnsFollower State.turnedFollower
  by_cases same : x.source = s.grid.source
  · simp [same]
  · have pended (v : State) : (endPending none v).follower = v.follower := (endPending_frame none v).at .follower
    rw [if_neg same, pended, changeSource_follower]
    by_cases follows : s.grid.source = .follow
    · cases source : x.source with
      | follow => exact absurd (source.trans follows.symm) same
      | internal => simp [switchSource, follows, Follower.turnOff]
      | tap => simp [switchSource, follows, Follower.turnOff]
    · cases source : x.source with
      | follow =>
        have other : TempoSource.follow ≠ s.grid.source := fun e => follows e.symm
        simp [switchSource, other, Follower.seekFrom]
      | internal => simp [switchSource, follows]
      | tap =>
        have other : s.grid.source ≠ .tap := fun e => same (source.trans e.symm)
        simp [switchSource, follows, other]

/-- The grid a take leaves before its tick. -/
theorem takeSource_grid (judged : Transport) (x : Song) (s : State) : (takeSource judged x s).grid = { s.grid with
    source := x.source, tempo := x.takenTempo judged.emits s.grid.tempo
    fresh := if x.takenTempo judged.emits s.grid.tempo = s.grid.tempo then s.grid.fresh else true
    ramp := if x.source = .internal ∧ 1 ≤ x.rampBeats ∧ judged.emits = true then some ⟨s.grid.tempo, x.tempo, x.rampBeats, 0⟩ else none
    correction := if x.source = s.grid.source ∧ x.source ≠ .tap then s.grid.correction else none
    transport := if s.grid.transport = .startPending ∧ x.source ≠ s.grid.source ∧ x.source ≠ .follow then .running
      else s.grid.transport } := by
  rw [takeSource_eq, takeTempo_grid _ _ _ (by rw [sourceTaken_grid]), sourceTaken_grid]
  by_cases tap : x.source = .tap
  · simp [tap]
  · simp [tap]

/-- The Follower a take leaves before its tick. -/
theorem takeSource_follower (judged : Transport) (x : Song) (s : State) : (takeSource judged x s).follower =
    if s.TurnsFollower x then s.turnedFollower x s.grid.tempo
    else { s.follower with tempo := if x.source = .tap then x.tempo else s.follower.tempo } := by
  rw [takeSource_eq, takeTempo_follower, sourceTaken_follower]
  by_cases turns : s.TurnsFollower x
  · rw [if_pos turns, if_pos turns]
    unfold State.turnedFollower
    cases source : x.source <;> simp
  · rw [if_neg turns, if_neg turns]
    cases source : x.source <;> simp

/-! ## The notices of the change of source (R12, R17) -/

theorem changeSource_posting (new : TempoSource) (s : State) : Posting 1 s (changeSource new s) := by
  have switched := (switchSource_frame new s).posting
  unfold changeSource
  dsimp only
  split
  · exact switched.mono (by decide)
  · exact (switched.then (post_posting _ _ _)).mono (by decide)

theorem endPending_posting (o : Option Origin) (s : State) : Posting 1 s (endPending o s) := by
  unfold endPending
  split
  · exact enterTransport_posting _ _ _
  · exact (Posting.refl s).mono (by decide)

theorem sourceTaken_posting (x : Song) (s : State) : Posting 2 s (sourceTaken x s) := by
  have removed : Posting 0 s { s with grid := { s.grid with ramp := none } } := (gridUpdate_frame s _).posting
  unfold sourceTaken
  split
  · exact removed.mono (by decide)
  · exact ((removed.then (changeSource_posting _ _)).then (endPending_posting _ _)).mono (by decide)

theorem takeTempo_posting (judged : Transport) (x : Song) (s : State) : Posting 0 s (takeTempo judged x s) := (takeTempo_frame judged x s).posting

/-- A pending transport that the change of source starts is told. -/
theorem sourceTaken_starts {k : Nat} (h : Posting k s u) (pending : u.grid.transport = .startPending) (other : x.source ≠ u.grid.source)
    (leaves : x.source ≠ .follow) (hk : k ≤ 7 := by decide) :
    Posts ⟨.transport .running u.grid.position, false, u.grid.position, none⟩ s (sourceTaken x u) := by
  have removed : Posting 0 u { u with grid := { u.grid with ramp := none } } := (gridUpdate_frame u _).posting
  have grid := changeSource_grid x.source { u with grid := { u.grid with ramp := none } }
  have starts : sourceTaken x u = enterTransport .running none (changeSource x.source { u with grid := { u.grid with ramp := none } }) := by
    unfold sourceTaken
    rw [if_neg other]
    exact if_pos (by rw [grid]; exact ⟨pending, leaves⟩)
  have position : (changeSource x.source { u with grid := { u.grid with ramp := none } }).grid.position = u.grid.position := by rw [grid]
  have told := ((h.then removed).then (changeSource_posting x.source _)).posts (fun q ha hl => enterTransport_mem .running none _ q ha hl)
    (by omega)
  rw [position] at told
  rw [starts]
  exact told

/-- A Follower that the change of source turns on or off is told (R38). -/
theorem sourceTaken_turns {k : Nat} (h : Posting k s u) (turns : u.TurnsFollower x)
    (changed : (u.turnedFollower x u.grid.tempo).state ≠ u.follower.state) (hk : k ≤ 8 := by decide) :
    Posts ⟨.followState (u.turnedFollower x u.grid.tempo).state u.follower.state
      (if x.source = .internal then u.follower.tempo else u.grid.tempo) x.source, false, u.grid.position, none⟩ s (sourceTaken x u) := by
  have removed : Posting 0 u { u with grid := { u.grid with ramp := none } } := (gridUpdate_frame u _).posting
  set v : State := { u with grid := { u.grid with ramp := none } } with hv
  have follower : (switchSource x.source v).follower =
      { u.turnedFollower x u.grid.tempo with tempo := if x.source = .internal then u.follower.tempo else u.grid.tempo } := by
    rw [← changeSource_follower]
    have taken := sourceTaken_follower x u
    unfold sourceTaken at taken
    rw [if_neg turns.1, if_pos turns, ((endPending_frame none _).at .follower : _ = (changeSource x.source v).follower)] at taken
    exact taken
  have changes : changeSource x.source v = followNotice u.follower.state (switchSource x.source v) := by
    unfold changeSource
    dsimp only
    rw [if_neg (by rw [follower]; exact changed)]
  have urgent : (NoticeBody.followState (u.turnedFollower x u.grid.tempo).state u.follower.state
      (if x.source = .internal then u.follower.tempo else u.grid.tempo) x.source).urgent = false := by
    unfold State.turnedFollower
    dsimp only [NoticeBody.urgent]
    split <;> rfl
  have told := followNotice_from (prev := u.follower.state) (state := (u.turnedFollower x u.grid.tempo).state)
    (tempo := if x.source = .internal then u.follower.tempo else u.grid.tempo) (source := x.source) (position := u.grid.position)
    ((h.then removed).then (switchSource_frame x.source v).posting) ⟨by rw [follower], by rw [follower]⟩ ⟨rfl, rfl⟩ (by omega)
  rw [urgent, ← changes] at told
  unfold sourceTaken
  rw [if_neg turns.1]
  exact told.kept (endPending_posting none _).keeps

/-! ## The steps together -/

/-- The grid as steps 3 and 4 leave it, before the change of source. -/
def takePlaced (judged : Transport) (x : Song) (s : State) : State := takePattern x (takeGrid judged x s)

theorem takeSteps_eq (judged : Transport) (x : Song) (place : Option Nat) (o : Option Origin) (s : State) :
    takeSteps judged x place o s = takePosts x place o (takeSource judged x (takePlaced judged x s)) := rfl

theorem takePlaced_frame (judged : Transport) (x : Song) (s : State) :
    SameBut [.grid, .noticesA, .noticesB, .click, .layer] s (takePlaced judged x s) :=
  (takeGrid_frame judged x s).chain (takePattern_frame x _)

theorem takePlaced_grid (judged : Transport) (x : Song) (s : State) : (takePlaced judged x s).grid = { s.grid with
    meter := x.meter, position := takePosition judged x, transport := takeTransport judged x } :=
  ((takePattern_frame x _).at .grid : (takePlaced judged x s).grid = _).trans (takeGrid_grid judged x s)

theorem takePlaced_posting (judged : Transport) (x : Song) (s : State) : Posting 1 s (takePlaced judged x s) :=
  ((takeGrid_posting judged x s).then (takePattern_frame x _).posting).mono (by decide)

/-- The parts of a take's steps 3 to 6. -/
abbrev stepParts : List Part := [.grid, .noticesA, .noticesB, .click, .layer, .follower]

theorem takeTimed_frame (judged : Transport) (x : Song) (s : State) :
    SameBut stepParts s (takeSource judged x (takePlaced judged x s)) :=
  (takePlaced_frame judged x s).chain (takeSource_frame judged x _)

theorem takeTimed_posting (judged : Transport) (x : Song) (s : State) : Posting 3 s (takeSource judged x (takePlaced judged x s)) := by
  rw [takeSource_eq]
  exact ((takePlaced_posting judged x s).then (sourceTaken_posting x _)).then (takeTempo_posting judged x _)

/-- Step 6 without its notice. -/
def takeStored (x : Song) (place : Option Nat) (s : State) : State := { s with
  bus := { s.bus with pending := x.programs.foldl (fun l e => postProgram e.takePost l) s.bus.pending }
  seq := { s.seq with settle := .running (s.timer 20000) }
  store := { s.store with activeSlot := s.activeBank.source, position := place } }

theorem takePosts_eq (x : Song) (place : Option Nat) (o : Option Origin) (s : State) : takePosts x place o s =
    post (.taken s.banks.active s.activeBank.source place s.grid.position s.grid.transport s.grid.source s.grid.tempo s.banks.retained) o
      (takeStored x place s) := rfl

theorem takeStored_posting (x : Song) (place : Option Nat) (s : State) : Posting 0 s (takeStored x place s) := by
  have frame : SameBut [.bus, .seq, .store] s (takeStored x place s) := by
    refine ⟨fun q hq => ?_⟩; cases q <;> first | rfl | exact absurd (by decide) hq
  exact frame.posting

/-- The moduleSet of a program list. -/
theorem moduleSet_bit (l : List ProgramEntry) (m : ModuleId) : (moduleSet l).getLsbD m.val = l.any (fun e => e.module == m) := by
  have bit (i : ModuleId) : (((1 <<< i.val : Nat) : BitVec 8)).getLsbD m.val = (i == m) := by
    revert i m
    decide
  have fold (acc : BitVec 8) : (l.foldl (fun (b : BitVec 8) (e : ProgramEntry) => b ||| (1 <<< e.module.val)) acc).getLsbD m.val =
      (acc.getLsbD m.val || l.any (fun e => e.module == m)) := by
    induction l generalizing acc with
    | nil => simp
    | cons e l ih =>
      rw [List.foldl_cons, ih, BitVec.getLsbD_or, List.any_cons, bit, Bool.or_assoc]
  unfold moduleSet
  rw [fold]
  simp

theorem takeSteps_taken (judged : Transport) (x : Song) (place : Option Nat) (o : Option Origin) (w : State) :
    StepsTaken judged x place o w (takeSteps judged x place o w) := by
  have timed := takeTimed_frame judged x w
  have placed := takePlaced_grid judged x w
  have follower : (takePlaced judged x w).follower = w.follower := (takePlaced_frame judged x w).at .follower
  have stored : SameBut noticeParts (takeStored x place (takeSource judged x (takePlaced judged x w))) (takeSteps judged x place o w) :=
    post_frame _ _ _
  have bank : (takeSource judged x (takePlaced judged x w)).activeBank = w.activeBank := timed.activeBank
  have now : (takeSource judged x (takePlaced judged x w)).timer 20000 = ⟨w.now, 20000⟩ := by
    rw [State.timer, State.now, (timed.at .timebase : _ = w.timebase)]
    rfl
  refine ⟨?_, ?_, ?_, ?_, ?_, ?_, ?_, ?_, ?_, ?_⟩
  · refine (stored.at .grid :).trans ?_
    show (takeSource judged x (takePlaced judged x w)).grid = _
    rw [takeSource_grid, placed]
    rfl
  · refine (stored.at .follower :).trans ?_
    show (takeSource judged x (takePlaced judged x w)).follower = _
    rw [takeSource_follower]
    unfold State.TurnsFollower State.turnedFollower
    rw [follower, placed]
  · refine (stored.at .click :).trans ?_
    show (takeSource judged x (takePlaced judged x w)).click = _
    rw [((takeSource_frame _ _ _).at .click : _ = (takePlaced judged x w).click)]
    show (takePattern x (takeGrid judged x w)).click = _
    rw [takePattern_click, ((takeGrid_frame _ _ _).at .click : (takeGrid judged x w).click = _)]
  · refine (stored.at .layer :).trans ?_
    show (takeSource judged x (takePlaced judged x w)).layer = _
    rw [((takeSource_frame _ _ _).at .layer : _ = (takePlaced judged x w).layer)]
    show (takePattern x (takeGrid judged x w)).layer = _
    have frame := takeGrid_frame judged x w
    rw [takePattern_layer, (frame.at .layer : (takeGrid judged x w).layer = _), frame.activeBank]
    have pedal (q : PedalId) : (takeGrid judged x w).pedal q = w.pedal q := by
      rw [State.pedal, (frame.at .board : (takeGrid judged x w).board = _)]
      rfl
    simp only [State.formedLevels, State.entryLevel, pedal]
  · refine (stored.at .store :).trans ?_
    unfold takeStored
    dsimp only
    rw [bank, (timed.at .store : _ = w.store)]
  · refine (stored.at .bus :).trans ?_
    unfold takeStored
    dsimp only
    rw [(timed.at .bus : _ = w.bus)]
  · refine (stored.at .seq :).trans ?_
    unfold takeStored
    dsimp only
    rw [now, (timed.at .seq : _ = w.seq)]
  · exact (stored.at .banks :).trans (timed.at .banks)
  · rw [takeSteps_eq]
    exact timed.chain (takePosts_frame x place o _)
  · rw [takeSteps_eq, takePosts_eq]
    exact (((takeTimed_posting judged x w).then (takeStored_posting x place _)).then (post_posting _ _ _)).mono (by decide)

end Sys2Proof.Machine
end

section
/-! PROOF. The take of an ARMED cue, carried to its close: what stands of it through the tick that follows and through the arbiter's look
(R131, R135 to R141). -/

namespace Sys2Proof.Machine

variable {s t u v w y z : State} {judged : Transport} {x : Song} {place : Option Nat} {o : Option Origin}

/-! ## What the arbiter's look leaves of a change in progress -/

/-- No cue is held and the settle timer runs: the look then neither loads nor settles. -/
structure Switching (s : State) : Prop where
  cue : s.seq.cue = none
  settle : s.seq.settle ≠ .expired

/-- The change stands: the sequencer but for the retention timer, the store, the roles. -/
structure ChangeStands (s t : State) : Prop where
  seq : t.seq = { s.seq with retention := t.seq.retention }
  store : t.store = s.store
  active : t.banks.active = s.banks.active

theorem ChangeStands.refl (s : State) : ChangeStands s s := ⟨rfl, rfl, rfl⟩

theorem ChangeStands.then (h : ChangeStands s t) (k : ChangeStands t u) : ChangeStands s u := by
  refine ⟨?_, k.store.trans h.store, k.active.trans h.active⟩
  rw [k.seq, h.seq]

theorem SameBut.changeStands {ps : List Part} (h : SameBut ps s t) (hs : Part.seq ∉ ps := by decide) (ht : Part.store ∉ ps := by decide)
    (hb : Part.banks ∉ ps := by decide) : ChangeStands s t :=
  ⟨by rw [(h.at .seq hs : t.seq = s.seq)], h.at .store ht, by rw [(h.at .banks hb : t.banks = s.banks)]⟩

theorem examineLoad_none (h : s.seq.cue = none) : examineLoad s = s := by unfold examineLoad; rw [h]

theorem bankFree_stands (n : Nat) (h : s.seq.cue = none) : ChangeStands s (bankFree n s) := by
  unfold bankFree
  split
  · rw [examineLoad_none (by exact h)]
    exact ⟨rfl, rfl, rfl⟩
  · exact .refl s

theorem ArbiterWork.changeStands (h : ArbiterWork s t) (r : Switching s) : ChangeStands s t := by
  cases h with
  | serve h => exact h.changeStands
  | ended n i =>
    unfold endDest
    dsimp only
    exact (notesUpdate_frame s _).changeStands.then (bankFree_stands _ r.cue)
  | settled =>
    have waits : s.settled = false := by simp [State.settled, r.settle]
    unfold examineSettle
    rw [if_neg (by simp [waits])]
    exact .refl s

theorem arbitrate_changeStands (r : Switching s) : ChangeStands s (arbitrate s) := by
  have runs := arbitrate_works s
  generalize arbitrate s = t at runs
  induction runs with
  | refl => exact .refl s
  | tail _ h ih =>
    refine ih.then (h.changeStands ⟨?_, ?_⟩)
    · rw [ih.seq]; exact r.cue
    · rw [ih.seq]; exact r.settle

theorem Ends.changeStands (h : Ends u t) (r : Switching u) : ChangeStands u t := by
  rcases h.looked with same | same
  · exact same.changeStands
  · exact (arbitrate_changeStands r).then same.changeStands

theorem Ends.activeBank (h : Ends u t) : t.activeBank = u.activeBank := by
  rcases h.looked with same | same
  · exact same.activeBank
  · exact same.activeBank.trans (arbitrate_activeBank u)

/-! ## What a tick leaves of a take -/

/-- A tick goes by: the position, the meter, the source and the transport stand, so do the click pattern and the program posts, and no notice
is displaced. -/
structure TickPasses (y v : State) : Prop where
  frame : SameBut tickedParts y v
  place : v.grid.position = y.grid.position ∧ v.grid.source = y.grid.source ∧ v.grid.transport = y.grid.transport ∧
    v.grid.meter = y.grid.meter
  pattern : v.click.subdivision = y.click.subdivision ∧ v.click.accents = y.click.accents
  bus : v.bus.pending = y.bus.pending ∧ v.bus.transmission = y.bus.transmission
  keeps : KeepsNotices y v

theorem TickPasses.refl (s : State) : TickPasses s s :=
  ⟨.refl _ s, ⟨rfl, rfl, rfl, rfl⟩, ⟨rfl, rfl⟩, ⟨rfl, rfl⟩, .refl s⟩

/-- The outputs of a tick leave the pattern and the posts. -/
theorem tickReceivers_pattern (ofTake ends : Bool) (s : State) :
    ((tickReceivers ofTake ends s).click.subdivision = s.click.subdivision ∧ (tickReceivers ofTake ends s).click.accents = s.click.accents) ∧
    (tickReceivers ofTake ends s).bus.pending = s.bus.pending := by
  have offered (k : ClickLine) (y : State) : (offerClick k y).click.subdivision = y.click.subdivision ∧
      (offerClick k y).click.accents = y.click.accents ∧ (offerClick k y).bus.pending = y.bus.pending := by
    unfold offerClick
    repeat' split
    all_goals exact ⟨rfl, rfl, rfl⟩
  have clicked : (clickTick s).click.subdivision = s.click.subdivision ∧ (clickTick s).click.accents = s.click.accents ∧
      (clickTick s).bus.pending = s.bus.pending := by
    unfold clickTick
    split
    · next k _ =>
      obtain ⟨subdivision, accents, pending⟩ := offered k (pulseLine k s)
      rw [subdivision, accents, pending]
      cases k <;> exact ⟨rfl, rfl, rfl⟩
    · exact ⟨rfl, rfl, rfl⟩
  have driven : (clkoutTick (clickTick s)).click.subdivision = s.click.subdivision ∧
      (clkoutTick (clickTick s)).click.accents = s.click.accents := by
    rw [clkoutTick_click]
    exact ⟨clicked.1, clicked.2.1⟩
  have stepped (y : State) : (if ofTake then y else rampStep y).click = y.click := by
    split
    · rfl
    · exact (rampStep_frame y).at .click
  have counted (y : State) : (if ends then correctionTick y else y).click = y.click := by
    split
    · exact (correctionTick_frame y).at .click
    · rfl
  have records : (tickReceivers ofTake ends s).click = (clkoutTick (clickTick s)).click :=
    ((tickEnd_frame _).at .click :).trans ((counted _).trans (stepped _))
  have steppedBus (y : State) : (if ofTake then y else rampStep y).bus = y.bus := by
    split
    · rfl
    · exact (rampStep_frame y).at .bus
  have countedBus (y : State) : (if ends then correctionTick y else y).bus = y.bus := by
    split
    · exact (correctionTick_frame y).at .bus
    · rfl
  have bus : (tickReceivers ofTake ends s).bus = (clkoutTick (clickTick s)).bus :=
    ((tickEnd_frame _).at .bus :).trans ((countedBus _).trans (steppedBus _))
  rw [records, bus, ((clkoutTick_frame _).at .bus : _ = (clickTick s).bus)]
  exact ⟨driven, clicked.2.2⟩

theorem firstTick_passes (ofTake : Bool) (s : State) : TickPasses s (firstTick ofTake s) := by
  obtain ⟨pattern, pending⟩ := tickReceivers_pattern ofTake false s.readied
  refine ⟨firstTick_frame ofTake s, ?_, pattern, ⟨pending, firstTick_busSame ofTake s⟩, (firstTick_posting ofTake s).keeps⟩
  rw [firstTick_ticked]
  obtain ⟨position, source, transport, meter⟩ :=
    received_place ({ s.grid with remainder := 0 } : Grid) ofTake false s.follower.tempo
  exact ⟨position, source, transport, meter⟩

theorem emitTick_passes {ofTake : Bool} (h : ¬ s.FallsBack s.grid.position) (hp : s.grid.transport ≠ .startPending) :
    TickPasses s (emitTick ofTake s) := by
  have emitted := emitTick_emitted (ofTake := ofTake) h
  obtain ⟨same, -⟩ := emitTick_unpending (ofTake := ofTake) hp
  obtain ⟨pattern, pending⟩ := tickReceivers_pattern ofTake true s
  refine ⟨emitted.frame, ?_, ?_, ⟨?_, emitted.bus⟩, emitted.posting.keeps⟩
  · rw [emitted.grid]
    obtain ⟨position, source, transport, meter⟩ := received_place s.grid ofTake true s.follower.tempo
    exact ⟨position, source, transport, meter⟩
  · rw [(same.at .click : _ = (tickReceivers ofTake true s).click)]
    exact pattern
  · rw [(same.at .bus : _ = (tickReceivers ofTake true s).bus), pending]

/-! ## The notices of a take -/

theorem takeSteps_posted {n : Notice} (p : Posts n s (takeSource judged x (takePlaced judged x w))) :
    Posts n s (takeSteps judged x place o w) := by
  rw [takeSteps_eq, takePosts_eq]
  exact (p.kept (takeStored_posting x place _).keeps).kept (post_keepsNotices _ _ _)

theorem sourceTaken_posted {n : Notice} (p : Posts n s (sourceTaken x (takePlaced judged x w))) :
    Posts n s (takeSteps judged x place o w) :=
  takeSteps_posted (p.kept (takeTempo_posting judged x _).keeps)

/-- A change of transport is told. -/
theorem takeSteps_tells_transport {k : Nat} (h : Posting k s w) (changed : w.grid.takenTransport judged x ≠ w.grid.transport)
    (hk : k ≤ 6 := by decide) :
    Posts ⟨.transport (w.grid.takenTransport judged x) (takePosition judged x), false, takePosition judged x, none⟩ s
      (takeSteps judged x place o w) := by
  have grid := takePlaced_grid judged x w
  unfold Grid.takenTransport at changed ⊢
  by_cases starts : takeTransport judged x = .startPending ∧ x.source ≠ w.grid.source ∧ x.source ≠ .follow
  · rw [if_pos starts]
    have told := sourceTaken_starts (x := x) (h.then (takePlaced_posting judged x w)) (by rw [grid]; exact starts.1)
      (by rw [grid]; exact starts.2.1) starts.2.2 (by omega)
    rw [grid] at told
    exact sourceTaken_posted told
  · rw [if_neg starts] at changed ⊢
    have told := takeGrid_posts h changed (by omega)
    exact sourceTaken_posted ((told.kept (takePattern_frame x _).keepsNotices).kept (sourceTaken_posting x _).keeps)

/-- A Follower turned on or off is told. -/
theorem takeSteps_tells_turn {k : Nat} (h : Posting k s w) (turns : w.TurnsFollower x)
    (changed : (w.turnedFollower x w.grid.tempo).state ≠ w.follower.state) (hk : k ≤ 7 := by decide) :
    Posts ⟨.followState (w.turnedFollower x w.grid.tempo).state w.follower.state
      (if x.source = .internal then w.follower.tempo else w.grid.tempo) x.source, false, takePosition judged x, none⟩ s
      (takeSteps judged x place o w) := by
  have grid := takePlaced_grid judged x w
  have follower : (takePlaced judged x w).follower = w.follower := (takePlaced_frame judged x w).at .follower
  have same (n : Nat) : (takePlaced judged x w).turnedFollower x n = w.turnedFollower x n := by
    unfold State.turnedFollower
    rw [follower]
  have told := sourceTaken_turns (x := x) (h.then (takePlaced_posting judged x w))
    (by unfold State.TurnsFollower; rw [grid]; exact turns) (by rw [same, follower]; exact changed) (by omega)
  rw [same, follower, grid] at told
  exact sourceTaken_posted told

/-- TAKEN is told. -/
theorem takeSteps_tells_taken {k : Nat} (h : Posting k s w) (hk : k ≤ 5 := by decide) :
    Posts ⟨.taken w.banks.active w.activeBank.source place (takePosition judged x) (w.grid.takenTransport judged x) x.source
      (x.takenTempo judged.emits w.grid.tempo) w.banks.retained, false, takePosition judged x, o⟩ s (takeSteps judged x place o w) := by
  have timed := takeTimed_frame judged x w
  have grid : (takeSource judged x (takePlaced judged x w)).grid.position = takePosition judged x ∧
      (takeSource judged x (takePlaced judged x w)).grid.transport = w.grid.takenTransport judged x ∧
      (takeSource judged x (takePlaced judged x w)).grid.source = x.source ∧
      (takeSource judged x (takePlaced judged x w)).grid.tempo = x.takenTempo judged.emits w.grid.tempo := by
    rw [takeSource_grid, takePlaced_grid]
    exact ⟨rfl, rfl, rfl, rfl⟩
  obtain ⟨position, transport, source, tempo⟩ := grid
  have posting := (h.then (takeTimed_posting judged x w)).then (takeStored_posting x place _)
  have told := posting.post (.taken (takeSource judged x (takePlaced judged x w)).banks.active
    (takeSource judged x (takePlaced judged x w)).activeBank.source place (takeSource judged x (takePlaced judged x w)).grid.position
    (takeSource judged x (takePlaced judged x w)).grid.transport (takeSource judged x (takePlaced judged x w)).grid.source
    (takeSource judged x (takePlaced judged x w)).grid.tempo (takeSource judged x (takePlaced judged x w)).banks.retained) o (by omega)
  rw [takeSteps_eq, takePosts_eq]
  have place' : (takeStored x place (takeSource judged x (takePlaced judged x w))).grid.position = takePosition judged x := position
  rw [place', timed.activeBank, position, transport, source, tempo, (timed.at .banks : _ = w.banks)] at told
  rw [timed.activeBank, position, transport, source, tempo, (timed.at .banks : _ = w.banks)]
  exact told

/-! ## A song taken (R135 to R138) -/

/-- What steps 3 to 6 of a take start from: the new ACTIVE bank and the take's own entries written, everything else as `s` holds it but for what
a STOP has written. -/
structure TakeBegins (judged : Transport) (x : Song) (b : Bank) (kept : Bool) (tempo : Nat) (s w : State) : Prop where
  posting : Posting 1 s w
  bank : w.activeBank = b
  retained : w.banks.retained = kept
  tempo : w.grid.tempo = tempo
  source : w.grid.source = s.grid.source
  follower : w.follower = { s.follower with paceTimer := w.follower.paceTimer }
  bus : w.bus = s.bus
  layer : w.layer = s.layer
  board : w.board = s.board
  seq : w.seq.phase = .switching ∧ w.seq.takeModules = moduleSet x.programs ∧ w.seq.cue = none
  transport : w.grid.transport = s.grid.transport ∨ w.grid.takenTransport judged x = .stopped

section
variable {b : Bank} {kept : Bool} {tempo : Nat} {f : Follower}

theorem TakeBegins.turns (h : TakeBegins judged x b kept tempo s w) : w.TurnsFollower x ↔ s.TurnsFollower x := by
  unfold State.TurnsFollower
  rw [h.source]

theorem TakeBegins.turned (h : TakeBegins judged x b kept tempo s w) (n : Nat) : w.turnedFollower x n = s.turnedFollower x n := by
  unfold State.turnedFollower
  rw [h.follower]

/-- The Follower after a take's steps. -/
theorem TakeBegins.taken_turned (h : TakeBegins judged x b kept tempo s w) (turns : s.TurnsFollower x) :
    (takeSteps judged x place o w).follower = s.turnedFollower x tempo := by
  rw [(takeSteps_taken judged x place o w).follower, if_pos (h.turns.2 turns), h.turned, h.tempo]

theorem TakeBegins.taken_kept (h : TakeBegins judged x b kept tempo s w) (turns : ¬ s.TurnsFollower x) :
    (takeSteps judged x place o w).follower =
      { s.follower with paceTimer := w.follower.paceTimer, tempo := if x.source = .tap then x.tempo else s.follower.tempo } := by
  rw [(takeSteps_taken judged x place o w).follower, if_neg fun k => turns (h.turns.1 k), h.follower]

theorem takePosition_stopped (x : Song) : takePosition .stopped x = Position.top := rfl

/-- A take's song, from its steps to the close of the work that makes it. -/
theorem songTaken (h : TakeBegins judged x b kept tempo s w) (pass : TickPasses (takeSteps judged x place o w) v) (e : Ends v t)
    (emits : judged.emits = (s.grid.transport.emits && (w.grid.takenTransport judged x).emits))
    (ht : s.TurnsFollower x → v.follower = s.turnedFollower x tempo)
    (hf : ¬ s.TurnsFollower x → { v.follower with paceTimer := none } =
      { f with paceTimer := none, tempo := if x.source = .tap then x.tempo else f.tempo }) :
    SongTaken x place o b kept w.now tempo f s t := by
  have y := takeSteps_taken judged x place o w
  obtain ⟨position, source, transport, meter⟩ := pass.place
  rw [y.grid] at position source transport meter
  obtain ⟨phase, modules, cue⟩ := h.seq
  have seq : v.seq = { w.seq with settle := .running ⟨w.now, 20000⟩ } := (pass.frame.at .seq :).trans y.seq
  have stands := e.changeStands ⟨by rw [seq]; exact cue, by rw [seq]; exact nofun⟩
  have active : t.banks.active = w.banks.active := by rw [stands.active, (pass.frame.at .banks : v.banks = _), y.banks]
  have still (busy : s.bus.transmission.isSome = true) : SameBut (.timebase :: portParts) v t := by
    refine e.busy ?_
    rw [pass.bus.2, y.bus]
    show w.bus.transmission.isSome = true
    rw [h.bus]
    exact busy
  have told {n : Notice} (p : Posts n s (takeSteps judged x place o w)) : Tells n s t := (p.kept pass.keeps).tells e
  have state : (w.turnedFollower x w.grid.tempo).state = (s.turnedFollower x tempo).state := by rw [h.turned]; rfl
  have pedal (q : PedalId) : w.pedal q = s.pedal q := by rw [State.pedal, h.board]; rfl
  have grid : t.grid = v.grid := e.grid
  refine ⟨?_, ?_, fun m => ?_, ?_, ?_, ?_, ?_, fun busy => ?_, fun busy => ?_, fun changed moves => ?_, fun turns => ?_,
    fun turns changed => ?_, fun turns => ?_, ?_⟩
  · rw [stands.seq, seq]; exact phase
  · rw [stands.seq, seq]
  · rw [stands.seq, seq]
    show w.seq.takeModules.getLsbD m.val = _
    rw [modules, moduleSet_bit]
  · rw [grid, meter]
  · rw [grid, source]
  · rw [e.click, pass.pattern.1, pass.pattern.2, y.click]
    exact ⟨rfl, rfl⟩
  · rw [stands.store, (pass.frame.at .store : v.store = _), y.store, h.bank]
    exact ⟨rfl, rfl⟩
  · rw [((still busy).at .bus : t.bus = v.bus), pass.bus.1, y.bus, h.bus]
    rfl
  · rw [((still busy).at .layer : t.layer = v.layer), (pass.frame.at .layer : v.layer = _), y.layer, h.layer, h.bank]
    refine ⟨rfl, formedLevels_length w b, fun i z hz => ?_⟩
    dsimp only
    rw [formedLevels_get w hz]
    cases z.pedal with
    | none => rfl
    | some q => dsimp only; rw [pedal]
  · rw [grid, transport] at changed moves
    rw [grid, transport, position]
    exact told (takeSteps_tells_transport h.posting (by rw [h.transport.resolve_right moves]; exact changed))
  · rw [e.follower, ht turns]
  · rw [e.follower, ht turns] at changed ⊢
    have follower : w.follower.state = s.follower.state ∧ w.follower.tempo = s.follower.tempo := by rw [h.follower]; exact ⟨rfl, rfl⟩
    have turn := takeSteps_tells_turn (judged := judged) (place := place) (o := o) h.posting (h.turns.2 turns)
      (by rw [state, follower.1]; exact changed)
    rw [state, follower.1, follower.2, h.tempo] at turn
    rw [grid, position]
    exact told turn
  · rw [e.follower]
    exact hf turns
  · have taken := takeSteps_tells_taken (judged := judged) (x := x) (place := place) (o := o) h.posting
    rw [h.bank, h.retained, h.tempo, emits] at taken
    rw [active, grid, position, transport]
    exact told taken

end

/-! ## A cue's take -/

/-- `z` is what a take finds of `s`: a STOP has written the grid and the pace timer at most, and a request has been taken for service. -/
structure Finds (s z : State) : Prop where
  posting : Posting 1 s z
  source : z.grid.source = s.grid.source
  follower : z.follower = { s.follower with paceTimer := z.follower.paceTimer }
  banks : z.banks = s.banks
  notes : z.notes = s.notes
  setup : z.setup = s.setup
  bus : z.bus = s.bus
  layer : z.layer = s.layer
  board : z.board = s.board

theorem standbyBank_of_banks (h : z.banks = s.banks) : z.standbyBank = s.standbyBank := by
  rw [State.standbyBank, State.bank.eq_def, h]; rfl

theorem changeRoles_begins (h : Finds s z) (hj : z.grid.transport = s.grid.transport ∨ z.grid.takenTransport judged x = .stopped) :
    TakeBegins judged x s.standbyBank (decide (s.notes.references s.banks.active ≠ 0)) z.grid.tempo s (changeRoles x z) := by
  have roles := changeRoles_frame x z
  have bank : (changeRoles x z).activeBank = z.standbyBank := by
    unfold changeRoles State.activeBank State.standbyBank
    cases z.banks.active <;> rfl
  exact ⟨(h.posting.then roles.posting).mono (by decide), bank.trans (standbyBank_of_banks h.banks),
    by rw [← h.banks, ← h.notes]; rfl, rfl, h.source, h.follower, h.bus, h.layer, h.board, ⟨rfl, rfl, rfl⟩, hj⟩

/-- An ARMED cue is taken from the state `z` that its take finds, through the tick to the close. -/
theorem tookOver {c : Cue} {f : Follower} (h : Finds s z) (hj : z.grid.transport = s.grid.transport ∨ z.grid.takenTransport judged x = .stopped)
    (pass : TickPasses (takeSteps judged x c.place (some c.origin) (changeRoles x z)) v) (e : Ends v t)
    (emits : judged.emits = (s.grid.transport.emits && (z.grid.takenTransport judged x).emits))
    (ht : s.TurnsFollower x → v.follower = s.turnedFollower x z.grid.tempo)
    (hf : ¬ s.TurnsFollower x → { v.follower with paceTimer := none } =
      { f with paceTimer := none, tempo := if x.source = .tap then x.tempo else f.tempo }) :
    TookOver x c.takenPlace c.origin z.now z.grid.tempo f s t := by
  have begins := changeRoles_begins (x := x) h hj
  have song := songTaken begins pass e emits ht hf
  have y := takeSteps_taken judged x c.place (some c.origin) (changeRoles x z)
  have seq : v.seq = { (changeRoles x z).seq with settle := .running ⟨z.now, 20000⟩ } := (pass.frame.at .seq :).trans y.seq
  have banks : v.banks = (changeRoles x z).banks := (pass.frame.at .banks :).trans y.banks
  have stands := e.changeStands ⟨by rw [seq]; rfl, by rw [seq]; exact nofun⟩
  refine ⟨?_, ?_, ?_, song, fun busy => ?_⟩
  · rw [stands.active, banks, ← h.banks]
    rfl
  · rw [e.activeBank, activeBank_congr banks, begins.bank]
  · rw [stands.seq, seq]
    rfl
  · have same : SameBut (.timebase :: portParts) v t := by
      refine e.busy ?_
      rw [pass.bus.2, y.bus]
      show z.bus.transmission.isSome = true
      rw [h.bus]
      exact busy
    rw [(same.at .banks : t.banks = _), (same.at .seq : t.seq = _), banks, seq, ← h.banks, ← h.notes, ← h.setup]
    exact ⟨rfl, rfl⟩

end Sys2Proof.Machine
end

section
/-! PROOF. The zones a strike matches and the destinations it forms (O35). -/

namespace Sys2Proof.Machine

/-! ## Matching (R71) -/

theorem zoneOn_iff (b : Bank) (i : Nat) : b.zoneOn i = true ↔ b.enabled[i]? = some true := by
  rw [Bank.zoneOn, List.getD_eq_getElem?_getD]
  cases b.enabled[i]? with
  | none => simp
  | some x => simp

theorem zoneTakes_iff (b : Bank) (l : LinkId) (c : Channel) (z : Zone) (i : Nat) : z.takes (b.zoneOn i) l c = true ↔ b.Hears l c z i := by
  rw [Zone.takes, Bool.and_eq_true, Bool.and_eq_true, Bool.or_eq_true, beq_iff_eq, beq_iff_eq, zoneOn_iff, and_assoc]

theorem matching_eq_struck (b : Bank) (l : LinkId) (c : Channel) (key v : Nat) : b.matching l c key v = b.struck l c key v := by
  unfold Bank.matching Bank.struck Bank.zonesOn
  rw [List.filter_map, List.map_map]
  congr 1
  refine List.filter_congr fun x _ => ?_
  rw [Bool.eq_iff_iff, decide_eq_true_iff]
  simp only [Function.comp_apply, Zone.matchesStrike, Bool.and_eq_true, zoneTakes_iff, inRange, decide_eq_true_iff]
  tauto

theorem struck_subset {b : Bank} {l : LinkId} {c : Channel} {key v : Nat} {z : Zone} (h : z ∈ b.struck l c key v) : z ∈ b.zones := by
  obtain ⟨x, hx, rfl⟩ := List.mem_map.1 h
  exact List.fst_mem_of_mem_zipIdx (List.mem_filter.1 hx).1

/-! ## The destinations, zone by zone (R72) -/

/-- The destination a candidate forms. -/
def Zone.dest (z : Zone) (key : Nat) : Dest := ⟨z.module, z.channel, ((key : Int) + z.transpose).toNat, .queued, false⟩

/-- An earlier candidate sounds the same note. -/
abbrev Zone.Taken (z : Zone) (key : Nat) (zs : List Zone) : Prop :=
  ∃ y ∈ zs, y.Sounds key ∧ y.module = z.module ∧ y.channel = z.channel ∧ y.transpose = z.transpose

variable {key v : Nat} {z : Zone} {zs : List Zone}

theorem destinations_concat (key v : Nat) (zs : List Zone) (z : Zone) : destinations key v (zs ++ [z]) =
    destinations key v zs ++ (if z.Sounds key ∧ ¬ z.Taken key zs then [(z.dest key, z.sends v)] else []) := by
  unfold destinations
  rw [List.zipIdx_append, List.filter_append, List.map_append]
  congr 1
  · congr 1
    refine List.filter_congr fun x hx => ?_
    have place : x.2 ≤ zs.length := by
      have := List.snd_lt_of_mem_zipIdx hx
      omega
    rw [List.take_append_of_le_length place]
  · have here : (zs ++ [z]).take zs.length = zs := List.take_left ..
    simp only [List.zipIdx_singleton, List.filter_cons, List.filter_nil, Nat.zero_add, decide_eq_true_iff, here]
    by_cases h : z.Sounds key ∧ ¬ z.Taken key zs
    · rw [if_pos h, if_pos]
      · rfl
      · exact ⟨h.1, fun y hy sounds same => h.2 ⟨y, hy, sounds, same⟩⟩
    · rw [if_neg h, if_neg]
      · rfl
      · exact fun ⟨sounds, free⟩ => h ⟨sounds, fun ⟨y, hy, hs, same⟩ => free y hy hs same⟩

theorem sameNote_dest {y z : Zone} (hy : y.Sounds key) (hz : z.Sounds key) : (y.dest key).sameNote (z.dest key) = true ↔
    y.module = z.module ∧ y.channel = z.channel ∧ y.transpose = z.transpose := by
  obtain ⟨hy, -, -⟩ := hy
  obtain ⟨hz, -, -⟩ := hz
  have keys : ((key : Int) + y.transpose).toNat = ((key : Int) + z.transpose).toNat ↔ y.transpose = z.transpose := by omega
  simp only [Dest.sameNote, Zone.dest, Bool.and_eq_true, beq_iff_eq, keys, and_assoc]

/-- A note is among the destinations where an earlier candidate sounds it. -/
theorem destinations_taken (v : Nat) (hz : z.Sounds key) (zs : List Zone) :
    (destinations key v zs).any (fun x => x.1.sameNote (z.dest key)) = true ↔ z.Taken key zs := by
  induction zs using List.reverseRecOn with
  | nil => simp [destinations]
  | append_singleton zs y ih =>
    rw [destinations_concat, List.any_append, Bool.or_eq_true, ih]
    constructor
    · rintro (⟨x, hx, rest⟩ | last)
      · exact ⟨x, List.mem_append_left _ hx, rest⟩
      · split at last
        · next h => exact ⟨y, by simp, h.1, (sameNote_dest h.1 hz).1 (by simpa using last)⟩
        · cases last
    · rintro ⟨x, hx, sounds, same⟩
      rcases List.mem_append.1 hx with hx | hx
      · exact .inl ⟨x, hx, sounds, same⟩
      · obtain rfl : x = y := by simpa using hx
        by_cases h : x.Taken key zs
        · obtain ⟨w, hw, hs, hm, hc, ht⟩ := h
          exact .inl ⟨w, hw, hs, hm.trans same.1, hc.trans same.2.1, ht.trans same.2.2⟩
        · rw [if_pos ⟨sounds, h⟩]
          exact .inr (by simpa using (sameNote_dest sounds hz).2 same)

theorem destKey_of_sounds (h : z.Sounds key) : z.destKey key = some ((key : Int) + z.transpose).toNat := if_pos ⟨h.1, h.2.1⟩

/-- One more candidate at the end of those already looked at. -/
theorem formDests_eq (key v : Nat) : ∀ (rest zs : List Zone), formDests key v (destinations key v zs) rest = destinations key v (zs ++ rest)
  | [], zs => by rw [List.append_nil]; rfl
  | z :: rest, zs => by
    have next : formDests key v (destinations key v zs) (z :: rest) = formDests key v (destinations key v (zs ++ [z])) rest := by
      rw [destinations_concat]
      conv_lhs => rw [formDests]
      split
      · next h =>
        have silent : ¬ z.Sounds key := fun hs => by rw [destKey_of_sounds hs] at h; cases h
        rw [if_neg fun h => silent h.1, List.append_nil]
      · next k h =>
        dsimp only
        have range : (0 ≤ (key : Int) + z.transpose ∧ (key : Int) + z.transpose ≤ 127) ∧ k = ((key : Int) + z.transpose).toNat := by
          unfold Zone.destKey at h
          dsimp only at h
          split at h
          · next hr => exact ⟨hr, (Option.some.inj h).symm⟩
          · cases h
        obtain ⟨⟨low, high⟩, rfl⟩ := range
        by_cases level : z.level = 0
        · rw [if_pos (.inl level), if_neg fun h => h.1.2.2 level, List.append_nil]
        · have sounds : z.Sounds key := ⟨low, high, level⟩
          have taken := destinations_taken v sounds zs
          unfold Zone.dest at taken
          by_cases h : z.Taken key zs
          · rw [if_pos (.inr (taken.2 h)), if_neg fun x => x.2 h, List.append_nil]
          · rw [if_neg (not_or.2 ⟨level, fun x => h (taken.1 x)⟩), if_pos ⟨sounds, h⟩]
            rfl
    rw [next, formDests_eq key v rest (zs ++ [z]), List.append_assoc]
    rfl

/-! ## What the destinations are -/

theorem destinations_mem {x : Dest × Nat} (h : x ∈ destinations key v zs) : ∃ z ∈ zs, z.Sounds key ∧ x = (z.dest key, z.sends v) := by
  obtain ⟨y, hy, rfl⟩ := List.mem_map.1 h
  obtain ⟨hy, cond⟩ := List.mem_filter.1 hy
  exact ⟨y.1, List.fst_mem_of_mem_zipIdx hy, (of_decide_eq_true cond).1, rfl⟩

theorem destinations_length (key v : Nat) (zs : List Zone) : (destinations key v zs).length ≤ zs.length := by
  unfold destinations
  rw [List.length_map]
  exact (List.length_filter_le _ _).trans (by rw [List.length_zipIdx])

theorem destinations_pairwise (key v : Nat) (zs : List Zone) :
    (destinations key v zs).Pairwise (fun x y => ¬ (x.1.module = y.1.module ∧ x.1.channel = y.1.channel ∧ x.1.key = y.1.key)) := by
  induction zs using List.reverseRecOn with
  | nil => exact .nil
  | append_singleton zs z ih =>
    rw [destinations_concat]
    split
    · next h =>
      refine List.pairwise_append.2 ⟨ih, List.pairwise_singleton _ _, fun x hx y hy same => ?_⟩
      obtain rfl := List.mem_singleton.1 hy
      refine h.2 ((destinations_taken v h.1 zs).1 (List.any_eq_true.2 ⟨x, hx, ?_⟩))
      simpa [Dest.sameNote, and_assoc] using same
    · rw [List.append_nil]
      exact ih

/-- The velocity sent lies in 1 to 127 (Table 5-2, R73). -/
theorem sends_range (hv : v ≤ 127) (hl : z.level ≤ 127) (hf : z.fixedVelocity ≤ 127) : 1 ≤ z.sends v ∧ z.sends v ≤ 127 := by
  refine ⟨Nat.le_max_left .., ?_⟩
  have scaled {c : Nat} (hc : c ≤ 127) : max 1 (c * z.level / 127) ≤ 127 := by
    have : c * z.level ≤ 127 * 127 := Nat.mul_le_mul hc hl
    omega
  refine scaled ?_
  cases z.curve with
  | linear => exact hv
  | soft =>
    have : v * (381 - v) ≤ 127 * 254 := by
      obtain ⟨k, hk⟩ : ∃ k, v + k = 127 := ⟨127 - v, by omega⟩
      have rest : 381 - v = 254 + k := by omega
      have small : v * k ≤ 127 * k := Nat.mul_le_mul_right k hv
      rw [rest, ← hk]
      nlinarith
    show v * (381 - v) / 254 ≤ 127
    omega
  | hard =>
    have : v * v ≤ 127 * 127 := Nat.mul_le_mul hv hv
    show max 1 (v * v / 127) ≤ 127
    omega
  | fixed => exact hf

/-- Settles O35: the model's scan forms the destinations of R72, and each is in range. -/
theorem strikeDestinations : Obligations.StrikeDestinations := by
  intro b l c key v d _ hv zones hd
  have formed : d = destinations key v ((b.struck l c key v).take 4) := by
    rw [hd, matching_eq_struck]
    exact formDests_eq key v _ []
  refine ⟨matching_eq_struck .., formed, ?_, ?_, fun x hx => ?_⟩
  · rw [formed]
    exact (destinations_length ..).trans (List.length_take_le ..)
  · rw [formed]
    exact destinations_pairwise ..
  · rw [formed] at hx
    obtain ⟨z, hz, sounds, rfl⟩ := destinations_mem hx
    obtain ⟨level, fixed⟩ := zones z (struck_subset (List.mem_of_mem_take hz))
    refine ⟨?_, sends_range hv level fixed⟩
    have := sounds.2.1
    show ((key : Int) + z.transpose).toNat ≤ 127
    omega

end Sys2Proof.Machine
end

section
/-! PROOF. The indicator matrix (O55). -/

namespace Sys2Proof.Machine

variable {s t u : State} {p q : Port}

/-! ## The indicator sources (Table 10-6) -/

theorem cueLit_iff (s : State) : s.lit .cue = true ↔ s.Shows .cue := by
  unfold State.lit State.Shows State.cueIs
  cases s.seq.cue with
  | none => simp
  | some c => cases h : c.state <;> simp [h]

theorem followLit_iff (s : State) : s.lit .follow = true ↔ s.Shows .follow := by
  unfold State.lit State.Shows
  cases s.follower.state <;> simp

theorem transportLit_iff (s : State) : s.lit .transport = true ↔ s.Shows .transport := by
  unfold State.lit State.Shows
  cases s.grid.transport <;> simp

theorem moduleLit_iff (s : State) (m : ModuleId) : s.lit (.module m) = true ↔ s.Shows (.module m) := by
  unfold State.lit State.Shows
  cases h : (s.module m).mode <;> simp [h]

theorem zoneLit_iff {i : Nat} (same : s.activeBank.enabled.length = s.activeBank.zones.length) :
    s.lit (.zone i) = true ↔ s.Shows (.zone i) := by
  refine (zoneOn_iff s.activeBank i).trans ⟨fun h => ⟨?_, h⟩, fun h => h.2⟩
  rw [← same]
  exact (List.getElem?_eq_some_iff.1 h).1

theorem storeLit_iff (s : State) : s.lit .storeBusy = true ↔ s.Shows .storeBusy := by
  show s.store.busy = true ↔ s.store.state = .erasing ∨ s.store.state = .programming ∨ s.store.state = .verifying
  unfold Store.busy Store.state
  cases s.store.activity with
  | idle => simp
  | fetching f => simp
  | operating op => cases h : op.phase <;> simp [h, OpPhase.storeState]

/-- An indicator is lit where its source shows. -/
theorem lit_iff_shows (same : s.activeBank.enabled.length = s.activeBank.zones.length) (x : Indicator) : s.lit x = true ↔ s.Shows x := by
  cases x with
  | cue => exact cueLit_iff s
  | follow => exact followLit_iff s
  | transport => exact transportLit_iff s
  | module m => exact moduleLit_iff s m
  | zone i => exact zoneLit_iff same
  | storeBusy => exact storeLit_iff s
  | off => simp [State.lit, State.Shows]
  | beat | downbeat | retained | clickMute => exact Iff.rfl
  | countIn | switching | linkSilent _ | timebase | showMode => exact beq_iff_eq
  | anyStall => simp [State.lit, State.Shows, ModuleState.stalled, mem_allFin]
  | pedalFault => simp [State.lit, State.Shows, mem_allFin]
  | footswitch f =>
    show ((s.switch f).mode != .up) = true ↔ (s.switch f).mode = .down ∨ (s.switch f).mode = .held
    cases (s.switch f).mode <;> simp

/-! ## A row of the image (R166) -/

theorem rowLit_bit (s : State) (row : Nat) (c : Fin 8) : (s.rowLit row).getLsbD c.val =
    s.lit (s.setup.indicators.toList.getD (8 * (row - 1) + c.val) .off) := by
  set f : Fin 8 → Bool := fun c => s.lit (s.setup.indicators.toList.getD (8 * (row - 1) + c.val) .off) with hf
  refine (foldl_setBits f _ 0 c.val c.isLt).trans ?_
  rw [show (0 : BitVec 8).getLsbD c.val = false from BitVec.getLsbD_zero, Bool.false_or, Bool.eq_iff_iff, List.any_eq_true]
  constructor
  · rintro ⟨d, -, hd⟩
    obtain ⟨on, same⟩ := (Bool.and_eq_true _ _).mp hd
    rwa [Fin.ext (eq_of_beq same)] at on
  · exact fun on => ⟨c, mem_allFin c, by rw [beq_self_eq_true, Bool.and_true]; exact on⟩

theorem byteMask_bit (j : Nat) : (0xFF : BitVec 32).getLsbD j = decide (j < 8) := by
  by_cases h : j < 32
  · interval_cases j <;> rfl
  · rw [BitVec.getLsbD_of_ge _ _ (by omega)]
    exact (decide_eq_false (by omega)).symm

theorem writeRow_bit (image : BitVec 32) (lit : BitVec 8) {row i : Nat} (hr : 1 ≤ row) (hi : i < 32) :
    (writeRow image row lit).getLsbD i = if i / 8 = row - 1 then lit.getLsbD (i % 8) else image.getLsbD i := by
  unfold writeRow
  rw [BitVec.getLsbD_or, BitVec.getLsbD_and, BitVec.getLsbD_not, BitVec.getLsbD_shiftLeft, BitVec.getLsbD_shiftLeft, byteMask_bit,
    BitVec.getLsbD_setWidth]
  by_cases h : i / 8 = row - 1
  · have place : i - 8 * (row - 1) = i % 8 := by omega
    have low : i % 8 < 8 := Nat.mod_lt _ (by decide)
    have here : ¬ i < 8 * (row - 1) := by omega
    rw [if_pos h, place]
    simp [hi, here, low]
    exact fun _ => Nat.lt_trans low (by decide)
  · rw [if_neg h]
    by_cases before : i < 8 * (row - 1)
    · simp [hi, before]
    · have after : ¬ i - 8 * (row - 1) < 8 := by omega
      have past : lit.getLsbD (i - 8 * (row - 1)) = false := BitVec.getLsbD_of_ge _ _ (by omega)
      simp [hi, before, after, past]

/-! ## A slot and the blink phase (R166, R167) -/

theorem expireAt_board {tm : Timer} {f : State → State} (hf : ∀ x, SameBut [.board] x (f x)) :
    SameBut [.board] (s.expired tm) (expireAt tm f s) := expired_same (hf _)

/-- What an expiry writes is what its work writes at the due value. -/
theorem expireAt_at_board (tm : Timer) (f : State → State) (s : State) : (expireAt tm f s).board = (f (s.atCount tm.due)).board := by
  unfold expireAt
  split <;> rfl

theorem slotStart_board (s : State) (row : Nat) (hr : row = if s.board.scanned = true ∧ s.board.row < 4 then s.board.row + 1 else 1)
    (h4 : s.board.row ≤ 4) : (slotStart s).board = { s.board with
      row := row, scanned := true, image := writeRow s.board.image row (s.rowLit row), columns := s.rowLit row
      slotTimer := some ⟨s.now, 1000⟩
      driveTimer := if s.setup.brightness < 8 then some ⟨s.now, s.setup.brightness * 125⟩ else none } := by
  have advanced : (if s.board.scanned then (if s.board.row = 4 then 1 else s.board.row + 1) else 1) = row := by
    rw [hr]
    cases s.board.scanned with
    | false => rfl
    | true =>
      by_cases last : s.board.row = 4
      · rw [if_pos rfl, if_pos last, if_neg (by omega)]
      · rw [if_pos rfl, if_neg last, if_pos ⟨rfl, by omega⟩]
  unfold slotStart
  dsimp only
  rw [advanced]
  rfl

/-- Settles O55: the row that a slot settles and drives, and the blink phase. -/
theorem indicatorMatrix : Obligations.IndicatorMatrix := by
  refine ⟨fun s tm htm h1 h4 => ?_, fun s tm htm => ?_⟩
  · set a := s.atCount tm.due with ha
    have run : exec .indicatorSlotStart s = .next (expireAt tm slotStart s) := by rw [exec, execIndicatorSlotStart, onSlotTimer, htm]
    obtain ⟨row, hr⟩ : ∃ row, row = if s.board.scanned = true ∧ s.board.row < 4 then s.board.row + 1 else 1 := ⟨_, rfl⟩
    have board := (expireAt_at_board tm slotStart s).trans (slotStart_board a row hr h4)
    have positive : 1 ≤ row := by
      rw [hr]
      split <;> omega
    refine ⟨_, run, expireAt_board slotStart_frame, ?_⟩
    rw [board]
    refine ⟨hr, rfl, fun same c i hi => ?_, fun i hi => writeRow_bit _ _ positive hi, rfl, rfl⟩
    have inTable : s.setup.indicators.toList.getD (8 * (row - 1) + c.val) .off = getAt s.setup.indicators i := by
      rw [← hi, List.getD_eq_getElem _ _ (by simp), Vector.getElem_toList]
      rfl
    show (a.rowLit row).getLsbD c.val = true ↔ _
    rw [rowLit_bit]
    show a.lit (s.setup.indicators.toList.getD (8 * (row - 1) + c.val) .off) = true ↔ _
    rw [inTable]
    exact (lit_iff_shows (s := a) same _).trans Iff.rfl
  · rw [exec, execBlinkPhaseToggle, onBlinkTimer, htm]
    dsimp only
    unfold expireAt State.expired
    split <;> rfl

end Sys2Proof.Machine
end

section
/-! PROOF. STOP, TAKE_NOW and the take that falls due at a tick (R10, R13, R133, R134). -/

namespace Sys2Proof.Machine

variable {s t u v w x z : State} {within : List Part → Prop} {o : Origin}

/-! ## Whoever asks -/

/-- `x` is `s` with a request taken for service at most, or at another count. -/
structure Asked (s x : State) : Prop where
  posting : Posting 0 s x
  frame : SameBut [.timebase, .serviceA, .serviceB] s x

theorem Asked.refl (s : State) : Asked s s := ⟨.refl s, .refl _ s⟩

theorem taking_posting (s : State) (p : Port) (f : Frame) : Posting 0 s (s.taking p f) :=
  ⟨fun q => by rw [taking_notices]; exact List.Subset.refl _, fun q => by rw [taking_notices]; exact Nat.le_refl _,
    fun q => by cases p <;> cases q <;> rfl⟩

theorem taking_asked (s : State) (p : Port) (f : Frame) : Asked s (s.taking p f) where
  posting := taking_posting s p f
  frame := by
    refine ⟨fun q hq => ?_⟩
    cases p <;> cases q <;> first | rfl | exact absurd (by decide) hq

theorem atCount_asked (s : State) (c : Count) : Asked s (s.atCount c) where
  posting := (atCount_frame s c).posting
  frame := (atCount_frame s c).mono

theorem Asked.grid (h : Asked s x) : x.grid = s.grid := h.frame.at .grid
theorem Asked.follower (h : Asked s x) : x.follower = s.follower := h.frame.at .follower
theorem Asked.seq (h : Asked s x) : x.seq = s.seq := h.frame.at .seq
theorem Asked.banks (h : Asked s x) : x.banks = s.banks := h.frame.at .banks
theorem Asked.setup (h : Asked s x) : x.setup = s.setup := h.frame.at .setup
theorem Asked.bus (h : Asked s x) : x.bus = s.bus := h.frame.at .bus

theorem Asked.finds (h : Asked s x) : Finds s x :=
  ⟨h.posting.mono (by decide), by rw [h.grid], by rw [h.follower], h.banks, h.frame.at .notes, h.setup, h.bus, h.frame.at .layer,
    h.frame.at .board⟩

theorem Asked.armedCue (h : Asked s x) : x.armedCue = s.armedCue := by rw [State.armedCue, h.seq]; rfl

theorem Asked.tells (h : Asked s x) {n : Notice} (p : Posts n x u) (e : Ends u t) : Tells n s t := by
  refine Posts.tells (fun q ha hl => p q ?_ ?_) e
  · rw [admits_of_mask (h.posting.mask q)]; exact ha
  · have := h.posting.length q; omega

/-! ## STOP's own work (R13) -/

theorem stopGrid_stopped (h : s.grid.transport = .stopped) :
    stopGrid o s = enterTransport .stopped (some o) (setPosition Position.top s) := by
  unfold stopGrid Grid.stopPosition
  rw [h]

/-- The grid and the Follower a STOP leaves outside STOPPED, before the notice. -/
def stopping (s : State) : State := { s with
  grid := { s.grid with tempo := s.stopTempo, remainder := 0, countdown := none, fresh := false, position := s.grid.stopPosition
                        ramp := none, correction := none }
  follower := s.follower.atStop s.now }

theorem stopGrid_going (h : s.grid.transport ≠ .stopped) : stopGrid o s = enterTransport .stopped (some o) (stopping s) := by
  unfold stopGrid stopping
  dsimp only
  split
  · next e => exact absurd e h
  · rfl

theorem stopPosition_stopped (h : s.grid.transport = .stopped) : s.grid.stopPosition = ⟨1, 1, 0⟩ := by
  unfold Grid.stopPosition; rw [h]; rfl

theorem stopGrid_grid (o : Origin) (s : State) : (stopGrid o s).grid =
    if s.grid.transport = .stopped then { s.grid with position := s.grid.stopPosition }
    else { s.grid with
      transport := .stopped, countdown := none, remainder := 0, fresh := false, ramp := none, correction := none
      tempo := s.stoppedTempo, position := s.grid.stopPosition } := by
  by_cases h : s.grid.transport = .stopped
  · rw [if_pos h, stopGrid_stopped h, enterTransport_grid, stopPosition_stopped h, ← h]
    rfl
  · rw [if_neg h, stopGrid_going h, enterTransport_grid, State.stoppedTempo, if_neg h]
    rfl

theorem stopGrid_follower (o : Origin) (s : State) : (stopGrid o s).follower = { s.follower with
    paceTimer := if s.grid.transport ≠ .stopped ∧ s.follower.state = .holdover then some ⟨s.now, s.follower.period⟩
      else s.follower.paceTimer } := by
  by_cases h : s.grid.transport = .stopped
  · rw [stopGrid_stopped h, ((enterTransport_frame _ _ _).at .follower : (enterTransport .stopped (some o) _).follower = _)]
    simp [h, setPosition]
  · rw [stopGrid_going h, ((enterTransport_frame _ _ _).at .follower : (enterTransport .stopped (some o) _).follower = _)]
    by_cases hold : s.follower.state = .holdover <;> simp [h, hold, stopping, Follower.atStop]

theorem stopGrid_posting (o : Origin) (s : State) : Posting 1 s (stopGrid o s) := by
  by_cases h : s.grid.transport = .stopped
  · rw [stopGrid_stopped h]
    exact ((setPosition_frame _ s).posting.then (enterTransport_posting _ _ _)).mono (by decide)
  · have frame : SameBut [.grid, .follower] s (stopping s) := by
      refine ⟨fun q hq => ?_⟩; cases q <;> first | rfl | exact absurd (by decide) hq
    rw [stopGrid_going h]
    exact (frame.posting.then (enterTransport_posting _ _ _)).mono (by decide)

theorem stopGrid_posts (o : Origin) (s : State) :
    Posts ⟨.transport .stopped s.grid.stopPosition, false, s.grid.stopPosition, some o⟩ s (stopGrid o s) := by
  by_cases h : s.grid.transport = .stopped
  · rw [stopGrid_stopped h, stopPosition_stopped h]
    exact (setPosition_frame Position.top s).posting.posts fun q ha hl => enterTransport_mem .stopped (some o) (setPosition Position.top s) q ha hl
  · have frame : SameBut [.grid, .follower] s (stopping s) := by
      refine ⟨fun q hq => ?_⟩; cases q <;> first | rfl | exact absurd (by decide) hq
    rw [stopGrid_going h]
    exact frame.posting.posts fun q ha hl => enterTransport_mem .stopped (some o) (stopping s) q ha hl

theorem stopGrid_tempo (o : Origin) (s : State) : (stopGrid o s).grid.tempo = s.stoppedTempo ∧ (stopGrid o s).grid.transport = .stopped ∧
    (stopGrid o s).grid.source = s.grid.source := by
  rw [stopGrid_grid]
  by_cases h : s.grid.transport = .stopped
  · rw [if_pos h, State.stoppedTempo, if_pos h]
    exact ⟨rfl, h, rfl⟩
  · rw [if_neg h]
    exact ⟨rfl, rfl, rfl⟩

/-! ## The take after a STOP (R133) -/

theorem takeWork_song {judged : Transport} {c : Cue} {y : Song} (h : s.standbyBank.image = some y) :
    takeWork judged c s = takeSteps judged y c.place (some c.origin) (changeRoles y s) := by
  unfold takeWork
  rw [h]

theorem takenTransport_stopped (g : Grid) (y : Song) : g.takenTransport .stopped y = .stopped := by
  simp [Grid.takenTransport, takeTransport]

/-- In STOPPED a take makes no tick. -/
theorem takeNowAt_stopped {c : Cue} {y : Song} (h : s.grid.transport = .stopped) (hy : s.standbyBank.image = some y) :
    takeNowAt c s = takeSteps .stopped y c.place (some c.origin) (changeRoles y s) := by
  have still : (takeSteps .stopped y c.place (some c.origin) (changeRoles y s)).grid.transport = .stopped := by
    rw [(takeSteps_taken ..).grid]
    exact takenTransport_stopped (changeRoles y s).grid y
  unfold takeNowAt
  dsimp only
  rw [h, takeWork_song hy]
  rw [if_neg (by decide), if_neg (by rw [still]; decide)]

theorem takeIfDue_none (h : s.armedCue = none) : takeIfDue s = s := by unfold takeIfDue; rw [h]

theorem takeIfDue_still {c : Cue} (h : s.armedCue = some c) (ht : s.grid.transport.emits = false) : takeIfDue s = takeNowAt c s := by
  unfold takeIfDue
  rw [h]
  exact if_pos (by simp [ht])

theorem stopGrid_armed (o : Origin) (s : State) : (stopGrid o s).armedCue = s.armedCue := by
  rw [State.armedCue, ((stopGrid_frame o s).at .seq : (stopGrid o s).seq = _)]
  rfl

theorem stopGrid_standby (o : Origin) (s : State) : (stopGrid o s).standbyBank = s.standbyBank :=
  standbyBank_of_banks ((stopGrid_frame o s).at .banks)

theorem stop_none (h : s.armedCue = none) : stop o s = stopGrid o s := takeIfDue_none (by rw [stopGrid_armed]; exact h)

theorem stop_takes {c : Cue} {y : Song} (h : s.armedCue = some c) (hy : s.standbyBank.image = some y) :
    stop o s = takeSteps .stopped y c.place (some c.origin) (changeRoles y (stopGrid o s)) := by
  have transport := (stopGrid_tempo o s).2.1
  unfold stop
  rw [takeIfDue_still (by rw [stopGrid_armed]; exact h) (by rw [transport]; rfl),
    takeNowAt_stopped transport (by rw [stopGrid_standby]; exact hy)]

theorem stop_songless {c : Cue} (h : s.armedCue = some c) (hy : s.standbyBank.image = none) : stop o s = stopGrid o s := by
  have transport := (stopGrid_tempo o s).2.1
  unfold stop
  rw [takeIfDue_still (by rw [stopGrid_armed]; exact h) (by rw [transport]; rfl)]
  unfold takeNowAt takeWork
  rw [stopGrid_standby, hy, transport]
  dsimp only
  rw [transport]
  rfl

theorem stop_keepsNotices (o : Origin) (s : State) : KeepsNotices (stopGrid o s) (stop o s) := by
  cases armed : s.armedCue with
  | none => rw [stop_none armed]; exact .refl _
  | some c =>
    cases image : s.standbyBank.image with
    | none => rw [stop_songless armed image]; exact .refl _
    | some y =>
      rw [stop_takes armed image]
      exact (changeRoles_frame y _).keepsNotices.then (takeSteps_taken ..).posting.keeps

/-- What a STOP does, whoever asks for it. -/
theorem stop_done (a : Asked s x) (c : Carries within x (stop o x) t) : StopDone within o x.now s t := by
  have stopped : s.stoppedTempo = x.stoppedTempo := by
    unfold State.stoppedTempo
    rw [a.grid, a.follower]
  refine ⟨⟨x.grid.stopPosition, ?_, ?_, fun none => ?_⟩, fun cue y armed image => ?_⟩
  · rw [a.grid, Grid.stopPosition]
    cases s.grid.transport <;> rfl
  · exact a.tells ((stopGrid_posts o x).kept (stop_keepsNotices o x)) c.ends
  · rw [stop_none (by rw [a.armedCue]; exact none)] at c
    have grid := c.ends.grid.trans (stopGrid_grid o x)
    have follower := c.ends.follower.trans (stopGrid_follower o x)
    rw [a.grid] at grid follower ⊢
    rw [a.follower] at follower
    refine ⟨c.still (l := [.grid, .follower]) ((stopGrid_frame o x).mono (by decide)), fun h => ⟨?_, ?_⟩, fun h => ⟨?_, ?_⟩⟩
    · rw [grid, if_pos h]
    · rw [follower]
      simp [h]
    · rw [grid, if_neg h, stopped]
    · rw [follower]
      simp [h]
  · have image' : x.standbyBank.image = some y := by rw [standbyBank_of_banks a.banks]; exact image
    rw [stop_takes (by rw [a.armedCue]; exact armed) image'] at c
    obtain ⟨tempo, transport, source⟩ := stopGrid_tempo o x
    have frame := stopGrid_frame o x
    have finds : Finds s (stopGrid o x) := by
      refine ⟨(a.posting.then (stopGrid_posting o x)).mono (by decide), source.trans (by rw [a.grid]), ?_, (frame.at .banks :).trans a.banks,
        (frame.at .notes :).trans (a.frame.at .notes), (frame.at .setup :).trans a.setup, (frame.at .bus :).trans a.bus,
        (frame.at .layer :).trans (a.frame.at .layer), (frame.at .board :).trans (a.frame.at .board)⟩
      rw [stopGrid_follower, a.follower]
    have taken := takeSteps_taken .stopped y cue.place (some cue.origin) (changeRoles y (stopGrid o x))
    have begins := changeRoles_begins (judged := .stopped) (x := y) finds (.inr (takenTransport_stopped _ y))
    have took := tookOver finds (.inr (takenTransport_stopped _ y)) (.refl _) c.ends
      (by rw [takenTransport_stopped]; simp [Transport.emits]) (fun turns => begins.taken_turned turns)
      (f := s.follower) (fun turns => by rw [begins.taken_kept turns])
    have now : (stopGrid o x).now = x.now := congrArg Timebase.count (frame.at .timebase)
    rw [now, tempo, ← stopped] at took
    have grid := c.ends.grid.trans taken.grid
    have before : (changeRoles y (stopGrid o x)).grid = (stopGrid o x).grid := rfl
    rw [before, tempo, ← stopped, takenTransport_stopped] at grid
    have parts : SameBut (tookOverParts ++ noticeParts) x (takeSteps .stopped y cue.place (some cue.origin) (changeRoles y (stopGrid o x))) :=
      (frame.chain (changeRoles_frame y _) (rs := tookOverParts ++ noticeParts)).chain (taken.frame)
    refine ⟨c.framed parts ?_, took, ?_, ?_, ?_, ?_, fun h => ?_, fun h => ?_⟩
    · rw [taken.bus]
      show (stopGrid o x).bus.transmission = _
      rw [(frame.at .bus : (stopGrid o x).bus = _)]
    · rw [grid]
    · rw [grid]
      exact takePosition_stopped y
    · rw [grid]
      simp [Song.takenTempo, Transport.emits]
    · rw [grid]
      simp [Transport.emits]
    · rw [grid, stopGrid_grid, a.grid, if_pos h]
      exact ⟨rfl, rfl⟩
    · rw [grid, stopGrid_grid, a.grid, if_neg h]
      simp

/-- Settles O15: a STOP is `stop`, closed with the arbiter's look. -/
theorem stopRequest : Obligations.StopRequest := by
  intro p tag s h
  have run : exec (.stop p tag) s = .next (finish p (arbitrate (stop (.port p) (s.taking p ⟨0x02, tag, []⟩)), some .ok)) :=
    congrArg _ (arrive_known (k := .stop) h rfl)
  have done := stop_done (taking_asked s p ⟨0x02, tag, []⟩)
    (arbitrated_carries p ⟨0x02, tag, []⟩ .ok s (stop (.port p) (s.taking p ⟨0x02, tag, []⟩)))
  rw [taking_now] at done
  exact ⟨_, run, done⟩

/-! ## The tick of a take (R10) -/

/-- The grid after the tick that follows a take's steps, the counting interval's remainder being `r`. -/
theorem taken_tick_grid {g k : Grid} {judged : Transport} {y : Song} {r target : Nat} (now : Count) (hj : judged.emits = true)
    (hk : k = { g with
      meter := y.meter, position := takePosition judged y, source := y.source
      transport := g.takenTransport judged y
      tempo := y.takenTempo judged.emits g.tempo
      fresh := if y.takenTempo judged.emits g.tempo = g.tempo then g.fresh else true
      ramp := if y.source = .internal ∧ 1 ≤ y.rampBeats ∧ judged.emits = true then some ⟨g.tempo, y.tempo, y.rampBeats, 0⟩ else none
      correction := if y.source = g.source ∧ y.source ≠ .tap then g.correction else none
      remainder := r }) :
    ∃ m q, (m, q) = countedCorrection (if y.source = g.source ∧ y.source ≠ .tap then g.correction else none) (y.takenTempo true g.tempo) target ∧
      ((k.received true true target).tempo, (k.received true true target).correction) = (m, q) ∧
      (k.received true true target).ramp = k.ramp ∧
      ((k.received true true target).interval now).countdown =
        some ⟨now, (25000000 + (if y.takenTempo true g.tempo ≠ g.tempo ∨ m ≠ g.tempo ∨ g.fresh = true then 0 else r)) / m⟩ := by
  subst hk
  refine ⟨(countedCorrection (if y.source = g.source ∧ y.source ≠ .tap then g.correction else none) (y.takenTempo true g.tempo) target).1,
    (countedCorrection (if y.source = g.source ∧ y.source ≠ .tap then g.correction else none) (y.takenTempo true g.tempo) target).2,
    rfl, ?_, rfl, ?_⟩
  · simp only [Grid.received, Grid.correctionTaken, Grid.retuned, if_true, hj]
  · simp only [Grid.received, Grid.correctionTaken, Grid.retuned, Grid.interval, if_true, hj]
    congr 4
    by_cases same : y.takenTempo true g.tempo = g.tempo
    · rw [same]
      by_cases last : (countedCorrection (if y.source = g.source ∧ y.source ≠ .tap then g.correction else none) g.tempo target).1 = g.tempo
      · simp [last]
      · simp [last]
    · simp [same]

/-- A beat that the take's tick may count, for a Follower that the take keeps. -/
theorem tickedFollower_kept {f : Follower} {q : Position} {n : Nat} (hu : u.setup = s.setup) (hq : q.tick = 0)
    (hf : u.follower = { s.follower with paceTimer := f.paceTimer, tempo := n }) :
    { u.tickedFollower q with paceTimer := none } = { s.tickedFollower Position.top with paceTimer := none, tempo := n } := by
  unfold State.tickedFollower
  rw [hu, hf]
  dsimp only
  rw [hq]
  by_cases beat : s.follower.state = .holdover
  · have top : s.follower.state = .holdover ∧ Position.top.tick = 0 := ⟨beat, rfl⟩
    rw [if_pos ⟨beat, rfl⟩, if_pos top]
    split <;> rfl
  · rw [if_neg fun h => beat h.1, if_neg fun h => beat h.1]

theorem takePosition_tick (judged : Transport) (y : Song) : (takePosition judged y).tick = 0 := by
  unfold takePosition
  split <;> rfl

theorem tickedFollower_tempo (s : State) (q : Position) : (s.tickedFollower q).tempo = s.follower.tempo := by
  unfold State.tickedFollower
  split
  · split <;> rfl
  · rfl

theorem turnedFollower_state (s : State) (y : Song) (n : Nat) : (s.turnedFollower y n).state ≠ .holdover := by
  unfold State.turnedFollower
  dsimp only
  split <;> decide

theorem tickedFollower_other {q : Position} (h : s.follower.state ≠ .holdover) : s.tickedFollower q = s.follower :=
  if_neg fun k => h k.1

/-- The state a take's tick starts from: its steps done, and at TAKE_NOW the remainder set back. -/
structure TickReady (judged : Transport) (y : Song) (c : Cue) (r : Nat) (z u : State) : Prop where
  same : SameBut [.grid] (takeSteps judged y c.place (some c.origin) (changeRoles y z)) u
  grid : u.grid = { (takeSteps judged y c.place (some c.origin) (changeRoles y z)).grid with remainder := r }

section
variable {judged : Transport} {y : Song} {c : Cue} {r : Nat}

theorem TickReady.steps (h : TickReady judged y c r z u) : u.grid = { z.grid with
    meter := y.meter, position := takePosition judged y, source := y.source
    transport := z.grid.takenTransport judged y
    tempo := y.takenTempo judged.emits z.grid.tempo
    fresh := if y.takenTempo judged.emits z.grid.tempo = z.grid.tempo then z.grid.fresh else true
    ramp := if y.source = .internal ∧ 1 ≤ y.rampBeats ∧ judged.emits = true then some ⟨z.grid.tempo, y.tempo, y.rampBeats, 0⟩ else none
    correction := if y.source = z.grid.source ∧ y.source ≠ .tap then z.grid.correction else none
    remainder := r } := by
  rw [h.grid, (takeSteps_taken ..).grid]
  rfl

/-- The Follower as the take's tick finds it. -/
theorem TickReady.follower_turned (h : TickReady judged y c r z u) (f : Finds s z)
    (hj : z.grid.transport = s.grid.transport ∨ z.grid.takenTransport judged y = .stopped) (turns : s.TurnsFollower y) :
    u.follower = s.turnedFollower y z.grid.tempo :=
  (h.same.at .follower :).trans ((changeRoles_begins (x := y) f hj).taken_turned turns)

theorem TickReady.follower_kept (h : TickReady judged y c r z u) (f : Finds s z)
    (hj : z.grid.transport = s.grid.transport ∨ z.grid.takenTransport judged y = .stopped) (turns : ¬ s.TurnsFollower y) :
    u.follower =
      { s.follower with paceTimer := z.follower.paceTimer, tempo := if y.source = .tap then y.tempo else s.follower.tempo } :=
  (h.same.at .follower :).trans ((changeRoles_begins (x := y) f hj).taken_kept turns)

theorem TickReady.setup (h : TickReady judged y c r z u) (f : Finds s z) : u.setup = s.setup := by
  rw [(h.same.at .setup : u.setup = _), ((takeSteps_taken judged y c.place (some c.origin) (changeRoles y z)).frame.at .setup :
    _ = (changeRoles y z).setup)]
  exact f.setup

/-- The take's tick falls back exactly where the Follower kept by the take does. -/
theorem TickReady.fallsBack (h : TickReady judged y c r z u) (f : Finds s z)
    (hj : z.grid.transport = s.grid.transport ∨ z.grid.takenTransport judged y = .stopped) :
    u.FallsBack u.grid.position ↔ s.FallsBack Position.top ∧ ¬ s.TurnsFollower y := by
  have beat : u.grid.position.tick = 0 := by rw [h.steps]; exact takePosition_tick judged y
  have top : Position.top.tick = 0 := rfl
  unfold State.FallsBack
  rw [h.setup f, beat, top]
  by_cases turns : s.TurnsFollower y
  · rw [h.follower_turned f hj turns]
    exact ⟨fun k => absurd k.1 (turnedFollower_state s y _), fun k => absurd turns k.2⟩
  · rw [h.follower_kept f hj turns]
    exact ⟨fun k => ⟨k, turns⟩, fun k => k.1⟩

/-- The Follower after the take's tick. -/
theorem TickReady.ticked (h : TickReady judged y c r z u) (f : Finds s z)
    (hj : z.grid.transport = s.grid.transport ∨ z.grid.takenTransport judged y = .stopped) :
    (s.TurnsFollower y → u.tickedFollower u.grid.position = s.turnedFollower y z.grid.tempo) ∧
    (¬ s.TurnsFollower y → { u.tickedFollower u.grid.position with paceTimer := none } =
      { s.tickedFollower Position.top with
        paceTimer := none, tempo := if y.source = .tap then y.tempo else (s.tickedFollower Position.top).tempo }) := by
  have beat : u.grid.position.tick = 0 := by rw [h.steps]; exact takePosition_tick judged y
  refine ⟨fun turns => ?_, fun turns => ?_⟩
  · have follower := h.follower_turned f hj turns
    rw [tickedFollower_other (by rw [follower]; exact turnedFollower_state s y _), follower]
  · rw [tickedFollower_tempo]
    exact tickedFollower_kept (h.setup f) beat (h.follower_kept f hj turns)

/-- The correction counts for T_f as it stands wherever a record goes on. -/
theorem TickReady.target (h : TickReady judged y c r z u) (f : Finds s z)
    (hj : z.grid.transport = s.grid.transport ∨ z.grid.takenTransport judged y = .stopped) (n : Nat) :
    countedCorrection (if y.source = z.grid.source ∧ y.source ≠ .tap then z.grid.correction else none) n u.follower.tempo =
    countedCorrection (if y.source = z.grid.source ∧ y.source ≠ .tap then z.grid.correction else none) n s.follower.tempo := by
  by_cases goes : y.source = z.grid.source ∧ y.source ≠ .tap
  · have turns : ¬ s.TurnsFollower y := fun k => k.1 (goes.1.trans f.source)
    rw [h.follower_kept f hj turns]
    show countedCorrection _ n (if y.source = .tap then _ else _) = _
    rw [if_neg goes.2]
  · rw [if_neg goes]
    rfl

end

/-! ## A take in a grid that emits ticks (R10) -/

theorem TickPasses.then (h : TickPasses s u) (k : TickPasses u v) : TickPasses s v := by
  obtain ⟨p, q, r, m⟩ := h.place
  obtain ⟨p', q', r', m'⟩ := k.place
  exact ⟨h.frame.then k.frame, ⟨p'.trans p, q'.trans q, r'.trans r, m'.trans m⟩, ⟨k.pattern.1.trans h.pattern.1, k.pattern.2.trans h.pattern.2⟩,
    ⟨k.bus.1.trans h.bus.1, k.bus.2.trans h.bus.2⟩, h.keeps.then k.keeps⟩

theorem takenTransport_emits {g : Grid} {judged : Transport} {y : Song} (h : judged.emits = true) :
    g.takenTransport judged y = takeTransport judged y ∧ (takeTransport judged y).emits = true := by
  have emits := takeTransport_emits judged y
  rw [h] at emits
  exact ⟨if_neg fun k => by rw [k.1] at emits; exact absurd emits (by decide), emits⟩

section
variable {judged : Transport} {y : Song} {c : Cue} {r : Nat}

theorem TickReady.passes (h : TickReady judged y c r z u) :
    TickPasses (takeSteps judged y c.place (some c.origin) (changeRoles y z)) u := by
  have same := h.same
  refine ⟨same.mono, by rw [h.grid]; exact ⟨rfl, rfl, rfl, rfl⟩, ?_, ?_, same.keepsNotices⟩
  · rw [(same.at .click : u.click = _)]
    exact ⟨rfl, rfl⟩
  · rw [(same.at .bus : u.bus = _)]
    exact ⟨rfl, rfl⟩

theorem TickReady.now (h : TickReady judged y c r z u) : u.now = z.now := by
  have steps := (takeSteps_taken judged y c.place (some c.origin) (changeRoles y z)).frame
  exact congrArg Timebase.count ((h.same.at .timebase :).trans ((steps.at .timebase :).trans rfl))

/-- What may change from the asking to the tick of a take. -/
theorem TickReady.frame (h : TickReady judged y c r z u) : SameBut (.board :: tookOverParts ++ noticeParts) z u :=
  ((changeRoles_frame y z).chain (takeSteps_taken ..).frame (rs := .board :: tookOverParts ++ noticeParts)).chain h.same

theorem TickReady.busSame (h : TickReady judged y c r z u) : u.bus.transmission = z.bus.transmission := by
  rw [(h.same.at .bus : u.bus = _), (takeSteps_taken ..).bus]
  rfl

/-- The place of the take's tick. -/
theorem TickReady.place (h : TickReady judged y c r z u) (hj : judged.emits = true) :
    u.grid.transport = takeTransport judged y ∧ u.grid.position = takePosition judged y ∧ u.grid.source = y.source := by
  rw [h.steps]
  exact ⟨(takenTransport_emits hj).1, rfl, rfl⟩

/-- The tempo, the correction record and the interval after a take's tick, whether or not it falls back. -/
theorem TickReady.interval (h : TickReady judged y c r z u) (f : Finds s z) (same : z.grid = s.grid) (hj : judged.emits = true) (now : Count) :
    ((u.grid.received true true u.follower.tempo).tempo, (u.grid.received true true u.follower.tempo).correction) = s.takenTick y ∧
    (u.grid.received true true u.follower.tempo).ramp =
      (if y.source = .internal ∧ 1 ≤ y.rampBeats then some ⟨s.grid.tempo, y.tempo, y.rampBeats, 0⟩ else none) ∧
    ((u.grid.received true true u.follower.tempo).interval now).countdown = some ⟨now, (25000000 +
      (if y.takenTempo true s.grid.tempo ≠ s.grid.tempo ∨ (u.grid.received true true u.follower.tempo).tempo ≠ s.grid.tempo ∨
        s.grid.fresh = true then 0 else r)) / (u.grid.received true true u.follower.tempo).tempo⟩ := by
  obtain ⟨m, q, counted, both, ramp, countdown⟩ := taken_tick_grid (target := u.follower.tempo) now hj h.steps
  obtain ⟨tempo, correction⟩ := Prod.mk.inj both
  have target := h.target f (.inl (by rw [same])) (y.takenTempo true z.grid.tempo)
  rw [target, same] at counted
  rw [same] at countdown
  refine ⟨both.trans counted, ?_, ?_⟩
  · rw [ramp, h.steps, same]
    simp [hj]
  · rw [countdown, tempo]

/-- A take whose tick does not fall back. -/
theorem take_emits (f : Finds s x) (same : x.grid = s.grid) (he : s.grid.transport.emits = true) (hj : judged.emits = true) (ready : TickReady judged y c r x u)
    (fb : ¬ (s.FallsBack Position.top ∧ ¬ s.TurnsFollower y)) (k : Carries within x (emitTick true u) t) :
    within (.board :: tookOverParts) ∧
    TookOver y c.takenPlace c.origin x.now s.grid.tempo (s.tickedFollower Position.top) s t ∧
    (t.grid.tempo, t.grid.correction) = s.takenTick y ∧
    t.grid.ramp = (if y.source = .internal ∧ 1 ≤ y.rampBeats then some ⟨s.grid.tempo, y.tempo, y.rampBeats, 0⟩ else none) ∧
    t.grid.countdown = some ⟨x.now, (25000000 +
      (if y.takenTempo true s.grid.tempo ≠ s.grid.tempo ∨ t.grid.tempo ≠ s.grid.tempo ∨ s.grid.fresh = true then 0 else r)) /
      t.grid.tempo⟩ ∧
    t.grid.transport = takeTransport judged y ∧ t.grid.position = takePosition judged y := by
  have own : x.grid.transport = s.grid.transport ∨ x.grid.takenTransport judged y = .stopped := .inl (by rw [same])
  obtain ⟨transport, position, -⟩ := ready.place hj
  have not : ¬ u.FallsBack u.grid.position := by rw [ready.fallsBack f own]; exact fb
  have emitted := emitTick_emitted (ofTake := true) not
  have pass := ready.passes.then (emitTick_passes (ofTake := true) not (fun pending => by
    have emits := (takenTransport_emits (g := x.grid) (y := y) hj).2
    rw [← transport, pending] at emits
    cases emits))
  obtain ⟨turned, kept⟩ := ready.ticked f own
  obtain ⟨counted, ramp, countdown⟩ := ready.interval f same hj u.now
  obtain ⟨onPosition, -, onTransport, -⟩ := received_place u.grid true true u.follower.tempo
  have took := tookOver (f := s.tickedFollower Position.top) f own pass k.ends
    (by rw [(takenTransport_emits hj).1, (takenTransport_emits (g := x.grid) hj).2, he, hj]; rfl)
    (fun turns => emitted.follower.trans (turned turns)) (fun turns => by rw [emitted.follower]; exact kept turns)
  have grid := k.ends.grid.trans emitted.grid
  rw [ready.now] at countdown grid
  rw [same] at took
  refine ⟨k.framed (ready.frame.chain emitted.frame) (emitted.bus.trans ready.busSame), took, ?_, ?_, ?_, ?_, ?_⟩
  · rw [grid]; exact counted
  · rw [grid]; exact ramp
  · rw [grid]; exact countdown
  · rw [grid]; exact onTransport.trans transport
  · rw [grid]; exact onPosition.trans position

end

/-! ## TAKE_NOW (R134) -/

/-- TAKE_NOW where the grid emits ticks: a tick at this instant, r being 0. -/
theorem takeNowAt_emits {c : Cue} {y : Song} (h : s.grid.transport.emits = true) (hy : s.standbyBank.image = some y) :
    ∃ u, TickReady s.grid.transport y c 0 s u ∧ takeNowAt c s = emitTick true u := by
  refine ⟨_, ⟨gridUpdate_frame (takeSteps s.grid.transport y c.place (some c.origin) (changeRoles y s)) _, rfl⟩, ?_⟩
  unfold takeNowAt
  dsimp only
  rw [if_pos h, takeWork_song hy]

/-- Where the grid emits none, a tick only where the take starts the transport. -/
theorem takeNowAt_still {c : Cue} {y : Song} (h : s.grid.transport.emits = false) (hy : s.standbyBank.image = some y) :
    takeNowAt c s = if (s.grid.takenTransport s.grid.transport y).emits = true
      then firstTick true (takeSteps s.grid.transport y c.place (some c.origin) (changeRoles y s))
      else takeSteps s.grid.transport y c.place (some c.origin) (changeRoles y s) := by
  have transport : (takeSteps s.grid.transport y c.place (some c.origin) (changeRoles y s)).grid.transport =
      s.grid.takenTransport s.grid.transport y := by
    rw [(takeSteps_taken ..).grid]
    rfl
  unfold takeNowAt
  dsimp only
  rw [if_neg (by simp [h]), takeWork_song hy, transport]

/-- The transport after a take judged by the transport it finds, where no ticks are emitted. -/
theorem takenTransport_still {g : Grid} {y : Song} (h : g.transport.emits = false) : g.takenTransport g.transport y =
    if g.transport = .startPending ∧ y.source ≠ g.source ∧ y.source ≠ .follow then .running else g.transport := by
  unfold Grid.takenTransport
  cases e : g.transport <;> simp_all [takeTransport, Transport.emits]

/-- A take in a grid that emits no ticks. -/
theorem take_still {y : Song} {c : Cue} (f : Finds s x) (found : x.grid = s.grid) (he : s.grid.transport.emits = false) (hy : s.standbyBank.image = some y)
    (k : Carries within x (takeNowAt c x) t) :
    within (.board :: tookOverParts) ∧ TookOver y c.takenPlace c.origin x.now s.grid.tempo s.follower s t ∧
    t.grid.transport = s.grid.takenTransport s.grid.transport y ∧ t.grid.position = ⟨1, 1, 0⟩ ∧ t.grid.ramp = none ∧
    t.grid.tempo = y.takenTempo false s.grid.tempo ∧
    t.grid.countdown = (if (s.grid.takenTransport s.grid.transport y).emits = true
      then some ⟨x.now, 25000000 / y.takenTempo false s.grid.tempo⟩ else s.grid.countdown) := by
  have image : x.standbyBank.image = some y := by rw [standbyBank_of_banks f.banks]; exact hy
  have own : x.grid.transport = s.grid.transport ∨ x.grid.takenTransport x.grid.transport y = .stopped := .inl (by rw [found])
  have still : x.grid.transport.emits = false := by rw [found]; exact he
  have taken := takeSteps_taken x.grid.transport y c.place (some c.origin) (changeRoles y x)
  have begins := changeRoles_begins (judged := x.grid.transport) (x := y) f own
  have parts : SameBut (.board :: tookOverParts ++ noticeParts) x
      (takeSteps x.grid.transport y c.place (some c.origin) (changeRoles y x)) := (changeRoles_frame y x).chain taken.frame
  have bus : (takeSteps x.grid.transport y c.place (some c.origin) (changeRoles y x)).bus.transmission = x.bus.transmission := by
    rw [taken.bus]
    rfl
  have position : takePosition x.grid.transport y = ⟨1, 1, 0⟩ := by
    cases e : x.grid.transport <;> first | rfl | (rw [e] at still; cases still)
  have grid := taken.grid
  rw [takeNowAt_still still image] at k
  have emits : x.grid.transport.emits = (s.grid.transport.emits && (x.grid.takenTransport x.grid.transport y).emits) := by simp [still, he]
  have fields : (takeSteps x.grid.transport y c.place (some c.origin) (changeRoles y x)).grid = { s.grid with
      meter := y.meter, position := ⟨1, 1, 0⟩, source := y.source, transport := s.grid.takenTransport s.grid.transport y
      tempo := y.takenTempo false s.grid.tempo
      fresh := if y.takenTempo false s.grid.tempo = s.grid.tempo then s.grid.fresh else true, ramp := none
      correction := if y.source = s.grid.source ∧ y.source ≠ .tap then s.grid.correction else none } := by
    rw [grid, position, still, show (changeRoles y x).grid = s.grid from found, found]
    simp
  split at k
  · next starts =>
    rw [found] at starts
    have took := tookOver (f := s.follower) f own (firstTick_passes true _) k.ends emits
      (fun turns => by
        rw [firstTick_paceless, begins.taken_turned turns]
        rfl)
      (fun turns => by rw [firstTick_paceless, begins.taken_kept turns])
    have now : (takeSteps x.grid.transport y c.place (some c.origin) (changeRoles y x)).now = x.now :=
      congrArg Timebase.count (parts.at .timebase)
    have ticked := k.ends.grid.trans (firstTick_ticked true _)
    rw [fields, now] at ticked
    rw [found] at took
    refine ⟨k.framed (parts.chain (firstTick_frame true _)) ((firstTick_busSame true _).trans bus), took, ?_, ?_, ?_, ?_, ?_⟩
    · rw [ticked]; rfl
    · rw [ticked]; rfl
    · rw [ticked]; rfl
    · rw [ticked]; rfl
    · rw [ticked, if_pos starts]
      simp [Grid.received, Grid.interval]
  · next stays =>
    rw [found] at stays
    have took := tookOver (f := s.follower) f own (.refl _) k.ends emits (fun turns => begins.taken_turned turns)
      (fun turns => by rw [begins.taken_kept turns])
    have same := k.ends.grid.trans fields
    rw [found] at took
    refine ⟨k.framed parts bus, took, ?_, ?_, ?_, ?_, ?_⟩
    · rw [same]
    · rw [same]
    · rw [same]
    · rw [same]
    · rw [same, if_neg stays]

/-- What TAKE_NOW does, whoever asks for it. -/
theorem takeNow_done (a : Asked s x) (k : Carries within x (takeNow x) t) : TakeNowDone within x.now s t := by
  refine ⟨fun none => ?_, fun c held other => ?_, fun c y held armed image fb => ?_⟩
  · have stays : takeNow x = x := by unfold takeNow; rw [a.seq, none]
    rw [stays] at k
    exact k.still (l := []) (.refl _ x)
  · have waits : takeNow x = { x with seq := { s.seq with cue := some { c with boundary := .immediate } } } := by
      unfold takeNow
      rw [a.seq, held]
      exact if_neg other
    rw [waits] at k
    refine ⟨k.still (l := [.seq]) ((seqUpdate_frame x _).mono (by decide)), fun busy => ?_⟩
    exact (k.ends.busy (by rw [← a.bus] at busy; exact busy)).at .seq
  · have takes : takeNow x = takeNowAt c x := by
      unfold takeNow
      rw [a.seq, held]
      exact if_pos armed
    rw [takes] at k
    by_cases emits : s.grid.transport.emits = true
    · have counted : s.keptFollower = s.tickedFollower Position.top := if_pos emits
      have judged : x.grid.transport.emits = true := by rw [a.grid]; exact emits
      obtain ⟨u, ready, ticks⟩ := takeNowAt_emits (c := c) judged (by rw [standbyBank_of_banks a.banks]; exact image)
      rw [ticks] at k
      obtain ⟨parts, took, tempo, ramp, countdown, transport, position⟩ := take_emits a.finds a.grid emits judged ready
        (fun both => fb ⟨emits, both.1, both.2⟩) k
      rw [counted]
      refine ⟨parts, took, fun still => ?_, fun pending => ?_, fun _ => ⟨?_, tempo, ramp, ?_⟩⟩
      · rcases still with still | still
        · rw [still] at emits; cases emits
        · rw [still.1] at emits; cases emits
      · rw [pending] at emits; cases emits
      · rw [transport, position, a.grid]
        cases going : s.grid.transport with
        | stopped => rw [going] at emits; cases emits
        | startPending => rw [going] at emits; cases emits
        | running => exact ⟨rfl, rfl⟩
        | countIn => by_cases counts : 1 ≤ y.countIn <;> simp [takeTransport, takePosition, counts, Position.top]
      · rw [countdown]
        simp
    · have still : s.grid.transport.emits = false := by simpa using emits
      have kept : s.keptFollower = s.follower := if_neg emits
      obtain ⟨parts, took, transport, position, ramp, tempo, countdown⟩ := take_still a.finds a.grid still image k
      rw [takenTransport_still still] at transport countdown
      rw [kept]
      refine ⟨parts, took, fun stays => ?_, fun pending source leaves => ?_, fun going => absurd going emits⟩
      · have holds : ¬ (s.grid.transport = .startPending ∧ y.source ≠ s.grid.source ∧ y.source ≠ .follow) := fun starts =>
          stays.elim (fun stopped => by rw [stopped] at starts; cases starts.1) fun follows => starts.2.2 follows.2
        rw [if_neg holds] at transport countdown
        rw [if_neg emits] at countdown
        refine ⟨transport, position, countdown, ramp, fun leaves => ?_, fun follows => ?_⟩
        · rw [tempo]; simp [Song.takenTempo, leaves]
        · rw [tempo]; simp [Song.takenTempo, follows]
      · have starts : s.grid.transport = .startPending ∧ y.source ≠ s.grid.source ∧ y.source ≠ .follow :=
          ⟨pending, fun e => leaves (e.trans source), leaves⟩
        rw [if_pos starts] at transport countdown
        have own : y.takenTempo false s.grid.tempo = y.tempo := by simp [Song.takenTempo, leaves]
        rw [own] at tempo countdown
        exact ⟨transport, position, tempo, ramp, countdown⟩

/-- Settles O44: a TAKE_NOW is `takeNow`, closed with the arbiter's look. -/
theorem takeNowRequest : Obligations.TakeNowRequest := by
  intro p tag s h
  have run : exec (.takeNow p tag) s = .next (finish p (arbitrate (takeNow (s.taking p ⟨0x12, tag, []⟩)), some .ok)) :=
    congrArg _ (arrive_known (k := .takeNow) h rfl)
  have done := takeNow_done (taking_asked s p ⟨0x12, tag, []⟩)
    (arbitrated_carries p ⟨0x12, tag, []⟩ .ok s (takeNow (s.taking p ⟨0x12, tag, []⟩)))
  rw [taking_now] at done
  exact ⟨_, run, done⟩

/-! ## The take that falls due at a tick (R10, R35) -/

/-- A tick that falls back to the tempo of the ACTIVE song, whatever the source it leaves. -/
structure Fallen (y : Song) (u v : State) : Prop where
  grid : v.grid = ({ u.grid.received true true u.follower.tempo with
    source := .internal, ramp := some ⟨(u.grid.received true true u.follower.tempo).tempo, y.tempo, 4, 0⟩, correction := none } : Grid).interval u.now
  frame : SameBut tickedParts u v
  bus : v.bus.transmission = u.bus.transmission
  posts : ∀ k o, k ≤ 4 → Posting k o u →
    Posts ⟨.tempoFallback (u.grid.received true true u.follower.tempo).tempo y.tempo, false, u.grid.position, none⟩ o v

theorem switchSource_position (new : TempoSource) (s : State) : (switchSource new s).grid.position = s.grid.position := rfl

theorem emitTick_fallen {y : Song} (h : u.FallsBack u.grid.position) (he : u.grid.transport.emits = true)
    (hy : u.activeBank.image = some y) : Fallen y u (emitTick true u) := by
  have frame := tickLost_frame true u
  have grid := tickLost_grid true u
  obtain ⟨position, -, transport, -⟩ := received_place u.grid true true u.follower.tempo
  have image : (tickLost true u).activeBank.image = some y := by rw [frame.activeBank]; exact hy
  have going : (tickLost true u).grid.transport.emits = true := by rw [grid, transport]; exact he
  have unpending : (tickLost true u).grid.transport ≠ .startPending := fun pending => by rw [pending] at going; cases going
  have fell := songFallback_frame_still image unpending
  have all := frame.chain fell (rs := tickedParts)
  have now : (songFallback (tickLost true u)).now = u.now := congrArg Timebase.count (all.at .timebase)
  rw [emitTick_falls h]
  refine ⟨?_, all.chain (nextInterval_frame _), ?_, fun k o hk posted => ?_⟩
  · rw [nextInterval_grid, now, songFallback_grid_emits image going, grid]
  · rw [((nextInterval_frame _).at .bus : _ = (songFallback (tickLost true u)).bus), (fell.at .bus : _ = (tickLost true u).bus)]
    exact tickReceivers_busSame true true u
  · have told : Posts ⟨.tempoFallback (tickLost true u).grid.tempo y.tempo, false, (tickLost true u).grid.position, none⟩ o
        (songFallback (tickLost true u)) := by
      rw [songFallback_still image unpending, ← switchSource_position .internal]
      exact fellBack_tempo ((posted.then (tickLost_posting true u)).then (switchSource_frame .internal _).posting) (by omega)
    rw [grid, position] at told
    exact told.kept (nextInterval_posting _).keeps

theorem takeAtTick_ready {judged : Transport} {y : Song} {c : Cue} (hy : s.standbyBank.image = some y) :
    TickReady judged y c s.grid.remainder s (takeWork judged c s) := by
  rw [takeWork_song hy]
  refine ⟨.refl _ _, ?_⟩
  rw [(takeSteps_taken ..).grid]
  rfl

theorem tickExpiry_takes {c : Cue} (h : s.dueAt (s.grid.position.next s.grid.meter) = some c) : tickExpiry s =
    emitTick true (takeWork (if s.grid.transport = .countIn ∧ s.grid.position.next s.grid.meter = Position.top then .running
      else s.grid.transport) c s) := by
  unfold tickExpiry
  dsimp only
  rw [h]

/-- The place of a take at a tick. -/
theorem takeAtTick_place {judged : Transport} {y : Song} (he : s.grid.transport.emits = true)
    (hj : judged = if s.grid.transport = .countIn ∧ s.grid.position.next s.grid.meter = Position.top then .running else s.grid.transport) :
    if s.grid.transport = .countIn ∧ s.grid.position.next s.grid.meter ≠ ⟨1, 1, 0⟩ ∧ 1 ≤ y.countIn then
      takeTransport judged y = .countIn ∧ takePosition judged y = ⟨1 - (y.countIn : Int), 1, 0⟩
    else takeTransport judged y = .running ∧ takePosition judged y = ⟨1, 1, 0⟩ := by
  subst hj
  have top : Position.top = ⟨1, 1, 0⟩ := rfl
  cases going : s.grid.transport with
  | stopped => rw [going] at he; cases he
  | startPending => rw [going] at he; cases he
  | running => simp [takeTransport, takePosition, top]
  | countIn =>
    by_cases ends : s.grid.position.next s.grid.meter = ⟨1, 1, 0⟩
    · simp [takeTransport, takePosition, top, ends]
    · by_cases counts : 1 ≤ y.countIn
      · simp [takeTransport, takePosition, top, ends, counts]
      · simp [takeTransport, takePosition, top, ends, counts]

theorem TickReady.bank {judged : Transport} {y : Song} {c : Cue} {r : Nat} (h : TickReady judged y c r z u) :
    u.activeBank = z.standbyBank := by
  have banks : u.banks = (changeRoles y z).banks := (h.same.at .banks :).trans (takeSteps_taken ..).banks
  have standby : (changeRoles y z).activeBank = z.standbyBank := by
    unfold changeRoles State.activeBank State.standbyBank
    cases z.banks.active <;> rfl
  rw [activeBank_congr banks, standby]

theorem TickReady.posting {judged : Transport} {y : Song} {c : Cue} {r : Nat} (h : TickReady judged y c r z u) : Posting 4 z u :=
  ((changeRoles_frame y z).posting.then (takeSteps_taken ..).posting).then h.same.posting

/-- The take at a tick that falls back. -/
theorem take_fallen {judged : Transport} {y : Song} {c : Cue} {r : Nat} (a : Asked s x)
    (hj : judged.emits = true) (ready : TickReady judged y c r x u) (hy : s.standbyBank.image = some y)
    (fb : s.FallsBack Position.top ∧ ¬ s.TurnsFollower y) (k : Carries within x (emitTick true u) t) :
    within (.board :: tookOverParts) ∧
    (s.grid.source = .follow → s.grid.correction = none →
      t.grid.source = .internal ∧ t.grid.tempo = s.grid.tempo ∧ t.grid.ramp = some ⟨s.grid.tempo, y.tempo, 4, 0⟩ ∧
      t.follower.state = .off ∧ t.follower.tempo = s.follower.tempo ∧
      Tells ⟨.followState .lost .holdover s.follower.tempo .follow, true, t.grid.position, none⟩ s t ∧
      Tells ⟨.tempoFallback s.grid.tempo y.tempo, false, t.grid.position, none⟩ s t) ∧
    t.grid.transport = takeTransport judged y ∧ t.grid.position = takePosition judged y ∧
    t.grid.countdown = some ⟨x.now, (25000000 +
      (if y.takenTempo true s.grid.tempo ≠ s.grid.tempo ∨ t.grid.tempo ≠ s.grid.tempo ∨ s.grid.fresh = true then 0 else r)) /
      t.grid.tempo⟩ := by
  have own : x.grid.transport = s.grid.transport ∨ x.grid.takenTransport judged y = .stopped := .inl (by rw [a.grid])
  obtain ⟨transport, position, source⟩ := ready.place hj
  have falls : u.FallsBack u.grid.position := (ready.fallsBack a.finds own).2 fb
  have going : u.grid.transport.emits = true := by rw [transport]; exact (takenTransport_emits (g := x.grid) hj).2
  have image : u.activeBank.image = some y := by rw [ready.bank, standbyBank_of_banks a.banks]; exact hy
  have fallen := emitTick_fallen falls going image
  obtain ⟨counted, -, countdown⟩ := ready.interval a.finds a.grid hj u.now
  obtain ⟨onPosition, -, onTransport, -⟩ := received_place u.grid true true u.follower.tempo
  have grid := k.ends.grid.trans fallen.grid
  have follower := ready.follower_kept a.finds own fb.2
  have setup := ready.setup a.finds
  rw [ready.now] at countdown grid
  refine ⟨k.framed (ready.frame.chain fallen.frame) (fallen.bus.trans ready.busSame), fun follows none => ?_, ?_, ?_, ?_⟩
  · have stays : y.source = .follow := by
      by_contra other
      exact fb.2 ⟨fun e => other (e.trans follows), .inr follows⟩
    have last := emitTick_last (ofTake := true) falls going (source.trans stays) image
    have tempo : (u.grid.received true true u.follower.tempo).tempo = s.grid.tempo := by
      have pair := congrArg Prod.fst counted
      rw [State.takenTick, none] at pair
      simpa [countedCorrection, Song.takenTempo, stays] using pair
    have same : u.follower.tempo = s.follower.tempo ∧ u.follower.state = s.follower.state ∧
        u.follower.holdoverBeats = s.follower.holdoverBeats := by
      rw [follower]
      simp [stays]
    have place : t.grid.position = u.grid.position := by rw [grid]; exact onPosition
    have posted : Posting 4 s u := (a.posting.then ready.posting).mono (by decide)
    have lost := emitTick_lost (ofTake := true) falls.1 falls.2.1 falls.2.2.1 posted
    have told := fallen.posts 4 s (by decide) posted
    rw [same.1, source, stays, ← place] at lost
    rw [tempo, ← place] at told
    refine ⟨?_, ?_, ?_, ?_, ?_, lost.tells k.ends, told.tells k.ends⟩
    · rw [grid]; rfl
    · rw [grid]; exact tempo
    · rw [grid, tempo]; rfl
    · rw [k.ends.follower, last.follower]; rfl
    · rw [k.ends.follower, last.follower]; exact same.1
  · rw [grid]; exact onTransport.trans transport
  · rw [grid]; exact onPosition.trans position
  · rw [grid]; exact countdown

/-- Settles O45: the tick's work is a take, judged by the transport it finds, with its tick. -/
theorem takeAtTick : Obligations.TakeAtTick := by
  intro s tm c y h due image he
  have k := expired_carries tm tickExpiry s
  obtain ⟨judged, hjudged⟩ : ∃ judged : Transport, judged =
      if s.grid.transport = .countIn ∧ s.grid.position.next s.grid.meter = Position.top then .running else s.grid.transport := ⟨_, rfl⟩
  have takes : tickExpiry (s.atCount tm.due) = emitTick true (takeWork judged c (s.atCount tm.due)) :=
    hjudged ▸ tickExpiry_takes (s := s.atCount tm.due) due
  have hj : judged.emits = true := by
    rw [hjudged]
    split
    · rfl
    · exact he
  have ready : TickReady judged y c s.grid.remainder (s.atCount tm.due) (takeWork judged c (s.atCount tm.due)) :=
    takeAtTick_ready (s := s.atCount tm.due) image
  have a := atCount_asked s tm.due
  have place := takeAtTick_place (y := y) he hjudged
  rw [takes] at k
  have bank := k.ends.activeBank
  refine ⟨_, exec_countdown h, ?_⟩
  by_cases fb : s.FallsBack Position.top ∧ ¬ s.TurnsFollower y
  · have frame := (emitTick_fallen ((ready.fallsBack a.finds (.inl rfl)).2 fb) (by
      rw [(ready.place hj).1]; exact (takenTransport_emits (g := s.grid) hj).2) (by rw [ready.bank]; exact image)).frame
    obtain ⟨parts, fallen, transport, position, countdown⟩ := take_fallen a hj ready image fb k
    refine ⟨parts, ?_, fun _ => fallen, fun other => absurd ⟨he, fb.1, fb.2⟩ other, ?_, fun other => absurd ⟨he, fb.1, fb.2⟩ other, _, rfl,
      countdown⟩
    · rw [bank, frame.activeBank, ready.bank]
      rfl
    · rw [transport, position]
      exact place
  · have frame := (emitTick_emitted (ofTake := true) fun falls => fb ((ready.fallsBack a.finds (.inl rfl)).1 falls)).frame
    obtain ⟨parts, took, tempo, ramp, countdown, transport, position⟩ := take_emits a.finds a.grid he hj ready fb k
    have counted : s.keptFollower = s.tickedFollower Position.top := if_pos he
    refine ⟨parts, ?_, fun falls => absurd ⟨falls.2.1, falls.2.2⟩ fb, fun _ => ?_, ?_, fun _ => ⟨tempo, ramp⟩, _, rfl, countdown⟩
    · rw [bank, frame.activeBank, ready.bank]
      rfl
    · rw [counted]
      exact took
    · rw [transport, position]
      exact place

end Sys2Proof.Machine
end

section
/-! PROOF. A whole request frame at a port: the kinds and their payloads, the idle port in and out of a reset, the buffer (O57). -/

namespace Sys2Proof.Machine

variable {s t u : State} {p q : Port} {f : Frame}

/-! ## The request kinds (Table 12-2) -/

/-- The least payload length of a kind. -/
def RequestKind.shortest : RequestKind → Nat
  | .start | .stop | .tap | .cancelCue | .takeNow | .panic | .restart => 0
  | .setTempoSource | .mark | .clickMute | .setlistStep | .eraseSong | .readSong | .setMode | .setPositionNotices | .writeSetlist => 1
  | .setTempo | .toggleZone | .getStatus => 2
  | .cue | .pass => 6
  | .editZone => 16
  | .setNoticeMask => 21
  | .writeSong => 33
  | .writeSetup => 126

/-- The greatest payload length of a kind. -/
def RequestKind.longest (k : RequestKind) : Nat :=
  match k with
  | .writeSetlist => 65
  | .writeSong => 321
  | k => k.shortest

theorem lengthOk_eq (k : RequestKind) (n : Nat) : k.lengthOk n = decide (k.shortest ≤ n ∧ n ≤ k.longest) := by
  rw [Bool.eq_iff_iff, decide_eq_true_iff]
  cases k <;> simp [RequestKind.lengthOk, RequestKind.shortest, RequestKind.longest, inRange] <;> omega

theorem requestLengths_eq : requestLengths = RequestKind.all.map (fun k => (k.code.toNat, k.shortest, k.longest)) := by decide

theorem requestKinds_eq : requestKinds = RequestKind.all.map (fun k => k.code.toNat) := by decide

theorem requestLengths_kind {b : Byte} {lo hi : Nat} (h : (b.toNat, lo, hi) ∈ requestLengths) :
    ∃ k : RequestKind, k.code = b ∧ k.shortest = lo ∧ k.longest = hi := by
  rw [requestLengths_eq] at h
  obtain ⟨k, -, hk⟩ := List.mem_map.1 h
  obtain ⟨code, bounds⟩ := Prod.mk.inj hk
  exact ⟨k, byte_eq_of_toNat code, (Prod.mk.inj bounds).1, (Prod.mk.inj bounds).2⟩

theorem ofByte_none {b : Byte} (h : requestKinds.contains b.toNat = false) : RequestKind.ofByte b = none := by
  rw [requestKinds_eq] at h
  refine List.find?_eq_none.2 fun k hk same => ?_
  rw [← eq_of_beq same] at h
  have listed := List.contains_iff_mem.2 (List.mem_map_of_mem (f := fun k : RequestKind => k.code.toNat) hk)
  rw [h] at listed
  cases listed

/-! ## The fields that a payload holds -/

/-- The word whose bytes are the two. -/
def wordOf (a b : Byte) : BitVec 16 := BitVec.ofNat 16 (a.toNat * 256 + b.toNat)

theorem word2_wordOf (a b : Byte) : word2 (wordOf a b) = [a, b] := by
  have ha := a.isLt
  have hb := b.isLt
  have value : (wordOf a b).toNat = a.toNat * 256 + b.toNat := by
    rw [wordOf, BitVec.toNat_ofNat]
    omega
  have high : (wordOf a b >>> 8).setWidth 8 = a := by
    apply BitVec.eq_of_toNat_eq
    rw [BitVec.toNat_setWidth, BitVec.toNat_ushiftRight, Nat.shiftRight_eq_div_pow, value]
    omega
  have low : (wordOf a b).setWidth 8 = b := by
    apply BitVec.eq_of_toNat_eq
    rw [BitVec.toNat_setWidth, value]
    omega
  rw [word2, high, low]

/-- Every payload of a length the kind allows holds the fields of a request of that kind. -/
theorem payload_request (k : RequestKind) (p : Port) (tag : Byte) (d : List Byte) (h : k.lengthOk d.length = true) :
    ∃ i : Instr, i.wellFormed = true ∧ requestFrame i = some (p, tag, k.code, d) := by
  rw [lengthOk_eq, decide_eq_true_iff] at h
  obtain ⟨low, high⟩ := h
  have none (e : k.longest = 0) : d = [] := List.length_eq_zero_iff.1 (by omega)
  have one (e : k.shortest = 1 ∧ k.longest = 1) : ∃ x, d = [x] := List.length_eq_one_iff.1 (by omega)
  have two (e : k.shortest = 2 ∧ k.longest = 2) : ∃ x y, d = [x, y] := List.length_eq_two.1 (by omega)
  have more (e : 1 ≤ k.shortest) : ∃ x r, d = x :: r := List.exists_cons_of_length_pos (by omega)
  cases k with
  | start => exact ⟨.start p tag, rfl, by rw [none rfl]; rfl⟩
  | stop => exact ⟨.stop p tag, rfl, by rw [none rfl]; rfl⟩
  | tap => exact ⟨.tap p tag, rfl, by rw [none rfl]; rfl⟩
  | cancelCue => exact ⟨.cancelCue p tag, rfl, by rw [none rfl]; rfl⟩
  | takeNow => exact ⟨.takeNow p tag, rfl, by rw [none rfl]; rfl⟩
  | panic => exact ⟨.panic p tag, rfl, by rw [none rfl]; rfl⟩
  | restart => exact ⟨.restart p tag, rfl, by rw [none rfl]; rfl⟩
  | setTempoSource => obtain ⟨x, rfl⟩ := one ⟨rfl, rfl⟩; exact ⟨.setTempoSource p tag x, rfl, rfl⟩
  | mark => obtain ⟨x, rfl⟩ := one ⟨rfl, rfl⟩; exact ⟨.mark p tag x, rfl, rfl⟩
  | clickMute => obtain ⟨x, rfl⟩ := one ⟨rfl, rfl⟩; exact ⟨.clickMute p tag x, rfl, rfl⟩
  | setlistStep => obtain ⟨x, rfl⟩ := one ⟨rfl, rfl⟩; exact ⟨.setlistStep p tag x, rfl, rfl⟩
  | eraseSong => obtain ⟨x, rfl⟩ := one ⟨rfl, rfl⟩; exact ⟨.eraseSong p tag x, rfl, rfl⟩
  | readSong => obtain ⟨x, rfl⟩ := one ⟨rfl, rfl⟩; exact ⟨.readSong p tag x, rfl, rfl⟩
  | setMode => obtain ⟨x, rfl⟩ := one ⟨rfl, rfl⟩; exact ⟨.setMode p tag x, rfl, rfl⟩
  | setPositionNotices => obtain ⟨x, rfl⟩ := one ⟨rfl, rfl⟩; exact ⟨.setPositionNotices p tag x, rfl, rfl⟩
  | setTempo => obtain ⟨x, y, rfl⟩ := two ⟨rfl, rfl⟩; exact ⟨.setTempo p tag (wordOf x y), rfl, by rw [requestFrame, word2_wordOf]; rfl⟩
  | toggleZone => obtain ⟨x, y, rfl⟩ := two ⟨rfl, rfl⟩; exact ⟨.toggleZone p tag x y, rfl, rfl⟩
  | getStatus => obtain ⟨x, y, rfl⟩ := two ⟨rfl, rfl⟩; exact ⟨.getStatus p tag x y, rfl, rfl⟩
  | cue =>
    match d, (show d.length = 6 from Nat.le_antisymm high low) with
    | [a, b, c, x, y, z], _ => exact ⟨.cue p tag a b c (wordOf x y) z, rfl, by rw [requestFrame, word2_wordOf]; rfl⟩
  | pass =>
    match d, (show d.length = 6 from Nat.le_antisymm high low) with
    | [a, b, c, x, y, z], _ => exact ⟨.pass p tag a b c (wordOf x y) z, rfl, by rw [requestFrame, word2_wordOf]; rfl⟩
  | editZone =>
    match d, (show d.length = 16 from Nat.le_antisymm high low) with
    | a :: b :: r, hr =>
      have long : r.length = 14 := by simpa using hr
      exact ⟨.editZone p tag a b r, by rw [Instr.wellFormed, long]; rfl, rfl⟩
  | setNoticeMask => exact ⟨.setNoticeMask p tag d, beq_iff_eq.2 (Nat.le_antisymm high low), rfl⟩
  | writeSetup => exact ⟨.writeSetup p tag d, beq_iff_eq.2 (Nat.le_antisymm high low), rfl⟩
  | writeSong =>
    obtain ⟨x, r, rfl⟩ := more (by decide)
    have bounds : 32 ≤ r.length ∧ r.length ≤ 320 := ⟨Nat.le_of_succ_le_succ low, Nat.le_of_succ_le_succ high⟩
    exact ⟨.writeSong p tag x r, by simp [Instr.wellFormed, bounds], rfl⟩
  | writeSetlist =>
    obtain ⟨x, r, rfl⟩ := more (by decide)
    exact ⟨.writeSetlist p tag x r, decide_eq_true (Nat.le_of_succ_le_succ high), rfl⟩

/-- The command of a request does what the arrival of its frame does (log entry 3). -/
theorem exec_requestFrame {i : Instr} {k tag : Byte} {d : List Byte} (h : requestFrame i = some (p, tag, k, d)) (s : State) :
    exec i s = .next (arrive p k tag d s) := by
  cases i <;> cases h <;> rfl

/-! ## A frame at an idle port, in a reset or out of it (R172, R173) -/

/-- A request decided, its reply waiting for the transmitter. -/
def answered (p : Port) (r : Served) : State :=
  match r.2 with
  | some reply => decideReply p reply r.1
  | none => r.1

theorem serve_front {rest : List Frame} (hi : (s.port p).inService = none) (hb : (s.port p).buffer = f :: rest) :
    serve p s = answered p (decideRequest p f (s.setPort p { s.port p with inService := some f, buffer := rest })) := by
  unfold serve
  dsimp only
  rw [hi, hb]
  rfl

theorem serve_idle (h : (s.port p).inService ≠ none ∨ (s.port p).buffer = []) : serve p s = s := by
  unfold serve
  dsimp only
  split
  · next hi hb =>
    rcases h with h | h
    · exact absurd hi h
    · rw [h] at hb; cases hb
  · rfl

theorem arrive_offers {k tag : Byte} {d : List Byte} (run : s.running = true) (hl : d.length ≤ 336) :
    arrive p k tag d s = transmitAll (offerFrame p ⟨k, tag, d⟩ s) := by
  unfold arrive
  rw [run, if_neg (by decide), if_neg (Nat.not_lt.2 hl)]

theorem setPort_setPort (s : State) (p : Port) (x y : ControlPort) : (s.setPort p x).setPort p y = s.setPort p y := by cases p <;> rfl

/-- A port that serves nothing takes the frame at once. -/
theorem transmitAll_offerFrame (hi : (s.port p).inService = none) (hb : (s.port p).buffer = []) :
    transmitAll (offerFrame p f s) = finish p (decideRequest p f (s.taking p f)) := by
  have taken : (s.setPort p { s.port p with buffer := [f] }).setPort p
      { (s.setPort p { s.port p with buffer := [f] }).port p with inService := some f, buffer := [] } = s.taking p f := by
    rw [setPort_setPort, State.setPort_port_same, State.taking, ← hb]
  unfold offerFrame
  dsimp only
  rw [hb, if_pos (by decide), List.nil_append, serve_front (rest := []) (by rw [State.setPort_port_same]; exact hi)
    (by rw [State.setPort_port_same]), taken]
  rfl

/-- What an idle port answers without its request's rule. -/
theorem refused_arrival {k tag : Byte} {d : List Byte} {r : Reply} (run : s.running = true) (hl : d.length ≤ 336)
    (hi : (s.port p).inService = none) (hb : (s.port p).buffer = [])
    (decided : decideRequest p ⟨k, tag, d⟩ (s.taking p ⟨k, tag, d⟩) = refuse (s.taking p ⟨k, tag, d⟩) r) :
    Completed p ⟨k, tag, d⟩ r [] s (arrive p k tag d s) := by
  rw [arrive_offers run hl, transmitAll_offerFrame hi hb, decided]
  exact refused_completed

theorem decideRequest_unknown {k tag : Byte} {d : List Byte} (h : requestKinds.contains k.toNat = false) :
    decideRequest p ⟨k, tag, d⟩ u = refuse u .unknownKind := by
  unfold decideRequest
  rw [ofByte_none h]

theorem decideRequest_length {k : RequestKind} {tag : Byte} {d : List Byte} (h : k.lengthOk d.length = false) :
    decideRequest p ⟨k.code, tag, d⟩ u = refuse u (.badField 0) := by
  unfold decideRequest
  rw [RequestKind.ofByte_code]
  dsimp only
  rw [h, if_neg (by decide)]

theorem decideRequest_busy {k : RequestKind} {tag : Byte} {d : List Byte} (h : k.lengthOk d.length = true) (hr : u.resetting ≠ .none)
    (hk : k ≠ .getStatus) : decideRequest p ⟨k.code, tag, d⟩ u = refuse u .busy := by
  have busy : (u.inReset && k != .getStatus) = true := by simp [State.inReset, hr, hk]
  unfold decideRequest
  rw [RequestKind.ofByte_code]
  dsimp only
  rw [h, if_pos rfl, if_pos busy]

/-- GET_STATUS is decided during a reset too (R173). -/
theorem decideRequest_status {tag g x : Byte} : decideRequest p ⟨0x40, tag, [g, x]⟩ u = refuse u (statusReply g x u) := by
  have never : (u.inReset && RequestKind.getStatus != .getStatus) = false := Bool.and_false _
  show (if (u.inReset && RequestKind.getStatus != .getStatus) = true then _ else _) = _
  rw [never]
  rfl

/-! ## The buffer (R172) -/

theorem offerFrame_buffers {x : Frame} (hi : (s.port p).inService = some x) (hb : (s.port p).buffer.length < 4) :
    offerFrame p f s = s.setPort p { s.port p with buffer := (s.port p).buffer ++ [f] } := by
  unfold offerFrame
  rw [if_pos hb]
  exact serve_idle (.inl (by rw [State.setPort_port_same]; show (s.port p).inService ≠ none; rw [hi]; exact nofun))

theorem transmitAll_service (q : Port) (u : State) : ((transmitAll u).port q).service = (u.port q).service := by
  rw [transmitAll_port, ControlPort.transmit_service]

theorem requestLost_told {c : LossCause} {k tag : Option Byte} (mask : (s.port p).mask.getLsbD 21 = true) (room : (s.port p).notices.length < 32) :
    Told p ⟨.requestLost c k tag, false, s.grid.position, some (.port p)⟩ (transmitAll (requestLost p c k tag s)) := by
  refine transmitAll_told ?_
  rw [requestLost, postTo, State.setPort_port_same]
  refine ControlPort.mem_post (n := s.notice (.requestLost c k tag) (some (.port p))) ?_ room
  exact Bool.or_eq_true_iff.2 (.inr mask)

/-! ## The obligation -/

theorem request_fields : ∀ (p : Port) (tag k : Byte) (d : List Byte) (lo hi : Nat), (k.toNat, lo, hi) ∈ requestLengths → lo ≤ d.length →
    d.length ≤ hi → ∃ i : Instr, i.wellFormed = true ∧ requestFrame i = some (p, tag, k, d) := by
  intro p tag k d lo hi listed low high
  obtain ⟨r, rfl, rfl, rfl⟩ := requestLengths_kind listed
  exact payload_request r p tag d (by rw [lengthOk_eq]; exact decide_eq_true ⟨low, high⟩)

/-- Settles O57: the fields of every payload; the answers at an idle port; the buffer behind a request in service. -/
theorem requestService : Obligations.RequestService := by
  refine ⟨request_fields, fun p tag k d s run hl => ⟨arrive p k tag d s, rfl, fun i hi => exec_requestFrame hi s, fun hi hb => ?_,
    fun f hf room => ?_, fun f hf full => ?_⟩⟩
  · refine ⟨fun unknown => refused_arrival run hl hi hb (decideRequest_unknown unknown), fun lo hi' listed => ?_⟩
    obtain ⟨r, rfl, rfl, rfl⟩ := requestLengths_kind listed
    refine ⟨fun bad => refused_arrival run hl hi hb (decideRequest_length ?_), fun low high reset => ⟨fun other => ?_, fun g x same hd => ?_⟩⟩
    · rw [lengthOk_eq]
      exact decide_eq_false (by omega)
    · refine refused_arrival run hl hi hb (decideRequest_busy (by rw [lengthOk_eq]; exact decide_eq_true ⟨low, high⟩) (by simpa using reset) ?_)
      rintro rfl
      exact other rfl
    · subst hd
      rw [same]
      set v := s.taking p ⟨0x40, tag, [g, x]⟩ with hv
      refine ⟨fun hg => ?_, fun hg hx => ?_, fun hg hx => ?_⟩
      · refine refused_arrival run hl hi hb (decideRequest_status.trans ?_)
        rw [statusReply, status_none hg]
      · obtain ⟨bytes, hbytes⟩ := status_isSome hg x.toNat v
        refine refused_arrival run hl hi hb (decideRequest_status.trans ?_)
        rw [statusReply_badStart hbytes hx]
      · obtain ⟨bytes, hbytes⟩ := status_isSome hg x.toNat v
        refine ⟨bytes, refused_arrival run hl hi hb (decideRequest_status.trans ?_)⟩
        rw [statusReply_ok hbytes hx]
  · rw [arrive_offers run hl, offerFrame_buffers hf room]
    refine ⟨(setPort_frame s p _).chain (transmitAll_frame _), ?_⟩
    rw [transmitAll_service, State.setPort_port_same]
  · have lost : offerFrame p ⟨k, tag, d⟩ s = requestLost p .full (some k) (some tag) s := by
      unfold offerFrame
      rw [if_neg (Nat.not_lt.2 full)]
    rw [arrive_offers run hl, lost]
    exact ⟨(requestLost_frame p .full (some k) (some tag) s).chain (transmitAll_frame _), requestLost_told⟩

end Sys2Proof.Machine
end

section
/-! PROOF. What the arbiter's look leaves of the modules, and the states of a module by its BUSY line (O40). -/

namespace Sys2Proof.Machine

variable {s t u : State} {p q : Port} {m : ModuleId}

/-! ## The modules and PASS through the arbiter's look -/

/-- A work leaves every module but for its discard count, and adds nothing to PASS. -/
structure ModulesStand (s t : State) : Prop where
  modules : ∀ n, ∃ d, t.module n = { s.module n with discards := d }
  pass : ∀ i ∈ t.bus.pass, i ∈ s.bus.pass

theorem ModulesStand.same (hm : t.bus.modules = s.bus.modules) (hp : t.bus.pass = s.bus.pass) : ModulesStand s t :=
  ⟨fun n => ⟨(s.module n).discards, by rw [State.module, hm]; rfl⟩, fun i hi => hp ▸ hi⟩

theorem ModulesStand.refl (s : State) : ModulesStand s s := .same rfl rfl

theorem ModulesStand.then (h : ModulesStand s t) (g : ModulesStand t u) : ModulesStand s u where
  modules n := by
    obtain ⟨d, hd⟩ := h.modules n
    obtain ⟨d', hd'⟩ := g.modules n
    exact ⟨d', by rw [hd', hd]⟩
  pass i hi := h.pass i (g.pass i hi)

theorem SameBut.modulesStand {ps : List Part} (h : SameBut ps s t) (hb : Part.bus ∉ ps := by decide) : ModulesStand s t :=
  have bus : t.bus = s.bus := h.at .bus hb
  .same (by rw [bus]) (by rw [bus])

theorem ModulesStand.mode (h : ModulesStand s t) (n : ModuleId) : (t.module n).mode = (s.module n).mode := by
  obtain ⟨d, hd⟩ := h.modules n
  rw [hd]

theorem ModulesStand.timer (h : ModulesStand s t) (n : ModuleId) : (t.module n).timer = (s.module n).timer := by
  obtain ⟨d, hd⟩ := h.modules n
  rw [hd]

theorem ModulesStand.busy (h : ModulesStand s t) (n : ModuleId) : (t.module n).busy = (s.module n).busy := by
  obtain ⟨d, hd⟩ := h.modules n
  rw [hd]

theorem discard_modulesStand (s : State) (m : ModuleId) : ModulesStand s (s.discard m) where
  modules n := by
    by_cases hn : n = m
    · subst hn
      exact ⟨_, State.setModule_module_same _ _ _⟩
    · exact ⟨(s.module n).discards, State.setModule_module_other _ _ hn⟩
  pass _ hi := hi

theorem discardAll_modulesStand : ∀ (ms : List ModuleId) (s : State), ModulesStand s (discardAll ms s)
  | [], s => .refl s
  | m :: ms, s => (discard_modulesStand s m).then (discardAll_modulesStand ms _)

theorem recordProgram_modulesStand (m : ModuleId) (x : Message) (s : State) : ModulesStand s (recordProgram m x s) := by
  unfold recordProgram
  split
  · exact .same rfl rfl
  · exact .refl s

theorem endDest_modulesStand (n i : Nat) (s : State) : ModulesStand s (endDest n i s) := (endDest_frame n i s).modulesStand

theorem flagDest_modulesStand (n i : Nat) (f : KeyOnFlag) (s : State) : ModulesStand s (flagDest n i f s) := (flagDest_frame n i f s).modulesStand

theorem settleTold_bus (s : State) : (settleTold s).bus = { s.bus with
    pending := s.bus.pending.filter (fun e => !(e.kind == .take && (s.module e.module).mode.gone)) } :=
  (post_frame (.changeSettled s.failedModules (since s.now s.seq.takeTime / 1000)) none (settleCleared s)).at .bus

theorem settle_bus (s : State) : (settle s).bus = { s.bus with
    pending := s.bus.pending.filter (fun e => !(e.kind == .take && (s.module e.module).mode.gone)) } :=
  ((examineLoad_frame _).at .bus).trans (settleTold_bus s)

theorem examineSettle_modulesStand (s : State) : ModulesStand s (examineSettle s) := by
  unfold examineSettle
  split
  · exact .same (by rw [settle_bus]) (by rw [settle_bus])
  · exact .refl s

theorem decideCandidate_modulesStand (c : Candidate) (s : State) : ModulesStand s (decideCandidate c s).1 := by
  unfold decideCandidate
  split
  · exact .refl s
  · split
    · exact .refl s
    · exact ((layerUpdate_frame s _).chain (flagDest_frame _ _ _ _) (rs := [.layer, .notes])).modulesStand.then (endDest_modulesStand _ _ _)
    · split
      · exact .refl s
      · split
        · exact endDest_modulesStand ..
        · split
          · exact .refl s
          all_goals exact endDest_modulesStand ..

theorem serveKeyOffs_modulesStand : ∀ (cs : List Candidate) (s : State), ModulesStand s (serveKeyOffs cs s).1
  | [], s => .refl s
  | c :: cs, s => by
    have h := decideCandidate_modulesStand c s
    unfold serveKeyOffs
    split
    · next h' => rw [h'] at h; exact h
    · next h' => rw [h'] at h; exact h.then (serveKeyOffs_modulesStand cs _)

theorem dropKeyOn_modulesStand (s : State) (k : KeyOnItem) : ModulesStand s (dropKeyOn s k) := by
  unfold dropKeyOn
  split
  · exact (flagDest_modulesStand ..).then (discard_modulesStand ..)
  · exact .refl s

theorem foldl_modulesStand {α : Type} {f : State → α → State} (h : ∀ x a, ModulesStand x (f x a)) :
    ∀ (l : List α) (s : State), ModulesStand s (l.foldl f s)
  | [], s => .refl s
  | a :: l, s => (h s a).then (foldl_modulesStand h l _)

theorem serveKeyOns_modulesStand (s : State) : ModulesStand s (serveKeyOns s).1 := by
  have h : ModulesStand s ((scanQueue (KeyOnItem.verdict s) s.layer.keyOns).dropped.foldl dropKeyOn
      { s with layer := { s.layer with keyOns := (scanQueue (KeyOnItem.verdict s) s.layer.keyOns).rest } }) :=
    (layerUpdate_frame s _).modulesStand.then (foldl_modulesStand dropKeyOn_modulesStand _ _)
  unfold serveKeyOns
  dsimp only
  split
  · exact h
  · split
    · exact h.then (flagDest_modulesStand ..)
    · exact h

theorem serveControls_modulesStand (s : State) : ModulesStand s (serveControls s).1 := by
  unfold serveControls
  dsimp only
  split <;> exact (ModulesStand.same (by rfl) (by rfl)).then (discardAll_modulesStand _ _)

theorem serveLevels_modulesStand (s : State) : ModulesStand s (serveLevels s).1 := by
  unfold serveLevels
  dsimp only
  split <;> exact (ModulesStand.same (by rfl) (by rfl)).then (discardAll_modulesStand _ _)

theorem serveRealtime_modulesStand (s : State) : ModulesStand s (serveRealtime s).1 := by
  unfold serveRealtime
  dsimp only
  split <;> exact (ModulesStand.same (by rfl) (by rfl)).then (discardAll_modulesStand _ _)

theorem serveChange_modulesStand (s : State) : ModulesStand s (serveChange s).1 := by
  unfold serveChange
  dsimp only
  split
  · exact .refl s
  · exact (ModulesStand.same (by rfl) (by rfl)).then (recordProgram_modulesStand ..)

theorem scanQueue_rest_subset {α : Type} (judge : α → Verdict) : ∀ l : List α, ∀ x ∈ (scanQueue judge l).rest, x ∈ l
  | [], x, h => h
  | y :: ys, x, h => by
    have ih := scanQueue_rest_subset judge ys x
    unfold scanQueue at h
    split at h
    · exact List.mem_cons_of_mem _ h
    · rcases List.mem_cons.1 h with rfl | h
      · exact List.mem_cons_self
      · exact List.mem_cons_of_mem _ (ih h)
    · exact List.mem_cons_of_mem _ (ih h)

theorem servePass_modulesStand (s : State) : ModulesStand s (servePass s).1 := by
  have taken : ModulesStand s { s with bus := { s.bus with
      pass := (scanQueue (fun i : Addressed => (s.module i.module).mode.waitVerdict) s.bus.pass).rest } } :=
    ⟨fun n => ⟨(s.module n).discards, rfl⟩, scanQueue_rest_subset _ _⟩
  unfold servePass
  dsimp only
  split
  · exact taken.then (discardAll_modulesStand _ _)
  · exact (taken.then (discardAll_modulesStand _ _)).then (recordProgram_modulesStand ..)

theorem orElseServe_modulesStand {a : State × Option Choice} {g : State → State × Option Choice} (ha : ModulesStand s a.1)
    (hg : ∀ x, ModulesStand x (g x).1) : ModulesStand s (orElseServe a g).1 := by
  obtain ⟨x, _ | c⟩ := a
  · exact ha.then (hg x)
  · exact ha

theorem serveLive_modulesStand (s : State) : ModulesStand s (serveLive s).1 :=
  orElseServe_modulesStand (serveKeyOffs_modulesStand _ s) fun x => orElseServe_modulesStand (serveKeyOns_modulesStand x) fun y =>
    orElseServe_modulesStand (serveControls_modulesStand y) serveLevels_modulesStand

/-- Three classes in any order keep what each keeps. -/
theorem classes_modulesStand {f g h : State → State × Option Choice} (hf : ∀ x, ModulesStand x (f x).1) (hg : ∀ x, ModulesStand x (g x).1)
    (hh : ∀ x, ModulesStand x (h x).1) (s : State) : ModulesStand s (orElseServe (f s) fun x => orElseServe (g x) h).1 :=
  orElseServe_modulesStand (hf s) fun x => orElseServe_modulesStand (hg x) hh

theorem choose_modulesStand (s : State) : ModulesStand s (choose s).1 := by
  refine orElseServe_modulesStand (serveRealtime_modulesStand s) fun x => ?_
  split
  · exact classes_modulesStand serveLive_modulesStand servePass_modulesStand serveChange_modulesStand x
  · exact classes_modulesStand serveChange_modulesStand serveLive_modulesStand servePass_modulesStand x
  · exact classes_modulesStand serveChange_modulesStand servePass_modulesStand serveLive_modulesStand x
  · exact classes_modulesStand servePass_modulesStand serveLive_modulesStand serveChange_modulesStand x
  · exact classes_modulesStand servePass_modulesStand serveChange_modulesStand serveLive_modulesStand x
  · exact classes_modulesStand serveLive_modulesStand serveChange_modulesStand servePass_modulesStand x

theorem choices_modulesStand : ∀ (n : Nat) (s : State), ModulesStand s (choices n s)
  | 0, s => .refl s
  | n + 1, s => by
    have h := choose_modulesStand s
    unfold choices
    split
    · next t c h' =>
      rw [h'] at h
      have begun : ModulesStand s (beginTransmission c.target c.message c.fromTake false t) := h.then (.same rfl rfl)
      dsimp only
      split
      · exact begun.then (examineSettle_modulesStand _)
      · exact begun
    · next t h' =>
      rw [h'] at h
      split
      · exact h.then (choices_modulesStand n t)
      · exact h

theorem arbitrate_modulesStand (s : State) : ModulesStand s (arbitrate s) := by
  unfold arbitrate
  split
  · exact .refl s
  · exact choices_modulesStand _ s

theorem transmitAll_modulesStand (s : State) : ModulesStand s (transmitAll s) := (transmitAll_frame s).modulesStand

theorem Ends.modulesStand (h : Ends u t) : ModulesStand u t :=
  h.looked.elim SameBut.modulesStand fun l => (arbitrate_modulesStand u).then l.modulesStand

/-- The settle conditions are examined, and the event closes with the arbiter's look. -/
theorem Posts.tells_examined {n : Notice} (h : Posts n s u) (e : Ends (examineSettle u) t) : Tells n s t :=
  (h.kept (examineSettle_keepsNotices u)).tells e

/-- While a message is being transmitted the close leaves the bus. -/
theorem Ends.bus (h : Ends u t) (sending : u.bus.transmission.isSome = true) : t.bus = u.bus := (h.busy sending).at .bus

theorem examineSettle_bus (s : State) : ∃ l, (examineSettle s).bus = { s.bus with pending := l } := by
  unfold examineSettle
  split
  · exact ⟨_, settle_bus s⟩
  · exact ⟨s.bus.pending, rfl⟩

/-- Where the settle conditions are examined before a close while a message is being transmitted, the bus stands but for the pending
program list. -/
theorem Ends.examined_bus (h : Ends (examineSettle u) t) (sending : u.bus.transmission.isSome = true) :
    ∃ l, t.bus = { u.bus with pending := l } := by
  obtain ⟨l, hl⟩ := examineSettle_bus u
  exact ⟨l, (h.bus (by rw [hl]; exact sending)).trans hl⟩

/-! ## A module enters a state (R108) -/

theorem enterMode_bus (m : ModuleId) (new : ModuleMode) (tm : Option Timer) (k : Option Nat) (s : State) :
    (enterMode m new tm k s).bus = (s.setModule m { s.module m with mode := new, timer := tm }).bus :=
  (post_frame _ _ _).at .bus

theorem enterMode_module_same (m : ModuleId) (new : ModuleMode) (tm : Option Timer) (k : Option Nat) (s : State) :
    (enterMode m new tm k s).module m = { s.module m with mode := new, timer := tm } := by
  rw [State.module, enterMode_bus]
  exact State.setModule_module_same _ _ _

theorem enterMode_module_other (new : ModuleMode) (tm : Option Timer) (k : Option Nat) (s : State) {n : ModuleId} (h : n ≠ m) :
    (enterMode m new tm k s).module n = s.module n := by
  rw [State.module, enterMode_bus]
  exact State.setModule_module_other _ _ h

/-- From `s` to `t` module `m` has entered a state; the modes and the busy timers of the others stand. -/
structure ModuleEntered (m : ModuleId) (new : ModuleMode) (tm : Option Timer) (k : Option Nat) (s t : State) : Prop where
  mode : (t.module m).mode = new
  timer : (t.module m).timer = tm
  others : ∀ n, n ≠ m → (t.module n).mode = (s.module n).mode ∧ (t.module n).timer = (s.module n).timer
  told : Tells ⟨.moduleState m new (s.module m).mode k, (NoticeBody.moduleState m new (s.module m).mode k).urgent, s.grid.position, none⟩ s t

/-- A module enters a state after a change of the bus that leaves the modes and the other modules' busy timers. -/
theorem Ends.entered {new : ModuleMode} {tm : Option Timer} {k : Option Nat} (e : Ends (examineSettle (enterMode m new tm k u)) t)
    (f : SameBut [.bus] s u) (hm : ∀ n, (u.module n).mode = (s.module n).mode)
    (ht : ∀ n, n ≠ m → (u.module n).timer = (s.module n).timer) : ModuleEntered m new tm k s t := by
  have stand := (examineSettle_modulesStand _).then e.modulesStand
  have entered := enterMode_module_same m new tm k u
  refine ⟨?_, ?_, fun n hn => ?_, ?_⟩
  · rw [stand.mode, entered]
  · rw [stand.timer, entered]
  · rw [stand.mode, stand.timer, enterMode_module_other _ _ _ _ hn]
    exact ⟨hm n, ht n hn⟩
  · have posts := (f.chain (setModule_frame u m { u.module m with mode := new, timer := tm }) (rs := [.bus])).posting.post
      (.moduleState m new (u.module m).mode k) none
    rw [State.setModule_grid, show u.grid = s.grid from f.at .grid, hm] at posts
    refine Posts.tells_examined ?_ e
    rw [enterMode, hm]
    exact posts

theorem Ends.entered_busy {new : ModuleMode} {tm : Option Timer} {k : Option Nat} (e : Ends (examineSettle (enterMode m new tm k u)) t) :
    (t.module m).busy = (u.module m).busy := by
  rw [((examineSettle_modulesStand _).then e.modulesStand).busy, enterMode_module_same]

theorem entered_frame {new : ModuleMode} {tm : Option Timer} {k : Option Nat} (f : SameBut [.bus] s u) :
    SameBut (arbiterParts ++ lineParts) s (close (examineSettle (enterMode m new tm k u))) :=
  ((f.chain (enterMode_frame m new tm k u) (rs := settleParts)).then (examineSettle_frame _)).chain
    ((arbitrate_frame _).chain (transmitAll_frame _) (rs := closeParts))

/-! ## The change of the filtered level -/

/-- The module's filter has changed its level (R108). -/
def State.busySet (s : State) (m : ModuleId) (b : Bool) : State := s.setModule m { s.module m with busy := b, agreeing := 0 }

theorem busySet_mode (s : State) (m : ModuleId) (b : Bool) (n : ModuleId) : ((s.busySet m b).module n).mode = (s.module n).mode := by
  by_cases hn : n = m
  · subst hn
    rw [State.busySet, State.setModule_module_same]
  · rw [State.busySet, State.setModule_module_other _ _ hn]

theorem busySet_other (s : State) (b : Bool) {n : ModuleId} (hn : n ≠ m) : (s.busySet m b).module n = s.module n :=
  State.setModule_module_other _ _ hn

theorem busySet_same (s : State) (m : ModuleId) (b : Bool) : (s.busySet m b).module m = { s.module m with busy := b, agreeing := 0 } :=
  State.setModule_module_same _ _ _

theorem busySet_frame (s : State) (m : ModuleId) (b : Bool) : SameBut [.bus] s (s.busySet m b) := setModule_frame s m _

/-- A module that its BUSY line takes nowhere has its filter changed alone. -/
theorem busySet_transmit (s : State) (m : ModuleId) (b : Bool) : SameBut (arbiterParts ++ lineParts) s (transmitAll (s.busySet m b)) ∧
    (transmitAll (s.busySet m b)).module m = { s.module m with busy := b, agreeing := 0 } ∧
    ∀ n, n ≠ m → (transmitAll (s.busySet m b)).module n = s.module n := by
  have bus : (transmitAll (s.busySet m b)).bus = (s.busySet m b).bus := (transmitAll_frame _).at .bus
  refine ⟨((busySet_frame s m b).chain (transmitAll_frame _) (rs := arbiterParts ++ lineParts)).mono, ?_, fun n hn => ?_⟩
  · rw [State.module, bus]
    exact busySet_same s m b
  · rw [State.module, bus]
    exact busySet_other s b hn

theorem transmit_busyAsserted_ready (h : (s.module m).mode = .ready) : transmitAll (busyAsserted m s) =
    close (examineSettle (enterMode m .loading (some ⟨s.now, s.setup.stallMillis * 1000⟩) none (s.busySet m true))) := by
  rw [busyAsserted, h]
  rfl

theorem busyAsserted_else (h : (s.module m).mode ≠ .ready) : busyAsserted m s = s.busySet m true := by
  unfold busyAsserted
  split
  · next h' => exact absurd h' h
  · rfl

theorem transmit_busyDeasserted_loading (h : (s.module m).mode = .loading) : transmitAll (busyDeasserted m s) =
    close (examineSettle (enterMode m .ready none none (s.busySet m false))) := by
  rw [busyDeasserted, h]
  rfl

theorem busyDeasserted_else (h : (s.module m).mode = .ready ∨ (s.module m).mode = .disabled) : busyDeasserted m s = s.busySet m false := by
  unfold busyDeasserted
  rcases h with h | h <;> rw [h] <;> rfl

/-! ## Resync posts (R110, R117) -/

/-- The key of a pending program entry. -/
def PendingProgram.Names (x : PendingProgram) (m : ModuleId) (c : Channel) : Prop := x.module = m ∧ x.channel = c

theorem resyncPosts_eq (m : ModuleId) (s : State) : resyncPosts m s.bus s.activeBank.programs = s.resyncs m := by
  unfold resyncPosts State.resyncs
  rw [List.filterMap_filter]
  refine List.filterMap_congr fun e _ => ?_
  by_cases hm : e.module = m
  · subst hm
    by_cases free : s.bus.pending.any (fun x => x.module == e.module && x.channel == e.channel) = true
    · have full : ¬ s.bus.pending.all (fun x => !(x.module == e.module && x.channel == e.channel)) = true := by
        rw [← List.not_any_eq_all_not]
        simp [free]
      simp only [beq_self_eq_true, if_true, free, full]
      cases s.bus.cell e.module e.channel <;> rfl
    · have full : s.bus.pending.all (fun x => !(x.module == e.module && x.channel == e.channel)) = true := by
        rw [← List.not_any_eq_all_not]
        simp [free]
      simp only [beq_self_eq_true, if_true, free, full, and_true]
      cases s.bus.cell e.module e.channel <;> rfl
  · simp [hm]

theorem postProgram_mem {x e : PendingProgram} {l : List PendingProgram} (h : x ∈ postProgram e l) : x = e ∨ x ∈ l := by
  unfold postProgram at h
  split at h
  · obtain ⟨y, hy, rfl⟩ := List.mem_map.1 h
    split
    · exact .inl rfl
    · exact .inr hy
  · exact (List.mem_append.1 h).symm.imp List.mem_singleton.1 id

theorem mem_postProgram (e : PendingProgram) (l : List PendingProgram) : e ∈ postProgram e l := by
  unfold postProgram
  split
  · next h =>
    obtain ⟨y, hy, same⟩ := List.any_eq_true.1 h
    exact List.mem_map.2 ⟨y, hy, by rw [if_pos same]⟩
  · exact List.mem_append_right _ List.mem_cons_self

/-- A key that the list holds stays in it. -/
theorem postProgram_names {m : ModuleId} {c : Channel} (e : PendingProgram) {l : List PendingProgram} (h : ∃ x ∈ l, x.Names m c) :
    ∃ x ∈ postProgram e l, x.Names m c := by
  obtain ⟨x, hx, names⟩ := h
  unfold postProgram
  split
  · by_cases same : (x.module == e.module && x.channel == e.channel) = true
    · obtain ⟨hm, hc⟩ := Bool.and_eq_true_iff.1 same
      exact ⟨e, List.mem_map.2 ⟨x, hx, by rw [if_pos same]⟩, (eq_of_beq hm).symm.trans names.1, (eq_of_beq hc).symm.trans names.2⟩
    · exact ⟨x, List.mem_map.2 ⟨x, hx, by rw [if_neg same]⟩, names⟩
  · exact ⟨x, List.mem_append_left _ hx, names⟩

theorem posted_mem {x : PendingProgram} : ∀ {es l : List PendingProgram}, x ∈ es.foldl (fun l e => postProgram e l) l → x ∈ es ∨ x ∈ l
  | [], _, h => .inr h
  | e :: es, l, h => by
    rcases posted_mem (es := es) h with h | h
    · exact .inl (List.mem_cons_of_mem _ h)
    · rcases postProgram_mem h with rfl | h
      · exact .inl List.mem_cons_self
      · exact .inr h

theorem posted_names {m : ModuleId} {c : Channel} : ∀ {es l : List PendingProgram}, (∃ x ∈ es, x.Names m c) ∨ (∃ x ∈ l, x.Names m c) →
    ∃ x ∈ es.foldl (fun l e => postProgram e l) l, x.Names m c
  | [], _, h => h.resolve_left fun ⟨_, hx, _⟩ => by simp at hx
  | e :: es, l, h => by
    refine posted_names (es := es) ?_
    rcases h with ⟨x, hx, names⟩ | h
    · rcases List.mem_cons.1 hx with rfl | hx
      · exact .inr ⟨x, mem_postProgram x l, names⟩
      · exact .inl ⟨x, hx, names⟩
    · exact .inr (postProgram_names e h)

theorem mem_resyncs {x : PendingProgram} : x ∈ s.resyncs m ↔ ∃ e ∈ s.activeBank.programs, e.module = m ∧
    (∀ y ∈ s.bus.pending, ¬ y.Names m e.channel) ∧ ∃ v, s.bus.cell m e.channel = some v ∧ x = ⟨m, e.channel, v, none, .program, .resync⟩ := by
  unfold State.resyncs
  rw [List.mem_filterMap]
  refine exists_congr fun e => and_congr_right fun _ => ?_
  have free : s.bus.pending.all (fun x => !(x.module == m && x.channel == e.channel)) = true ↔ ∀ y ∈ s.bus.pending, ¬ y.Names m e.channel := by
    simp [List.all_eq_true, PendingProgram.Names, ← not_and_or]
  constructor
  · intro h
    split at h
    · next both =>
      obtain ⟨v, hv, hx⟩ := Option.map_eq_some_iff.1 h
      exact ⟨both.1, free.1 both.2, v, hv, hx.symm⟩
    · cases h
  · rintro ⟨hm, hy, v, hv, rfl⟩
    rw [if_pos ⟨hm, free.2 hy⟩, hv]
    rfl

/-- Every program of the ACTIVE bank that names the module and whose cell holds a program is in the list after the resync posts: the cell's
program, where no entry stood for that channel. -/
theorem resynced {e : ProgramEntry} {v : Nat} (he : e ∈ s.activeBank.programs) (hm : e.module = m) (hv : s.bus.cell m e.channel = some v) :
    ∃ x ∈ (s.resyncs m).foldl (fun l e => postProgram e l) s.bus.pending, x.module = m ∧ x.channel = e.channel ∧
      ((∀ y ∈ s.bus.pending, ¬ (y.module = m ∧ y.channel = e.channel)) → x.program = v ∧ x.kind = .resync) := by
  have held : (∃ x ∈ s.resyncs m, x.Names m e.channel) ∨ ∃ x ∈ s.bus.pending, x.Names m e.channel := by
    by_cases stood : ∃ x ∈ s.bus.pending, x.Names m e.channel
    · exact .inr stood
    · exact .inl ⟨_, mem_resyncs.2 ⟨e, he, hm, fun y hy names => stood ⟨y, hy, names⟩, v, hv, rfl⟩, rfl, rfl⟩
  obtain ⟨x, hx, names⟩ := posted_names held
  refine ⟨x, hx, names.1, names.2, fun free => ?_⟩
  rcases posted_mem hx with hx | hx
  · obtain ⟨f, -, -, -, w, hw, rfl⟩ := mem_resyncs.1 hx
    have channel : f.channel = e.channel := names.2
    rw [channel, hv] at hw
    exact ⟨(Option.some.inj hw).symm, rfl⟩
  · exact absurd names (free x hx)

/-- The state a module that returns from STALLED is resynchronized in. -/
def State.resynced (s : State) (m : ModuleId) : State := { s.busySet m false with
  bus := { (s.busySet m false).bus with pending := (s.resyncs m).foldl (fun l e => postProgram e l) s.bus.pending } }

theorem transmit_busyDeasserted_stalled (h : (s.module m).mode = .stalled) : transmitAll (busyDeasserted m s) =
    close (examineSettle (enterMode m .ready none (some (s.resyncs m).length) (s.resynced m))) := by
  unfold busyDeasserted
  rw [h]
  dsimp only
  have posts : resyncPosts m (s.busySet m false).bus (s.busySet m false).activeBank.programs = s.resyncs m := by
    refine Eq.trans ?_ (resyncPosts_eq m s)
    rw [activeBank_congr ((busySet_frame s m false).at .banks)]
    rfl
  show transmitAll (arbitrate (examineSettle (enterMode m .ready none
    (some (resyncPosts m (s.busySet m false).bus (s.busySet m false).activeBank.programs).length) _))) = _
  rw [posts]
  unfold State.resynced
  rw [← posts]
  rfl

/-! ## The busy timer (R109) -/

theorem discardAll_bus : ∀ (ms : List ModuleId) (s : State), ∃ v, (discardAll ms s).bus = { s.bus with modules := v }
  | [], s => ⟨s.bus.modules, rfl⟩
  | m :: ms, s => by
    obtain ⟨v, hv⟩ := discardAll_bus ms (s.discard m)
    exact ⟨v, hv⟩

/-- One module's discards are counted, up to 65535; the other modules stand. -/
theorem discardAll_one : ∀ (ms : List ModuleId) (s : State), (∀ n ∈ ms, n = m) → (s.module m).discards ≤ 65535 →
    (discardAll ms s).module m = { s.module m with discards := min 65535 ((s.module m).discards + ms.length) }
  | [], s, _, h => by
    show s.module m = _
    rw [List.length_nil, Nat.add_zero, Nat.min_eq_right h]
  | n :: ms, s, same, h => by
    obtain rfl : m = n := (same n List.mem_cons_self).symm
    have counted : (s.discard m).module m = { s.module m with discards := min 65535 ((s.module m).discards + 1) } := by
      rw [State.discard, State.setModule_module_same, saturate_min]
    have ih := discardAll_one ms (s.discard m) (fun x hx => same x (List.mem_cons_of_mem _ hx)) (by rw [counted]; exact Nat.min_le_left _ _)
    refine ih.trans ?_
    have capped : min 65535 (min 65535 ((s.module m).discards + 1) + ms.length) = min 65535 ((s.module m).discards + (m :: ms).length) := by
      rw [List.length_cons]
      omega
    rw [counted, ← capped]

theorem discardAll_other {n : ModuleId} : ∀ (ms : List ModuleId) (s : State), (∀ x ∈ ms, x ≠ n) → (discardAll ms s).module n = s.module n
  | [], _, _ => rfl
  | m :: ms, s, h => (discardAll_other ms (s.discard m) fun x hx => h x (List.mem_cons_of_mem _ hx)).trans
      (State.setModule_module_other _ _ (h m List.mem_cons_self).symm)

/-- The PASS items of a module leave the queue, each counted (R109). -/
def State.passCleared (s : State) (m : ModuleId) : State :=
  discardAll ((s.bus.pass.filter (fun i => i.module == m)).map (·.module))
    { s with bus := { s.bus with pass := s.bus.pass.filter (fun i => i.module != m) } }

theorem transmit_enterStalled (m : ModuleId) (s : State) :
    transmitAll (enterStalled m s) = close (examineSettle (enterMode m .stalled none none (s.passCleared m))) := rfl

theorem passCleared_frame (s : State) (m : ModuleId) : SameBut [.bus] s (s.passCleared m) := (busUpdate_frame s _).then (discardAll_frame _ _)

theorem passCleared_bus (s : State) (m : ModuleId) : ∃ v, (s.passCleared m).bus = { s.bus with
    modules := v, pass := s.bus.pass.filter (fun i => i.module != m) } := discardAll_bus _ _

theorem passCleared_pass (s : State) (m : ModuleId) : (s.passCleared m).bus.pass = s.bus.pass.filter (fun i => i.module != m) := by
  obtain ⟨v, hv⟩ := passCleared_bus s m
  rw [hv]

theorem passCleared_transmission (s : State) (m : ModuleId) : (s.passCleared m).bus.transmission = s.bus.transmission := by
  obtain ⟨v, hv⟩ := passCleared_bus s m
  rw [hv]

theorem passCleared_discarded (s : State) (m : ModuleId) :
    ∀ n ∈ (s.bus.pass.filter (fun i => i.module == m)).map (·.module), n = m := by
  intro n hn
  obtain ⟨i, hi, rfl⟩ := List.mem_map.1 hn
  exact eq_of_beq (List.mem_filter.1 hi).2

theorem passCleared_same (s : State) (m : ModuleId) (h : (s.module m).discards ≤ 65535) : (s.passCleared m).module m = { s.module m with
    discards := min 65535 ((s.module m).discards + s.bus.pass.countP (fun i => i.module == m)) } := by
  rw [List.countP_eq_length_filter, ← List.length_map (·.module)]
  exact discardAll_one _ _ (passCleared_discarded s m) h

theorem passCleared_other (s : State) {n : ModuleId} (hn : n ≠ m) : (s.passCleared m).module n = s.module n :=
  discardAll_other _ _ fun x hx => by rw [passCleared_discarded s m x hx]; exact hn.symm

theorem passCleared_mode (s : State) (m n : ModuleId) : ((s.passCleared m).module n).mode = (s.module n).mode :=
  (discardAll_modulesStand _ _).mode n

/-- Settles O40: the BUSY line asserted and deasserted, and the busy timer's expiry. -/
theorem moduleStates : Obligations.ModuleStates := by
  refine ⟨fun m s run low => ?_, fun m s run high => ?_, fun m s tm timer => ?_⟩
  · have runs : exec (.moduleBusyAsserted m) s = .next (transmitAll (busyAsserted m s)) := by
      rw [exec, execModuleBusyAsserted, whileRunning_running run, low]
      rfl
    refine ⟨_, runs, ?_⟩
    by_cases ready : (s.module m).mode = .ready
    · rw [transmit_busyAsserted_ready ready]
      have ends := close_ends (examineSettle (enterMode m .loading (some ⟨s.now, s.setup.stallMillis * 1000⟩) none (s.busySet m true)))
      have entered := ends.entered (busySet_frame s m true) (busySet_mode s m true) (fun n hn => by rw [busySet_other s true hn])
      have told := entered.told
      rw [ready] at told
      exact ⟨entered_frame (busySet_frame s m true), by rw [ends.entered_busy, busySet_same], entered.others,
        fun _ => ⟨entered.mode, entered.timer, told⟩, fun other => absurd ready other⟩
    · rw [busyAsserted_else ready]
      obtain ⟨frame, same, others⟩ := busySet_transmit s m true
      exact ⟨frame, by rw [same], fun n hn => by rw [others n hn]; exact ⟨rfl, rfl⟩, fun h => absurd h ready, fun _ => same⟩
  · have runs : exec (.moduleBusyDeasserted m) s = .next (transmitAll (busyDeasserted m s)) := by
      rw [exec, execModuleBusyDeasserted, whileRunning_running run, high]
      rfl
    refine ⟨_, runs, ?_⟩
    cases mode : (s.module m).mode with
    | loading =>
      rw [transmit_busyDeasserted_loading mode]
      have ends := close_ends (examineSettle (enterMode m .ready none none (s.busySet m false)))
      have entered := ends.entered (busySet_frame s m false) (busySet_mode s m false) (fun n hn => by rw [busySet_other s false hn])
      have told := entered.told
      rw [mode] at told
      exact ⟨entered_frame (busySet_frame s m false), by rw [ends.entered_busy, busySet_same], fun _ => ⟨entered.mode, entered.timer, told⟩,
        nofun, nofun⟩
    | stalled =>
      rw [transmit_busyDeasserted_stalled mode]
      have frame : SameBut [.bus] s (s.resynced m) := (busySet_frame s m false).then (busUpdate_frame _ _)
      have ends := close_ends (examineSettle (enterMode m .ready none (some (s.resyncs m).length) (s.resynced m)))
      have entered := ends.entered frame (busySet_mode s m false)
        (fun n hn => by rw [show (s.resynced m).module n = s.module n from busySet_other s false hn])
      have told := entered.told
      rw [mode] at told
      refine ⟨entered_frame frame, ?_, nofun, fun _ => ⟨entered.mode, entered.timer, told, fun sending rest e he hm v hv => ?_⟩, nofun⟩
      · rw [ends.entered_busy, show (s.resynced m).module m = _ from busySet_same s m false]
      · have bus := enterMode_bus m .ready none (some (s.resyncs m).length) (s.resynced m)
        have seq : (enterMode m .ready none (some (s.resyncs m).length) (s.resynced m)).seq = s.seq :=
          (frame.chain (enterMode_frame m .ready none (some (s.resyncs m).length) (s.resynced m)) (rs := settleParts.erase .seq)).at .seq
        have still := examineSettle_atRest (by rw [seq, rest])
        rw [ends.bus (by rw [still, bus]; exact sending), still, bus]
        exact Sys2Proof.Machine.resynced he hm hv
    | ready =>
      rw [busyDeasserted_else (.inl mode)]
      obtain ⟨frame, same, -⟩ := busySet_transmit s m false
      exact ⟨frame, by rw [same], nofun, nofun, fun _ => same⟩
    | disabled =>
      rw [busyDeasserted_else (.inr mode)]
      obtain ⟨frame, same, -⟩ := busySet_transmit s m false
      exact ⟨frame, by rw [same], nofun, nofun, fun _ => same⟩
  · have runs : exec (.busyTimerExpiry m) s = .next (expireAt tm (fun x => transmitAll (enterStalled m x)) s) := by
      rw [exec, execBusyTimerExpiry, onBusyTimer, timer]
    have ends : Ends (examineSettle (enterMode m .stalled none none ((s.atCount tm.due).passCleared m)))
        (expireAt tm (fun x => transmitAll (enterStalled m x)) s) :=
      expireAt_ends (f := fun x => transmitAll (enterStalled m x)) (close_ends _)
    have pass := passCleared_pass (s.atCount tm.due) m
    have bus := enterMode_bus m .stalled none none ((s.atCount tm.due).passCleared m)
    have entered := ends.entered (passCleared_frame (s.atCount tm.due) m) (passCleared_mode _ m) (fun n hn => by rw [passCleared_other _ hn])
    refine ⟨_, runs, expired_same (f := fun x => transmitAll (enterStalled m x)) (entered_frame (passCleared_frame (s.atCount tm.due) m)),
      entered.mode, entered.timer, fun i hi => ?_, fun sending => ?_, entered.told⟩
    · have stood := ((examineSettle_modulesStand _).then ends.modulesStand).pass i hi
      rw [bus, show (State.setModule _ _ _).bus.pass = (s.atCount tm.due).bus.pass.filter (fun i => i.module != m) from pass] at stood
      exact fun same => by simpa [same] using (List.mem_filter.1 stood).2
    · have sent := passCleared_transmission (s.atCount tm.due) m
      obtain ⟨l, hl⟩ := ends.examined_bus (by rw [bus]; exact (congrArg Option.isSome sent).trans sending)
      have module (n : ModuleId) : (expireAt tm (fun x => transmitAll (enterStalled m x)) s).module n =
          (enterMode m .stalled none none ((s.atCount tm.due).passCleared m)).module n := by
        rw [State.module, hl]
        rfl
      refine ⟨by rw [hl, bus]; exact pass, fun few => ?_, fun n hn => ?_⟩
      · have counted := passCleared_same (s.atCount tm.due) m few
        rw [module, enterMode_module_same, counted]
        rfl
      · rw [module, enterMode_module_other _ _ _ _ hn, passCleared_other _ hn]
        rfl

end Sys2Proof.Machine
end

section
/-! PROOF. The assembler of a control port (O56). -/

namespace Sys2Proof.Machine

variable {s t u : State} {p q : Port} {b : Byte} {c : ControlPort}

/-! ## A good character by the assembler's phase (R170) -/

theorem assemble_hunt (h : (s.port p).phase = .hunt) : assemble p b s =
    if b = 0x7E then s.setPort p ((s.port p).assembling .length Assembly.none s.now) else s := by
  unfold assemble
  dsimp only
  rw [h]

theorem assemble_lengthHigh (h : (s.port p).phase = .length) (hn : (s.port p).assembly.lengthHigh = none) : assemble p b s =
    s.setPort p ((s.port p).assembling .length
      { (s.port p).assembly with lengthHigh := some b, sum := (s.port p).assembly.sum + b } s.now) := by
  unfold assemble
  dsimp only
  rw [h]
  dsimp only
  rw [hn]

theorem assemble_length {hi : Byte} (h : (s.port p).phase = .length) (hn : (s.port p).assembly.lengthHigh = some hi) : assemble p b s =
    if 336 < be16 hi b then discardFrame p .length s
    else s.setPort p ((s.port p).assembling .header
      { (s.port p).assembly with length := be16 hi b, sum := (s.port p).assembly.sum + b } s.now) := by
  unfold assemble
  dsimp only
  rw [h]
  dsimp only
  rw [hn]

theorem assemble_kind (h : (s.port p).phase = .header) (hn : (s.port p).assembly.kind = none) : assemble p b s =
    s.setPort p ((s.port p).assembling .header { (s.port p).assembly with kind := some b, sum := (s.port p).assembly.sum + b } s.now) := by
  unfold assemble
  dsimp only
  rw [h]
  dsimp only
  rw [hn]

theorem assemble_tag {k : Byte} (h : (s.port p).phase = .header) (hn : (s.port p).assembly.kind = some k) : assemble p b s =
    s.setPort p ((s.port p).assembling (s.port p).assembly.after
      { (s.port p).assembly with tag := some b, sum := (s.port p).assembly.sum + b } s.now) := by
  unfold assemble
  dsimp only
  rw [h]
  dsimp only
  rw [hn]
  rfl

theorem assemble_payload (h : (s.port p).phase = .payload) : assemble p b s =
    s.setPort p ((s.port p).assembling (if (s.port p).assembly.payload.length + 1 < (s.port p).assembly.length then .payload else .check)
      { (s.port p).assembly with payload := (s.port p).assembly.payload ++ [b], sum := (s.port p).assembly.sum + b } s.now) := by
  unfold assemble Assembly.after
  dsimp only
  rw [h]
  dsimp only
  rw [List.length_append, List.length_singleton]

theorem assemble_badCheck (h : (s.port p).phase = .check) (bad : (s.port p).assembly.sum + b ≠ 0) : assemble p b s = discardFrame p .check s := by
  unfold assemble
  dsimp only
  rw [h]
  exact if_neg bad

theorem assemble_check {k tag : Byte} (h : (s.port p).phase = .check) (good : (s.port p).assembly.sum + b = 0)
    (hk : (s.port p).assembly.kind = some k) (ht : (s.port p).assembly.tag = some tag) : assemble p b s =
    offerFrame p ⟨k, tag, (s.port p).assembly.payload⟩ (s.setPort p (s.port p).hunting) := by
  unfold assemble
  dsimp only
  rw [h]
  refine (if_pos good).trans ?_
  rw [hk, ht]

/-! ## A frame discarded (R171) -/

theorem setPort_transmitted (x : ControlPort) (s : State) : SameBut portParts s (transmitAll (s.setPort p x)) ∧
    ((transmitAll (s.setPort p x)).port p).service = x.service :=
  ⟨(setPort_frame s p x).chain (transmitAll_frame _), by rw [transmitAll_service, State.setPort_port_same]⟩

theorem discardFrame_service (p : Port) (x : LossCause) (s : State) :
    ((transmitAll (discardFrame p x s)).port p).service = (s.port p).hunting.service := by
  rw [transmitAll_service, discardFrame, requestLost, postTo, State.setPort_port_same, ControlPort.post_service, State.setPort_port_same]

theorem discarded_told {x : LossCause} (mask : (s.port p).mask.getLsbD 21 = true) (room : (s.port p).notices.length < 32) :
    Told p ⟨.requestLost x (s.port p).assembly.kind (s.port p).assembly.tag, false, s.grid.position, some (.port p)⟩
      (transmitAll (discardFrame p x s)) := by
  have told := requestLost_told (s := s.setPort p (s.port p).hunting) (p := p) (c := x) (k := (s.port p).assembly.kind)
    (tag := (s.port p).assembly.tag) (by rw [State.setPort_port_same]; exact mask) (by rw [State.setPort_port_same]; exact room)
  rw [State.setPort_grid] at told
  exact told

/-- What a discarded frame leaves: the assembler in HUNT, the port told. -/
theorem discarded (p : Port) (x : LossCause) (s : State) : SameBut portParts s (transmitAll (discardFrame p x s)) ∧
    ((transmitAll (discardFrame p x s)).port p).phase = .hunt ∧ ((transmitAll (discardFrame p x s)).port p).assembly = Assembly.none ∧
    ((transmitAll (discardFrame p x s)).port p).gapTimer = none := by
  have service := discardFrame_service p x s
  exact ⟨(discardFrame_frame p x s).chain (transmitAll_frame _), congrArg (·.1) service, congrArg (·.2.1) service, congrArg (·.2.2.1) service⟩

theorem transmit_length_le (c : ControlPort) (x : Position) (now : Count) : (c.transmit x now).notices.length ≤ c.notices.length := by
  have sent (n : Notice) (rest : List Notice) (h : c.notices = n :: rest) : (c.sendNotice n rest x now).notices.length ≤ c.notices.length := by
    unfold ControlPort.sendNotice ControlPort.reportLost
    rw [h]
    split
    · rw [(placeNotice_perm _ _).length_eq]
      exact Nat.le_refl _
    · exact Nat.le_succ _
  unfold ControlPort.transmit
  split
  · exact Nat.le_refl _
  · split
    · next h =>
      split
      · exact sent _ _ h
      · exact Nat.le_refl _
    · exact Nat.le_refl _
    · next h => exact sent _ _ h
    · exact Nat.le_refl _

/-! ## The obligation -/

/-- A character with a good stop bit. -/
theorem goodCharacter (p : Port) (b : Byte) (s : State) (c : ControlPort) (run : s.running = true) (hc : c = s.port p) :
    ∃ t, exec (.controlPortCharacter p b true) s = .next t ∧
      (c.phase = .hunt → b ≠ 0x7E → SameBut lineParts s t) ∧
      (c.phase = .hunt → b = 0x7E → SameBut portParts s t ∧
        (t.port p).service = { c with phase := .length, assembly := Assembly.none, gapTimer := some ⟨s.now, 2000⟩ }.service) ∧
      (c.phase = .length → c.assembly.lengthHigh = none → SameBut portParts s t ∧
        (t.port p).service = { c with
          assembly := { c.assembly with lengthHigh := some b, sum := c.assembly.sum + b }, gapTimer := some ⟨s.now, 2000⟩ }.service) ∧
      (c.phase = .length → ∀ hi, c.assembly.lengthHigh = some hi →
        (336 < be16 hi b → SameBut portParts s t ∧ (t.port p).phase = .hunt ∧ (t.port p).gapTimer = none ∧
          ((s.port p).mask.getLsbD 21 = true → (s.port p).notices.length < 32 → Told p
            ⟨.requestLost .length c.assembly.kind c.assembly.tag, false, s.grid.position, some (.port p)⟩ t)) ∧
        (be16 hi b ≤ 336 → SameBut portParts s t ∧ (t.port p).service = { c with
          phase := .header, assembly := { c.assembly with length := be16 hi b, sum := c.assembly.sum + b }
          gapTimer := some ⟨s.now, 2000⟩ }.service)) ∧
      (c.phase = .header → c.assembly.kind = none → SameBut portParts s t ∧ (t.port p).service = { c with
        assembly := { c.assembly with kind := some b, sum := c.assembly.sum + b }, gapTimer := some ⟨s.now, 2000⟩ }.service) ∧
      (c.phase = .header → ∀ k, c.assembly.kind = some k → SameBut portParts s t ∧ (t.port p).service = { c with
        phase := if c.assembly.payload.length < c.assembly.length then .payload else .check
        assembly := { c.assembly with tag := some b, sum := c.assembly.sum + b }, gapTimer := some ⟨s.now, 2000⟩ }.service) ∧
      (c.phase = .payload → SameBut portParts s t ∧ (t.port p).service = { c with
        phase := if c.assembly.payload.length + 1 < c.assembly.length then .payload else .check
        assembly := { c.assembly with payload := c.assembly.payload ++ [b], sum := c.assembly.sum + b }
        gapTimer := some ⟨s.now, 2000⟩ }.service) ∧
      (c.phase = .check → c.assembly.sum + b ≠ 0 → SameBut portParts s t ∧ (t.port p).phase = .hunt ∧
        ((s.port p).mask.getLsbD 21 = true → (s.port p).notices.length < 32 → Told p
          ⟨.requestLost .check c.assembly.kind c.assembly.tag, false, s.grid.position, some (.port p)⟩ t)) ∧
      (c.phase = .check → c.assembly.sum + b = 0 → ∀ k tag, c.assembly.kind = some k → c.assembly.tag = some tag →
        c.assembly.payload.length ≤ 336 →
        exec (.unknownKindRequest p tag k c.assembly.payload)
          (s.setPort p { c with phase := .hunt, assembly := Assembly.none, gapTimer := none }) = .next t) := by
  subst hc
  have exec' : exec (.controlPortCharacter p b true) s = .next (transmitAll (assemble p b s)) := by
    rw [exec, execControlPortCharacter, whileRunning, if_pos run]
    rfl
  refine ⟨transmitAll (assemble p b s), exec', fun h hb => ?_, fun h hb => ?_, fun h hn => ?_, fun h hi hn => ⟨fun long => ?_, fun fits => ?_⟩,
    fun h hn => ?_, fun h k hk => ?_, fun h => ?_, fun h bad => ?_, fun h good k tag hk ht fits => ?_⟩
  · rw [assemble_hunt h, if_neg hb]
    exact transmitAll_frame s
  · rw [assemble_hunt h, if_pos hb]
    exact setPort_transmitted _ s
  · rw [assemble_lengthHigh h hn]
    exact h ▸ setPort_transmitted _ s
  · rw [assemble_length h hn, if_pos long]
    obtain ⟨frame, phase, -, gap⟩ := discarded p .length s
    exact ⟨frame, phase, gap, discarded_told⟩
  · rw [assemble_length h hn, if_neg (Nat.not_lt.2 fits)]
    exact setPort_transmitted _ s
  · rw [assemble_kind h hn]
    exact h ▸ setPort_transmitted _ s
  · rw [assemble_tag h hk]
    exact setPort_transmitted _ s
  · rw [assemble_payload h]
    exact setPort_transmitted _ s
  · rw [assemble_badCheck h bad]
    obtain ⟨frame, phase, -, -⟩ := discarded p .check s
    exact ⟨frame, phase, discarded_told⟩
  · rw [assemble_check h good hk ht]
    refine congrArg _ (arrive_offers ?_ fits)
    rw [State.running, State.setPort_timebase]
    exact run

/-- A character with a framing error. -/
theorem badCharacter (p : Port) (b : Byte) (s : State) (run : s.running = true) : ∃ t, exec (.controlPortCharacter p b false) s = .next t ∧
    ((s.port p).phase = .hunt → SameBut lineParts s t) ∧
    ((s.port p).phase ≠ .hunt → SameBut portParts s t ∧ (t.port p).phase = .hunt ∧ (t.port p).assembly = Assembly.none ∧
      (t.port p).gapTimer = none ∧
      ((s.port p).mask.getLsbD 21 = true → (s.port p).notices.length < 32 → Told p
        ⟨.requestLost .framing (s.port p).assembly.kind (s.port p).assembly.tag, false, s.grid.position, some (.port p)⟩ t)) := by
  have exec' : exec (.controlPortCharacter p b false) s =
      .next (transmitAll (if (s.port p).phase = .hunt then s else discardFrame p .framing s)) := by
    rw [exec, execControlPortCharacter, whileRunning, if_pos run]
    rfl
  refine ⟨_, exec', fun h => ?_, fun h => ?_⟩
  · rw [if_pos h]
    exact transmitAll_frame s
  · rw [if_neg h]
    obtain ⟨frame, phase, assembly, gap⟩ := discarded p .framing s
    exact ⟨frame, phase, assembly, gap, discarded_told⟩

theorem gapExpiry (p : Port) (s : State) (tm : Timer) (h : (s.port p).gapTimer = some tm) : ∃ t, exec (.gapTimerExpiry p) s = .next t ∧
    SameBut portParts (s.expired tm) t ∧ (t.port p).phase = .hunt ∧ (t.port p).assembly = Assembly.none ∧ (t.port p).gapTimer = none ∧
    ((s.port p).mask.getLsbD 21 = true → (s.port p).notices.length < 32 → Told p
      ⟨.requestLost .gap (s.port p).assembly.kind (s.port p).assembly.tag, false, s.grid.position, some (.port p)⟩ t) ∧
    ∀ q, q ≠ p → (t.port q).notices.length ≤ (s.port q).notices.length := by
  set a := s.atCount tm.due with ha
  have exec' : exec (.gapTimerExpiry p) s = .next (expireAt tm (fun x => transmitAll (discardFrame p .gap x)) s) := by
    rw [exec, execGapTimerExpiry, onGapTimer, h]
  have port (q : Port) : (expireAt tm (fun x => transmitAll (discardFrame p .gap x)) s).port q = (transmitAll (discardFrame p .gap a)).port q := by
    unfold expireAt
    split
    · cases q <;> rfl
    · rfl
  have aport (q : Port) : a.port q = s.port q := by cases q <;> rfl
  obtain ⟨frame, phase, assembly, gap⟩ := discarded p .gap a
  refine ⟨_, exec', expired_same frame, by rw [port]; exact phase, by rw [port]; exact assembly, by rw [port]; exact gap,
    fun mask room => ?_, fun q hq => ?_⟩
  · have told := discarded_told (s := a) (p := p) (x := .gap) (by rw [aport]; exact mask) (by rw [aport]; exact room)
    rw [aport] at told
    unfold Told at told ⊢
    rw [port]
    exact told
  · rw [port, transmitAll_port]
    refine (transmit_length_le _ _ _).trans (Nat.le_of_eq ?_)
    rw [discardFrame, requestLost, postTo, State.setPort_port_other _ _ hq, State.setPort_port_other _ _ hq, aport]

/-- Settles O56: the characters by the phase, and the gap timer's expiry. -/
theorem frameAssembly : Obligations.FrameAssembly := ⟨goodCharacter, badCharacter, gapExpiry⟩

end Sys2Proof.Machine
end

section
/-! PROOF. The settle of a change and the retention of a bank (O46 but for its clause of the last TAKE message). -/

namespace Sys2Proof.Machine

variable {s t u : State} {p q : Port} {m : ModuleId}

/-! ## The conditions of a settle (R139) -/

theorem ModuleMode.gone_iff (x : ModuleMode) : x.gone = false ↔ x = .ready ∨ x = .loading := by cases x <;> decide

theorem PostKind.take_or_resync (k : PostKind) : k = .take ∨ k = .resync := by cases k <;> decide

/-- A SWITCHING change whose settle timer has expired settles where it owes nothing more. -/
theorem settled_iff (hp : s.seq.phase = .switching) (he : s.seq.settle = .expired) : s.settled = true ↔ ¬ s.Owes := by
  have posts : s.bus.pending.all (fun e => e.kind == .resync || (s.module e.module).mode.gone) = true ↔
      ¬ ∃ e ∈ s.bus.pending, e.kind = .take ∧ ((s.module e.module).mode = .ready ∨ (s.module e.module).mode = .loading) := by
    rw [List.all_eq_true, not_exists]
    refine forall_congr' fun e => ?_
    rw [not_and]
    refine imp_congr_right fun _ => ?_
    rw [← ModuleMode.gone_iff]
    rcases e.kind.take_or_resync with h | h <;> simp [h]
  have modules : (allFin 8).all (fun m => !(s.seq.takeModules.getLsbD m.val && (s.module m).mode == .loading)) = true ↔
      ¬ ∃ m : ModuleId, s.seq.takeModules.getLsbD m.val = true ∧ (s.module m).mode = .loading := by
    simp only [List.all_eq_true, mem_allFin, forall_const, not_exists, not_and]
    refine forall_congr' fun n => ?_
    rw [Bool.not_eq_true', Bool.and_eq_false_imp, beq_eq_false_iff_ne]
  rw [State.Owes, not_or, ← posts, ← modules, State.settled, hp, he]
  simp

/-! ## The settle (R140) -/

/-- A state in which a settle finds what it finds in another: the change, the banks, the store, the modules' modes and the TAKE entries; what
has been told between them is little. -/
structure SettlesAs (s u : State) : Prop where
  seq : u.seq = s.seq
  banks : u.banks = s.banks
  store : u.store = s.store
  resetting : u.resetting = s.resetting
  position : u.grid.position = s.grid.position
  mode : ∀ n, (u.module n).mode = (s.module n).mode
  takes : ∀ e : PendingProgram, e.kind = .take → (e ∈ u.bus.pending ↔ e ∈ s.bus.pending)
  posting : Posting 8 s u

theorem SettlesAs.refl (s : State) : SettlesAs s s where
  seq := rfl
  banks := rfl
  store := rfl
  resetting := rfl
  position := rfl
  mode _ := rfl
  takes _ _ := .rfl
  posting := (Posting.refl s).mono (by decide)

theorem SettlesAs.owes (h : SettlesAs s u) : u.Owes ↔ s.Owes := by
  unfold State.Owes
  refine or_congr (exists_congr fun e => ?_) ?_
  · rw [h.mode]
    constructor
    · exact fun ⟨he, hk, hm⟩ => ⟨(h.takes e hk).1 he, hk, hm⟩
    · exact fun ⟨he, hk, hm⟩ => ⟨(h.takes e hk).2 he, hk, hm⟩
  · simp only [h.seq, h.mode]

theorem SettlesAs.failedModules (h : SettlesAs s u) : u.failedModules = s.failedModules := by
  unfold State.failedModules
  simp only [h.seq, h.mode]

/-- The settle's changes before it is told. -/
def settling (s : State) : State := { s with
  bus := { s.bus with pending := s.bus.pending.filter (fun e => !(e.kind == .take && (s.module e.module).mode.gone)) }
  seq := { s.seq with phase := .none, settle := .idle } }

theorem settling_frame (s : State) : SameBut [.bus, .seq] s (settling s) := by
  refine ⟨fun q hq => ?_⟩
  cases q <;> first | rfl | exact absurd (by decide) hq

theorem settleTold_frame (s : State) : SameBut [.bus, .seq, .noticesA, .noticesB] s (settleTold s) :=
  ((settling_frame s).chain (post_frame (.changeSettled s.failedModules (since s.now s.seq.takeTime / 1000)) none (settling s))
    (rs := [.bus, .seq, .noticesA, .noticesB])).chain (seqUpdate_frame _ _)

theorem settleTold_seq (s : State) : (settleTold s).seq = { s.seq with phase := .none, settle := .idle, takeModules := 0 } := by
  unfold settleTold
  exact congrArg (fun x : Sequencer => { x with takeModules := 0 })
    ((post_frame (.changeSettled s.failedModules (since s.now s.seq.takeTime / 1000)) none (settling s)).at .seq)

theorem SettlesAs.posts (h : SettlesAs s u) :
    Posts ⟨.changeSettled s.failedModules (since u.now s.seq.takeTime / 1000), false, s.grid.position, none⟩ s (settle u) := by
  have posts := (h.posting.then (settling_frame u).posting).post (.changeSettled u.failedModules (since u.now u.seq.takeTime / 1000)) none
  have settles : Posts _ s (settle u) := (posts.kept (u := settleTold u) (seqUpdate_frame _ _).keepsNotices).kept (examineLoad_frame _).keepsNotices
  rw [show (settling u).grid.position = u.grid.position from rfl, h.position, h.failedModules, h.seq] at settles
  exact settles

theorem SettlesAs.slot (h : SettlesAs s u) : (settleTold u).seq.cue = s.seq.cue ∧ (settleTold u).banks = s.banks ∧ (settleTold u).store = s.store :=
  ⟨by rw [settleTold_seq, h.seq], ((settleTold_frame u).at .banks).trans h.banks, ((settleTold_frame u).at .store).trans h.store⟩

theorem SettlesAs.mayLoad (h : SettlesAs s u) :
    (settleTold u).mayLoad = true ↔ s.banks.retained = false ∧ s.store.busy = false ∧ s.resetting = .none := by
  obtain ⟨-, banks, store⟩ := h.slot
  rw [State.mayLoad, State.inReset, settleTold_seq, banks, store,
    show (settleTold u).resetting = u.resetting from (settleTold_frame u).at .resetting, h.resetting]
  simp [and_assoc]

/-- What the WAITING cue does at the settle (R131). -/
theorem SettlesAs.cue {c : Cue} (h : SettlesAs s u) (hc : s.seq.cue = some c) :
    if c.state = .waiting ∧ s.banks.retained = false ∧ s.store.busy = false ∧ s.resetting = .none
    then BeginsToLoad c (settle u) else (settle u).seq.cue = some c ∧ (settle u).banks = s.banks ∧ (settle u).store = s.store := by
  have slot := h.slot
  rw [hc] at slot
  rw [settle_eq]
  split
  · next ready => exact examineLoad_begins slot.1 ready.1 (h.mayLoad.2 ready.2)
  · next other =>
    rw [examineLoad_holds fun d hd hw => ?_]
    · exact slot
    · obtain rfl : c = d := Option.some.inj (slot.1.symm.trans hd)
      exact Bool.eq_false_iff.2 fun may => other ⟨hw, h.mayLoad.1 may⟩

theorem SettlesAs.noCue (h : SettlesAs s u) (hc : s.seq.cue = none) :
    (settle u).seq.cue = none ∧ (settle u).banks = s.banks ∧ (settle u).store = s.store := by
  have slot := h.slot
  rw [hc] at slot
  rw [settle_eq, examineLoad_none slot.1]
  exact slot

/-- Where the settle's state is a SWITCHING change whose timer has expired, the examination does what R139 and R140 say. -/
theorem Ends.settleExamined (e : Ends (examineSettle u) t) (sending : u.bus.transmission.isSome = true) (hp : s.seq.phase = .switching)
    (he : s.seq.settle = .expired) (h : SettlesAs s u) : SettleExamined u.now u.bus.pending s t := by
  have owes := settled_iff (s := u) (by rw [h.seq]; exact hp) (by rw [h.seq]; exact he)
  rw [h.owes] at owes
  refine ⟨fun debt => ?_, fun free => ?_⟩
  · have stands : examineSettle u = u := if_neg fun settled => owes.1 settled debt
    rw [stands] at e
    exact ⟨((e.busy sending).at .seq).trans h.seq, by rw [e.bus sending]⟩
  · have settles : examineSettle u = settle u := if_pos (owes.2 free)
    rw [settles] at e
    have busy := e.busy (by rw [settle_bus]; exact sending)
    have same : SlotSame (settle u) t := busy.slotSame
    refine ⟨?_, fun c hc => ?_, fun hc => ?_, ?_, h.posts.tells e⟩
    · rw [same.seq, settle_eq]
      have sequencer := settleTold_seq u
      by_cases loads : ∃ c, (settleTold u).seq.cue = some c ∧ c.state = .waiting ∧ (settleTold u).mayLoad = true
      · obtain ⟨c, hc, hw, hm⟩ := loads
        rw [examineLoad_seq hc hw hm, sequencer]
        exact ⟨rfl, rfl, rfl⟩
      · rw [examineLoad_holds fun c hc hw => Bool.eq_false_iff.2 fun hm => loads ⟨c, hc, hw, hm⟩, sequencer]
        exact ⟨rfl, rfl, rfl⟩
    · have slot := h.cue hc
      split
      · next ready =>
        rw [if_pos ready] at slot
        exact same.begins slot
      · next other =>
        rw [if_neg other] at slot
        rw [same.seq, same.banks, same.store]
        exact slot
    · rw [same.seq, same.banks, same.store]
      exact h.noCue hc
    · rw [e.bus (by rw [settle_bus]; exact sending), settle_bus]
      refine List.filter_congr fun x hx => ?_
      rcases x.kind.take_or_resync with take | resync
      · have gone : (u.module x.module).mode.gone = true := by
          rw [← Bool.not_eq_false, ModuleMode.gone_iff]
          exact fun mode => free (h.owes.1 (.inl ⟨x, hx, take, mode⟩))
        simp [take, gone]
      · simp [resync]

/-! ## What has its settle conditions examined (R108, R109, R139) -/

theorem SameBut.symm {ps : List Part} (h : SameBut ps s t) : SameBut ps t s := by
  refine ⟨fun q hq => ?_⟩
  have same := h.same q hq
  cases q <;> exact Eq.symm same

/-- A module that enters a state leaves what the settle looks at as its change of mode does. -/
theorem enterMode_settlesAs {new : ModuleMode} {tm : Option Timer} {k : Option Nat} (f : SameBut [.bus] s u)
    (hm : ∀ n, (u.module n).mode = (s.module n).mode)
    (ht : ∀ e : PendingProgram, e.kind = .take → (e ∈ u.bus.pending ↔ e ∈ s.bus.pending)) :
    SettlesAs (s.setModule m { s.module m with mode := new }) (enterMode m new tm k u) := by
  have entered := enterMode_frame m new tm k u
  have base := setModule_frame s m { s.module m with mode := new }
  have frame : SameBut settleParts (s.setModule m { s.module m with mode := new }) (enterMode m new tm k u) :=
    ((base.symm.then f).chain entered (rs := [.bus, .noticesA, .noticesB])).mono
  refine ⟨(entered.at .seq).trans (f.at .seq), (entered.at .banks).trans (f.at .banks), (entered.at .store).trans (f.at .store),
    frame.at .resetting, congrArg Grid.position (frame.at .grid), fun n => ?_, fun e he => ?_, ?_⟩
  · by_cases hn : n = m
    · subst hn
      rw [enterMode_module_same, State.setModule_module_same]
    · rw [enterMode_module_other _ _ _ _ hn, State.setModule_module_other _ _ hn, hm]
  · rw [enterMode_bus]
    exact ht e he
  · exact ((base.symm.then (f.then (setModule_frame u m { u.module m with mode := new, timer := tm }))).posting.then (post_posting _ _ _)).mono
      (by decide)

theorem enterMode_pending (new : ModuleMode) (tm : Option Timer) (k : Option Nat) (s : State) :
    (enterMode m new tm k s).bus.pending = s.bus.pending := by rw [enterMode_bus]; rfl

theorem enterMode_transmission (new : ModuleMode) (tm : Option Timer) (k : Option Nat) (s : State) :
    (enterMode m new tm k s).bus.transmission = s.bus.transmission := by rw [enterMode_bus]; rfl

theorem enterMode_now (new : ModuleMode) (tm : Option Timer) (k : Option Nat) (s : State) : (enterMode m new tm k s).now = s.now :=
  congrArg Timebase.count ((enterMode_frame m new tm k s).at .timebase)

/-- A module enters a state while a message is being transmitted, the settle timer having expired. -/
theorem Ends.enteredSettle {new : ModuleMode} {tm : Option Timer} {k : Option Nat} (e : Ends (examineSettle (enterMode m new tm k u)) t)
    (sending : u.bus.transmission.isSome = true) (hp : s.seq.phase = .switching) (he : s.seq.settle = .expired) (f : SameBut [.bus] s u)
    (hm : ∀ n, (u.module n).mode = (s.module n).mode)
    (ht : ∀ e : PendingProgram, e.kind = .take → (e ∈ u.bus.pending ↔ e ∈ s.bus.pending)) :
    SettleExamined u.now u.bus.pending (s.setModule m { s.module m with mode := new }) t := by
  have examined := e.settleExamined (s := s.setModule m { s.module m with mode := new }) (by rw [enterMode_transmission]; exact sending) hp he
    (enterMode_settlesAs f hm ht)
  rw [enterMode_now, enterMode_pending] at examined
  exact examined

theorem settleAtBusy (m : ModuleId) (s : State) (run : s.running = true) (low : (s.module m).busy = false)
    (ready : (s.module m).mode = .ready) (sending : s.bus.transmission.isSome = true) (hp : s.seq.phase = .switching)
    (he : s.seq.settle = .expired) : ∃ t, exec (.moduleBusyAsserted m) s = .next t ∧
      SettleExamined s.now s.bus.pending (s.setModule m { s.module m with mode := .loading }) t := by
  refine ⟨transmitAll (busyAsserted m s), by rw [exec, execModuleBusyAsserted, whileRunning_running run, low]; rfl, ?_⟩
  rw [transmit_busyAsserted_ready ready]
  have ends := close_ends (examineSettle (enterMode m .loading (some ⟨s.now, s.setup.stallMillis * 1000⟩) none (s.busySet m true)))
  have examined := ends.enteredSettle sending hp he (busySet_frame s m true) (busySet_mode s m true) fun _ _ => .rfl
  exact examined

/-- Posts to a list that holds none of their keys, no two of which are the same, join its back. -/
theorem posted_append : ∀ {es l : List PendingProgram}, (∀ e ∈ es, ∀ y ∈ l, ¬ y.Names e.module e.channel) →
    es.Pairwise (fun a b => ¬ a.Names b.module b.channel) → es.foldl (fun l e => postProgram e l) l = l ++ es
  | [], l, _, _ => (List.append_nil l).symm
  | e :: es, l, free, apart => by
    have fresh : postProgram e l = l ++ [e] := by
      unfold postProgram
      rw [if_neg]
      intro taken
      obtain ⟨y, hy, same⟩ := List.any_eq_true.1 taken
      obtain ⟨hm, hc⟩ := Bool.and_eq_true_iff.1 same
      exact free e List.mem_cons_self y hy ⟨eq_of_beq hm, eq_of_beq hc⟩
    obtain ⟨first, rest⟩ := List.pairwise_cons.1 apart
    rw [List.foldl_cons, fresh, posted_append (fun x hx y hy => ?_) rest, List.append_assoc]
    · rfl
    · rcases List.mem_append.1 hy with hy | hy
      · exact free x (List.mem_cons_of_mem _ hx) y hy
      · rw [List.mem_singleton.1 hy]
        exact first x hx

theorem resyncs_apart (h : (s.activeBank.programs.map (fun e => (e.module, e.channel))).Nodup) :
    (s.resyncs m).Pairwise (fun a b => ¬ a.Names b.module b.channel) := by
  unfold State.resyncs
  refine List.pairwise_filterMap.2 ((List.pairwise_map.1 h).imp fun {a b} apart x hx y hy names => ?_)
  split at hx
  · split at hy
    · next ha hb =>
      obtain ⟨v, -, rfl⟩ := Option.map_eq_some_iff.1 hx
      obtain ⟨w, -, rfl⟩ := Option.map_eq_some_iff.1 hy
      exact apart (Prod.ext (ha.1.trans hb.1.symm) names.2)
    · cases hy
  · cases hx

theorem resynced_pending (h : (s.activeBank.programs.map (fun e => (e.module, e.channel))).Nodup) :
    (s.resynced m).bus.pending = s.bus.pending ++ s.resyncs m := by
  refine posted_append (fun e he y hy => ?_) (resyncs_apart h)
  obtain ⟨x, -, -, free, v, -, rfl⟩ := mem_resyncs.1 he
  exact free y hy

theorem settleAtFree (m : ModuleId) (s : State) (run : s.running = true) (high : (s.module m).busy = true)
    (sending : s.bus.transmission.isSome = true) (hp : s.seq.phase = .switching) (he : s.seq.settle = .expired) :
    ∃ t, exec (.moduleBusyDeasserted m) s = .next t ∧
      ((s.module m).mode = .loading → SettleExamined s.now s.bus.pending (s.setModule m { s.module m with mode := .ready }) t) ∧
      ((s.module m).mode = .stalled → (s.activeBank.programs.map (fun e => (e.module, e.channel))).Nodup →
        SettleExamined s.now (s.bus.pending ++ s.resyncs m) (s.setModule m { s.module m with mode := .ready }) t) := by
  refine ⟨transmitAll (busyDeasserted m s), by rw [exec, execModuleBusyDeasserted, whileRunning_running run, high]; rfl,
    fun mode => ?_, fun mode distinct => ?_⟩
  · rw [transmit_busyDeasserted_loading mode]
    have ends := close_ends (examineSettle (enterMode m .ready none none (s.busySet m false)))
    have examined := ends.enteredSettle sending hp he (busySet_frame s m false) (busySet_mode s m false) fun _ _ => .rfl
    exact examined
  · have pending := resynced_pending (m := m) distinct
    rw [transmit_busyDeasserted_stalled mode, ← pending]
    have takes (e : PendingProgram) (take : e.kind = .take) : e ∈ (s.resynced m).bus.pending ↔ e ∈ s.bus.pending := by
      rw [pending, List.mem_append]
      refine ⟨fun h => h.resolve_right fun posted => ?_, .inl⟩
      obtain ⟨x, -, -, -, v, -, rfl⟩ := mem_resyncs.1 posted
      cases take
    have ends := close_ends (examineSettle (enterMode m .ready none (some (s.resyncs m).length) (s.resynced m)))
    have frame : SameBut [.bus] s (s.resynced m) := (busySet_frame s m false).then (busUpdate_frame _ _)
    have examined := ends.enteredSettle sending hp he frame (busySet_mode s m false) takes
    exact examined

theorem settleAtStall (m : ModuleId) (s : State) (tm : Timer) (timer : (s.module m).timer = some tm)
    (sending : s.bus.transmission.isSome = true) (hp : s.seq.phase = .switching) (he : s.seq.settle = .expired) :
    ∃ t, exec (.busyTimerExpiry m) s = .next t ∧
      SettleExamined tm.due s.bus.pending (s.setModule m { s.module m with mode := .stalled }) t := by
  refine ⟨expireAt tm (fun x => transmitAll (enterStalled m x)) s, by rw [exec, execBusyTimerExpiry, onBusyTimer, timer], ?_⟩
  have ends : Ends (examineSettle (enterMode m .stalled none none ((s.atCount tm.due).passCleared m)))
      (expireAt tm (fun x => transmitAll (enterStalled m x)) s) :=
    expireAt_ends (f := fun x => transmitAll (enterStalled m x)) (close_ends _)
  obtain ⟨v, hv⟩ := passCleared_bus (s.atCount tm.due) m
  have examined := ends.enteredSettle (s := s.atCount tm.due) (by rw [hv]; exact sending) hp he (passCleared_frame (s.atCount tm.due) m)
    (passCleared_mode _ m) fun e _ => by rw [hv]
  rw [hv, show ((s.atCount tm.due).passCleared m).now = tm.due from
    congrArg Timebase.count ((passCleared_frame (s.atCount tm.due) m).at .timebase)] at examined
  have settles (free : ¬ (s.setModule m { s.module m with mode := .stalled }).Owes) := examined.2 free
  exact ⟨examined.1, fun free => ⟨(settles free).phase, (settles free).cue, (settles free).noCue, (settles free).list, (settles free).told⟩⟩

/-- The examination's event while a message is being transmitted. -/
theorem close_examined_frame (sending : s.bus.transmission.isSome = true) :
    SameBut ([.bus, .banks, .seq, .store] ++ lineParts) s (close (examineSettle s)) := by
  obtain ⟨l, hl⟩ := examineSettle_bus s
  rw [close, arbitrate_busy _ (by rw [hl]; exact sending)]
  exact (examineSettle_frame s).chain (transmitAll_frame _)

theorem setSettle_frame (x : SettleTimer) (s : State) : SameBut [.seq] s { s with seq := { s.seq with settle := x } } := seqUpdate_frame _ _

/-- The settle timer's expiry. -/
theorem settleAtTimer (s : State) (tm : Timer) (timer : s.seq.settle = .running tm) (sending : s.bus.transmission.isSome = true)
    (hp : s.seq.phase = .switching) : ∃ t, exec .settleTimerExpiry s = .next t ∧
      SameBut ([.bus, .banks, .seq, .store] ++ lineParts) (s.expired tm) t ∧
      (s.Owes → t.seq = { s.seq with settle := .expired } ∧ t.bus = s.bus) ∧ (¬ s.Owes → SettleDone tm.due s.bus.pending s t) := by
  set f : State → State := fun x => close (examineSettle { x with seq := { x.seq with settle := .expired } }) with hf
  set u : State := { s.atCount tm.due with seq := { s.seq with settle := .expired } } with hu
  have ends : Ends (examineSettle u) (expireAt tm f s) := expireAt_ends (close_ends _)
  have as : SettlesAs { s with seq := { s.seq with settle := .expired } } u :=
    ⟨rfl, rfl, rfl, rfl, rfl, fun _ => rfl, fun _ _ => .rfl, (atCount_frame _ tm.due).posting.mono (by decide)⟩
  obtain ⟨owing, free⟩ := ends.settleExamined (s := { s with seq := { s.seq with settle := .expired } }) sending hp rfl as
  refine ⟨expireAt tm f s, by rw [exec, execSettleTimerExpiry, onSettleTimer, timer], expired_same ?_, fun debt => ⟨(owing debt).1, ?_⟩,
    fun done => ?_⟩
  · exact ((setSettle_frame .expired (s.atCount tm.due)).mono).then (close_examined_frame (s := u) sending)
  · have stands : examineSettle u = u := if_neg fun settled => (settled_iff (s := u) hp rfl).1 settled debt
    rw [stands] at ends
    exact ends.bus sending
  · have d := free done
    exact ⟨d.phase, d.cue, d.noCue, d.list, d.told⟩

/-! ## Retention (R99, R141) -/

theorem bank_other (k : BankId) : (x : BankId) → x ≠ k ↔ x = k.other := by cases k <;> intro x <;> cases x <;> decide

/-- The retention timer has expired, and a RETAINED bank has had its entries released. -/
def retentionReleased (s : State) : State × Nat :=
  releaseEntries (fun e => e.bank == s.banks.active.other) { s with seq := { s.seq with retention := none } }

theorem retentionExpired_free (h : s.banks.retained = false) : retentionExpired s = { s with seq := { s.seq with retention := none } } := by
  rw [retentionExpired, h]
  rfl

theorem retentionExpired_retained (h : s.banks.retained = true) : SameBut [.noticesA, .noticesB] (retentionReleased s).1 (retentionExpired s) := by
  rw [retentionExpired, h]
  show SameBut _ _ (forcedRelease s.banks.active.other { s with seq := { s.seq with retention := none } })
  unfold forcedRelease
  dsimp only
  split
  · exact .refl _ _
  · exact post_frame _ _ _

theorem bankFree_kept {n : Nat} (h : s.otherReferences ≠ 0) : bankFree n s = s := if_neg fun free => h free.2.2

/-- The bank that loses its last entry is STANDBY, and a WAITING cue's conditions are examined. -/
theorem bankFree_freed {n : Nat} (hr : s.banks.retained = true) (hn : n ≠ 0) (h : s.otherReferences = 0) : bankFree n s =
    examineLoad { s with banks := { s.banks with retained := false }, seq := { s.seq with retention := none } } := if_pos ⟨hr, hn, h⟩

theorem examineLoad_retention (s : State) : (examineLoad s).seq.retention = s.seq.retention := by
  by_cases loads : ∃ c, s.seq.cue = some c ∧ c.state = .waiting ∧ s.mayLoad = true
  · obtain ⟨c, hc, hw, hm⟩ := loads
    rw [examineLoad_seq hc hw hm]
  · rw [examineLoad_holds fun c hc hw => Bool.eq_false_iff.2 fun hm => loads ⟨c, hc, hw, hm⟩]

theorem bankFree_retention {n : Nat} (h : s.seq.retention = none) : (bankFree n s).seq.retention = none := by
  unfold bankFree
  split
  · exact examineLoad_retention _
  · exact h

theorem otherReferences_eq_zero : s.otherReferences = 0 ↔ ∀ e ∈ s.notes.entries, e.bank = s.banks.active := by
  rw [State.otherReferences, Notes.references, List.countP_eq_zero]
  refine forall₂_congr fun e _ => ?_
  rw [beq_iff_eq, ← bank_other, not_not]

/-- The table after the release of a RETAINED bank's entries. -/
theorem retentionReleased_entries (s : State) : (retentionReleased s).1.notes.entries =
    (releaseScan (fun e => e.bank == s.banks.active.other) s.notes.nextRelease s.notes.entries).entries := by
  rw [retentionReleased, releaseEntries_notes]

theorem retentionReleased_retention (s : State) : (retentionReleased s).1.seq.retention = none := bankFree_retention rfl

/-- The released state before the bank's last entry is looked for. -/
def retentionScanned (s : State) : State := { s with
  seq := { s.seq with retention := none }
  notes := { s.notes with
    entries := (releaseScan (fun e => e.bank == s.banks.active.other) s.notes.nextRelease s.notes.entries).entries
    nextRelease := (releaseScan (fun e => e.bank == s.banks.active.other) s.notes.nextRelease s.notes.entries).next } }

theorem retentionReleased_eq (s : State) : (retentionReleased s).1 = bankFree s.otherReferences (retentionScanned s) := rfl

theorem retentionExpired_told (hr : s.banks.retained = true) {n : Nat}
    (hn : n = s.notes.entries.countP (fun e => e.bank != s.banks.active && !e.releasing)) (some : n ≠ 0) :
    Posts ⟨.forcedRelease s.banks.active.other n, true, s.grid.position, none⟩ s (retentionExpired s) := by
  have moved : (retentionReleased s).2 = n := by
    rw [hn]
    refine (releaseEntries_moved _ _).trans (List.countP_congr fun e _ => ?_)
    rw [Bool.and_comm, Bool.and_eq_true, Bool.and_eq_true, beq_iff_eq, bne_iff_ne, bank_other]
  have quiet : Posting 0 s (retentionReleased s).1 := (seqUpdate_frame s _).posting.then (releaseEntries_posting _ _)
  have posts := quiet.post (.forcedRelease s.banks.active.other n) none
  rw [show (retentionReleased s).1.grid = s.grid from (releaseEntries_frame _ _).at .grid] at posts
  have told : retentionExpired s = post (.forcedRelease s.banks.active.other n) none (retentionReleased s).1 := by
    rw [retentionExpired, hr]
    show forcedRelease s.banks.active.other { s with seq := { s.seq with retention := none } } = _
    unfold forcedRelease
    show (if (retentionReleased s).2 = 0 then _ else post (.forcedRelease _ (retentionReleased s).2) none (retentionReleased s).1) = _
    rw [moved, if_neg some]
  rw [told]
  exact posts

/-- The retention timer's expiry. -/
theorem retentionExpires (s : State) (tm : Timer) (timer : s.seq.retention = some tm) (sending : s.bus.transmission.isSome = true) :
    ∃ t, exec .retentionTimerExpiry s = .next t ∧ SameBut ([.notes, .banks, .seq, .store] ++ lineParts) (s.expired tm) t ∧
      t.seq.retention = none ∧
      (s.banks.retained = false → t.notes = s.notes ∧ t.banks = s.banks) ∧
      (s.banks.retained = true →
        (∀ e ∈ t.notes.entries, e.bank ≠ s.banks.active → e.releasing = true) ∧
        ((∃ e ∈ t.notes.entries, e.bank ≠ s.banks.active) → t.banks = s.banks ∧ t.seq.cue = s.seq.cue) ∧
        ((∃ e ∈ s.notes.entries, e.bank ≠ s.banks.active) → (∀ e ∈ t.notes.entries, e.bank = s.banks.active) →
          t.banks.retained = false ∧ t.activeBank = s.activeBank ∧
          ∀ c, s.seq.cue = some c → c.state = .waiting → s.seq.phase = .none → s.store.busy = false → s.resetting = .none → BeginsToLoad c t) ∧
        (∀ n, n = s.notes.entries.countP (fun e => e.bank != s.banks.active && !e.releasing) → n ≠ 0 →
          Tells ⟨.forcedRelease s.banks.active.other n, true, s.grid.position, none⟩ s t)) := by
  set a := s.atCount tm.due with ha
  have ends : Ends (retentionExpired a) (expireAt tm (fun x => close (retentionExpired x)) s) := expireAt_ends (close_ends _)
  have frame := retentionExpired_frame a
  have bus : (retentionExpired a).bus = s.bus := frame.at .bus
  have busy := ends.busy (by rw [bus]; exact sending)
  refine ⟨_, by rw [exec, execRetentionTimerExpiry, onRetentionTimer, timer], ?_, ?_, fun idle => ?_, fun retained => ?_⟩
  · have closed := expired_close_closed (f := retentionExpired) frame (congrArg Bus.transmission bus)
    have still : (s.expired tm).bus = s.bus := by
      unfold State.expired
      split <;> rfl
    exact closed.busy (by rw [still]; exact sending)
  · rw [show _ = (retentionExpired a).seq from busy.at .seq]
    by_cases retained : s.banks.retained = true
    · rw [show _ = (retentionReleased a).1.seq from (retentionExpired_retained (s := a) retained).at .seq]
      exact retentionReleased_retention a
    · rw [retentionExpired_free (s := a) (Bool.eq_false_iff.2 retained)]
  · rw [show _ = (retentionExpired a).notes from busy.at .notes, show _ = (retentionExpired a).banks from busy.at .banks,
      retentionExpired_free (s := a) idle]
    exact ⟨rfl, rfl⟩
  · have released := retentionExpired_retained (s := a) retained
    set t := expireAt tm (fun x => close (retentionExpired x)) s
    have same : SlotSame (retentionReleased a).1 t := (released.chain busy (rs := .timebase :: portParts)).slotSame
    have entries : t.notes.entries = (retentionScanned a).notes.entries := by
      rw [show t.notes = (retentionReleased a).1.notes from (busy.at .notes).trans (released.at .notes)]
      exact retentionReleased_entries a
    have scanned := retentionReleased_eq a
    refine ⟨fun e he hb => ?_, fun ⟨e, he, hb⟩ => ?_, fun ⟨e, he, hb⟩ gone => ?_, fun n hn some => ?_⟩
    · rw [entries] at he
      exact (releaseScan_mem he).resolve_right (by simp [(bank_other _ _).1 hb, ha])
    · have kept : (retentionScanned a).otherReferences ≠ 0 := fun zero => hb (otherReferences_eq_zero.1 zero e (by rw [← entries]; exact he))
      rw [bankFree_kept kept] at scanned
      rw [same.banks, same.seq, scanned]
      exact ⟨rfl, rfl⟩
    · have before : a.otherReferences ≠ 0 := fun zero => hb (otherReferences_eq_zero.1 zero e he)
      have free : (retentionScanned a).otherReferences = 0 := otherReferences_eq_zero.2 fun f hf => gone f (by rw [entries]; exact hf)
      rw [bankFree_freed (s := retentionScanned a) retained before free] at scanned
      refine ⟨?_, ?_, fun c hc hw hp hs hi => ?_⟩
      · rw [same.banks, scanned, examineLoad_retained]
      · rw [same.activeBank, scanned, examineLoad_active]
        rfl
      · refine same.begins ?_
        rw [scanned]
        refine examineLoad_begins hc hw ?_
        rw [State.mayLoad, State.inReset]
        show (s.seq.phase == .none && !false && !s.store.busy && !decide (s.resetting ≠ .none)) = true
        simp [hp, hs, hi]
    · exact (retentionExpired_told (s := a) retained hn some).tells ends

end Sys2Proof.Machine
end

section
/-! PROOF. The end of a transmission as the arbiter's look at an idle bus; the classes that yield nothing; CHANGE and REALTIME (part of O39), and
the settle at a TAKE entry's last message (O46). -/

namespace Sys2Proof.Machine

variable {s t u v : State} {p q : Port} {m : ModuleId}

/-! ## The end of a transmission (R106, R139) -/

theorem endOfMessage_bus (x : Transmission) (s : State) :
    (endOfMessage x s).bus = { s.bus with transmission := none, idleTimer := some ⟨s.now, 100000⟩ } := by
  unfold endOfMessage
  dsimp only
  split <;> rfl

theorem inReset_iff (s : State) : s.inReset = true ↔ s.resetting ≠ .none := by simp [State.inReset]

theorem endOfMessage_seq (x : Transmission) (s : State) : (endOfMessage x s).seq =
    if x.fromTake = true ∧ s.resetting = .none then { s.seq with settle := .running ⟨s.now, 20000⟩ } else s.seq := by
  have reset : (!s.inReset) = true ↔ s.resetting = .none := by
    rw [Bool.not_eq_true', ← Bool.not_eq_true, inReset_iff, not_not]
  have take : (x.fromTake && !s.inReset) = true ↔ x.fromTake = true ∧ s.resetting = .none := by rw [Bool.and_eq_true, reset]
  unfold endOfMessage
  cases h : x.fromTake && !s.inReset with
  | true => rw [if_pos (take.1 h)]; rfl
  | false => rw [if_neg fun both => Bool.false_ne_true (h.symm.trans (take.2 both))]; rfl

theorem endOfMessage_frame' (x : Transmission) (s : State) : SameBut [.bus, .seq] s (endOfMessage x s) := by
  unfold endOfMessage
  dsimp only
  split <;> (refine ⟨fun q hq => ?_⟩; cases q <;> first | rfl | exact absurd (by decide) hq)

/-- An ordinary transmission's end closes with the arbiter's look, unless a restart waits for it. -/
theorem messageEnd_closes (x : Transmission) (hs : s.resetting ≠ .silence) : messageEnd x s = close (endOfMessage x s) := by
  unfold messageEnd
  rw [if_neg]
  rw [show (endOfMessage x s).resetting = s.resetting from (endOfMessage_frame' x s).at .resetting]
  exact hs

theorem exec_endOfTransmission {x : Transmission} (hx : s.bus.transmission = some x) (hr : x.forRestart = false) :
    exec .endOfTransmission s = .next (expireAt x.timer (messageEnd x) s) := by
  rw [exec, execEndOfTransmission, onTransmission, hx]
  simp [hr]

/-- A transmission that is not the restart's has ended at its due value: the arbiter looks at the free bus. -/
theorem messageEnds {x : Transmission} (hx : s.bus.transmission = some x) (hr : x.forRestart = false) (hs : s.resetting ≠ .silence) :
    ∃ t, exec .endOfTransmission s = .next t ∧ Ends (arbitrate (endOfMessage x (s.atCount x.timer.due))) t ∧
      SameBut (.timebase :: lineParts) (arbitrate (endOfMessage x (s.atCount x.timer.due))) t ∧
      SameBut (arbiterParts ++ lineParts) (s.expired x.timer) t := by
  have closes := messageEnd_closes (s := s.atCount x.timer.due) x hs
  refine ⟨expireAt x.timer (messageEnd x) s, exec_endOfTransmission hx hr, expireAt_ends ?_, ?_, expired_same ?_⟩
  · rw [closes]
    exact transmitAll_ends _
  · unfold expireAt
    rw [closes]
    split
    · exact ((transmitAll_frame _).chain (atCount_frame _ _) (rs := .timebase :: lineParts))
    · exact (transmitAll_frame _).mono
  · rw [closes]
    exact (endOfMessage_frame' x _).chain ((arbitrate_frame _).chain (transmitAll_frame _) (rs := closeParts))

/-! ## A message begins (R104, R106) -/

theorem beginTransmission_begins (o : Option ModuleId) (x : Message) (a : Bool) {r : Bool} {s v : State} (hb : v.bus.selection = s.bus.selection)
    (hs : v.setup = s.setup) : Begins o x v.now s (beginTransmission o x a r v) := by
  refine ⟨by cases o <;> rfl, _, rfl, rfl, rfl, ?_, ?_⟩
  · show (v.bus.selection != selectionOf o) = _
    rw [hb]
    cases o <;> rfl
  · show (⟨v.now, _ * v.setup.characterMicros⟩ : Timer) = _
    rw [Setup.characterMicros, hs]
    rfl

/-- What has begun is seen wherever the bus reads the same but for the pending program list. -/
theorem Begins.kept {o : Option ModuleId} {x : Message} {c : Count} (h : Begins o x c s t) (hs : u.bus.selection = t.bus.selection)
    (ht : u.bus.transmission = t.bus.transmission) : Begins o x c s u := by
  unfold Begins
  rw [hs, ht]
  exact h

/-! ## Classes that yield nothing -/

theorem orElseServe_none {f : State → State × Option Choice} : orElseServe (s, none) f = f s := rfl

theorem orElseServe_some {a : State × Option Choice} {f : State → State × Option Choice} (h : a.2.isSome = true) : orElseServe a f = a := by
  obtain ⟨x, _ | c⟩ := a
  · cases h
  · rfl

theorem serveRealtime_empty (h : s.bus.realtime = []) : serveRealtime s = (s, none) := by
  unfold serveRealtime
  rw [h]
  show ({ s with bus := { s.bus with realtime := [] } }, none) = (s, none)
  rw [← h]

theorem serveKeyOns_empty (h : s.layer.keyOns = []) : serveKeyOns s = (s, none) := by
  unfold serveKeyOns
  rw [h]
  show ({ s with layer := { s.layer with keyOns := [] } }, none) = (s, none)
  rw [← h]

theorem serveControls_empty (h : s.layer.controls = []) : serveControls s = (s, none) := by
  unfold serveControls
  rw [h]
  show ({ s with layer := { s.layer with controls := [] } }, none) = (s, none)
  rw [← h]

theorem servePass_empty (h : s.bus.pass = []) : servePass s = (s, none) := by
  unfold servePass
  rw [h]
  show ({ s with bus := { s.bus with pass := [] } }, none) = (s, none)
  rw [← h]

theorem serveChange_empty (h : s.bus.pending = []) : serveChange s = (s, none) := by
  unfold serveChange
  rw [h]
  rfl

theorem scanLevels_empty (mode : ModuleId → ModuleMode) : ∀ (zs : List Zone) (ls : List (Option Nat)), (∀ v ∈ ls, v = none) →
    scanLevels mode zs ls = ⟨ls, none, []⟩
  | [], ls, _ => by unfold scanLevels; rfl
  | z :: zs, [], _ => rfl
  | z :: zs, some v :: ls, h => nomatch h (some v) List.mem_cons_self
  | z :: zs, none :: ls, h => by
    rw [scanLevels, scanLevels_empty mode zs ls fun v hv => h v (List.mem_cons_of_mem _ hv)]

theorem serveLevels_empty (h : ∀ v ∈ s.layer.levels, v = none) : serveLevels s = (s, none) := by
  unfold serveLevels
  rw [scanLevels_empty _ _ _ h]
  rfl

theorem serveKeyOffs_empty (h : s.notes.candidates = []) : serveKeyOffs s.notes.candidates s = (s, none) := by rw [h]; rfl

/-- Nothing of LIVE waits (R113). -/
structure State.LiveEmpty (s : State) : Prop where
  candidates : s.notes.candidates = []
  keyOns : s.layer.keyOns = []
  controls : s.layer.controls = []
  levels : ∀ v ∈ s.layer.levels, v = none

theorem serveLive_empty (h : s.LiveEmpty) : serveLive s = (s, none) := by
  unfold serveLive
  rw [serveKeyOffs_empty h.candidates, orElseServe_none, serveKeyOns_empty h.keyOns, orElseServe_none, serveControls_empty h.controls,
    orElseServe_none, serveLevels_empty h.levels]

/-! ## One choice (R111, Table 7-5) -/

/-- The three classes behind REALTIME. -/
def serveClasses (s : State) : State × Option Choice :=
  match s.setup.classOrder with
  | 1 => orElseServe (serveLive s) fun s2 => orElseServe (servePass s2) serveChange
  | 2 => orElseServe (serveChange s) fun s2 => orElseServe (serveLive s2) servePass
  | 3 => orElseServe (serveChange s) fun s2 => orElseServe (servePass s2) serveLive
  | 4 => orElseServe (servePass s) fun s2 => orElseServe (serveLive s2) serveChange
  | 5 => orElseServe (servePass s) fun s2 => orElseServe (serveChange s2) serveLive
  | _ => orElseServe (serveLive s) fun s2 => orElseServe (serveChange s2) servePass

theorem serveRealtime_setup (s : State) : (serveRealtime s).1.setup = s.setup := (serveRealtime_frame s).at .setup

theorem choose_eq (s : State) : choose s = orElseServe (serveRealtime s) serveClasses := by
  unfold choose
  rcases hr : serveRealtime s with ⟨x, _ | c⟩
  · have same : x.setup = s.setup := by
      have := serveRealtime_setup s
      rw [hr] at this
      exact this
    rw [orElseServe_none, orElseServe_none, serveClasses, same] <;> rfl
  · rfl

theorem choose_classes (h : s.bus.realtime = []) : choose s = serveClasses s := by
  rw [choose_eq, serveRealtime_empty h, orElseServe_none]

/-- CHANGE alone has something to send. -/
theorem serveClasses_change (live : s.LiveEmpty) (pass : s.bus.pass = []) (h : (serveChange s).2.isSome = true) :
    serveClasses s = serveChange s := by
  unfold serveClasses
  have l := serveLive_empty live
  have p := servePass_empty pass
  split <;> simp only [l, p, orElseServe_none, orElseServe_some h]

/-- LIVE is next, nothing of CHANGE or PASS standing ahead of it (Table 7-5). -/
theorem choose_live (next : s.LiveNext) (h : (serveLive s).2.isSome = true) : choose s = serveLive s := by
  obtain ⟨realtime, order⟩ := next
  rw [choose_classes realtime]
  unfold serveClasses
  rcases order with order | order | ⟨pending, pass⟩
  · rw [order]
    exact orElseServe_some h
  · rw [order]
    exact orElseServe_some h
  · have c := serveChange_empty pending
    have p := servePass_empty pass
    split <;> simp only [c, p, orElseServe_none, orElseServe_some h]

/-- Nothing waits for the bus. -/
structure State.NothingWaits (s : State) : Prop extends s.LiveEmpty where
  realtime : s.bus.realtime = []
  pending : s.bus.pending = []
  pass : s.bus.pass = []

theorem choose_nothing (h : s.NothingWaits) : choose s = (s, none) := by
  rw [choose_classes h.realtime]
  unfold serveClasses
  have l := serveLive_empty h.toLiveEmpty
  have p := servePass_empty h.pass
  have c := serveChange_empty h.pending
  split <;> simp only [l, p, c, orElseServe_none]

/-! ## The look at an idle bus -/

/-- The bus is free for the arbiter (R111, R122). -/
structure State.BusFree (s : State) : Prop where
  idle : s.bus.transmission = none
  resetting : s.resetting ≠ .silence

theorem arbitrate_free (h : s.BusFree) : arbitrate s = choices (s.busWork + 1) s := by
  unfold arbitrate
  rw [if_neg (by simp [h.idle, h.resetting])]

/-- A choice that yields nothing and changes nothing ends the look. -/
theorem choices_still (h : choose s = (s, none)) : ∀ n, choices n s = s
  | 0 => rfl
  | n + 1 => by
    rw [choices, h]
    exact if_neg (Nat.lt_irrefl _)

theorem arbitrate_still (h : s.BusFree) (hc : choose s = (s, none)) : arbitrate s = s := by
  rw [arbitrate_free h, choices_still hc]

/-- A choice that yields nothing, after which another would change nothing. -/
theorem arbitrate_drained (h : s.BusFree) (hc : choose s = (t, none)) (ht : choose t = (t, none)) : arbitrate s = t := by
  rw [arbitrate_free h, choices, hc]
  dsimp only
  split
  · exact choices_still ht _
  · rfl

theorem arbitrate_chosen {c : Choice} (h : s.BusFree) (hc : choose s = (t, some c)) : arbitrate s =
    if c.takeLeft then examineSettle (beginTransmission c.target c.message c.fromTake false t)
    else beginTransmission c.target c.message c.fromTake false t := by
  rw [arbitrate_free h, choices, hc]

/-- A message that is not the last of a TAKE entry begins. -/
theorem arbitrate_begun {c : Choice} (h : s.BusFree) (hc : choose s = (t, some c)) (left : c.takeLeft = false) :
    arbitrate s = beginTransmission c.target c.message c.fromTake false t := by
  rw [arbitrate_chosen h hc, left]
  rfl

theorem endOfMessage_free {x : Transmission} (h : s.resetting ≠ .silence) : (endOfMessage x s).BusFree :=
  ⟨by rw [endOfMessage_bus], by rw [show (endOfMessage x s).resetting = s.resetting from (endOfMessage_frame' x s).at .resetting]; exact h⟩

/-- What the bus holds for the arbiter where the end of a transmission leaves it. -/
theorem endOfMessage_now (x : Transmission) (s : State) : (endOfMessage x s).now = s.now :=
  congrArg Timebase.count ((endOfMessage_frame' x s).at .timebase)

/-- The arbiter finds what waits for the bus as it was before the transmission ended. -/
structure Awaits (s w : State) : Prop where
  free : w.BusFree
  layer : w.layer = s.layer
  notes : w.notes = s.notes
  banks : w.banks = s.banks
  setup : w.setup = s.setup
  modules : ∀ n, w.module n = s.module n
  realtime : w.bus.realtime = s.bus.realtime
  pending : w.bus.pending = s.bus.pending
  pass : w.bus.pass = s.bus.pass
  selection : w.bus.selection = s.bus.selection

theorem endOfMessage_awaits (x : Transmission) (h : s.resetting ≠ .silence) (c : Count) : Awaits s (endOfMessage x (s.atCount c)) := by
  have frame := endOfMessage_frame' x (s.atCount c)
  have bus := endOfMessage_bus x (s.atCount c)
  refine ⟨endOfMessage_free h, frame.at .layer, frame.at .notes, frame.at .banks, frame.at .setup, fun n => ?_, ?_, ?_, ?_, ?_⟩
  · rw [State.module, bus]
    rfl
  all_goals rw [bus]; rfl

variable {w : State}

theorem Awaits.activeBank (h : Awaits s w) : w.activeBank = s.activeBank := activeBank_congr h.banks

theorem Awaits.liveEmpty (h : Awaits s w) (e : s.LiveEmpty) : w.LiveEmpty :=
  ⟨by rw [h.notes]; exact e.candidates, by rw [h.layer]; exact e.keyOns, by rw [h.layer]; exact e.controls, by rw [h.layer]; exact e.levels⟩

theorem Awaits.liveNext (h : Awaits s w) (e : s.LiveNext) : w.LiveNext := by
  unfold State.LiveNext
  rw [h.realtime, h.setup, h.pending, h.pass]
  exact e

/-- What begins at the arbiter's choice. -/
theorem Awaits.begins (h : Awaits s w) (o : Option ModuleId) (x : Message) (a : Bool) {v : State} (hb : v.bus.selection = w.bus.selection)
    (hs : v.setup = w.setup) (hn : v.now = w.now) : Begins o x w.now s (beginTransmission o x a false v) := by
  rw [← hn]
  exact beginTransmission_begins o x a (hb.trans h.selection) (hs.trans h.setup)

/-- REALTIME's first item is sent. -/
theorem realtimeServed (h : Awaits s w) {c : Choice} {v : State} (hc : serveRealtime w = (v, some c)) (f : SameBut [.bus] w v)
    (hb : v.bus.selection = w.bus.selection) : (arbitrate w).bus.realtime = v.bus.realtime ∧ Begins c.target c.message w.now s (arbitrate w) := by
  have begun := arbitrate_of_realtime (s := w) (c := c) (by rw [hc]) h.free.idle h.free.resetting
  rw [begun, hc]
  exact ⟨rfl, h.begins _ _ _ hb (f.at .setup) (congrArg Timebase.count (f.at .timebase))⟩

theorem serveRealtime_click {i : Addressed} {l : List RealtimeItem} (h : s.bus.realtime = .click i :: l) (hm : (s.module i.module).mode = .ready) :
    serveRealtime s = ({ s with bus := { s.bus with realtime := l } }, some ⟨some i.module, i.message, false, false⟩) := by
  unfold serveRealtime
  have judged : RealtimeItem.verdict s (.click i) = .send := by
    show (s.module i.module).mode.waitVerdict = .send
    rw [hm]
    rfl
  rw [h, scanQueue, judged]
  rfl

/-! ## CHANGE (R114, R117 to R119) -/

theorem serveChange_first {e : PendingProgram} {es : List PendingProgram} (h : s.bus.pending = e :: es) (hm : (s.module e.module).mode = .ready) :
    serveChange s = (recordProgram e.module e.message { s with bus := { s.bus with pending := e.left ++ es } },
      some ⟨some e.module, e.message, e.kind == .take, e.kind == .take && e.left.isEmpty⟩) := by
  unfold serveChange
  rw [h, scanPending, if_pos hm]

theorem recordProgram_bus (m : ModuleId) (x : Message) (s : State) : ∃ c, (recordProgram m x s).bus = { s.bus with cells := c } := by
  unfold recordProgram
  split
  · exact ⟨_, rfl⟩
  · exact ⟨s.bus.cells, rfl⟩

theorem setCell_cell (b : Bus) (m : ModuleId) (c : Channel) (n : Nat) : (b.setCell m c n).cell m c = some n := by
  simp [Bus.setCell, Bus.cell, getAt, setAt]

/-- The message of a pending program entry: its PROGRAM, or its preset LEVEL. -/
theorem message_program {e : PendingProgram} (h : e.next = .program) : e.message = .program e.channel e.program ∧
    e.left = if e.preset.isSome then [{ e with next := .level }] else [] := by
  unfold PendingProgram.message PendingProgram.left
  rw [h]
  cases e.preset <;> exact ⟨rfl, rfl⟩

theorem message_level {e : PendingProgram} {n : Nat} (h : e.next = .level) (hp : e.preset = some n) :
    e.message = .level e.channel n ∧ e.left = [] := by
  unfold PendingProgram.message PendingProgram.left
  rw [h, hp]
  exact ⟨rfl, rfl⟩

/-- The state of the first pending program entry's message as it is chosen. -/
def changeTaken (e : PendingProgram) (es : List PendingProgram) (s : State) : State :=
  recordProgram e.module e.message { s with bus := { s.bus with pending := e.left ++ es } }

theorem changeTaken_frame (e : PendingProgram) (es : List PendingProgram) (s : State) : SameBut [.bus] s (changeTaken e es s) :=
  (busUpdate_frame s _).then (recordProgram_frame _ _ _)

theorem changeTaken_bus (e : PendingProgram) (es : List PendingProgram) (s : State) :
    ∃ c, (changeTaken e es s).bus = { s.bus with pending := e.left ++ es, cells := c } := recordProgram_bus _ _ _

/-- The message of the pending program entry has begun. -/
def changeBegun (e : PendingProgram) (es : List PendingProgram) (s : State) : State :=
  beginTransmission (some e.module) e.message (e.kind == .take) false (changeTaken e es s)

theorem changeBegun_frame (e : PendingProgram) (es : List PendingProgram) (s : State) : SameBut [.bus] s (changeBegun e es s) :=
  (changeTaken_frame e es s).then (beginTransmission_frame _ _ _ _ _)

theorem changeBegun_pending (e : PendingProgram) (es : List PendingProgram) (s : State) : (changeBegun e es s).bus.pending = e.left ++ es := by
  obtain ⟨c, hc⟩ := changeTaken_bus e es s
  show (changeTaken e es s).bus.pending = _
  rw [hc]

theorem changeBegun_pass (e : PendingProgram) (es : List PendingProgram) (s : State) : (changeBegun e es s).bus.pass = s.bus.pass := by
  obtain ⟨c, hc⟩ := changeTaken_bus e es s
  show (changeTaken e es s).bus.pass = _
  rw [hc]

theorem changeBegun_module (e : PendingProgram) (es : List PendingProgram) (s : State) (n : ModuleId) :
    (changeBegun e es s).module n = s.module n := by
  obtain ⟨c, hc⟩ := changeTaken_bus e es s
  rw [State.module, show (changeBegun e es s).bus.modules = (changeTaken e es s).bus.modules from rfl, hc]
  rfl

/-- A PROGRAM that begins is recorded in its cell (R118). -/
theorem changeBegun_cell {e : PendingProgram} (es : List PendingProgram) (s : State) {n : Nat} (h : e.message = .program e.channel n) :
    (changeBegun e es s).bus.cell e.module e.channel = some n := by
  show (recordProgram e.module e.message _).bus.cell e.module e.channel = _
  rw [h]
  exact setCell_cell _ _ _ _

theorem Awaits.changeBegins (h : Awaits s w) (e : PendingProgram) (es : List PendingProgram) :
    Begins (some e.module) e.message w.now s (changeBegun e es w) := by
  obtain ⟨c, hc⟩ := changeTaken_bus e es w
  have frame := changeTaken_frame e es w
  exact h.begins _ _ _ (by rw [hc]) (frame.at .setup) (congrArg Timebase.count (frame.at .timebase))

/-- CHANGE alone has something to send, and its first entry's module is READY. -/
theorem arbitrate_change (h : Awaits s w) (live : s.LiveEmpty) (realtime : s.bus.realtime = []) (pass : s.bus.pass = []) {e : PendingProgram}
    {es : List PendingProgram} (pending : s.bus.pending = e :: es) (ready : (s.module e.module).mode = .ready) :
    arbitrate w = if (e.kind == .take && e.left.isEmpty) = true then examineSettle (changeBegun e es w) else changeBegun e es w := by
  have first := serveChange_first (h.pending.trans pending) (by rw [h.modules]; exact ready)
  have chosen : choose w = serveChange w := by
    rw [choose_classes (h.realtime.trans realtime)]
    exact serveClasses_change (h.liveEmpty live) (h.pass.trans pass) (by rw [first]; rfl)
  exact arbitrate_chosen h.free (chosen.trans first)

theorem examineSettle_running (h : s.seq.settle ≠ .expired) : examineSettle s = s := by
  refine if_neg fun settled => ?_
  unfold State.settled at settled
  simp [h] at settled

/-- The settle timer has not expired where the message's end leaves it. -/
theorem endOfMessage_settle {x : Transmission} (h : s.seq.settle ≠ .expired) : (endOfMessage x s).seq.settle ≠ .expired := by
  rw [endOfMessage_seq]
  split
  · exact nofun
  · exact h

theorem changeServes (h : Awaits s w) (settle : s.seq.settle ≠ .expired → w.seq.settle ≠ .expired)
    (same : SameBut (.timebase :: lineParts) (arbitrate w) t) : ChangeServes w.now s t := by
  intro e es pending realtime candidates keyOns controls levels pass ready running
  have bus : t.bus = (changeBegun e es w).bus := by
    refine (same.at .bus).trans ?_
    rw [arbitrate_change h ⟨candidates, keyOns, controls, levels⟩ realtime pass pending ready]
    split
    · rw [examineSettle_running]
      rw [show (changeBegun e es w).seq = w.seq from (changeBegun_frame e es w).at .seq]
      exact settle running
    · rfl
  have begins : Begins (some e.module) e.message w.now s t :=
    (h.changeBegins e es).kept (by rw [bus]) (by rw [bus])
  refine ⟨fun y hy => ?_, fun next => ?_, fun n next preset => ?_⟩
  · rw [bus] at hy
    exact (Option.some.inj hy) ▸ rfl
  · obtain ⟨message, left⟩ := message_program next
    rw [message] at begins
    refine ⟨begins, by rw [bus]; exact changeBegun_cell es w message, ?_⟩
    rw [bus, changeBegun_pending, left]
    split <;> rfl
  · obtain ⟨message, left⟩ := message_level next preset
    rw [message] at begins
    exact ⟨begins, by rw [bus, changeBegun_pending, left]; rfl⟩

/-! ## CHANGE and PASS by the class order (Table 7-5) -/

theorem servePass_first {i : Addressed} {l : List Addressed} (h : s.bus.pass = i :: l) (hm : (s.module i.module).mode = .ready) :
    servePass s = (recordProgram i.module i.message { s with bus := { s.bus with pass := l } }, some ⟨some i.module, i.message, false, false⟩) := by
  unfold servePass
  have judged : (s.module i.module).mode.waitVerdict = .send := by rw [hm]; rfl
  rw [h, scanQueue]
  simp only [judged]
  rfl

/-- With nothing of LIVE, CHANGE is served before PASS in the orders 0, 2 and 3 and after it in 1, 4 and 5. -/
theorem serveClasses_order (live : s.LiveEmpty) (change : (serveChange s).2.isSome = true) (pass : (servePass s).2.isSome = true)
    (order : s.setup.classOrder ≤ 5) : serveClasses s =
      if s.setup.classOrder = 0 ∨ s.setup.classOrder = 2 ∨ s.setup.classOrder = 3 then serveChange s else servePass s := by
  have l := serveLive_empty live
  unfold serveClasses
  obtain h | h | h | h | h | h : s.setup.classOrder = 0 ∨ s.setup.classOrder = 1 ∨ s.setup.classOrder = 2 ∨ s.setup.classOrder = 3 ∨
    s.setup.classOrder = 4 ∨ s.setup.classOrder = 5 := by omega
  all_goals simp [h, l, orElseServe_none, orElseServe_some change, orElseServe_some pass]

theorem changeOrPass (h : Awaits s w) (same : SameBut (.timebase :: lineParts) (arbitrate w) t) {e : PendingProgram} {es : List PendingProgram}
    {i : Addressed} {l : List Addressed} (live : s.LiveEmpty) (realtime : s.bus.realtime = []) (pending : s.bus.pending = e :: es)
    (pass : s.bus.pass = i :: l) (preset : e.preset = none) (kind : e.kind = .resync) (re : (s.module e.module).mode = .ready)
    (ri : (s.module i.module).mode = .ready) (order : s.setup.classOrder ≤ 5) : ∃ y, t.bus.transmission = some y ∧
      if s.setup.classOrder = 0 ∨ s.setup.classOrder = 2 ∨ s.setup.classOrder = 3 then
        y.target = some e.module ∧ y.message = .program e.channel e.program ∧ t.bus.pending = es ∧ t.bus.pass = i :: l ∧
          t.bus.cell e.module e.channel = some e.program
      else y.target = some i.module ∧ y.message = i.message ∧ t.bus.pending = e :: es ∧ t.bus.pass = l := by
  have change := serveChange_first (h.pending.trans pending) (by rw [h.modules]; exact re)
  have passes := servePass_first (h.pass.trans pass) (by rw [h.modules]; exact ri)
  have message : e.message = .program e.channel e.program ∧ e.left = [] := by
    unfold PendingProgram.message PendingProgram.left
    rw [preset]
    cases e.next <;> exact ⟨rfl, rfl⟩
  have chosen : choose w = _ := (choose_classes (h.realtime.trans realtime)).trans
    (serveClasses_order (h.liveEmpty live) (by rw [change]; rfl) (by rw [passes]; rfl) (by rw [h.setup]; exact order))
  rw [h.setup] at chosen
  split
  · next first =>
    rw [if_pos first, change] at chosen
    have begun : arbitrate w = changeBegun e es w := arbitrate_begun h.free chosen (by rw [kind]; rfl)
    have bus : t.bus = (changeBegun e es w).bus := (same.at .bus).trans (congrArg State.bus begun)
    rw [bus, changeBegun_pending, changeBegun_pass, changeBegun_cell es w message.1, h.pass, pass, message.2]
    exact ⟨_, rfl, rfl, message.1, rfl, rfl, rfl⟩
  · next second =>
    rw [if_neg second, passes] at chosen
    have begun := arbitrate_begun h.free chosen rfl
    have bus := (same.at .bus).trans (congrArg State.bus begun)
    obtain ⟨c, hc⟩ := recordProgram_bus i.module i.message { w with bus := { w.bus with pass := l } }
    rw [bus]
    refine ⟨_, rfl, rfl, rfl, ?_, ?_⟩
    · show (recordProgram i.module i.message _).bus.pending = _
      rw [hc]
      exact h.pending.trans pending
    · show (recordProgram i.module i.message _).bus.pass = _
      rw [hc]

/-! ## The last message of a TAKE entry (R139, log entry 15) -/

theorem settleAtLastMessage (s u : State) (x : Transmission) (e : PendingProgram) (es : List PendingProgram) (hx : s.bus.transmission = some x)
    (hr : x.forRestart = false) (notTake : x.fromTake = false) (hs : s.resetting ≠ .silence) (hp : s.seq.phase = .switching)
    (he : s.seq.settle = .expired) (pending : s.bus.pending = e :: es) (realtime : s.bus.realtime = []) (live : s.LiveEmpty)
    (pass : s.bus.pass = []) (ready : (s.module e.module).mode = .ready) (kind : e.kind = .take)
    (hu : u = { s with bus := { s.bus with pending := es } }) : ∃ t, exec .endOfTransmission s = .next t ∧
      (e.next = .program → e.preset = none →
        Begins (some e.module) (.program e.channel e.program) x.timer.due s t ∧ SettleExamined x.timer.due es u t) ∧
      (∀ v, e.next = .level → e.preset = some v →
        Begins (some e.module) (.level e.channel v) x.timer.due s t ∧ SettleExamined x.timer.due es u t) := by
  obtain ⟨t, runs, ends, -, -⟩ := messageEnds hx hr hs
  have waits := endOfMessage_awaits x hs x.timer.due
  have ended := endOfMessage_frame' x (s.atCount x.timer.due)
  have seq := endOfMessage_seq x (s.atCount x.timer.due)
  have now : (endOfMessage x (s.atCount x.timer.due)).now = x.timer.due := endOfMessage_now x _
  rw [if_neg (by simp [notTake])] at seq
  set w := endOfMessage x (s.atCount x.timer.due)
  have looks := arbitrate_change waits live realtime pass pending ready
  have last (left : e.left = []) : SettleExamined x.timer.due es u t ∧ Begins (some e.module) e.message x.timer.due s t := by
    rw [kind, left, if_pos (show (PostKind.take == PostKind.take && List.isEmpty ([] : List PendingProgram)) = true from rfl)] at looks
    rw [looks] at ends
    have frame := changeBegun_frame e es w
    have list := changeBegun_pending e es w
    rw [left] at list
    have as : SettlesAs u (changeBegun e es w) := by
      subst hu
      refine ⟨(frame.at .seq).trans seq, (frame.at .banks).trans (ended.at .banks), (frame.at .store).trans (ended.at .store),
        (frame.at .resetting).trans (ended.at .resetting), ?_, fun n => ?_, fun _ _ => ?_, ?_⟩
      · exact congrArg Grid.position ((frame.at .grid).trans (ended.at .grid))
      · rw [changeBegun_module, waits.modules]
        rfl
      · rw [list]
        rfl
      · have all : SameBut [.timebase, .bus, .seq] s (changeBegun e es w) :=
          (((atCount_frame s x.timer.due).chain ended (rs := [.timebase, .bus, .seq]))).chain frame
        have back : SameBut [.bus] { s with bus := { s.bus with pending := es } } s := (busUpdate_frame s _).symm
        exact (back.chain all (rs := [.timebase, .bus, .seq])).posting.mono (by decide)
    have examined := ends.settleExamined rfl (by subst hu; exact hp) (by subst hu; exact he) as
    rw [list, show (changeBegun e es w).now = x.timer.due from (congrArg Timebase.count (frame.at .timebase)).trans now] at examined
    refine ⟨examined, ?_⟩
    have begins := waits.changeBegins e es
    rw [now] at begins
    obtain ⟨l, hl⟩ := ends.examined_bus (u := changeBegun e es w) rfl
    exact begins.kept (by rw [hl]) (by rw [hl])
  refine ⟨t, runs, fun next preset => ?_, fun n next preset => ?_⟩
  · obtain ⟨message, left⟩ := message_program next
    rw [preset] at left
    obtain ⟨settles, begins⟩ := last left
    rw [message] at begins
    exact ⟨begins, settles⟩
  · obtain ⟨message, left⟩ := message_level next preset
    obtain ⟨settles, begins⟩ := last left
    rw [message] at begins
    exact ⟨begins, settles⟩

/-- Settles O46: the settle timer's expiry, the changes of a module's state, the last message of a TAKE entry, and the retention timer's expiry. -/
theorem settleAndRetention : Obligations.SettleAndRetention := by
  refine ⟨settleAtTimer, fun m s u run low ready sending hp he hu => ?_, fun m s u run high sending hp he hu => ?_,
    fun m s u tm timer sending hp he hu => ?_, ?_, retentionExpires⟩
  · exact hu ▸ settleAtBusy m s run low ready sending hp he
  · exact hu ▸ settleAtFree m s run high sending hp he
  · exact hu ▸ settleAtStall m s tm timer sending hp he
  · intro s u x e es hx hr take hs hp he pending realtime candidates keyOns controls levels pass ready kind hu
    exact settleAtLastMessage s u x e es hx hr take hs hp he pending realtime ⟨candidates, keyOns, controls, levels⟩ pass ready kind hu

end Sys2Proof.Machine
end

section
/-! PROOF. LIVE at the end of a transmission: key-off candidates, key-on items, controller items and level slots (part of O39). -/

namespace Sys2Proof.Machine

variable {s t u v w : State} {p q : Port} {m : ModuleId}

/-! ## The candidates (R95) -/

theorem mem_insertBy {α : Type} {before : α → α → Bool} {x y : α} : ∀ {l : List α}, y ∈ insertBy before x l ↔ y = x ∨ y ∈ l
  | [] => by simp [insertBy]
  | z :: l => by
    unfold insertBy
    split
    · simp
    · rw [List.mem_cons, mem_insertBy, List.mem_cons]
      tauto

theorem mem_sortBy {α : Type} {before : α → α → Bool} {y : α} : ∀ {l : List α}, y ∈ sortBy before l ↔ y ∈ l
  | [] => .rfl
  | x :: l => by rw [sortBy, mem_insertBy, mem_sortBy, List.mem_cons]

/-- Where `before` compares a key, insertion keeps the keys in order. -/
theorem insertBy_sorted {α : Type} {before : α → α → Bool} {key : α → Nat} {x : α} : ∀ {l : List α},
    (∀ y ∈ l, before x y = decide (key x < key y)) → l.Pairwise (fun a b => key a ≤ key b) →
    (insertBy before x l).Pairwise (fun a b => key a ≤ key b)
  | [], _, _ => List.pairwise_singleton _ _
  | y :: l, same, sorted => by
    obtain ⟨first, rest⟩ := List.pairwise_cons.1 sorted
    have judged := same y List.mem_cons_self
    unfold insertBy
    split
    · next h =>
      rw [judged, decide_eq_true_iff] at h
      refine List.pairwise_cons.2 ⟨fun z hz => ?_, sorted⟩
      rcases List.mem_cons.1 hz with rfl | hz
      · exact Nat.le_of_lt h
      · exact Nat.le_trans (Nat.le_of_lt h) (first z hz)
    · next h =>
      rw [judged, decide_eq_true_iff, Nat.not_lt] at h
      refine List.pairwise_cons.2 ⟨fun z hz => ?_, insertBy_sorted (fun z hz => same z (List.mem_cons_of_mem _ hz)) rest⟩
      rcases mem_insertBy.1 hz with rfl | hz
      · exact h
      · exact first z hz

theorem sortBy_sorted {α : Type} {before : α → α → Bool} {key : α → Nat} : ∀ {l : List α},
    (∀ x ∈ l, ∀ y ∈ l, before x y = decide (key x < key y)) → (sortBy before l).Pairwise (fun a b => key a ≤ key b)
  | [], _ => List.Pairwise.nil
  | x :: _, same => insertBy_sorted
      (fun y hy => same x List.mem_cons_self y (List.mem_cons_of_mem _ (mem_sortBy.1 hy)))
      (sortBy_sorted fun y hy z hz => same y (List.mem_cons_of_mem _ hy) z (List.mem_cons_of_mem _ hz))

theorem mem_entryCandidates {e : Entry} {k : Candidate} : k ∈ e.candidates ↔
    e.serial = k.serial ∧ ∃ d, e.dests[k.dest]? = some d ∧ d.ended = false := by
  unfold Entry.candidates
  rw [List.mem_filterMap]
  constructor
  · rintro ⟨i, -, hi⟩
    split at hi
    · next d hd =>
      split at hi
      · cases hi
      · next live =>
        obtain rfl := Option.some.inj hi
        exact ⟨rfl, d, hd, Bool.eq_false_iff.2 live⟩
    · cases hi
  · rintro ⟨serial, d, hd, live⟩
    refine ⟨k.dest, List.mem_range.2 (List.getElem?_eq_some_iff.1 hd).1, ?_⟩
    rw [hd]
    dsimp only
    rw [live, serial]
    rfl

/-- A candidate is a destination, not ended, of a RELEASING entry. -/
theorem mem_candidates {n : Notes} {k : Candidate} : k ∈ n.candidates ↔
    ∃ e ∈ n.entries, e.releasing = true ∧ e.serial = k.serial ∧ ∃ d, e.dests[k.dest]? = some d ∧ d.ended = false := by
  unfold Notes.candidates
  rw [List.mem_flatMap]
  constructor
  · rintro ⟨e, he, hk⟩
    obtain ⟨mem, releasing⟩ := List.mem_filter.1 (mem_sortBy.1 he)
    exact ⟨e, mem, releasing, mem_entryCandidates.1 hk⟩
  · rintro ⟨e, mem, releasing, hk⟩
    exact ⟨e, mem_sortBy.2 (List.mem_filter.2 ⟨mem, releasing⟩), mem_entryCandidates.2 hk⟩

/-- The first item of a list put together from lists comes from the first that is not empty. -/
theorem flatMap_cons {α β : Type} {f : α → List β} {b : β} {bs : List β} : ∀ {l : List α}, l.flatMap f = b :: bs →
    ∃ l₁ a l₂ cs, l = l₁ ++ a :: l₂ ∧ f a = b :: cs ∧ ∀ x ∈ l₁, f x = []
  | a :: l, h => by
    rw [List.flatMap_cons] at h
    cases ha : f a with
    | nil =>
      rw [ha, List.nil_append] at h
      obtain ⟨l₁, a', l₂, cs, rfl, hf, empty⟩ := flatMap_cons h
      refine ⟨a :: l₁, a', l₂, cs, rfl, hf, fun x hx => ?_⟩
      rcases List.mem_cons.1 hx with rfl | hx
      · exact ha
      · exact empty x hx
    | cons c cs =>
      rw [ha, List.cons_append] at h
      obtain ⟨rfl, -⟩ := List.cons.inj h
      exact ⟨[], a, l, cs, rfl, ha, nofun⟩

/-- The first candidate of an entry is its first destination that is not ended. -/
theorem candidates_first {e : Entry} {k : Candidate} {ks : List Candidate} (h : e.candidates = k :: ks) :
    e.serial = k.serial ∧ (∃ d, e.dests[k.dest]? = some d ∧ d.ended = false) ∧ ∀ j d, j < k.dest → e.dests[j]? = some d → d.ended = true := by
  unfold Entry.candidates at h
  obtain ⟨l₁, i, l₂, range, none, first, -⟩ := List.filterMap_eq_cons_iff.1 h
  split at first
  · next d hd =>
    split at first
    · cases first
    · next live =>
      obtain rfl := Option.some.inj first
      refine ⟨rfl, ⟨d, hd, Bool.eq_false_iff.2 live⟩, fun j d' hj hd' => ?_⟩
      have before : j ∈ l₁ := by
        have sorted : (l₁ ++ i :: l₂).Pairwise (· < ·) := range ▸ List.pairwise_lt_range
        have mem : j ∈ l₁ ++ i :: l₂ := range ▸ List.mem_range.2 (List.getElem?_eq_some_iff.1 hd').1
        rcases List.mem_append.1 mem with mem | mem
        · exact mem
        · have rest := (List.pairwise_append.1 sorted).2.1
          rcases List.mem_cons.1 mem with rfl | mem
          · exact absurd hj (Nat.lt_irrefl _)
          · exact absurd ((List.pairwise_cons.1 rest).1 j mem) (Nat.lt_asymm hj)
      have skipped := none j before
      rw [hd'] at skipped
      dsimp only at skipped
      by_contra live'
      rw [if_neg live'] at skipped
      cases skipped
  · cases first

/-- Release sequence numbers less than half the range from a base are compared by their distance from it (R94). -/
theorem earlier_iff {a b base : Count} (ha : (a - base).toNat < 2147483648) (hb : (b - base).toNat < 2147483648) :
    earlier a b = decide ((a - base).toNat < (b - base).toNat) := by
  unfold earlier
  rw [Bool.eq_iff_iff, Bool.and_eq_true, decide_eq_true_iff, decide_eq_true_iff, bne_iff_ne]
  constructor
  · rintro ⟨ne, near⟩
    bv_omega
  · intro lt
    refine ⟨?_, ?_⟩ <;> bv_omega

/-- How far the release of an entry stands from a base; 0 where it is not RELEASING. -/
def Entry.age (base : Count) (e : Entry) : Nat :=
  match e.state with
  | .releasing q => (q - base).toNat
  | _ => 0

theorem Entry.age_releasing {base q : Count} {e : Entry} (h : e.state = .releasing q) : e.age base = (q - base).toNat := by
  rw [Entry.age, h]

theorem releasing_iff {e : Entry} : e.releasing = true ↔ ∃ q, e.state = .releasing q := by
  unfold Entry.releasing
  cases e.state <;> simp

theorem releasedBefore_age {base : Count} {e f : Entry} {a b : Count} (he : e.state = .releasing a) (hf : f.state = .releasing b)
    (ha : (a - base).toNat < 2147483648) (hb : (b - base).toNat < 2147483648) : e.releasedBefore f = decide (e.age base < f.age base) := by
  rw [Entry.age_releasing he, Entry.age_releasing hf, ← earlier_iff ha hb, Entry.releasedBefore, he, hf]

/-- The first candidate belongs to the oldest release. -/
theorem candidates_oldest (n : Notes) (k : Candidate) (ks : List Candidate) (base : Count) (h : n.candidates = k :: ks)
    (near : ∀ e ∈ n.entries, ∀ q, e.state = .releasing q → (q - base).toNat < 2147483648) :
    ∃ e ∈ n.entries, ∃ q, e.state = .releasing q ∧ e.serial = k.serial ∧ (∃ d, e.dests[k.dest]? = some d ∧ d.ended = false) ∧
      (∀ j d, j < k.dest → e.dests[j]? = some d → d.ended = true) ∧
      ∀ f ∈ n.entries, ∀ r, f.state = .releasing r → (∃ d ∈ f.dests, d.ended = false) → (q - base).toNat ≤ (r - base).toNat := by
  have sorted : (sortBy Entry.releasedBefore (n.entries.filter Entry.releasing)).Pairwise (fun a b => a.age base ≤ b.age base) := by
    refine sortBy_sorted fun x hx y hy => ?_
    obtain ⟨memX, releasingX⟩ := List.mem_filter.1 hx
    obtain ⟨memY, releasingY⟩ := List.mem_filter.1 hy
    obtain ⟨a, ha⟩ := releasing_iff.1 releasingX
    obtain ⟨b, hb⟩ := releasing_iff.1 releasingY
    exact releasedBefore_age ha hb (near x memX a ha) (near y memY b hb)
  obtain ⟨l₁, e, l₂, cs, split, first, empty⟩ := flatMap_cons h
  obtain ⟨mem, releasing⟩ := List.mem_filter.1 (mem_sortBy.1 (split ▸ List.mem_append_right l₁ List.mem_cons_self))
  obtain ⟨a, ha⟩ := releasing_iff.1 releasing
  obtain ⟨serial, live, before⟩ := candidates_first first
  refine ⟨e, mem, a, ha, serial, live, before, fun f hf r hr ⟨d, hd, open_⟩ => ?_⟩
  rw [← Entry.age_releasing ha, ← Entry.age_releasing hr]
  have inList : f ∈ l₁ ++ e :: l₂ := split ▸ mem_sortBy.2 (List.mem_filter.2 ⟨hf, releasing_iff.2 ⟨r, hr⟩⟩)
  rw [split] at sorted
  rcases List.mem_append.1 inList with early | late
  · obtain ⟨i, hi⟩ := List.getElem?_of_mem hd
    have candidate : (⟨f.serial, i⟩ : Candidate) ∈ f.candidates := mem_entryCandidates.2 ⟨rfl, d, hi, open_⟩
    rw [empty f early] at candidate
    cases candidate
  · rcases List.mem_cons.1 late with rfl | late
    · exact Nat.le_refl _
    · exact (List.pairwise_cons.1 (List.pairwise_append.1 sorted).2.1).1 f late

/-! ## What LIVE sends (R113) -/

theorem twinQueued_iff (s : State) (k : Candidate) (d : Dest) : s.notes.twinQueued k.serial d = true ↔ TwinQueued s k d := by
  simp [Notes.twinQueued, TwinQueued, List.any_eq_true]

theorem stillHeld_iff (s : State) (k : Candidate) (d : Dest) : s.notes.stillHeld k.serial d = true ↔ StillHeld s k d := by
  simp [Notes.stillHeld, StillHeld, Dest.holds, List.any_eq_true]

theorem updateDest_eq (serial i : Nat) (f : Dest → Dest) (es : List Entry) : updateDest serial i f es =
    es.map (fun e => if e.serial = serial then { e with dests := e.dests.modify i f } else e) := by
  refine List.map_congr_left fun e _ => ?_
  by_cases h : e.serial = serial <;> simp [h]

theorem endDest_entries (serial i : Nat) (s : State) :
    (endDest serial i s).notes.entries = changedDest serial i (fun d => { d with ended := true }) s.notes.entries := by
  rw [endDest_notes, changedDest, ← updateDest_eq]
  rfl

/-- A key-off that is due is sent (R97). -/
theorem decideCandidate_sends {k : Candidate} {d : Dest} (hd : findDest k.serial k.dest s.notes.entries = some d) (sent : d.flag = .sent)
    (twin : ¬ TwinQueued s k d) (held : ¬ StillHeld s k d) (ready : (s.module d.module).mode = .ready) :
    decideCandidate k s = (endDest k.serial k.dest s, some ⟨some d.module, .keyOff d.channel d.key, false, false⟩) := by
  rw [← twinQueued_iff] at twin
  rw [← stillHeld_iff] at held
  unfold decideCandidate
  rw [hd]
  simp only [sent, twin, held, ready]
  rfl

/-- A candidate whose note waits in another entry stays (R97 step 1). -/
theorem decideCandidate_twin {k : Candidate} {d : Dest} (hd : findDest k.serial k.dest s.notes.entries = some d) (sent : d.flag = .sent)
    (twin : TwinQueued s k d) : decideCandidate k s = (s, none) := by
  rw [← twinQueued_iff] at twin
  unfold decideCandidate
  rw [hd]
  simp only [sent, twin]
  rfl

theorem serveKeyOffs_waiting : ∀ {cs : List Candidate}, (∀ k ∈ cs, decideCandidate k s = (s, none)) → serveKeyOffs cs s = (s, none)
  | [], _ => rfl
  | k :: cs, h => by
    rw [serveKeyOffs, h k List.mem_cons_self]
    exact serveKeyOffs_waiting fun x hx => h x (List.mem_cons_of_mem _ hx)

theorem serveKeyOns_first {k : KeyOnItem} {ks : List KeyOnItem} {d : Dest} (h : s.layer.keyOns = k :: ks) (hd : s.itemDest k = some d)
    (ready : (s.module d.module).mode = .ready) : serveKeyOns s =
      (flagDest k.entry k.dest .sent { s with layer := { s.layer with keyOns := ks } },
        some ⟨some d.module, .keyOn d.channel d.key k.velocity, false, false⟩) := by
  have judged : KeyOnItem.verdict s k = .send := by
    rw [KeyOnItem.verdict, hd]
    show (s.module d.module).mode.keyOnVerdict = .send
    rw [ready]
    rfl
  unfold serveKeyOns
  rw [h, scanQueue, judged]
  dsimp only
  rw [hd]
  rfl

theorem serveControls_first {c : ControlItem} {cs : List ControlItem} (h : s.layer.controls = c :: cs)
    (ready : (s.module c.module).mode = .ready) : serveControls s =
      ({ s with layer := { s.layer with controls := cs } }, some ⟨some c.module, c.message, false, false⟩) := by
  have judged : (s.module c.module).mode.waitVerdict = .send := by rw [ready]; rfl
  unfold serveControls
  rw [h, scanQueue]
  simp only [judged]
  rfl

/-- The first filled level slot, its module being READY. -/
theorem scanLevels_first {mode : ModuleId → ModuleMode} {z : Zone} {n : Nat} : ∀ {i : Nat} {zs : List Zone} {ls : List (Option Nat)},
    zs[i]? = some z → ls[i]? = some (some n) → (∀ j < i, ls[j]? = some none) → mode z.module = .ready →
    scanLevels mode zs ls = ⟨ls.set i none, some (z, n), []⟩
  | 0, z' :: zs, l :: ls, hz, hl, _, ready => by
    obtain rfl : z' = z := by simpa using hz
    obtain rfl : l = some n := by simpa using hl
    rw [scanLevels, ready]
    rfl
  | i + 1, z' :: zs, l :: ls, hz, hl, before, ready => by
    obtain rfl : l = none := by simpa using before 0 (Nat.succ_pos i)
    have rest := scanLevels_first (i := i) (zs := zs) (ls := ls) (by simpa using hz) (by simpa using hl)
      (fun j hj => by simpa using before (j + 1) (Nat.succ_lt_succ hj)) ready
    rw [scanLevels, rest]
    rfl
  | _, [], _, hz, _, _, _ => by simp at hz
  | _, _ :: _, [], _, hl, _, _ => by simp at hl

theorem serveLevels_first {i : Nat} {z : Zone} {n : Nat} (hz : s.activeBank.zones[i]? = some z) (hl : s.layer.levels[i]? = some (some n))
    (before : ∀ j < i, s.layer.levels[j]? = some none) (ready : (s.module z.module).mode = .ready) : serveLevels s =
      ({ s with layer := { s.layer with levels := s.layer.levels.set i none } }, some ⟨some z.module, .level z.channel n, false, false⟩) := by
  unfold serveLevels
  rw [scanLevels_first (mode := fun m => (s.module m).mode) hz hl before ready]
  rfl

/-- LIVE's choice begins. -/
theorem liveServed (h : Awaits s w) (next : s.LiveNext) {c : Choice} (hc : serveLive w = (v, some c)) (left : c.takeLeft = false)
    (same : SameBut (.timebase :: lineParts) (arbitrate w) t) (hv : SameBut arbiterParts w v) (hb : v.bus.selection = w.bus.selection) :
    Begins c.target c.message w.now s t ∧ t.notes = v.notes ∧ t.layer = v.layer := by
  have chosen : choose w = (v, some c) := (choose_live (h.liveNext next) (by rw [hc]; rfl)).trans hc
  have begun := arbitrate_begun h.free chosen left
  rw [begun] at same
  have begins := h.begins c.target c.message c.fromTake hb (hv.at .setup) (congrArg Timebase.count (hv.at .timebase))
  have bus := same.at .bus
  exact ⟨begins.kept (congrArg Bus.selection bus) (congrArg Bus.transmission bus), same.at .notes, same.at .layer⟩

theorem Awaits.twinQueued (h : Awaits s w) {k : Candidate} {d : Dest} : TwinQueued w k d ↔ TwinQueued s k d := by
  rw [TwinQueued, TwinQueued, h.notes]

theorem Awaits.stillHeld (h : Awaits s w) {k : Candidate} {d : Dest} : StillHeld w k d ↔ StillHeld s k d := by
  rw [StillHeld, StillHeld, h.notes]

theorem keyOffServed (h : Awaits s w) (next : s.LiveNext) (same : SameBut (.timebase :: lineParts) (arbitrate w) t) {k : Candidate}
    {ks : List Candidate} {d : Dest} (hk : s.notes.candidates = k :: ks) (hd : findDest k.serial k.dest s.notes.entries = some d)
    (sent : d.flag = .sent) (twin : ¬ TwinQueued s k d) (held : ¬ StillHeld s k d) (ready : (s.module d.module).mode = .ready) :
    Begins (some d.module) (.keyOff d.channel d.key) w.now s t ∧
      t.notes.entries = changedDest k.serial k.dest (fun d => { d with ended := true }) s.notes.entries := by
  have decides := decideCandidate_sends (s := w) (by rw [h.notes]; exact hd) sent (fun x => twin (h.twinQueued.1 x))
    (fun x => held (h.stillHeld.1 x)) (by rw [h.modules]; exact ready)
  have serves : serveLive w = (endDest k.serial k.dest w, some ⟨some d.module, .keyOff d.channel d.key, false, false⟩) := by
    rw [serveLive, h.notes, hk, serveKeyOffs, decides]
    rfl
  have frame := endDest_frame k.serial k.dest w
  obtain ⟨begins, notes, -⟩ := liveServed h next serves rfl same frame.mono (congrArg Bus.selection (frame.at .bus))
  exact ⟨begins, by rw [notes, endDest_entries, h.notes]⟩

theorem keyOnServed (h : Awaits s w) (next : s.LiveNext) (same : SameBut (.timebase :: lineParts) (arbitrate w) t) {q : KeyOnItem}
    {qs : List KeyOnItem} {d : Dest}
    (waiting : ∀ k ∈ s.notes.candidates, ∃ x, findDest k.serial k.dest s.notes.entries = some x ∧ x.flag = .sent ∧ TwinQueued s k x)
    (hq : s.layer.keyOns = q :: qs) (hd : findDest q.entry q.dest s.notes.entries = some d) (ready : (s.module d.module).mode = .ready) :
    Begins (some d.module) (.keyOn d.channel d.key q.velocity) w.now s t ∧ t.layer.keyOns = qs ∧
      t.notes.entries = s.notes.entries.map (fun e =>
        if e.serial = q.entry then { e with dests := e.dests.modify q.dest (fun d => { d with flag := .sent }) } else e) := by
  have wait : serveKeyOffs w.notes.candidates w = (w, none) := serveKeyOffs_waiting fun k hk => by
    rw [h.notes] at hk
    obtain ⟨x, hx, sent, twin⟩ := waiting k hk
    exact decideCandidate_twin (by rw [h.notes]; exact hx) sent (h.twinQueued.2 twin)
  have first := serveKeyOns_first (s := w) (h.layer ▸ hq) (by rw [State.itemDest, h.notes]; exact hd) (by rw [h.modules]; exact ready)
  have keys : serveLive w = serveKeyOns w := by
    rw [serveLive, wait, orElseServe_none]
    exact orElseServe_some (by rw [first]; rfl)
  have serves := keys.trans first
  have frame : SameBut [.layer, .notes] w (flagDest q.entry q.dest .sent { w with layer := { w.layer with keyOns := qs } }) :=
    (layerUpdate_frame w _).chain (flagDest_frame _ _ _ _)
  obtain ⟨begins, notes, layer⟩ := liveServed h next serves rfl same frame.mono (congrArg Bus.selection (frame.at .bus))
  refine ⟨begins, by rw [layer]; rfl, ?_⟩
  rw [notes, ← h.notes]
  exact updateDest_eq _ _ _ _

theorem liveServes (h : Awaits s w) (next : s.LiveNext) (same : SameBut (.timebase :: lineParts) (arbitrate w) t) : LiveServes w.now s t := by
  refine ⟨fun k ks d hk hd sent twin held ready => keyOffServed h next same hk hd sent twin held ready,
    fun q qs d waiting hq hd ready => keyOnServed h next same waiting hq hd ready, fun candidates keyOns => ?_⟩
  have offs : serveKeyOffs w.notes.candidates w = (w, none) := serveKeyOffs_empty (by rw [h.notes]; exact candidates)
  have ons : serveKeyOns w = (w, none) := serveKeyOns_empty (by rw [h.layer]; exact keyOns)
  refine ⟨fun c cs hc ready => ?_, fun i z n controls hz hl before ready => ?_⟩
  · have first := serveControls_first (s := w) (h.layer ▸ hc) (by rw [h.modules]; exact ready)
    have control : serveLive w = serveControls w := by
      rw [serveLive, offs, orElseServe_none, ons, orElseServe_none]
      exact orElseServe_some (by rw [first]; rfl)
    have serves := control.trans first
    obtain ⟨begins, -, layer⟩ := liveServed h next serves rfl same (layerUpdate_frame w _).mono rfl
    exact ⟨by rw [layer], begins⟩
  · have first := serveLevels_first (s := w) (by rw [h.activeBank]; exact hz) (by rw [h.layer]; exact hl)
      (by rw [h.layer]; exact before) (by rw [h.modules]; exact ready)
    have level : serveLive w = serveLevels w := by
      rw [serveLive, offs, orElseServe_none, ons, orElseServe_none, serveControls_empty (by rw [h.layer]; exact controls), orElseServe_none]
    have serves := level.trans first
    obtain ⟨begins, -, layer⟩ := liveServed h next serves rfl same (layerUpdate_frame w _).mono rfl
    exact ⟨by rw [layer, h.layer], begins⟩

/-! ## A candidate that sends nothing (R96, R97) -/

theorem changedDest_releasing {serial i : Nat} {f : Dest → Dest} {es : List Entry} {e : Entry} (h : e ∈ changedDest serial i f es) :
    ∃ e₀ ∈ es, e.serial = e₀.serial ∧ e.releasing = e₀.releasing ∧
      (e.serial = serial → e.dests = e₀.dests.modify i f) ∧ (e.serial ≠ serial → e.dests = e₀.dests) := by
  obtain ⟨mapped, -⟩ := List.mem_filter.1 h
  obtain ⟨e₀, mem, rfl⟩ := List.mem_map.1 mapped
  refine ⟨e₀, mem, ?_⟩
  split
  · next same => exact ⟨rfl, rfl, fun _ => rfl, fun ne => absurd same ne⟩
  · next ne => exact ⟨rfl, rfl, fun same => absurd same ne, fun _ => rfl⟩

/-- When the only candidate has ended, none is left. -/
theorem candidates_ended {n n' : Notes} {k : Candidate} {f : Dest → Dest} (h : n.candidates = [k]) (hf : ∀ d, (f d).ended = true)
    (hn : n'.entries = changedDest k.serial k.dest f n.entries) : n'.candidates = [] := by
  refine List.eq_nil_iff_forall_not_mem.2 fun c hc => ?_
  obtain ⟨e, he, releasing, serial, d, hd, live⟩ := mem_candidates.1 hc
  rw [hn] at he
  obtain ⟨e₀, mem, serial₀, releasing₀, changed, same⟩ := changedDest_releasing he
  have only (hd₀ : e₀.dests[c.dest]? = some d) : c = k := by
    have old : c ∈ n.candidates := mem_candidates.2 ⟨e₀, mem, releasing₀ ▸ releasing, serial₀ ▸ serial, d, hd₀, live⟩
    rw [h] at old
    exact List.mem_singleton.1 old
  by_cases own : e.serial = k.serial
  · rw [changed own, List.getElem?_modify] at hd
    by_cases here : k.dest = c.dest
    · obtain ⟨d₀, -, rfl⟩ := Option.map_eq_some_iff.1 hd
      rw [if_pos here, hf] at live
      cases live
    · obtain ⟨d₀, hd₀, rfl⟩ := Option.map_eq_some_iff.1 hd
      rw [if_neg here] at only
      exact here (congrArg Candidate.dest (only hd₀)).symm
  · rw [same own] at hd
    exact own (serial.trans (congrArg Candidate.serial (only hd)))

/-- Nothing but keys waits, and the candidate yields nothing. -/
theorem choose_keys (h : Awaits s w) (only : s.OnlyKeys) {k : Candidate} (hk : s.notes.candidates = [k])
    (decides : decideCandidate k w = (v, none)) (hv : SameBut (.notes :: [.banks, .seq, .store, .layer]) w v)
    (keyOns : v.layer.keyOns = []) (others : v.layer.controls = w.layer.controls ∧ v.layer.levels = w.layer.levels) :
    choose w = (v, none) := by
  obtain ⟨controls, levels, realtime, pending, pass⟩ := only
  have bus : v.bus = w.bus := hv.at .bus
  have offs : serveKeyOffs w.notes.candidates w = (v, none) := by
    rw [h.notes, hk, serveKeyOffs, decides]
    rfl
  have live : serveLive w = (v, none) := by
    rw [serveLive, offs, orElseServe_none, serveKeyOns_empty keyOns, orElseServe_none,
      serveControls_empty (by rw [others.1, h.layer]; exact controls), orElseServe_none,
      serveLevels_empty (by rw [others.2, h.layer]; exact levels)]
  have changeW := serveChange_empty (s := w) (h.pending.trans pending)
  have passW := servePass_empty (s := w) (h.pass.trans pass)
  have changeV := serveChange_empty (s := v) (by rw [bus, h.pending]; exact pending)
  have passV := servePass_empty (s := v) (by rw [bus, h.pass]; exact pass)
  rw [choose_classes (h.realtime.trans realtime)]
  unfold serveClasses
  split <;> simp only [live, changeW, passW, changeV, passV, orElseServe_none]

theorem decideCandidate_ends {k : Candidate} {d : Dest} (hd : findDest k.serial k.dest s.notes.entries = some d) (sent : d.flag = .sent)
    (twin : ¬ TwinQueued s k d) (h : StillHeld s k d ∨ (s.module d.module).mode = .stalled ∨ (s.module d.module).mode = .disabled) :
    decideCandidate k s = (endDest k.serial k.dest s, none) := by
  rw [← twinQueued_iff] at twin
  rw [← stillHeld_iff] at h
  unfold decideCandidate
  rw [hd]
  simp only [sent, twin]
  by_cases held : s.notes.stillHeld k.serial d = true
  · simp [held]
  · rcases h with h | h | h
    · exact absurd h held
    all_goals simp [held, h]

theorem decideCandidate_waits {k : Candidate} {d : Dest} (hd : findDest k.serial k.dest s.notes.entries = some d) (sent : d.flag = .sent)
    (twin : ¬ TwinQueued s k d) (held : ¬ StillHeld s k d) (loading : (s.module d.module).mode = .loading) :
    decideCandidate k s = (s, none) := by
  rw [← twinQueued_iff] at twin
  rw [← stillHeld_iff] at held
  unfold decideCandidate
  rw [hd]
  simp [sent, twin, held, loading]

theorem decideCandidate_cancels {k : Candidate} {d : Dest} (hd : findDest k.serial k.dest s.notes.entries = some d) (queued : d.flag = .queued) :
    decideCandidate k s = (cancelKeyOn k s, none) := by
  unfold decideCandidate
  rw [hd]
  simp only [queued]

/-- Two changes of a destination, one after the other. -/
theorem updateDest_updateDest (serial i : Nat) (f g : Dest → Dest) (es : List Entry) :
    updateDest serial i g (updateDest serial i f es) = updateDest serial i (fun d => g (f d)) es := by
  unfold updateDest
  rw [List.map_map]
  refine List.map_congr_left fun e _ => ?_
  by_cases h : (e.serial == serial) = true
  · have twice : (e.dests.modify i f).modify i g = e.dests.modify i (fun d => g (f d)) := by
      refine List.ext_getElem? fun j => ?_
      simp only [List.getElem?_modify]
      cases e.dests[j]? <;> by_cases here : i = j <;> simp [here]
    simp only [Function.comp_apply, if_pos h]
    rw [twice]
  · simp only [Function.comp_apply, if_neg h]

theorem cancelKeyOn_entries (k : Candidate) (s : State) : (cancelKeyOn k s).notes.entries =
    changedDest k.serial k.dest (fun d => { d with flag := .dropped, ended := true }) s.notes.entries := by
  unfold cancelKeyOn
  rw [endDest_notes]
  show List.filter _ (updateDest _ _ _ (updateDest _ _ _ s.notes.entries)) = _
  rw [updateDest_updateDest, changedDest, ← updateDest_eq]
  rfl

theorem cancelKeyOn_keyOns (k : Candidate) (s : State) : (cancelKeyOn k s).layer = { s.layer with
    keyOns := s.layer.keyOns.filter (fun x => !(x.entry == k.serial && x.dest == k.dest)) } := (endDest_frame _ _ _).at .layer

/-- The look ends with the candidate, nothing else waiting. -/
theorem keysEnded (h : Awaits s w) (only : s.OnlyKeys) (same : SameBut (.timebase :: lineParts) (arbitrate w) t) {k : Candidate}
    (hk : s.notes.candidates = [k]) (decides : decideCandidate k w = (v, none)) (hv : SameBut (.notes :: [.banks, .seq, .store, .layer]) w v)
    (keyOns : v.layer.keyOns = []) (others : v.layer.controls = w.layer.controls ∧ v.layer.levels = w.layer.levels) {f : Dest → Dest}
    (hf : ∀ d, (f d).ended = true) (entries : v.notes.entries = changedDest k.serial k.dest f s.notes.entries) :
    t.bus.transmission = none ∧ t.layer.keyOns = [] ∧ t.notes.entries = changedDest k.serial k.dest f s.notes.entries := by
  have chosen := choose_keys h only hk decides hv keyOns others
  have bus : v.bus = w.bus := hv.at .bus
  obtain ⟨controls, levels, realtime, pending, pass⟩ := only
  have nothing : v.NothingWaits :=
    { candidates := candidates_ended hk hf entries
      keyOns := keyOns
      controls := by rw [others.1, h.layer]; exact controls
      levels := by rw [others.2, h.layer]; exact levels
      realtime := by rw [bus, h.realtime]; exact realtime
      pending := by rw [bus, h.pending]; exact pending
      pass := by rw [bus, h.pass]; exact pass }
  have drained := arbitrate_drained h.free chosen (choose_nothing nothing)
  rw [drained] at same
  rw [show t.bus = v.bus from same.at .bus, show t.layer = v.layer from same.at .layer, show t.notes = v.notes from same.at .notes, bus]
  exact ⟨h.free.idle, keyOns, entries⟩

theorem keyOffEnds (h : Awaits s w) (only : s.OnlyKeys) (same : SameBut (.timebase :: lineParts) (arbitrate w) t) : KeyOffEnds s t := by
  intro k d hk hd
  have found : findDest k.serial k.dest w.notes.entries = some d := by rw [h.notes]; exact hd
  refine ⟨fun queued q hq entry dest => ?_, fun sent keyOns twin => ⟨fun ends => ?_, fun held loading => ?_⟩⟩
  · have layer := cancelKeyOn_keyOns k w
    have frame : SameBut (.notes :: [.banks, .seq, .store, .layer]) w (cancelKeyOn k w) :=
      ((layerUpdate_frame w _).chain (flagDest_frame _ _ _ _) (rs := [.layer, .notes])).chain (endDest_frame _ _ _)
    refine keysEnded h only same hk (decideCandidate_cancels found queued) frame ?_ (by rw [layer]; exact ⟨rfl, rfl⟩) (fun _ => rfl) ?_
    · rw [layer, h.layer]
      simp [hq, entry, dest]
    · rw [cancelKeyOn_entries, h.notes]
  · have frame : SameBut (.notes :: [.banks, .seq, .store, .layer]) w (endDest k.serial k.dest w) := (endDest_frame _ _ w).mono
    have layer : (endDest k.serial k.dest w).layer = w.layer := (endDest_frame k.serial k.dest w).at .layer
    have decides := decideCandidate_ends found sent (fun x => twin (h.twinQueued.1 x)) (by
      rw [h.modules]
      exact ends.imp_left h.stillHeld.2)
    obtain ⟨idle, -, entries⟩ := keysEnded (f := fun d => { d with ended := true }) h only same hk decides frame
      (by rw [layer, h.layer]; exact keyOns) (by rw [layer]; exact ⟨rfl, rfl⟩) (fun _ => rfl) (by rw [endDest_entries, h.notes])
    exact ⟨idle, entries⟩
  · have decides := decideCandidate_waits found sent (fun x => twin (h.twinQueued.1 x)) (fun x => held (h.stillHeld.1 x))
      (by rw [h.modules]; exact loading)
    have still := choose_keys h only hk decides (.refl _ w) (by rw [h.layer]; exact keyOns) ⟨rfl, rfl⟩
    rw [arbitrate_still h.free still] at same
    exact ⟨(congrArg Bus.transmission (same.at .bus)).trans h.free.idle, (same.at .notes).trans h.notes⟩

end Sys2Proof.Machine
end

section
/-! PROOF. What the arbiter drops and keeps where no module is READY (Table 7-6), and the end of a transmission (O39). -/

namespace Sys2Proof.Machine

variable {s t u v w : State} {p q : Port} {m : ModuleId} {f g : ModuleId → Nat} {α : Type}

/-! ## Discards, counted (R123) -/

/-- A work has discarded `f m` items at each module `m`, and leaves the modules otherwise. -/
structure Drains (f : ModuleId → Nat) (s t : State) : Prop where
  modules : ∀ n, ∃ d, t.module n = { s.module n with discards := d }
  counts : ∀ n, (s.module n).discards ≤ 65535 → (t.module n).discards = min 65535 ((s.module n).discards + f n)

theorem Drains.mode (h : Drains f s t) (n : ModuleId) : (t.module n).mode = (s.module n).mode := by
  obtain ⟨d, hd⟩ := h.modules n
  rw [hd]

theorem Drains.then (h : Drains f s t) (k : Drains g t u) : Drains (fun m => f m + g m) s u where
  modules n := by
    obtain ⟨d, hd⟩ := h.modules n
    obtain ⟨d', hd'⟩ := k.modules n
    exact ⟨d', by rw [hd', hd]⟩
  counts n few := by
    have first := h.counts n few
    have second := k.counts n (by rw [first]; exact Nat.min_le_left _ _)
    rw [second, first]
    omega

theorem Drains.congr (h : Drains f s t) (same : ∀ n, f n = g n) : Drains g s t := ⟨h.modules, fun n few => by rw [← same]; exact h.counts n few⟩

/-- A work that leaves the modules discards nothing. -/
theorem Drains.none (h : t.bus.modules = s.bus.modules) : Drains (fun _ => 0) s t := by
  have module (n : ModuleId) : t.module n = s.module n := by rw [State.module, h]; rfl
  exact ⟨fun n => ⟨(s.module n).discards, module n⟩, fun n few => by rw [module, Nat.add_zero, Nat.min_eq_right few]⟩

theorem discard_drains (s : State) (m : ModuleId) : Drains (fun n => if n = m then 1 else 0) s (s.discard m) := by
  refine ⟨(discard_modulesStand s m).modules, fun n few => ?_⟩
  by_cases hn : n = m
  · subst hn
    rw [State.discard, State.setModule_module_same, saturate_min, if_pos rfl]
  · rw [State.discard, State.setModule_module_other _ _ hn, if_neg hn, Nat.add_zero, Nat.min_eq_right few]

theorem discardAll_drains : ∀ (ms : List ModuleId) (s : State), Drains (fun n => ms.count n) s (discardAll ms s)
  | [], s => .none rfl
  | m :: ms, s => ((discard_drains s m).then (discardAll_drains ms (s.discard m))).congr fun n => by
      rw [List.count_cons, Nat.add_comm]
      by_cases h : n = m
      · simp [h]
      · simp [h, Ne.symm h]

/-! ## A queue of which nothing is sent -/

theorem scanQueue_none {judge : α → Verdict} : ∀ {l : List α}, (∀ x ∈ l, judge x ≠ .send) →
    scanQueue judge l = ⟨l.filter (fun x => judge x == .wait), none, l.filter (fun x => judge x == .drop)⟩
  | [], _ => rfl
  | x :: l, h => by
    have rest := scanQueue_none fun y hy => h y (List.mem_cons_of_mem _ hy)
    rw [scanQueue, rest]
    cases hx : judge x with
    | send => exact absurd hx (h x List.mem_cons_self)
    | wait => simp [hx]
    | drop => simp [hx]

theorem scanQueue_waits {judge : α → Verdict} {l : List α} (h : ∀ x ∈ l, judge x = .wait) : scanQueue judge l = ⟨l, none, []⟩ := by
  rw [scanQueue_none fun x hx => by rw [h x hx]; decide, List.filter_eq_self.2 fun x hx => by rw [h x hx]; rfl,
    List.filter_eq_nil_iff.2 fun x hx => by rw [h x hx]; decide]

theorem waitVerdict_send {x : ModuleMode} (h : x ≠ .ready) : x.waitVerdict ≠ .send := by cases x <;> first | decide | exact absurd rfl h

theorem waitVerdict_wait (x : ModuleMode) : (x.waitVerdict == .wait) = (x == .loading) := by cases x <;> rfl

theorem waitVerdict_drop {x : ModuleMode} (h : x ≠ .ready) : (x.waitVerdict == .drop) = (x != .loading) := by
  cases x <;> first | rfl | exact absurd rfl h

/-- The items removed at a module are those for it, where it is not LOADING. -/
theorem removed_count {goes : α → Option ModuleId} {gone : α → Bool} {mode : ModuleId → ModuleMode} {l : List α}
    (h : ∀ x ∈ l, ∀ m, goes x = some m → gone x = (mode m != .loading)) (m : ModuleId) :
    ((l.filter gone).filterMap goes).count m = if mode m = .loading then 0 else l.countP (fun x => goes x == some m) := by
  induction l with
  | nil => simp
  | cons x l ih =>
    have rest := ih fun y hy => h y (List.mem_cons_of_mem _ hy)
    have own := h x List.mem_cons_self
    cases hx : goes x with
    | none =>
      have skipped : ((x :: l).filter gone).filterMap goes = (l.filter gone).filterMap goes := by
        rw [List.filter_cons]
        split
        · rw [List.filterMap_cons, hx]
        · rfl
      rw [skipped, rest, List.countP_cons_of_neg (by simp [hx])]
    | some n =>
      have judged := own n hx
      by_cases hn : n = m
      · subst hn
        by_cases loading : mode n = .loading
        · rw [List.filter_cons_of_neg (by simp [judged, loading]), rest, if_pos loading, if_pos loading]
        · rw [List.filter_cons_of_pos (by simp [judged, loading]), List.filterMap_cons, hx, List.count_cons_self, rest, if_neg loading, if_neg loading,
            List.countP_cons_of_pos (by simp [hx])]
      · rw [List.countP_cons_of_neg (by simp [hx, hn]), ← rest, List.filter_cons]
        split
        · rw [List.filterMap_cons, hx, List.count_cons_of_ne hn]
        · rfl

/-! ## REALTIME, the controller items and PASS -/

/-- No module is READY. -/
def State.NoneReady (s : State) : Prop := ∀ m, (s.module m).mode ≠ .ready

theorem Drains.noneReady (h : Drains f s t) (none : s.NoneReady) : t.NoneReady := fun m => by rw [h.mode]; exact none m

/-- The items of REALTIME that Table 7-6 keeps. -/
def State.keptClicks (s : State) : List RealtimeItem := s.bus.realtime.filter (fun r => match r with
  | .silence => true
  | .click i => (s.module i.module).mode == .loading)

/-- Whether an item of REALTIME is a click for a module. -/
def RealtimeItem.clicks (m : ModuleId) (r : RealtimeItem) : Bool := match r with | .silence => false | .click i => i.module == m

theorem serveRealtime_drains (none : s.NoneReady) (silent : RealtimeItem.silence ∉ s.bus.realtime) : ∃ v, serveRealtime s = (v, Option.none) ∧
    SameBut [.bus] s v ∧ (∃ ms, v.bus = { s.bus with realtime := s.keptClicks, modules := ms }) ∧
    Drains (fun m => if (s.module m).mode = .loading then 0 else s.bus.realtime.countP (RealtimeItem.clicks m)) s v := by
  have send : ∀ x ∈ s.bus.realtime, RealtimeItem.verdict s x ≠ .send := by
    intro x hx
    cases x with
    | silence => exact absurd hx silent
    | click i => exact waitVerdict_send (none i.module)
  have kept : s.bus.realtime.filter (fun x => RealtimeItem.verdict s x == .wait) = s.keptClicks := by
    refine List.filter_congr fun x hx => ?_
    cases x with
    | silence => exact absurd hx silent
    | click i => exact waitVerdict_wait _
  have serves : serveRealtime s = (discardAll ((s.bus.realtime.filter (fun x => RealtimeItem.verdict s x == .drop)).filterMap RealtimeItem.module?)
      { s with bus := { s.bus with realtime := s.keptClicks } }, Option.none) := by
    unfold serveRealtime
    rw [scanQueue_none send, kept]
  refine ⟨_, serves, (busUpdate_frame s _).then (discardAll_frame _ _), discardAll_bus _ _, ?_⟩
  refine (Drains.then (s := s) (t := { s with bus := { s.bus with realtime := s.keptClicks } }) (.none rfl) (discardAll_drains _ _)).congr fun m => ?_
  rw [Nat.zero_add, removed_count (mode := fun m => (s.module m).mode) fun x hx n hn => ?_]
  · congr 1
    refine List.countP_congr fun x _ => ?_
    cases x <;> simp [RealtimeItem.module?, RealtimeItem.clicks]
  · cases x with
    | silence => cases hn
    | click i =>
      obtain rfl := Option.some.inj hn
      exact waitVerdict_drop (none i.module)

theorem serveControls_drains (none : s.NoneReady) : ∃ v, serveControls s = (v, Option.none) ∧ SameBut [.layer, .bus] s v ∧
    v.layer = { s.layer with controls := s.layer.controls.filter (fun c => (s.module c.module).mode == .loading) } ∧
    (∃ ms, v.bus = { s.bus with modules := ms }) ∧
    Drains (fun m => if (s.module m).mode = .loading then 0 else s.layer.controls.countP (fun c => c.module == m)) s v := by
  set rest := s.layer.controls.filter (fun c => (s.module c.module).mode == .loading) with hrest
  have serves : serveControls s = (discardAll ((s.layer.controls.filter (fun c => (s.module c.module).mode.waitVerdict == .drop)).map (·.module))
      { s with layer := { s.layer with controls := rest } }, Option.none) := by
    unfold serveControls
    rw [scanQueue_none fun x _ => waitVerdict_send (none x.module)]
    simp only [waitVerdict_wait]
    rfl
  refine ⟨_, serves, (layerUpdate_frame s _).chain (discardAll_frame _ _), (discardAll_frame _ _).at .layer, discardAll_bus _ _, ?_⟩
  refine (Drains.then (s := s) (t := { s with layer := { s.layer with controls := rest } }) (.none rfl) (discardAll_drains _ _)).congr fun m => ?_
  rw [Nat.zero_add, ← List.filterMap_eq_map, removed_count (mode := fun m => (s.module m).mode) fun x _ n hn => ?_]
  · simp
  · obtain rfl := Option.some.inj hn
    exact waitVerdict_drop (none x.module)

theorem servePass_drains (none : s.NoneReady) : ∃ v, servePass s = (v, Option.none) ∧ SameBut [.bus] s v ∧
    (∃ ms, v.bus = { s.bus with pass := s.bus.pass.filter (fun i => (s.module i.module).mode == .loading), modules := ms }) ∧
    Drains (fun m => if (s.module m).mode = .loading then 0 else s.bus.pass.countP (fun i => i.module == m)) s v := by
  set rest := s.bus.pass.filter (fun i => (s.module i.module).mode == .loading) with hrest
  have serves : servePass s = (discardAll ((s.bus.pass.filter (fun i => (s.module i.module).mode.waitVerdict == .drop)).map (·.module))
      { s with bus := { s.bus with pass := rest } }, Option.none) := by
    unfold servePass
    rw [scanQueue_none fun x _ => waitVerdict_send (none x.module)]
    simp only [waitVerdict_wait]
    rfl
  refine ⟨_, serves, (busUpdate_frame s _).then (discardAll_frame _ _), discardAll_bus _ _, ?_⟩
  refine (Drains.then (s := s) (t := { s with bus := { s.bus with pass := rest } }) (.none rfl) (discardAll_drains _ _)).congr fun m => ?_
  rw [Nat.zero_add, ← List.filterMap_eq_map, removed_count (mode := fun m => (s.module m).mode) fun x _ n hn => ?_]
  · simp
  · obtain rfl := Option.some.inj hn
    exact waitVerdict_drop (none x.module)

/-! ## The level slots -/

theorem scanLevels_none {mode : ModuleId → ModuleMode} (none : ∀ m, mode m ≠ .ready) : ∀ (zs : List Zone) (ls : List (Option Nat)),
    (scanLevels mode zs ls).pick = Option.none ∧
    (∀ (i : Nat) (z : Zone), zs[i]? = some z → (scanLevels mode zs ls).levels[i]? =
      if mode z.module = .loading then ls[i]? else ls[i]?.map (fun _ => Option.none)) ∧
    ∀ m, (scanLevels mode zs ls).dropped.count m =
      if mode m = .loading then 0 else (zs.zip ls).countP (fun zl => zl.1.module == m && zl.2.isSome)
  | [], ls => by
    unfold scanLevels
    exact ⟨rfl, by simp, by simp⟩
  | z :: zs, [] => by
    unfold scanLevels
    exact ⟨rfl, by simp, by simp⟩
  | z :: zs, Option.none :: ls => by
    obtain ⟨pick, levels, dropped⟩ := scanLevels_none none zs ls
    rw [scanLevels]
    refine ⟨pick, fun i y hy => ?_, fun m => ?_⟩
    · cases i with
      | zero => simp
      | succ i => simpa using levels i y (by simpa using hy)
    · simpa using dropped m
  | z :: zs, some n :: ls => by
    obtain ⟨pick, levels, dropped⟩ := scanLevels_none none zs ls
    rw [scanLevels]
    cases hz : mode z.module with
    | ready => exact absurd hz (none _)
    | loading =>
      refine ⟨pick, fun i y hy => ?_, fun m => ?_⟩
      · cases i with
        | zero =>
          obtain rfl : z = y := by simpa using hy
          simp [hz, ModuleMode.waitVerdict]
        | succ i => simpa [ModuleMode.waitVerdict] using levels i y (by simpa using hy)
      · refine (dropped m).trans ?_
        by_cases hm : z.module = m
        · subst hm
          simp [hz]
        · simp [hm]
    | stalled | disabled =>
      refine ⟨pick, fun i y hy => ?_, fun m => ?_⟩
      · cases i with
        | zero =>
          obtain rfl : z = y := by simpa using hy
          simp [hz, ModuleMode.waitVerdict]
        | succ i => simpa [ModuleMode.waitVerdict] using levels i y (by simpa using hy)
      · show (z.module :: (scanLevels mode zs ls).dropped).count m = _
        rw [List.count_cons, dropped m]
        by_cases hm : z.module = m
        · subst hm
          simp [hz]
        · simp [hm]

/-- The level slots that Table 7-6 leaves where no module is READY. -/
def State.keptLevels (s : State) : List (Option Nat) := (scanLevels (fun m => (s.module m).mode) s.activeBank.zones s.layer.levels).levels

theorem serveLevels_drains (none : s.NoneReady) : ∃ v, serveLevels s = (v, Option.none) ∧ SameBut [.layer, .bus] s v ∧
    v.layer = { s.layer with levels := s.keptLevels } ∧ (∃ ms, v.bus = { s.bus with modules := ms }) ∧
    Drains (fun m => if (s.module m).mode = .loading then 0 else
      (s.activeBank.zones.zip s.layer.levels).countP (fun zl => zl.1.module == m && zl.2.isSome)) s v := by
  obtain ⟨pick, -, dropped⟩ := scanLevels_none (mode := fun m => (s.module m).mode) none s.activeBank.zones s.layer.levels
  have serves : serveLevels s = (discardAll (scanLevels (fun m => (s.module m).mode) s.activeBank.zones s.layer.levels).dropped
      { s with layer := { s.layer with levels := s.keptLevels } }, Option.none) := by
    unfold serveLevels
    dsimp only
    rw [pick]
    rfl
  refine ⟨_, serves, (layerUpdate_frame s _).chain (discardAll_frame _ _), (discardAll_frame _ _).at .layer, discardAll_bus _ _, ?_⟩
  exact (Drains.then (s := s) (t := { s with layer := { s.layer with levels := s.keptLevels } }) (.none rfl) (discardAll_drains _ _)).congr
    fun m => (Nat.zero_add _).trans (dropped m)

/-! ## The key-on items -/

theorem findDest_updateDest (n i n' i' : Nat) (f : Dest → Dest) (es : List Entry) : findDest n i (updateDest n' i' f es) =
    (findDest n i es).map (fun d => if n' = n ∧ i' = i then f d else d) := by
  have serials (e : Entry) : (if e.serial == n' then { e with dests := e.dests.modify i' f } else e).serial = e.serial := by split <;> rfl
  unfold findDest updateDest
  rw [List.find?_map]
  have pred : ((fun e : Entry => e.serial == n) ∘ fun e : Entry => if e.serial == n' then { e with dests := e.dests.modify i' f } else e) =
      fun e => e.serial == n := funext fun e => congrArg (· == n) (serials e)
  rw [pred]
  cases found : es.find? (fun e => e.serial == n) with
  | none => rfl
  | some e =>
    have serial : e.serial = n := by simpa using List.find?_some found
    simp only [Option.map_some]
    by_cases own : n' = n
    · rw [if_pos (by simp [serial, own]), List.getElem?_modify]
      by_cases here : i' = i
      · simp [own, here]
      · simp [here]
    · rw [if_neg (by simp [serial, Ne.symm own])]
      simp [own]

/-- The destination as dropping the key-on items of a list leaves it. -/
def Dest.droppedBy (ks : List KeyOnItem) (n i : Nat) (d : Dest) : Dest :=
  if ks.any (fun k => k.entry == n && k.dest == i) then { d with flag := .dropped } else d

theorem dropKeyOn_find (n i : Nat) (s : State) (k : KeyOnItem) : findDest n i (dropKeyOn s k).notes.entries =
    (findDest n i s.notes.entries).map (Dest.droppedBy [k] n i) := by
  unfold dropKeyOn
  cases found : s.itemDest k with
  | none =>
    dsimp only
    cases here : findDest n i s.notes.entries with
    | none => rfl
    | some d =>
      have other : ¬ (k.entry = n ∧ k.dest = i) := by
        rintro ⟨rfl, rfl⟩
        rw [State.itemDest] at found
        rw [found] at here
        cases here
      simp [Dest.droppedBy, other]
  | some d =>
    refine (findDest_updateDest _ _ _ _ _ _).trans ?_
    congr 1
    funext d
    simp [Dest.droppedBy]

theorem dropKeyOns_find (n i : Nat) : ∀ (ks : List KeyOnItem) (s : State), findDest n i (ks.foldl dropKeyOn s).notes.entries =
    (findDest n i s.notes.entries).map (Dest.droppedBy ks n i)
  | [], s => by
    have still : Dest.droppedBy [] n i = id := rfl
    rw [still, Option.map_id]
    rfl
  | k :: ks, s => by
    rw [List.foldl_cons, dropKeyOns_find n i ks (dropKeyOn s k), dropKeyOn_find, Option.map_map]
    congr 1
    funext d
    simp only [Dest.droppedBy, Function.comp_apply, List.any_cons, List.any_nil, Bool.or_false]
    by_cases first : (k.entry == n && k.dest == i) = true <;> by_cases rest : ks.any (fun k => k.entry == n && k.dest == i) = true <;>
      simp [first, rest]

/-- Whether a key-on item goes to a module. -/
def KeyOnItem.goesTo (s : State) (m : ModuleId) (k : KeyOnItem) : Bool :=
  match findDest k.entry k.dest s.notes.entries with
  | some d => d.module == m
  | none => false

theorem dropKeyOn_goesTo (s : State) (k x : KeyOnItem) (m : ModuleId) : x.goesTo (dropKeyOn s k) m = x.goesTo s m := by
  unfold KeyOnItem.goesTo
  rw [dropKeyOn_find]
  cases findDest x.entry x.dest s.notes.entries with
  | none => rfl
  | some d =>
    simp only [Option.map_some, Dest.droppedBy]
    split <;> rfl

theorem dropKeyOn_drains (s : State) (k : KeyOnItem) : Drains (fun m => (k.goesTo s m).toNat) s (dropKeyOn s k) := by
  unfold dropKeyOn
  cases found : s.itemDest k with
  | none =>
    refine (Drains.none rfl).congr fun m => ?_
    rw [State.itemDest] at found
    rw [KeyOnItem.goesTo, found]
    rfl
  | some d =>
    have flagged : Drains (fun _ => 0) s (flagDest k.entry k.dest .dropped s) := .none rfl
    refine (flagged.then (discard_drains _ d.module)).congr fun m => ?_
    rw [State.itemDest] at found
    rw [KeyOnItem.goesTo, found, Nat.zero_add]
    by_cases h : m = d.module
    · simp [h]
    · have other : (d.module == m) = false := beq_eq_false_iff_ne.2 (Ne.symm h)
      simp [h, other]

theorem dropKeyOns_drains : ∀ (ks : List KeyOnItem) (s : State), Drains (fun m => ks.countP (KeyOnItem.goesTo s m)) s (ks.foldl dropKeyOn s)
  | [], s => .none rfl
  | k :: ks, s => ((dropKeyOn_drains s k).then (dropKeyOns_drains ks (dropKeyOn s k))).congr fun m => by
      have same : KeyOnItem.goesTo (dropKeyOn s k) m = KeyOnItem.goesTo s m := funext fun x => dropKeyOn_goesTo s k x m
      rw [same, List.countP_cons, Nat.add_comm]
      cases KeyOnItem.goesTo s m k <;> rfl

theorem dropKeyOn_frame' (s : State) (k : KeyOnItem) : SameBut [.notes, .bus] s (dropKeyOn s k) := by
  unfold dropKeyOn
  split
  · exact (flagDest_frame _ _ _ _).chain (discard_frame _ _)
  · exact .refl _ s

theorem dropKeyOns_bus : ∀ (ks : List KeyOnItem) (s : State), ∃ ms, (ks.foldl dropKeyOn s).bus = { s.bus with modules := ms }
  | [], s => ⟨s.bus.modules, rfl⟩
  | k :: ks, s => by
    obtain ⟨ms, h⟩ := dropKeyOns_bus ks (dropKeyOn s k)
    have first : ∃ ms, (dropKeyOn s k).bus = { s.bus with modules := ms } := by
      unfold dropKeyOn
      split
      · exact ⟨_, rfl⟩
      · exact ⟨s.bus.modules, rfl⟩
    obtain ⟨ms', h'⟩ := first
    exact ⟨ms, by rw [List.foldl_cons, h, h']⟩

/-- A change of a flag leaves the table without candidates where it had none. -/
theorem flagDest_candidates {n i : Nat} {x : KeyOnFlag} (h : s.notes.candidates = []) : (flagDest n i x s).notes.candidates = [] := by
  refine List.eq_nil_iff_forall_not_mem.2 fun c hc => ?_
  obtain ⟨e, he, releasing, serial, d, hd, live⟩ := mem_candidates.1 hc
  obtain ⟨e₀, mem, rfl⟩ := List.mem_map.1 (show e ∈ updateDest n i (fun d => { d with flag := x }) s.notes.entries from he)
  have old : ∃ d, e₀.dests[c.dest]? = some d ∧ d.ended = false := by
    by_cases own : (e₀.serial == n) = true
    · rw [if_pos own, List.getElem?_modify] at hd
      obtain ⟨d₀, hd₀, rfl⟩ := Option.map_eq_some_iff.1 hd
      refine ⟨d₀, hd₀, ?_⟩
      split at live <;> exact live
    · rw [if_neg own] at hd
      exact ⟨d, hd, live⟩
  have mem' : c ∈ s.notes.candidates := by
    refine mem_candidates.2 ⟨e₀, mem, ?_, ?_, old⟩
    · split at releasing <;> exact releasing
    · split at serial <;> exact serial
  rw [h] at mem'
  cases mem'

theorem dropKeyOns_candidates : ∀ {ks : List KeyOnItem} {s : State}, s.notes.candidates = [] → (ks.foldl dropKeyOn s).notes.candidates = []
  | [], _, h => h
  | k :: ks, s, h => by
    refine dropKeyOns_candidates (ks := ks) ?_
    unfold dropKeyOn
    split
    · exact flagDest_candidates h
    · exact h

theorem serveKeyOns_drains (none : s.NoneReady) : ∃ v, serveKeyOns s = (v, Option.none) ∧ SameBut [.layer, .notes, .bus] s v ∧
    v.layer = { s.layer with keyOns := [] } ∧ (∃ ms, v.bus = { s.bus with modules := ms }) ∧
    (s.notes.candidates = [] → v.notes.candidates = []) ∧
    (∀ q ∈ s.layer.keyOns, ∀ d, findDest q.entry q.dest v.notes.entries = some d → d.flag = .dropped) ∧
    Drains (fun m => s.layer.keyOns.countP (KeyOnItem.goesTo s m)) s v := by
  have judged : ∀ x ∈ s.layer.keyOns, KeyOnItem.verdict s x = .drop := by
    intro x _
    unfold KeyOnItem.verdict
    split
    · next d _ =>
      have mode := none d.module
      cases h : (s.module d.module).mode <;> first | rfl | exact absurd h mode
    · rfl
  have emptied : scanQueue (KeyOnItem.verdict s) s.layer.keyOns = ⟨[], Option.none, s.layer.keyOns⟩ := by
    rw [scanQueue_none fun x hx => by rw [judged x hx]; decide, List.filter_eq_nil_iff.2 fun x hx => by rw [judged x hx]; decide,
      List.filter_eq_self.2 fun x hx => by rw [judged x hx]; rfl]
  have serves : serveKeyOns s = (s.layer.keyOns.foldl dropKeyOn { s with layer := { s.layer with keyOns := [] } }, Option.none) := by
    unfold serveKeyOns
    rw [emptied]
  set x : State := { s with layer := { s.layer with keyOns := [] } }
  have frame : SameBut [.notes, .bus] x (s.layer.keyOns.foldl dropKeyOn x) := SameBut.foldl dropKeyOn_frame' _ _
  refine ⟨_, serves, (layerUpdate_frame s _).chain frame, frame.at .layer, dropKeyOns_bus _ _, fun h => dropKeyOns_candidates h, fun q hq d hd => ?_,
    (Drains.then (s := s) (t := x) (.none rfl) (dropKeyOns_drains _ _)).congr fun m => Nat.zero_add _⟩
  rw [dropKeyOns_find] at hd
  obtain ⟨d₀, -, rfl⟩ := Option.map_eq_some_iff.1 hd
  rw [Dest.droppedBy, if_pos (List.any_eq_true.2 ⟨q, hq, by simp⟩)]

/-! ## The three classes where no module is READY -/

/-- The controller items that Table 7-6 keeps. -/
def State.keptControls (s : State) : List ControlItem := s.layer.controls.filter (fun c => (s.module c.module).mode == .loading)

/-- The PASS items that Table 7-6 keeps. -/
def State.keptPass (s : State) : List Addressed := s.bus.pass.filter (fun i => (s.module i.module).mode == .loading)

/-- What LIVE removes at a module. -/
def State.liveRemoved (s : State) (m : ModuleId) : Nat := s.layer.keyOns.countP (KeyOnItem.goesTo s m) +
  if (s.module m).mode = .loading then 0 else
    s.layer.controls.countP (fun c => c.module == m) + (s.activeBank.zones.zip s.layer.levels).countP (fun zl => zl.1.module == m && zl.2.isSome)

/-- What PASS removes at a module. -/
def State.passRemoved (s : State) (m : ModuleId) : Nat := if (s.module m).mode = .loading then 0 else s.bus.pass.countP (fun i => i.module == m)

/-- LIVE from `s` to `v` where no module is READY and no key-off is due. -/
structure LiveDrained (s v : State) : Prop where
  frame : SameBut [.layer, .notes, .bus] s v
  layer : v.layer = { s.layer with keyOns := [], controls := s.keptControls, levels := s.keptLevels }
  bus : ∃ ms, v.bus = { s.bus with modules := ms }
  candidates : v.notes.candidates = []
  flags : ∀ q ∈ s.layer.keyOns, ∀ d, findDest q.entry q.dest v.notes.entries = some d → d.flag = .dropped
  drains : Drains s.liveRemoved s v

theorem keptControls_congr (hl : t.layer.controls = s.layer.controls) (hm : ∀ n, (t.module n).mode = (s.module n).mode) :
    t.keptControls = s.keptControls := by
  unfold State.keptControls
  rw [hl]
  exact List.filter_congr fun c _ => by rw [hm]

theorem keptLevels_congr (hl : t.layer.levels = s.layer.levels) (hb : t.banks = s.banks) (hm : ∀ n, (t.module n).mode = (s.module n).mode) :
    t.keptLevels = s.keptLevels := by
  unfold State.keptLevels
  rw [hl, activeBank_congr hb, show (fun m => (t.module m).mode) = fun m => (s.module m).mode from funext hm]

theorem serveLive_drained (none : s.NoneReady) (candidates : s.notes.candidates = []) : ∃ v, serveLive s = (v, Option.none) ∧ LiveDrained s v := by
  obtain ⟨x, servesX, frameX, layerX, ⟨msX, busX⟩, keepsX, flagsX, drainsX⟩ := serveKeyOns_drains none
  have noneX := drainsX.noneReady none
  obtain ⟨y, servesY, frameY, layerY, ⟨msY, busY⟩, drainsY⟩ := serveControls_drains noneX
  have noneY := drainsY.noneReady noneX
  obtain ⟨v, servesV, frameV, layerV, ⟨msV, busV⟩, drainsV⟩ := serveLevels_drains noneY
  have modesY (n : ModuleId) : (y.module n).mode = (s.module n).mode := (drainsY.mode n).trans (drainsX.mode n)
  have banksY : y.banks = s.banks := (frameY.at .banks).trans (frameX.at .banks)
  have notes : v.notes = x.notes := (frameV.at .notes).trans (frameY.at .notes)
  have controls : x.layer.controls.filter (fun c => (x.module c.module).mode == .loading) = s.keptControls :=
    keptControls_congr (t := x) (by rw [layerX]) drainsX.mode
  have levels : y.keptLevels = s.keptLevels := keptLevels_congr (by rw [layerY, layerX]) banksY modesY
  refine ⟨v, ?_, ?_, ?_, ⟨msV, by rw [busV, busY, busX]⟩, ?_, ?_, ?_⟩
  · rw [serveLive, candidates]
    simp only [serveKeyOffs, servesX, servesY, servesV, orElseServe_none]
  · exact (frameX.chain frameY (rs := [.layer, .notes, .bus])).chain frameV
  · rw [layerV, layerY, layerX, levels, controls.symm.trans (by rw [layerX])]
  · rw [notes]
    exact keepsX candidates
  · rw [notes]
    exact flagsX
  · refine ((drainsX.then drainsY).then drainsV).congr fun m => ?_
    rw [State.liveRemoved, drainsX.mode, modesY, layerY, layerX, activeBank_congr banksY]
    dsimp only
    split <;> omega

/-- PASS from `s` to `v` where no module is READY. -/
structure PassDrained (s v : State) : Prop where
  frame : SameBut [.bus] s v
  bus : ∃ ms, v.bus = { s.bus with pass := s.keptPass, modules := ms }
  drains : Drains s.passRemoved s v

theorem servePass_drained (none : s.NoneReady) : ∃ v, servePass s = (v, Option.none) ∧ PassDrained s v := by
  obtain ⟨v, serves, frame, bus, drains⟩ := servePass_drains none
  exact ⟨v, serves, frame, bus, drains⟩

theorem scanPending_none {mode : ModuleId → ModuleMode} (none : ∀ m, mode m ≠ .ready) : ∀ l : List PendingProgram, scanPending mode l = (l, Option.none)
  | [] => rfl
  | e :: es => by rw [scanPending, if_neg (none _), scanPending_none none es]

theorem serveChange_none (none : s.NoneReady) : serveChange s = (s, Option.none) := by
  unfold serveChange
  rw [scanPending_none none]

/-- LIVE and PASS, in whichever order, where no module is READY. -/
structure ClassesDrained (s v : State) : Prop where
  frame : SameBut [.layer, .notes, .bus] s v
  layer : v.layer = { s.layer with keyOns := [], controls := s.keptControls, levels := s.keptLevels }
  bus : ∃ ms, v.bus = { s.bus with pass := s.keptPass, modules := ms }
  candidates : v.notes.candidates = []
  flags : ∀ q ∈ s.layer.keyOns, ∀ d, findDest q.entry q.dest v.notes.entries = some d → d.flag = .dropped
  drains : Drains (fun m => s.liveRemoved m + s.passRemoved m) s v

theorem LiveDrained.thenPass (h : LiveDrained s t) (k : PassDrained t v) : ClassesDrained s v := by
  obtain ⟨ms, busT⟩ := h.bus
  obtain ⟨ms', busV⟩ := k.bus
  have pass : t.keptPass = s.keptPass := by
    unfold State.keptPass
    rw [busT]
    exact List.filter_congr fun i _ => by rw [h.drains.mode]
  have removed (m : ModuleId) : t.passRemoved m = s.passRemoved m := by
    unfold State.passRemoved
    rw [h.drains.mode, busT]
  have notes : v.notes = t.notes := k.frame.at .notes
  refine ⟨h.frame.chain k.frame, (k.frame.at .layer).trans h.layer, ⟨ms', by rw [busV, busT, pass]⟩, by rw [notes]; exact h.candidates,
    by rw [notes]; exact h.flags, (h.drains.then k.drains).congr fun m => by rw [removed]⟩

theorem PassDrained.thenLive (h : PassDrained s t) (k : LiveDrained t v) : ClassesDrained s v := by
  obtain ⟨ms, busT⟩ := h.bus
  obtain ⟨ms', busV⟩ := k.bus
  have layer : t.layer = s.layer := h.frame.at .layer
  have banks : t.banks = s.banks := h.frame.at .banks
  have notes : t.notes = s.notes := h.frame.at .notes
  have controls : t.keptControls = s.keptControls := keptControls_congr (by rw [layer]) h.drains.mode
  have levels : t.keptLevels = s.keptLevels := keptLevels_congr (by rw [layer]) banks h.drains.mode
  have removed (m : ModuleId) : t.liveRemoved m = s.liveRemoved m := by
    have goes : KeyOnItem.goesTo t m = KeyOnItem.goesTo s m := funext fun q => by rw [KeyOnItem.goesTo, KeyOnItem.goesTo, notes]
    unfold State.liveRemoved
    rw [h.drains.mode, layer, goes, activeBank_congr banks]
  refine ⟨h.frame.chain k.frame, by rw [k.layer, layer, controls, levels], ⟨ms', by rw [busV, busT]⟩, k.candidates,
    by rw [← layer]; exact k.flags, (h.drains.then k.drains).congr fun m => by rw [removed, Nat.add_comm]⟩

theorem serveClasses_drained (none : s.NoneReady) (candidates : s.notes.candidates = []) :
    ∃ v, serveClasses s = (v, Option.none) ∧ ClassesDrained s v := by
  have change := serveChange_none none
  obtain ⟨x, liveX, drainedX⟩ := serveLive_drained none candidates
  have noneX := drainedX.drains.noneReady none
  obtain ⟨x', passX, drainedX'⟩ := servePass_drained noneX
  obtain ⟨y, passY, drainedY⟩ := servePass_drained none
  have noneY := drainedY.drains.noneReady none
  obtain ⟨y', liveY, drainedY'⟩ := serveLive_drained noneY (by rw [show y.notes = s.notes from drainedY.frame.at .notes]; exact candidates)
  have changeX := serveChange_none noneX
  have changeX' := serveChange_none (drainedX'.drains.noneReady noneX)
  have changeY := serveChange_none noneY
  have changeY' := serveChange_none (drainedY'.drains.noneReady noneY)
  have livePass := drainedX.thenPass drainedX'
  have passLive := drainedY.thenLive drainedY'
  unfold serveClasses
  split <;> simp only [change, liveX, passX, passY, liveY, changeX, changeX', changeY, changeY', orElseServe_none]
  · exact ⟨_, rfl, livePass⟩
  · exact ⟨_, rfl, livePass⟩
  · exact ⟨_, rfl, passLive⟩
  · exact ⟨_, rfl, passLive⟩
  · exact ⟨_, rfl, passLive⟩
  · exact ⟨_, rfl, livePass⟩

/-! ## What is left waits -/

/-- What waits for the bus waits for a LOADING module. -/
structure State.AllWait (s : State) : Prop where
  noneReady : s.NoneReady
  candidates : s.notes.candidates = []
  keyOns : s.layer.keyOns = []
  realtime : ∀ r ∈ s.bus.realtime, RealtimeItem.verdict s r = .wait
  controls : ∀ c ∈ s.layer.controls, (s.module c.module).mode = .loading
  levels : ∀ (i : Nat) (z : Zone) (n : Nat), s.activeBank.zones[i]? = some z → s.layer.levels[i]? = some (some n) →
    (s.module z.module).mode = .loading
  pass : ∀ i ∈ s.bus.pass, (s.module i.module).mode = .loading

theorem scanLevels_waits {mode : ModuleId → ModuleMode} : ∀ {zs : List Zone} {ls : List (Option Nat)},
    (∀ (i : Nat) (z : Zone) (n : Nat), zs[i]? = some z → ls[i]? = some (some n) → mode z.module = .loading) → scanLevels mode zs ls = ⟨ls, none, []⟩
  | [], ls, _ => by unfold scanLevels; rfl
  | _ :: _, [], _ => rfl
  | z :: zs, o :: ls, h => by
    have rest := scanLevels_waits (zs := zs) (ls := ls) fun i y n hy hn => h (i + 1) y n (by simpa using hy) (by simpa using hn)
    cases o with
    | none => rw [scanLevels, rest]
    | some n =>
      rw [scanLevels, h 0 z n (by simp) (by simp), rest]
      rfl

theorem choose_allWait (h : s.AllWait) : choose s = (s, none) := by
  have realtime : serveRealtime s = (s, none) := by
    unfold serveRealtime
    rw [scanQueue_waits h.realtime]
    rfl
  have controls : serveControls s = (s, none) := by
    unfold serveControls
    rw [scanQueue_waits fun c hc => by rw [h.controls c hc]; rfl]
    rfl
  have levels : serveLevels s = (s, none) := by
    unfold serveLevels
    rw [scanLevels_waits h.levels]
    rfl
  have pass : servePass s = (s, none) := by
    unfold servePass
    rw [scanQueue_waits fun i hi => by rw [h.pass i hi]; rfl]
    rfl
  have live : serveLive s = (s, none) := by
    rw [serveLive, serveKeyOffs_empty h.candidates, orElseServe_none, serveKeyOns_empty h.keyOns, orElseServe_none, controls, orElseServe_none, levels]
  have change := serveChange_none h.noneReady
  rw [choose_eq, realtime, orElseServe_none]
  unfold serveClasses
  split <;> simp only [live, pass, change, orElseServe_none]

/-! ## The look where no module is READY -/

/-- REALTIME and the three classes, where no module is READY and neither a key-off is due nor a SILENCE waits. -/
structure AllDrained (s v : State) : Prop where
  layer : v.layer = { s.layer with keyOns := [], controls := s.keptControls, levels := s.keptLevels }
  bus : ∃ ms, v.bus = { s.bus with realtime := s.keptClicks, pass := s.keptPass, modules := ms }
  banks : v.banks = s.banks
  candidates : v.notes.candidates = []
  flags : ∀ q ∈ s.layer.keyOns, ∀ d, findDest q.entry q.dest v.notes.entries = some d → d.flag = .dropped
  drains : Drains (fun m => (if (s.module m).mode = .loading then 0 else s.bus.realtime.countP (RealtimeItem.clicks m)) +
    (s.liveRemoved m + s.passRemoved m)) s v

theorem choose_drained (none : s.NoneReady) (candidates : s.notes.candidates = []) (silent : RealtimeItem.silence ∉ s.bus.realtime) :
    ∃ v, choose s = (v, Option.none) ∧ AllDrained s v := by
  obtain ⟨x, servesX, frameX, ⟨msX, busX⟩, drainsX⟩ := serveRealtime_drains none silent
  have notes : x.notes = s.notes := frameX.at .notes
  have layer : x.layer = s.layer := frameX.at .layer
  have banks : x.banks = s.banks := frameX.at .banks
  obtain ⟨v, servesV, drained⟩ := serveClasses_drained (drainsX.noneReady none) (by rw [notes]; exact candidates)
  have controls : x.keptControls = s.keptControls := keptControls_congr (by rw [layer]) drainsX.mode
  have levels : x.keptLevels = s.keptLevels := keptLevels_congr (by rw [layer]) banks drainsX.mode
  have pass : x.keptPass = s.keptPass := by
    unfold State.keptPass
    rw [busX]
    exact List.filter_congr fun i _ => by rw [drainsX.mode]
  have live (m : ModuleId) : x.liveRemoved m = s.liveRemoved m := by
    have goes : KeyOnItem.goesTo x m = KeyOnItem.goesTo s m := funext fun q => by rw [KeyOnItem.goesTo, KeyOnItem.goesTo, notes]
    unfold State.liveRemoved
    rw [drainsX.mode, layer, goes, activeBank_congr banks]
  have passed (m : ModuleId) : x.passRemoved m = s.passRemoved m := by
    unfold State.passRemoved
    rw [drainsX.mode, busX]
  obtain ⟨ms, busV⟩ := drained.bus
  refine ⟨v, ?_, by rw [drained.layer, layer, controls, levels], ⟨ms, by rw [busV, busX, pass]⟩, (drained.frame.at .banks).trans banks,
    drained.candidates, by rw [← layer]; exact drained.flags, (drainsX.then drained.drains).congr fun m => by rw [live, passed]⟩
  rw [choose_eq, servesX, orElseServe_none, servesV]

theorem AllDrained.allWait (h : AllDrained s v) (none : s.NoneReady) (silent : RealtimeItem.silence ∉ s.bus.realtime) : v.AllWait := by
  obtain ⟨ms, bus⟩ := h.bus
  refine ⟨h.drains.noneReady none, h.candidates, by rw [h.layer], fun r hr => ?_, fun c hc => ?_, fun i z n hz hn => ?_, fun i hi => ?_⟩
  · rw [bus] at hr
    obtain ⟨mem, kept⟩ := List.mem_filter.1 hr
    cases r with
    | silence => exact absurd mem silent
    | click i =>
      show (v.module i.module).mode.waitVerdict = .wait
      rw [h.drains.mode, eq_of_beq kept]
      rfl
  · rw [h.layer] at hc
    rw [h.drains.mode]
    exact eq_of_beq (List.mem_filter.1 hc).2
  · rw [activeBank_congr h.banks] at hz
    rw [h.layer] at hn
    have kept := (scanLevels_none (mode := fun m => (s.module m).mode) none s.activeBank.zones s.layer.levels).2.1 i z hz
    rw [h.drains.mode]
    by_contra other
    rw [if_neg other] at kept
    rw [show s.keptLevels[i]? = _ from kept] at hn
    simp at hn
  · rw [bus] at hi
    rw [h.drains.mode]
    exact eq_of_beq (List.mem_filter.1 hi).2

/-- The discards of the collections, in the order in which they are removed and in the order of Section 7.3. -/
theorem removedSum (l : Prop) [Decidable l] (d r k c z i : Nat) :
    min 65535 (d + ((if l then 0 else r) + ((k + if l then 0 else c + z) + if l then 0 else i))) =
      min 65535 (d + k + if l then 0 else r + c + i + z) := by
  split <;> omega

theorem noneReady (h : Awaits s w) (same : SameBut (.timebase :: lineParts) (arbitrate w) t) : NoneReady s t := by
  intro unready candidates silent _
  have noneW : w.NoneReady := fun m => by rw [h.modules]; exact unready m
  obtain ⟨v, chosen, drained⟩ := choose_drained noneW (by rw [h.notes]; exact candidates) (by rw [h.realtime]; exact silent)
  have looks := arbitrate_drained h.free chosen (choose_allWait (drained.allWait noneW (by rw [h.realtime]; exact silent)))
  rw [looks] at same
  obtain ⟨ms, bus⟩ := drained.bus
  have busT : t.bus = v.bus := same.at .bus
  have layerT : t.layer = v.layer := same.at .layer
  have notesT : t.notes = v.notes := same.at .notes
  have modules (m : ModuleId) : t.module m = v.module m := by rw [State.module, busT]; rfl
  have active := h.activeBank
  rw [busT, layerT, notesT, drained.layer, bus]
  refine ⟨h.free.idle, h.pending, rfl, ?_, ?_, ?_, fun i z hz => ?_, fun q hq d hd => ?_, fun m few => ?_⟩
  · show w.keptClicks = _
    rw [State.keptClicks, h.realtime]
    refine List.filter_congr fun r _ => ?_
    cases r with
    | silence => rfl
    | click i => exact congrArg (fun x : ModuleState => x.mode == .loading) (h.modules _)
  · show w.keptControls = _
    rw [State.keptControls, h.layer]
    exact List.filter_congr fun c _ => by rw [h.modules]
  · show w.keptPass = _
    rw [State.keptPass, h.pass]
    exact List.filter_congr fun i _ => by rw [h.modules]
  · have kept := (scanLevels_none (mode := fun m => (w.module m).mode) noneW w.activeBank.zones w.layer.levels).2.1 i z (by rw [active]; exact hz)
    rw [h.modules, h.layer] at kept
    refine Eq.trans ?_ kept
    show w.keptLevels[i]? = _
    rw [State.keptLevels, h.layer]
  · exact drained.flags q (by rw [h.layer]; exact hq) d hd
  · have counted := drained.drains.counts m (by rw [h.modules]; exact few)
    have goes : KeyOnItem.goesTo w m = KeyOnItem.goesTo s m := funext fun q => by rw [KeyOnItem.goesTo, KeyOnItem.goesTo, h.notes]
    rw [State.liveRemoved, State.passRemoved, h.modules, h.layer, h.realtime, h.pass, active, goes] at counted
    rw [modules]
    exact counted.trans (removedSum _ _ _ _ _ _ _)

/-! ## The end of a transmission (R106, R111) -/

/-- Where nothing waits the bus stays idle. -/
theorem nothingSent {x : Transmission} (h : s.NothingWaits) (hs : s.resetting ≠ .silence) :
    arbitrate (endOfMessage x (s.atCount x.timer.due)) = endOfMessage x (s.atCount x.timer.due) := by
  have waits := endOfMessage_awaits x hs x.timer.due
  refine arbitrate_still waits.free (choose_nothing ⟨waits.liveEmpty h.toLiveEmpty, ?_, ?_, ?_⟩)
  · rw [waits.realtime]; exact h.realtime
  · rw [waits.pending]; exact h.pending
  · rw [waits.pass]; exact h.pass

/-- The end of a TAKE entry's message, and of any other. -/
theorem sentEnds (s : State) (x : Transmission) (hx : s.bus.transmission = some x) (hr : x.forRestart = false) (hs : s.resetting ≠ .silence) :
    ∃ t, exec .endOfTransmission s = .next t ∧ SameBut (arbiterParts ++ lineParts) (s.expired x.timer) t ∧
      (s.NothingWaits → t.bus = { s.bus with transmission := none, idleTimer := some ⟨x.timer.due, 100000⟩ } ∧
        t.seq = (if x.fromTake = true ∧ s.resetting = .none then { s.seq with settle := .running ⟨x.timer.due, 20000⟩ } else s.seq) ∧
        SameBut (.bus :: .seq :: lineParts) (s.expired x.timer) t) := by
  have closes := messageEnd_closes (s := s.atCount x.timer.due) x hs
  have ended := endOfMessage_frame' x (s.atCount x.timer.due)
  refine ⟨expireAt x.timer (messageEnd x) s, exec_endOfTransmission hx hr, expired_same ?_, fun h => ?_⟩
  · rw [closes]
    exact ended.chain ((arbitrate_frame _).chain (transmitAll_frame _) (rs := closeParts))
  · have sends : messageEnd x (s.atCount x.timer.due) = transmitAll (endOfMessage x (s.atCount x.timer.due)) := by
      rw [closes, close, nothingSent h hs]
    have same : SameBut (.timebase :: lineParts) (endOfMessage x (s.atCount x.timer.due)) (expireAt x.timer (messageEnd x) s) := by
      unfold expireAt
      rw [sends]
      split
      · exact (transmitAll_frame _).chain (atCount_frame _ _)
      · exact (transmitAll_frame _).mono
    refine ⟨(same.at .bus).trans (endOfMessage_bus x _), (same.at .seq).trans (endOfMessage_seq x _), expired_same ?_⟩
    rw [sends]
    exact ended.chain (transmitAll_frame _)

/-- Settles O39: the end of a transmission where nothing waits, REALTIME, CHANGE and PASS by the class order, LIVE, a key-off candidate that sends
nothing, Table 7-6, the pending program list, and the oldest release. -/
theorem transmissionEnds : Obligations.TransmissionEnds := by
  refine ⟨fun s x hx hr hs => ?_, fun s x hx hr hs => ?_, fun s x hx hr hs => ?_, candidates_oldest⟩
  · obtain ⟨t, runs, frame, still⟩ := sentEnds s x hx hr hs
    exact ⟨t, runs, frame, fun candidates keyOns controls levels realtime pending pass =>
      still ⟨⟨candidates, keyOns, controls, levels⟩, realtime, pending, pass⟩⟩
  · obtain ⟨t, runs, -, same, -⟩ := messageEnds hx hr hs
    have waits := endOfMessage_awaits x hs x.timer.due
    have now : (endOfMessage x (s.atCount x.timer.due)).now = x.timer.due := endOfMessage_now x _
    refine ⟨t, runs, fun i rest hq ready => ?_, fun e es i is realtime candidates keyOns controls levels pending pass preset kind re ri order => ?_⟩
    · have click := serveRealtime_click (s := endOfMessage x (s.atCount x.timer.due)) (waits.realtime.trans hq) (by rw [waits.modules]; exact ready)
      obtain ⟨left, begins⟩ := realtimeServed waits click (busUpdate_frame _ _) rfl
      rw [now] at begins
      have bus : t.bus = _ := same.at .bus
      exact ⟨(congrArg Bus.realtime bus).trans left, begins.kept (congrArg Bus.selection bus) (congrArg Bus.transmission bus)⟩
    · exact changeOrPass waits same ⟨candidates, keyOns, controls, levels⟩ realtime pending pass preset kind re ri order
  · obtain ⟨t, runs, -, same, -⟩ := messageEnds hx hr hs
    have waits := endOfMessage_awaits x hs x.timer.due
    have now : (endOfMessage x (s.atCount x.timer.due)).now = x.timer.due := endOfMessage_now x _
    have live := fun next => liveServes waits next same
    have change := changeServes waits (fun running => endOfMessage_settle (s := s.atCount x.timer.due) running) same
    rw [now] at live change
    refine ⟨t, runs, fun rest hq => ?_, live, fun only => keyOffEnds waits only same, noneReady waits same, change⟩
    have silence := serveRealtime_silence (s := endOfMessage x (s.atCount x.timer.due)) (waits.realtime.trans hq)
    obtain ⟨left, begins⟩ := realtimeServed waits silence (busUpdate_frame _ _) rfl
    rw [now] at begins
    have bus : t.bus = _ := same.at .bus
    exact ⟨(congrArg Bus.realtime bus).trans left, begins.kept (congrArg Bus.selection bus) (congrArg Bus.transmission bus)⟩

end Sys2Proof.Machine
end

section
/-! PROOF. The cue slot at a close with nothing for the arbiter to do, and the parser: the byte it takes (O32), note-offs and controller 64 (O33). -/

namespace Sys2Proof.Machine

variable {s t u v w x : State} {p q : Port} {m : ModuleId} {l : LinkId}

/-! ## A close where the arbiter has nothing to do -/

theorem arbitrate_nothing (h : s.NothingWaits) : arbitrate s = s := by
  by_cases free : s.BusFree
  · exact arbitrate_still free (choose_nothing h)
  · unfold arbitrate
    refine if_pos ?_
    rw [Bool.or_eq_true, beq_iff_eq]
    by_contra both
    rw [not_or] at both
    exact free ⟨by simpa using both.1, both.2⟩

/-- A work that leaves what waits for the bus leaves the arbiter nothing to do where it had nothing to do. -/
theorem arbitrate_quiet (h : s.Quiet) (bus : u.bus = s.bus) (notes : u.notes = s.notes) (layer : u.layer = s.layer) : arbitrate u = u := by
  rcases h with sending | ⟨candidates, keyOns, controls, levels, realtime, pending, pass, -⟩
  · exact arbitrate_busy u (by rw [bus]; exact sending)
  · refine arbitrate_nothing ⟨⟨?_, ?_, ?_, ?_⟩, ?_, ?_, ?_⟩
    · rw [notes]; exact candidates
    · rw [layer]; exact keyOns
    · rw [layer]; exact controls
    · rw [layer]; exact levels
    all_goals rw [bus]; assumption

theorem Ends.quiet (e : Ends u t) (h : s.Quiet) (bus : u.bus = s.bus) (notes : u.notes = s.notes) (layer : u.layer = s.layer) :
    SameBut (.timebase :: portParts) u t := by
  have looked := e.looked
  rw [arbitrate_quiet h bus notes layer, or_self] at looked
  exact looked

/-- An offer that is accepted, as the close of its event leaves it. -/
theorem offer_done {within : List Part → Prop} {c : Cue} (hw : c.state = .waiting) (yields : ∀ h, x.seq.cue = some h → Yields h c.origin)
    (k : Carries within x (offerCue c x).1 t) : within [.banks, .seq, .store] ∧ (x.Quiet → CueEnters within c x t) := by
  have frame : SameBut ([.banks, .seq, .store] ++ noticeParts) x (offerCue c x).1 := (offerCue_frame c x).mono
  have inFrame := k.still frame
  refine ⟨inFrame, fun quiet => cueEnters_of hw inFrame ?_ fun n hn => ?_⟩
  · have same := (k.ends.quiet quiet (frame.at .bus) (frame.at .notes) (frame.at .layer)).slotSame
    rw [offerCue_accepted yields] at same
    exact same
  · rw [offerCue_accepted yields] at k
    exact hn.tells k.ends

/-- A cancel of a cue that yields, as the close of its event leaves it. -/
theorem cancel_done {within : List Part → Prop} {h : Cue} {o : Origin} (hc : x.seq.cue = some h) (yields : Yields h o)
    (k : Carries within x (cancelCue o x).1 t) : within [.banks, .seq, .store] ∧ (x.Quiet → CueCancelled within o h x t) := by
  have frame : SameBut ([.banks, .seq, .store] ++ noticeParts) x (cancelCue o x).1 := (cancelCue_frame o x).mono
  have inFrame := k.still frame
  refine ⟨inFrame, fun quiet => cueCancelled_of hc inFrame ?_ fun n hn => ?_⟩
  · have same := (k.ends.quiet quiet (frame.at .bus) (frame.at .notes) (frame.at .layer)).slotSame
    rw [cancelCue_yields hc yields] at same
    exact same
  · rw [cancelCue_yields hc yields] at k
    exact hn.tells k.ends

/-! ## The byte the parser takes (R57, R61) -/

/-- The link as the parser finds it for the front byte of its FIFO. -/
def KeyLink.atByte (k : KeyLink) (f : FifoByte) (rest : List FifoByte) : KeyLink :=
  if f.gap then { k with fifo := rest, collected := none, running := none, commonLeft := 0, mode := .waitStatus } else { k with fifo := rest }

theorem takeByte_eq {f : FifoByte} {rest : List FifoByte} (he : (s.link l).event = none) (hf : (s.link l).fifo = f :: rest) :
    takeByte l s = parseByte l f.byte f.arrival (s.setLink l ((s.link l).atByte f rest)) := by
  unfold takeByte
  dsimp only
  split
  · next g gs _ hg =>
    obtain ⟨rfl, rfl⟩ := List.cons.inj (hf.symm.trans hg)
    rfl
  · next other => exact absurd hf (other f rest he)

theorem setLink_setLink (s : State) (l : LinkId) (a b : KeyLink) : (s.setLink l a).setLink l b = s.setLink l b := by
  simp [State.setLink, setAt]

/-- A work that changes the link alone, at its close. -/
theorem linkSet (s : State) (l : LinkId) (k : KeyLink) : Closed [.links] s (close (s.setLink l k)) ∧ (close (s.setLink l k)).link l = k ∧
    ∀ l', l' ≠ l → (close (s.setLink l k)).link l' = s.link l' := by
  have ends := close_ends (s.setLink l k)
  refine ⟨close_closed (setLink_frame s l k).mono rfl, ?_, fun l' hl => ?_⟩
  · rw [ends.link, State.setLink_link_same]
  · rw [ends.link, State.setLink_link_other _ _ hl]

/-! ## The sorts of a byte (R57, Table 12-6) -/

theorem linkByte_data {b : Byte} (h : b.toNat < 128) : linkByte b = .data := if_pos h

theorem linkByte_system {b : Byte} (h : 240 ≤ b.toNat) : linkByte b = systemByte (b.toNat % 16) := by
  rw [linkByte, if_neg (by omega), if_neg (by omega)]

theorem linkByte_realTime {b : Byte} (h : 248 ≤ b.toNat) (hb : b ≠ 0xFE) : linkByte b = .realTime := by
  have top : b.toNat < 256 := b.isLt
  have other : b.toNat ≠ 254 := fun same => hb (byte_eq_of_toNat same)
  rw [linkByte_system (by omega)]
  obtain h | h | h | h | h | h | h : b.toNat % 16 = 8 ∨ b.toNat % 16 = 9 ∨ b.toNat % 16 = 10 ∨ b.toNat % 16 = 11 ∨ b.toNat % 16 = 12 ∨
    b.toNat % 16 = 13 ∨ b.toNat % 16 = 15 := by omega
  all_goals rw [h]; rfl

theorem linkByte_channel {b : Byte} {c : Channel} {h : Nat} {kind : ChannelKind} (hb : b.toNat = 16 * h + c.val)
    (hk : (h, kind) ∈ [(8, ChannelKind.noteOff), (9, .noteOn), (10, .keyPressure), (11, .controller), (12, .program), (13, .channelPressure),
      (14, .bend)]) : linkByte b = .channel kind c := by
  have small : c.val < 16 := c.isLt
  have low : (b.extractLsb' 0 4).toFin = c := by
    refine Fin.ext ?_
    show (b.extractLsb' 0 4).toNat = c.val
    rw [BitVec.extractLsb'_toNat, hb]
    simp only [Nat.shiftRight_zero]
    omega
  have high : b.toNat / 16 = h := by omega
  have range : 8 ≤ h ∧ h ≤ 14 := by
    simp only [List.mem_cons, Prod.mk.injEq, List.not_mem_nil, or_false] at hk
    omega
  rw [linkByte, if_neg (by omega), if_pos (by omega), low, high]
  simp only [List.mem_cons, Prod.mk.injEq, List.not_mem_nil, or_false] at hk
  obtain ⟨rfl, rfl⟩ | ⟨rfl, rfl⟩ | ⟨rfl, rfl⟩ | ⟨rfl, rfl⟩ | ⟨rfl, rfl⟩ | ⟨rfl, rfl⟩ | ⟨rfl, rfl⟩ := hk <;> rfl

/-- What the parser does with a data byte in NORMAL (R58). -/
def parseData (l : LinkId) (r : KeyLink × Option LinkMessage) (s : State) : State :=
  match r.2 with
  | some m => linkMessage l m (s.setLink l r.1)
  | none => s.setLink l r.1

theorem parseByte_data {b : Byte} {a : Count} (h : b.toNat < 128) (hm : (x.link l).mode = .normal) :
    parseByte l b a x = parseData l ((x.link l).data b) x := by
  unfold parseByte
  rw [linkByte_data h]
  dsimp only
  rw [hm]
  rfl

theorem parseByte_outside {b : Byte} {a : Count} (h : b.toNat < 128) (hm : (x.link l).mode ≠ .normal) : parseByte l b a x = x := by
  unfold parseByte
  rw [linkByte_data h]
  dsimp only
  split
  · next normal => exact absurd normal hm
  · rfl

theorem parseByte_realTime {b : Byte} {a : Count} (h : linkByte b = .realTime) : parseByte l b a x = x := by
  unfold parseByte
  rw [h]

theorem parseByte_channel {b : Byte} {a : Count} {kind : ChannelKind} {c : Channel} (h : linkByte b = .channel kind c) :
    parseByte l b a x = x.setLink l { x.link l with running := some (kind, c), collected := none, commonLeft := 0, mode := .normal } := by
  unfold parseByte
  rw [h]
  rfl

theorem parseByte_exclusive {a : Count} : parseByte l 0xF0 a x =
    x.setLink l { x.link l with running := none, collected := none, commonLeft := 0, mode := .exclusive } := rfl

theorem parseByte_common {b : Byte} {a : Count} {n : Nat}
    (h : (b.toNat, n) ∈ [(0xF1, 1), (0xF2, 2), (0xF3, 1), (0xF4, 0), (0xF5, 0), (0xF6, 0), (0xF7, 0)]) : parseByte l b a x =
    x.setLink l { x.link l with running := none, collected := none, commonLeft := n, mode := .normal } := by
  have byte (v : Byte) (hv : b.toNat = v.toNat) : b = v := byte_eq_of_toNat hv
  simp only [List.mem_cons, Prod.mk.injEq, List.not_mem_nil, or_false] at h
  obtain ⟨hb, rfl⟩ | ⟨hb, rfl⟩ | ⟨hb, rfl⟩ | ⟨hb, rfl⟩ | ⟨hb, rfl⟩ | ⟨hb, rfl⟩ | ⟨hb, rfl⟩ := h
  · rw [byte 0xF1 hb]; rfl
  · rw [byte 0xF2 hb]; rfl
  · rw [byte 0xF3 hb]; rfl
  · rw [byte 0xF4 hb]; rfl
  · rw [byte 0xF5 hb]; rfl
  · rw [byte 0xF6 hb]; rfl
  · rw [byte 0xF7 hb]; rfl

/-! ## Data bytes (R58) -/

section
variable {k : KeyLink} {b : Byte} {kind : ChannelKind} {c : Channel} {a : Byte}

theorem data_common (h : k.commonLeft ≠ 0) : k.data b = ({ k with commonLeft := k.commonLeft - 1 }, none) := if_pos h

theorem data_idle (h : k.commonLeft = 0) (hr : k.running = none) : k.data b = (k, none) := by
  rw [KeyLink.data, if_neg (by simp [h]), hr]

theorem data_single (h : k.commonLeft = 0) (hr : k.running = some (kind, c)) (hk : kind.single = true) :
    k.data b = (k, some ⟨kind, c, b.toNat, 0⟩) := by
  rw [KeyLink.data, if_neg (by simp [h]), hr]
  dsimp only
  rw [if_pos hk]

theorem data_first (h : k.commonLeft = 0) (hr : k.running = some (kind, c)) (hk : kind.single = false) (hc : k.collected = none) :
    k.data b = ({ k with collected := some b }, none) := by
  rw [KeyLink.data, if_neg (by simp [h]), hr]
  dsimp only
  rw [if_neg (by simp [hk]), hc]

theorem data_last (h : k.commonLeft = 0) (hr : k.running = some (kind, c)) (hk : kind.single = false) (hc : k.collected = some a) :
    k.data b = ({ k with collected := none }, some ⟨kind, c, a.toNat, b.toNat⟩) := by
  rw [KeyLink.data, if_neg (by simp [h]), hr]
  dsimp only
  rw [if_neg (by simp [hk]), hc]

end

/-! ## Completed messages that release or sustain (R62, R63, R92 to R94) -/

theorem parseData_none {k : KeyLink} : parseData l (k, none) s = s.setLink l k := rfl

theorem parseData_some {k : KeyLink} {y : LinkMessage} : parseData l (k, some y) s = linkMessage l y (s.setLink l k) := rfl

/-- The note-off of a note-off message, or of a note-on with velocity 0. -/
theorem linkMessage_off {y : LinkMessage} (h : y.kind = .noteOff ∨ y.kind = .noteOn ∧ y.second = 0) :
    linkMessage l y s = noteRelease l y.channel y.first ((s.link l).effective y.channel) s := by
  unfold linkMessage
  rcases h with h | ⟨h, zero⟩
  · rw [h]
  · rw [h]
    exact if_pos zero

theorem linkMessage_sustain {y : LinkMessage} (h : y.kind = .controller) (h64 : y.first = 64) :
    linkMessage l y s = setSustain l y.channel (decide (64 ≤ y.second)) s := by
  unfold linkMessage
  rw [h]
  exact if_pos h64

theorem effective_iff (k : KeyLink) (c : Channel) : k.effective c = true ↔ k.sustain.getLsbD c.val = true ∨ k.footSustain = true := by
  rw [KeyLink.effective, Bool.or_eq_true]

/-- An entry that a release names and that is not RELEASING goes on as RELEASING where one of its destinations was not DROPPED. -/
theorem releaseScan_goes {w : Entry → Bool} {e : Entry} : ∀ {n : Count} {es : List Entry}, e ∈ es → e.releasing = false → w e = true →
    (∃ d ∈ e.dests, d.flag ≠ .dropped) → ∃ n', e.release n' ∈ (releaseScan w n es).entries
  | n, y :: es, h, hr, hw, live => by
    unfold releaseScan
    rcases List.mem_cons.1 h with rfl | rest
    · have stays : (e.release n).allEnded = false := by
        obtain ⟨d, hd, flag⟩ := live
        rw [← Bool.not_eq_true]
        intro all
        have ended := List.all_eq_true.1 all d.released (List.mem_map_of_mem hd)
        exact flag (eq_of_beq ended)
      rw [if_pos (by simp [hr, hw])]
      dsimp only
      rw [if_neg (by simp [stays])]
      exact ⟨n, List.mem_cons_self⟩
    · split
      · obtain ⟨n', hn⟩ := releaseScan_goes (n := n + 1) rest hr hw live
        dsimp only
        split
        · exact ⟨n', hn⟩
        · exact ⟨n', List.mem_cons_of_mem _ hn⟩
      · obtain ⟨n', hn⟩ := releaseScan_goes (n := n) rest hr hw live
        exact ⟨n', List.mem_cons_of_mem _ hn⟩

theorem isFrom_iff (e : Entry) (l : LinkId) (c : Channel) (n : Nat) : e.isFrom l c n = true ↔ e.link = l ∧ e.channel = c ∧ e.key = n := by
  simp [Entry.isFrom, and_assoc]

/-- The link after a byte that completes a message, taken in NORMAL without a gap mark. -/
def KeyLink.completed (k : KeyLink) (rest : List FifoByte) : KeyLink := { k with fifo := rest, collected := none }

/-- The work of a byte that completes a message. -/
theorem takeByte_completes {f : FifoByte} {rest : List FifoByte} {c : Channel} {a : Byte} {kind : ChannelKind} (he : (s.link l).event = none)
    (hf : (s.link l).fifo = f :: rest) (gap : f.gap = false) (hb : f.byte.toNat < 128) (hm : (s.link l).mode = .normal)
    (hn : (s.link l).commonLeft = 0) (hr : (s.link l).running = some (kind, c)) (hk : kind.single = false)
    (hc : (s.link l).collected = some a) :
    takeByte l s = linkMessage l ⟨kind, c, a.toNat, f.byte.toNat⟩ (s.setLink l ((s.link l).completed rest)) := by
  have at' : (s.link l).atByte f rest = { s.link l with fifo := rest } := by rw [KeyLink.atByte, gap]; rfl
  rw [takeByte_eq he hf, at', parseByte_data hb (by rw [State.setLink_link_same]; exact hm), State.setLink_link_same,
    data_last (k := { s.link l with fifo := rest }) hn hr hk hc, parseData_some, setLink_setLink]
  rfl

/-- The release of a source that is not sustained. -/
theorem released_source {c : Channel} {n : Nat} (s : State) : (noteRelease l c n false s).notes.entries =
    (releaseScan (fun e => e.isFrom l c n) s.notes.nextRelease s.notes.entries).entries :=
  congrArg Notes.entries (releaseEntries_notes (fun e => e.isFrom l c n) s)

theorem noteReleased (s : State) (f : FifoByte) (rest : List FifoByte) (c : Channel) (a : Byte) (he : (s.link l).event = none)
    (hf : (s.link l).fifo = f :: rest) (gap : f.gap = false) (hb : f.byte.toNat < 128) (hm : (s.link l).mode = .normal)
    (hn : (s.link l).commonLeft = 0) (hr : (s.link l).running = some (.noteOff, c) ∨ (s.link l).running = some (.noteOn, c) ∧ f.byte = 0)
    (hc : (s.link l).collected = some a) :
    takeByte l s = noteRelease l c a.toNat ((s.link l).effective c) (s.setLink l ((s.link l).completed rest)) := by
  have effective : ((s.setLink l ((s.link l).completed rest)).link l).effective c = (s.link l).effective c := by
    rw [State.setLink_link_same]
    rfl
  rcases hr with hr | ⟨hr, zero⟩
  · rw [takeByte_completes he hf gap hb hm hn hr rfl hc, linkMessage_off (.inl rfl), effective]
  · rw [takeByte_completes he hf gap hb hm hn hr rfl hc, linkMessage_off (.inr ⟨rfl, by rw [zero]; rfl⟩), effective]

/-- What the close of the parser's work leaves while a message is being transmitted. -/
theorem parserClosed {ps : List Part} {k : KeyLink} (h : SameBut ps (s.setLink l k) u) (sending : s.bus.transmission.isSome = true)
    (hb : Part.bus ∉ ps := by decide) (hl : Part.links ∉ ps := by decide) : SameBut (.links :: ps ++ lineParts) s (close u) ∧
      (close u).links = (s.setLink l k).links ∧ (close u).notes = u.notes := by
  have bus : u.bus = s.bus := h.at .bus hb
  have still : close u = transmitAll u := by rw [close, arbitrate_busy u (by rw [bus]; exact sending)]
  have lines := transmitAll_frame u
  rw [still]
  refine ⟨?_, (lines.at .links).trans (h.at .links hl), lines.at .notes⟩
  have wide : SameBut (.links :: ps ++ lineParts) s u :=
    ((setLink_frame s l k).mono (qs := .links :: ps ++ lineParts) (by simp)).then
      (h.mono fun q hq => List.mem_append_left _ (List.mem_cons_of_mem _ hq))
  exact wide.then (lines.mono fun q hq => List.mem_append_right _ hq)

theorem link_of_links {k : KeyLink} (h : t.links = (s.setLink l k).links) : t.link l = k := by
  rw [State.link, h]
  exact State.setLink_link_same s l k

theorem noteOffs (l : LinkId) (s : State) (f : FifoByte) (rest : List FifoByte) (c : Channel) (a : Byte) (he : (s.link l).event = none)
    (hf : (s.link l).fifo = f :: rest) (gap : f.gap = false) (hb : f.byte.toNat < 128) (hm : (s.link l).mode = .normal)
    (hn : (s.link l).commonLeft = 0) (hr : (s.link l).running = some (.noteOff, c) ∨ (s.link l).running = some (.noteOn, c) ∧ f.byte = 0)
    (hc : (s.link l).collected = some a) (sending : s.bus.transmission.isSome = true) :
    ∃ t, exec (.parserTakeByte l) s = .next t ∧ t.link l = { s.link l with fifo := rest, collected := none } ∧
      ((s.link l).sustain.getLsbD c.val = true ∨ (s.link l).footSustain = true →
        SameBut (.links :: .notes :: lineParts) s t ∧
        t.notes = { s.notes with entries := s.notes.entries.map (fun e =>
          if e.link = l ∧ e.channel = c ∧ e.key = a.toNat ∧ e.state = .sounding then { e with state := .sustained } else e) }) ∧
      ((s.link l).sustain.getLsbD c.val = false → (s.link l).footSustain = false →
        SameBut ([.links, .notes, .banks, .seq, .store] ++ lineParts) s t ∧
        (∀ e ∈ t.notes.entries, e.link = l → e.channel = c → e.key = a.toNat → e.releasing = true) ∧
        (∀ e ∈ s.notes.entries, ¬(e.link = l ∧ e.channel = c ∧ e.key = a.toNat) → e ∈ t.notes.entries) ∧
        (∀ e ∈ s.notes.entries, e.link = l → e.channel = c → e.key = a.toNat → e.releasing = false →
          (∃ d ∈ e.dests, d.flag ≠ .dropped) →
          ∃ e' ∈ t.notes.entries, e'.serial = e.serial ∧ e'.releasing = true ∧
            e'.dests = e.dests.map (fun d => { d with ended := d.flag == .dropped }))) := by
  have work := noteReleased s f rest c a he hf gap hb hm hn hr hc
  set y := s.setLink l ((s.link l).completed rest) with hy
  refine ⟨close (takeByte l s), rfl, ?_, fun on => ?_, fun off foot => ?_⟩
  · rw [work]
    obtain ⟨-, links, -⟩ := parserClosed (noteRelease_frame l c a.toNat ((s.link l).effective c) y) sending
    exact link_of_links links
  · rw [(effective_iff _ c).2 on] at work
    rw [work]
    obtain ⟨frame, -, notes⟩ := parserClosed (notesUpdate_frame y { y.notes with entries := y.notes.entries.map (fun e =>
      if e.isFrom l c a.toNat && e.state == .sounding then { e with state := .sustained } else e) }) sending
    refine ⟨frame, notes.trans ?_⟩
    refine congrArg (fun es => { s.notes with entries := es }) (List.map_congr_left fun e _ => ?_)
    refine if_congr ?_ rfl rfl
    rw [Bool.and_eq_true, isFrom_iff, beq_iff_eq]
    tauto
  · have silent : (s.link l).effective c = false := by rw [KeyLink.effective, off, foot]; rfl
    rw [silent] at work
    rw [work]
    obtain ⟨frame, -, notes⟩ := parserClosed (noteRelease_frame l c a.toNat false y) sending
    rw [notes, released_source]
    refine ⟨frame, fun e mem hl hch hk => ?_, fun e mem other => ?_, fun e mem hl hch hk hrel live => ?_⟩
    · exact (releaseScan_mem mem).resolve_right fun no => by rw [(isFrom_iff e l c _).2 ⟨hl, hch, hk⟩] at no; cases no
    · exact releaseScan_stands mem (.inr (Bool.eq_false_iff.2 fun from' => other ((isFrom_iff e l c _).1 from')))
    · obtain ⟨n, goes⟩ := releaseScan_goes (w := fun e => e.isFrom l c a.toNat) (n := y.notes.nextRelease) mem hrel ((isFrom_iff e l c _).2 ⟨hl, hch, hk⟩) live
      exact ⟨_, goes, rfl, rfl, rfl⟩

/-! ## Controller 64 (R63, R93) -/

/-- The channel sustains after controller 64. -/
def KeyLink.sustained (k : KeyLink) (c : Channel) (on : Bool) : BitVec 16 :=
  if on then k.sustain ||| (1 <<< c.val) else k.sustain &&& ~~~((1 : BitVec 16) <<< c.val)

theorem sustained_bit (k : KeyLink) (c : Channel) (on : Bool) (n : Channel) :
    (k.sustained c on).getLsbD n.val = if n = c then on else k.sustain.getLsbD n.val := by
  have set (i j : Channel) : ((1 <<< i.val : Nat) : BitVec 16).getLsbD j.val = decide (j = i) := by
    revert i j
    decide
  have clear (i j : Channel) : (~~~((1 : BitVec 16) <<< i.val)).getLsbD j.val = !decide (j = i) := by
    revert i j
    decide
  unfold KeyLink.sustained
  cases on
  · rw [if_neg Bool.false_ne_true, BitVec.getLsbD_and, clear]
    by_cases h : n = c <;> simp [h]
  · rw [if_pos rfl, BitVec.getLsbD_or]
    by_cases h : n = c
    · rw [if_pos h, show (BitVec.getLsbD _ n.val) = _ from set c n, decide_eq_true h, Bool.or_true]
    · rw [if_neg h, show (BitVec.getLsbD _ n.val) = _ from set c n, decide_eq_false h, Bool.or_false]

theorem setSustain_eq (l : LinkId) (c : Channel) (on : Bool) (s : State) : setSustain l c on s =
    if (s.link l).effective c = true ∧ ¬ ({ s.link l with sustain := (s.link l).sustained c on } : KeyLink).effective c = true
    then sustainLift l c (s.setLink l { s.link l with sustain := (s.link l).sustained c on })
    else s.setLink l { s.link l with sustain := (s.link l).sustained c on } := by
  unfold setSustain
  refine if_congr ?_ rfl rfl
  rw [Bool.and_eq_true, Bool.not_eq_true', ← Bool.not_eq_true]
  rfl

theorem controller64 (l : LinkId) (s : State) (f : FifoByte) (rest : List FifoByte) (c : Channel) (a : Byte) (he : (s.link l).event = none)
    (hf : (s.link l).fifo = f :: rest) (gap : f.gap = false) (hb : f.byte.toNat < 128) (hm : (s.link l).mode = .normal)
    (hn : (s.link l).commonLeft = 0) (hr : (s.link l).running = some (.controller, c)) (hc : (s.link l).collected = some a)
    (h64 : a.toNat = 64) (sending : s.bus.transmission.isSome = true) : ∃ t, exec (.parserTakeByte l) s = .next t ∧
      t.link l = { s.link l with fifo := rest, collected := none, sustain := (t.link l).sustain } ∧
      (∀ x : Channel, (t.link l).sustain.getLsbD x.val = if x = c then decide (64 ≤ f.byte.toNat) else (s.link l).sustain.getLsbD x.val) ∧
      (64 ≤ f.byte.toNat ∨ (s.link l).sustain.getLsbD c.val = false ∨ (s.link l).footSustain = true →
        SameBut (.links :: lineParts) s t) ∧
      (f.byte.toNat < 64 → (s.link l).sustain.getLsbD c.val = true → (s.link l).footSustain = false →
        SameBut ([.links, .notes, .banks, .seq, .store] ++ lineParts) s t ∧
        (∀ e ∈ t.notes.entries, e.link = l → e.channel = c → e.state ≠ .sustained) ∧
        ∀ e ∈ s.notes.entries, ¬(e.link = l ∧ e.channel = c ∧ e.state = .sustained) → e ∈ t.notes.entries) := by
  have work := takeByte_completes he hf gap hb hm hn hr rfl hc
  rw [linkMessage_sustain rfl h64, setSustain_eq, State.setLink_link_same, setLink_setLink] at work
  set on := decide (64 ≤ f.byte.toNat) with hon
  set k : KeyLink := { (s.link l).completed rest with sustain := ((s.link l).completed rest).sustained c on } with hk
  have before : ((s.link l).completed rest).effective c = true ↔ (s.link l).sustain.getLsbD c.val = true ∨ (s.link l).footSustain = true :=
    effective_iff _ c
  have after : k.effective c = true ↔ on = true ∨ (s.link l).footSustain = true := by
    rw [effective_iff, hk]
    show (KeyLink.sustained _ _ _).getLsbD c.val = true ∨ _ ↔ _
    rw [sustained_bit, if_pos rfl]
    rfl
  have bits {t : State} (h : t.link l = k) (n : Channel) :
      (t.link l).sustain.getLsbD n.val = if n = c then on else (s.link l).sustain.getLsbD n.val := by
    rw [h]
    exact sustained_bit _ c on n
  refine ⟨close (takeByte l s), rfl, ?_⟩
  by_cases lifts : ((s.link l).completed rest).effective c = true ∧ ¬ k.effective c = true
  · rw [if_pos lifts] at work
    rw [work]
    obtain ⟨frame, links, notes⟩ := parserClosed (sustainLift_frame l c (s.setLink l k)) sending
    have link := link_of_links links
    have entries := congrArg Notes.entries (releaseEntries_notes (fun e => e.link == l && e.channel == c && e.state == .sustained) (s.setLink l k))
    rw [before, after, not_or] at lifts
    refine ⟨by rw [link]; rfl, bits link, fun stays => ?_, fun _ _ _ => ⟨frame, fun e mem hl hch => ?_, fun e mem other => ?_⟩⟩
    · rcases stays with high | low | foot
      · exact absurd (decide_eq_true high) lifts.2.1
      · rw [low] at lifts
        exact absurd (lifts.1.resolve_left Bool.false_ne_true) lifts.2.2
      · exact absurd foot lifts.2.2
    · rw [notes, show (sustainLift l c (s.setLink l k)).notes.entries = _ from entries] at mem
      intro sustained
      rcases releaseScan_mem mem with releasing | no
      · rw [Entry.releasing, sustained] at releasing
        cases releasing
      · simp [hl, hch, sustained] at no
    · rw [notes, show (sustainLift l c (s.setLink l k)).notes.entries = _ from entries]
      refine releaseScan_stands mem (.inr (Bool.eq_false_iff.2 fun named => other ?_))
      simpa [and_assoc] using named
  · rw [if_neg lifts] at work
    rw [work]
    obtain ⟨frame, links, notes⟩ := parserClosed (SameBut.refl [] (s.setLink l k)) sending
    have link := link_of_links links
    refine ⟨by rw [link]; rfl, bits link, fun _ => frame, fun low set foot => ?_⟩
    rw [before, after, not_and, not_not] at lifts
    rcases lifts (.inl set) with high | footed
    · exact absurd (of_decide_eq_true high) (by omega)
    · rw [foot] at footed
      cases footed

/-- Settles O33: note-offs under and without effective sustain, and controller 64. -/
theorem noteReleases : Obligations.NoteReleases :=
  ⟨fun l s f rest c a he hf gap hb hm hn hr hc sending => noteOffs l s f rest c a he hf gap hb hm hn hr hc sending,
    fun l s f rest c a he hf gap hb hm hn hr hc h64 sending => controller64 l s f rest c a he hf gap hb hm hn hr hc h64 sending⟩

end Sys2Proof.Machine
end

section
/-! PROOF. The byte the parser takes, by its sort, and a PROGRAM that offers a cue (O32). -/

namespace Sys2Proof.Machine

variable {s t u x : State} {l l' : LinkId} {k : KeyLink} {b : Byte} {arrival : Count}

/-! ## The other links stand -/

theorem link_congr (h : t.links = s.links) : t.link l = s.link l := by rw [State.link, h]; rfl

theorem setSustain_link_other (h : l' ≠ l) (c : Channel) (on : Bool) : (setSustain l c on s).link l' = s.link l' := by
  rw [setSustain_eq]
  split
  · exact (link_congr ((sustainLift_frame l c _).at .links)).trans (State.setLink_link_other _ _ h)
  · exact State.setLink_link_other _ _ h

theorem linkMessage_link_other (h : l' ≠ l) (m : LinkMessage) : (linkMessage l m s).link l' = s.link l' := by
  have off (n : Bool) : (noteRelease l m.channel m.first n s).link l' = s.link l' := link_congr ((noteRelease_frame l _ _ n s).at .links)
  have pending (e : KeyEvent) : (pend l e s).link l' = s.link l' := State.setLink_link_other _ _ h
  unfold linkMessage
  cases m.kind with
  | noteOff => exact off _
  | noteOn =>
    dsimp only
    split
    · exact off _
    · exact pending _
  | keyPressure => rfl
  | controller =>
    dsimp only
    split
    · exact setSustain_link_other h _ _
    · exact pending _
  | program => exact link_congr ((programAsCue_frame l _ s).at .links)
  | channelPressure => rfl
  | bend => exact pending _

theorem parseByte_link_other (h : l' ≠ l) : (parseByte l b arrival x).link l' = x.link l' := by
  unfold parseByte
  dsimp only
  split
  · rfl
  · split
    · exact (enterKeepAlive_link ..).trans (State.setLink_link_other _ _ h)
    · rfl
  · split
    · split
      · exact (linkMessage_link_other h _).trans (State.setLink_link_other _ _ h)
      · exact State.setLink_link_other _ _ h
    · rfl
  · exact State.setLink_link_other _ _ h

/-! ## The KEEP_ALIVE byte (R66) -/

theorem parseByte_keepAlive : parseByte l 0xFE arrival x =
    if (x.link l).keepAlive = .neverSeen then enterKeepAlive l .alive (some ⟨arrival, 330000⟩) none x else x := by
  rw [parseByte, show linkByte 0xFE = .keepAlive from rfl]
  cases (x.link l).keepAlive <;> rfl

/-- A NEVER_SEEN link comes ALIVE. -/
theorem comesAlive {tm : Option Timer} (link : (s.setLink l k).link l = k) :
    Closed [.links] s (close (enterKeepAlive l .alive tm none (s.setLink l k))) ∧
      (close (enterKeepAlive l .alive tm none (s.setLink l k))).link l = { k with keepAlive := .alive, timer := tm } ∧
      Tells ⟨.linkState .alive k.keepAlive k.framing k.overruns none, false, s.grid.position, some (.link l)⟩ s
        (close (enterKeepAlive l .alive tm none (s.setLink l k))) := by
  have entered : enterKeepAlive l .alive tm none (s.setLink l k) = post (.linkState .alive k.keepAlive k.framing k.overruns none)
      (some (.link l)) (s.setLink l { k with keepAlive := .alive, timer := tm }) := by
    rw [enterKeepAlive, link, setLink_setLink]
  rw [entered]
  have carries := close_carries s (post (.linkState .alive k.keepAlive k.framing k.overruns none) (some (.link l))
    (s.setLink l { k with keepAlive := .alive, timer := tm }))
  refine ⟨carries.still ((setLink_frame s l _).chain (post_frame _ _ _) (rs := [.links] ++ noticeParts)), ?_,
    carries.tells ((setLink_posting l _ s).post _ _ (by decide))⟩
  rw [(close_ends _).link, link_congr ((post_frame _ _ _).at .links), State.setLink_link_same]

/-! ## Messages that wait for the Layer Engine (R62) -/

theorem pend_setLink (l : LinkId) (e : KeyEvent) (k : KeyLink) (s : State) :
    pend l e (s.setLink l k) = s.setLink l { k with event := some e } := by
  rw [pend, State.setLink_link_same, setLink_setLink]

theorem linkMessage_strike {c : Channel} {a n : Nat} (h : n ≠ 0) : linkMessage l ⟨.noteOn, c, a, n⟩ s = pend l (.strike c a n) s := if_neg h

theorem linkMessage_controller {c : Channel} {a n : Nat} (h : a ≠ 64) :
    linkMessage l ⟨.controller, c, a, n⟩ s = pend l (.controller c a n) s := if_neg h

theorem linkMessage_bend {c : Channel} {a n : Nat} : linkMessage l ⟨.bend, c, a, n⟩ s = pend l (.bend c (n * 128 + a)) s := rfl

/-! ## A PROGRAM (R65) -/

/-- A work that begins at a change of the link. -/
theorem linkWork_carries (l : LinkId) (k : KeyLink) (s u : State) :
    Carries (fun ps => Closed (.links :: ps) s (close u)) (s.setLink l k) u (close u) where
  ends := close_ends u
  frame ps _ same bus := close_closed
    (((setLink_frame s l k).mono (qs := .links :: ps ++ noticeParts) (by simp)).then (same.mono fun q hq => List.mem_cons_of_mem _ hq)) bus

theorem setLink_cueEnters {within : List Part → Prop} {c : Cue} : CueEnters within c (s.setLink l k) t ↔ CueEnters within c s t := Iff.rfl

theorem programAsCue_ignored {n : Nat} (h : s.setup.programAsCue.getLsbD l.val = false ∨ s.resetting ≠ .none ∨ s.store.setlist.length ≤ n) :
    programAsCue l n s = s := by
  unfold programAsCue
  split
  · next on =>
    obtain ⟨bit, idle⟩ := Bool.and_eq_true_iff.1 on
    have none : s.entryCue n (.link l) = Option.none := by
      rcases h with off | resetting | beyond
      · rw [off] at bit; cases bit
      · exact absurd (by simpa [State.inReset] using idle) resetting
      · rw [State.entryCue, List.getElem?_eq_none beyond]
    rw [none]
  · rfl

theorem programAsCue_offers {n : Nat} {slot : Slot} (on : s.setup.programAsCue.getLsbD l.val = true) (idle : s.resetting = .none)
    (hs : s.store.setlist[n]? = some slot) : programAsCue l n s = (offerCue (s.softCue n slot (.link l)) s).1 := by
  have taken : (s.setup.programAsCue.getLsbD l.val && !s.inReset) = true := by rw [on, State.inReset, idle]; rfl
  have cue : s.entryCue n (.link l) = some (s.softCue n slot (.link l)) := by rw [State.entryCue, hs]; rfl
  rw [programAsCue, if_pos taken, cue]

/-- The offer of a link that a FIRM cue of another origin turns away. -/
theorem offerCue_turned {c h : Cue} (ho : c.origin = .link l) (hx : s.seq.cue = some h) (no : ¬ Yields h (.link l)) :
    (offerCue c s).1 = post (.cueFailed .held (some c.target) (some c.slot)) (some (.link l)) s := by
  unfold offerCue
  rw [hx]
  dsimp only
  rw [ho, if_neg (by rwa [yieldsTo_iff])]

theorem program_done {n : Nat} {slot : Slot} (on : s.setup.programAsCue.getLsbD l.val = true) (idle : s.resetting = .none)
    (hs : s.store.setlist[n]? = some slot) {t : State} (ht : t = close (programAsCue l n (s.setLink l k))) :
    ((∀ h, s.seq.cue = some h → Yields h (.link l)) → Closed [.links, .banks, .seq, .store] s t ∧
      (s.Quiet → CueEnters (fun ps => Closed (.links :: ps) s t) (s.softCue n slot (.link l)) s t)) ∧
    ∀ h, s.seq.cue = some h → ¬ Yields h (.link l) → Closed [.links] s t ∧
      Tells ⟨.cueFailed .held (some n) (some slot), false, s.grid.position, some (.link l)⟩ s t := by
  have offers : programAsCue l n (s.setLink l k) = (offerCue (s.softCue n slot (.link l)) (s.setLink l k)).1 :=
    programAsCue_offers (s := s.setLink l k) on idle hs
  rw [offers] at ht
  subst ht
  have carries := linkWork_carries l k s (offerCue (s.softCue n slot (.link l)) (s.setLink l k)).1
  refine ⟨fun yields => ?_, fun h held no => ?_⟩
  · obtain ⟨frame, enters⟩ := offer_done (x := s.setLink l k) (c := s.softCue n slot (.link l)) rfl yields carries
    exact ⟨frame, fun quiet => setLink_cueEnters.1 (enters quiet)⟩
  · have turned : (offerCue (s.softCue n slot (.link l)) (s.setLink l k)).1 = _ := offerCue_turned rfl held no
    rw [turned] at carries ⊢
    have posting : Posting 0 (s.setLink l k) (s.setLink l k) := .refl _
    exact ⟨carries.still (l := []) ((post_frame _ _ _).mono), carries.tells (posting.post _ _ (by decide))⟩

/-! ## The byte by its sort (R57 to R60) -/

theorem atByte_eq (k : KeyLink) (f : FifoByte) (rest : List FifoByte) : k.atByte f rest =
    if f.gap then { k with fifo := rest, collected := none, running := none, commonLeft := 0, mode := .waitStatus } else { k with fifo := rest } :=
  rfl

/-- Settles O32: the byte by its sort, the data bytes by what they complete. -/
theorem parserTakes : Obligations.ParserTakes := by
  intro l s f rest k he hf hk
  have work : takeByte l s = parseByte l f.byte f.arrival (s.setLink l k) := by rw [takeByte_eq he hf, atByte_eq, ← hk]
  have link : (s.setLink l k).link l = k := State.setLink_link_same s l k
  have sets {k' : KeyLink} (h : parseByte l f.byte f.arrival (s.setLink l k) = s.setLink l k') :
      Closed [.links] s (close (takeByte l s)) ∧ (close (takeByte l s)).link l = k' := by
    obtain ⟨closed, same, -⟩ := linkSet s l k'
    rw [work, h]
    exact ⟨closed, same⟩
  have stands (h : parseByte l f.byte f.arrival (s.setLink l k) = s.setLink l k) :
      Closed [.links] s (close (takeByte l s)) ∧ (close (takeByte l s)).link l = k := sets h
  refine ⟨close (takeByte l s), rfl, fun l' other => ?_, fun real notAlive => ?_, fun alive => ?_, fun c h kind hb hm => ?_, fun exclusive => ?_,
    fun n hn => ?_, fun data outside => ?_, fun data normal common => ?_, fun data normal common => ⟨fun idle => ?_, ?_, ?_, ?_, ?_, ?_, ?_, ?_⟩⟩
  · rw [(close_ends _).link, work, parseByte_link_other other, State.setLink_link_other _ _ other]
  · exact stands (parseByte_realTime (linkByte_realTime real notAlive))
  · have byte := parseByte_keepAlive (l := l) (arrival := f.arrival) (x := s.setLink l k)
    rw [← alive, link] at byte
    by_cases never : k.keepAlive = .neverSeen
    · rw [if_pos never] at byte ⊢
      rw [work, byte]
      have alive := comesAlive (tm := some ⟨f.arrival, 330000⟩) link
      rw [never] at alive
      exact alive
    · rw [if_neg never] at byte ⊢
      exact stands byte
  · have byte := parseByte_channel (l := l) (a := f.arrival) (x := s.setLink l k) (linkByte_channel hb hm)
    rw [link] at byte
    exact sets (byte.trans (setLink_setLink ..))
  · have byte := parseByte_exclusive (l := l) (a := f.arrival) (x := s.setLink l k)
    rw [← exclusive, link] at byte
    exact sets (byte.trans (setLink_setLink ..))
  · have byte := parseByte_common (l := l) (a := f.arrival) (x := s.setLink l k) hn
    rw [link] at byte
    exact sets (byte.trans (setLink_setLink ..))
  · exact stands (parseByte_outside data (by rw [link]; exact outside))
  · have byte := parseByte_data (l := l) (a := f.arrival) (x := s.setLink l k) data (by rw [link]; exact normal)
    rw [link, data_common common] at byte
    exact sets (byte.trans (setLink_setLink ..))
  all_goals have byte := parseByte_data (l := l) (a := f.arrival) (x := s.setLink l k) data (by rw [link]; exact normal)
  all_goals rw [link] at byte
  · rw [data_idle common idle] at byte
    exact sets (byte.trans (setLink_setLink ..))
  · intro kind c hr notProgram notPressure first
    rw [data_first common hr (by cases kind <;> simp_all [ChannelKind.single]) first] at byte
    exact sets (byte.trans (setLink_setLink ..))
  · intro c a hr hc nonzero
    have strikes : ¬ (f.byte.toNat = 0) := fun zero => nonzero (byte_eq_of_toNat zero)
    rw [data_last common hr rfl hc, parseData_some, linkMessage_strike strikes, setLink_setLink, pend_setLink] at byte
    exact sets byte
  · intro c a hr hc other
    rw [data_last common hr rfl hc, parseData_some, linkMessage_controller other, setLink_setLink, pend_setLink] at byte
    exact sets byte
  · intro c a hr hc
    rw [data_last common hr rfl hc, parseData_some, linkMessage_bend, setLink_setLink, pend_setLink] at byte
    exact sets byte
  · intro c a hr hc
    rw [data_last common hr rfl hc] at byte
    exact sets (byte.trans (setLink_setLink ..))
  · intro c hr
    rw [data_single common hr rfl] at byte
    exact sets (byte.trans (setLink_setLink ..))
  · intro c hr
    have program : parseByte l f.byte f.arrival (s.setLink l k) = programAsCue l f.byte.toNat (s.setLink l k) := by
      rw [byte, data_single common hr rfl, parseData_some, setLink_setLink]
      rfl
    have t_eq : close (takeByte l s) = close (programAsCue l f.byte.toNat (s.setLink l k)) := by rw [work, program]
    refine ⟨?_, fun ignored => ?_, fun on idle n hn => program_done on idle hn t_eq⟩
    · rw [(close_ends _).link, work, program, link_congr ((programAsCue_frame l _ _).at .links), link]
    · exact (stands (program.trans (programAsCue_ignored (s := s.setLink l k) ignored))).1

end Sys2Proof.Machine
end

section
/-! PROOF. The Layer Engine takes the next link's event: the link it serves, the destinations it places, controllers and bend (O34). -/

namespace Sys2Proof.Machine

variable {s t u x : State} {l : LinkId} {c : Channel} {e : KeyEvent}

/-! ## The link served next (R70) -/

/-- The event the engine finds at a link, where it can take it. -/
def State.offers (s : State) (k : LinkId) : Option (LinkId × KeyEvent) :=
  match (s.link k).event with
  | some e => if s.canTake e then some (k, e) else none
  | none => none

theorem nextServed_eq (s : State) : s.nextServed = (serviceOrder s.layer.lastServed).findSome? s.offers := rfl

theorem takeable_iff (he : (s.link l).event = some e) : s.Takeable l ↔ s.canTake e = true := by
  unfold State.Takeable
  rw [he]
  cases e with
  | strike c key v =>
    simp only [State.canTake, Bool.not_eq_true', Bool.and_eq_false_iff, decide_eq_false_iff_not, Nat.not_le, List.any_eq_false,
      Bool.not_eq_true]
  | controller c n v => simp [State.canTake]
  | bend c v => simp [State.canTake]

theorem offers_of_takeable (h : s.Takeable l) (he : (s.link l).event = some e) : s.offers l = some (l, e) := by
  rw [State.offers, he]
  exact if_pos ((takeable_iff he).1 h)

theorem offers_of_not (h : ¬ s.Takeable l) : s.offers l = none := by
  unfold State.offers
  split
  · next e he => exact if_neg fun can => h ((takeable_iff he).2 can)
  · rfl

theorem turn_order (last : LinkId) : (∀ k : LinkId, k = last + 1 ∨ k = last + 2 ∨ k = last + 3 ∨ k = last) ∧
    ((last + 1).val + 3 - last.val) % 4 = 0 ∧ ((last + 2).val + 3 - last.val) % 4 = 1 ∧ ((last + 3).val + 3 - last.val) % 4 = 2 ∧
    (last.val + 3 - last.val) % 4 = 3 := by
  revert last
  decide

/-- The engine serves the link whose turn it is. -/
theorem nextServed_next (h : s.TakesNext l) (he : (s.link l).event = some e) : s.nextServed = some (l, e) := by
  obtain ⟨takeable, first⟩ := h
  have here := offers_of_takeable takeable he
  obtain ⟨all, first1, second, third, fourth⟩ := turn_order s.layer.lastServed
  have earlier {k : LinkId} (h : s.turn k < s.turn l) : s.offers k = none :=
    offers_of_not fun takes => absurd (first k takes) (by omega)
  have turn (k : LinkId) : s.turn k = (k.val + 3 - s.layer.lastServed.val) % 4 := rfl
  rw [nextServed_eq, serviceOrder]
  rcases all l with rfl | rfl | rfl | hl
  · simp only [List.findSome?_cons, here]
  · simp only [List.findSome?_cons, here, earlier (k := s.layer.lastServed + 1) (by rw [turn, turn, first1, second]; decide)]
  · simp only [List.findSome?_cons, here, earlier (k := s.layer.lastServed + 1) (by rw [turn, turn, first1, third]; decide),
      earlier (k := s.layer.lastServed + 2) (by rw [turn, turn, second, third]; decide)]
  · rw [hl] at here earlier
    simp only [List.findSome?_cons, here, earlier (k := s.layer.lastServed + 1) (by rw [turn, turn, first1, fourth]; decide),
      earlier (k := s.layer.lastServed + 2) (by rw [turn, turn, second, fourth]; decide),
      earlier (k := s.layer.lastServed + 3) (by rw [turn, turn, third, fourth]; decide), hl]

theorem nextServed_none (h : ∀ l, ¬ s.Takeable l) : s.nextServed = none := by
  rw [nextServed_eq, List.findSome?_eq_none_iff]
  exact fun k _ => offers_of_not (h k)

/-- The state the engine's work on the link's event begins from. -/
def State.served (s : State) (l : LinkId) : State :=
  let s1 := s.setLink l { s.link l with event := none }
  { s1 with layer := { s1.layer with lastServed := l } }

theorem exec_layerEngine (h : s.TakesNext l) (he : (s.link l).event = some e) :
    exec .layerEngineTakeEvent s = .next (close (takeEvent l e (s.served l))) := by
  refine congrArg Host.Outcome.next ?_
  rw [serveLink, nextServed_next h he]
  rfl

/-- The close of the engine's work while a message is being transmitted. -/
theorem served_closed {ps : List Part} (h : SameBut ps (s.served l) u) (sending : s.bus.transmission.isSome = true)
    (hb : Part.bus ∉ ps := by decide) (hl : Part.links ∉ ps := by decide) : SameBut (.links :: .layer :: ps ++ lineParts) s (close u) ∧
      (close u).link l = { s.link l with event := none } ∧ (∀ l', l' ≠ l → (close u).link l' = s.link l') ∧
      SameBut lineParts u (close u) := by
  have bus : u.bus = s.bus := h.at .bus hb
  have still : close u = transmitAll u := by rw [close, arbitrate_busy u (by rw [bus]; exact sending)]
  have lines := transmitAll_frame u
  have links : (transmitAll u).links = (s.setLink l { s.link l with event := none }).links := (lines.at .links).trans (h.at .links hl)
  rw [still]
  refine ⟨?_, link_of_links links, fun l' other => ?_, lines⟩
  · have begun : SameBut [.links, .layer] s (s.served l) := (setLink_frame s l _).chain (layerUpdate_frame _ _)
    refine ((begun.mono (qs := .links :: .layer :: ps ++ lineParts) (by simp)).then (h.mono fun q hq => ?_)).then
      (lines.mono fun q hq => List.mem_append_right _ hq)
    exact List.mem_append_left _ (List.mem_cons_of_mem _ (List.mem_cons_of_mem _ hq))
  · rw [link_congr links, State.setLink_link_other _ _ other]

/-! ## Controllers and bend (R76, R77) -/

theorem passing_eq (b : Bank) (l : LinkId) (c : Channel) :
    (b.zonesOn.filter (fun zo => zo.1.takes zo.2 l c && zo.1.passControllers)).map (·.1) = b.passing l c := by
  unfold Bank.passing Bank.zonesOn
  rw [List.filter_map, List.map_map]
  congr 1
  refine List.filter_congr fun x _ => ?_
  rw [Bool.eq_iff_iff, decide_eq_true_iff, Function.comp_apply, Bool.and_eq_true, zoneTakes_iff]

theorem offerControl_eq (i : ControlItem) (s : State) : offerControl i s = { s with layer := s.layer.offered i } := by
  have same (y : ControlItem) : y.same i = true ↔ y.module = i.module ∧ y.channel = i.channel ∧ y.control = i.control := by
    simp [ControlItem.same, and_assoc]
  have anySame : (s.layer.controls.any fun y => y.module == i.module && y.channel == i.channel && y.control == i.control) =
      s.layer.controls.any (fun y => y.same i) := rfl
  unfold offerControl Layer.offered
  rw [anySame]
  split
  · refine congrArg (fun l => { s with layer := { s.layer with controls := l } }) (List.map_congr_left fun y _ => ?_)
    exact if_congr (same y) rfl rfl
  · split
    · rfl
    · rw [saturate_min]

theorem takeControl_eq (l : LinkId) (c : Channel) (id : ControlId) (v : Nat) (s : State) : takeControl l c id v s = { s with
    layer := (s.activeBank.passing l c).foldl (fun y z => y.offered ⟨z.module, z.channel, id, v⟩) s.layer } := by
  have fold (zs : List (Zone × Bool)) : ∀ t : State, zs.foldl (fun t zo => offerControl ⟨zo.1.module, zo.1.channel, id, v⟩ t) t =
      { t with layer := (zs.map (·.1)).foldl (fun y z => y.offered ⟨z.module, z.channel, id, v⟩) t.layer } := by
    induction zs with
    | nil => exact fun t => rfl
    | cons z zs ih =>
      intro t
      rw [List.foldl_cons, ih, offerControl_eq]
      rfl
  unfold takeControl
  rw [fold, passing_eq]

theorem controlTaken (s : State) (l : LinkId) (c : Channel) (e : KeyEvent) (id : ControlId) (v : Nat) (h : s.TakesNext l)
    (he : (s.link l).event = some e) (hid : id = .bend ∧ e = .bend c v ∨ ∃ n, id = .controller n ∧ e = .controller c n v)
    (sending : s.bus.transmission.isSome = true) : ∃ t, exec .layerEngineTakeEvent s = .next t ∧
      SameBut ([.links, .layer] ++ lineParts) s t ∧ t.link l = { s.link l with event := none } ∧ (∀ l', l' ≠ l → t.link l' = s.link l') ∧
      t.layer = (s.activeBank.passing l c).foldl (fun y z => y.offered ⟨z.module, z.channel, id, v⟩) { s.layer with lastServed := l } := by
  have taken : takeEvent l e (s.served l) = takeControl l c id v (s.served l) := by
    rcases hid with ⟨rfl, rfl⟩ | ⟨n, rfl, rfl⟩ <;> rfl
  refine ⟨_, exec_layerEngine h he, ?_⟩
  rw [taken, takeControl_eq]
  obtain ⟨frame, link, others, lines⟩ := served_closed (layerUpdate_frame (s.served l) _) sending
  exact ⟨frame.mono, link, others, lines.at .layer⟩

/-! ## Placing the key-on items (R74, R75) -/

/-- The flags that placing key-on items for `n` destinations from index `i` on sets, `r` of them finding a place. -/
def flagsPlaced (i r n : Nat) (ds : List Dest) : List Dest :=
  ds.zipIdx.map (fun x => if i ≤ x.2 ∧ x.2 < i + n then { x.1 with flag := if x.2 < i + r then .queued else .dropped } else x.1)

theorem flagsPlaced_get (i r n j : Nat) (ds : List Dest) : (flagsPlaced i r n ds)[j]? =
    ds[j]?.map (fun d => if i ≤ j ∧ j < i + n then { d with flag := if j < i + r then .queued else .dropped } else d) := by
  rw [flagsPlaced, List.getElem?_map, List.getElem?_zipIdx, Option.map_map]
  cases ds[j]? with
  | none => rfl
  | some d => simp

theorem flagsPlaced_none (i r : Nat) (ds : List Dest) : flagsPlaced i r 0 ds = ds := by
  refine List.ext_getElem? fun j => ?_
  rw [flagsPlaced_get]
  cases ds[j]? with
  | none => rfl
  | some d => rw [Option.map_some, if_neg (by omega)]

theorem flagsPlaced_step (i r n : Nat) (ds : List Dest) : flagsPlaced (i + 1) (r - 1) n
    (ds.modify i (fun d => { d with flag := if 0 < r then .queued else .dropped })) = flagsPlaced i r (n + 1) ds := by
  refine List.ext_getElem? fun j => ?_
  rw [flagsPlaced_get, flagsPlaced_get, List.getElem?_modify]
  cases ds[j]? with
  | none => rfl
  | some d =>
    by_cases here : i = j
    · subst here
      have place : (i < i + r) = (0 < r) := by simp
      simp [place]
    · have range : (i < j ∧ j < i + 1 + n) = (i ≤ j ∧ j < i + (n + 1)) := propext (by omega)
      have place : (j < i + 1 + (r - 1)) = (j < i + r) := propext (by omega)
      simp [here, range, place]

/-- The entries after key-on items are placed for the entry with a serial number. -/
def entriesPlaced (serial i r n : Nat) (es : List Entry) : List Entry :=
  es.map (fun e => if e.serial == serial then { e with dests := flagsPlaced i r n e.dests } else e)

theorem entriesPlaced_none (serial i r : Nat) (es : List Entry) : entriesPlaced serial i r 0 es = es := by
  have same (e : Entry) : (if e.serial == serial then { e with dests := flagsPlaced i r 0 e.dests } else e) = e := by
    rw [flagsPlaced_none, ite_self]
  simp only [entriesPlaced, same, List.map_id']

theorem entriesPlaced_step (serial i r n : Nat) (es : List Entry) : entriesPlaced serial (i + 1) (r - 1) n
    (updateDest serial i (fun d => { d with flag := if 0 < r then .queued else .dropped }) es) = entriesPlaced serial i r (n + 1) es := by
  rw [entriesPlaced, updateDest, List.map_map]
  refine List.map_congr_left fun e _ => ?_
  rw [Function.comp_apply]
  by_cases named : (e.serial == serial) = true
  · simp only [named, if_true, flagsPlaced_step]
  · simp only [named, if_false, Bool.false_eq_true]

/-- An entry with another serial number stands. -/
theorem entriesPlaced_other {serial i r n : Nat} {es : List Entry} {e : Entry} (h : e ∈ es) (other : e.serial ≠ serial) :
    e ∈ entriesPlaced serial i r n es :=
  List.mem_map.2 ⟨e, h, if_neg (by simpa using other)⟩

theorem mem_entriesPlaced {serial i r n : Nat} {es : List Entry} {e : Entry} (h : e ∈ entriesPlaced serial i r n es) :
    ∃ f ∈ es, ∃ ds, e = { f with dests := ds } := by
  obtain ⟨f, hf, rfl⟩ := List.mem_map.1 h
  refine ⟨f, hf, ?_⟩
  split
  · exact ⟨_, rfl⟩
  · exact ⟨f.dests, rfl⟩

/-- The queue and its drop count after key-on items are offered to it for destinations from index `i` on. -/
def Layer.placed (y : Layer) (serial i : Nat) (vs : List Nat) : Layer := { y with
  keyOns := y.keyOns ++ ((vs.zipIdx i).map (fun x => (⟨serial, x.2, x.1⟩ : KeyOnItem))).take (32 - y.keyOns.length)
  keyOnDrops := if vs.length ≤ 32 - y.keyOns.length then y.keyOnDrops
    else min 65535 (y.keyOnDrops + (vs.length - (32 - y.keyOns.length))) }

theorem Layer.placed_none (y : Layer) (serial i : Nat) : y.placed serial i [] = y := by simp [Layer.placed]

theorem Layer.placed_room (y : Layer) (serial i v : Nat) (vs : List Nat) (room : y.keyOns.length < 32) :
    ({ y with keyOns := y.keyOns ++ [⟨serial, i, v⟩] } : Layer).placed serial (i + 1) vs = y.placed serial i (v :: vs) := by
  obtain ⟨k, hk⟩ : ∃ k, 32 - y.keyOns.length = k + 1 := ⟨31 - y.keyOns.length, by omega⟩
  have rest : 32 - (y.keyOns.length + 1) = k := by omega
  simp [Layer.placed, hk, rest]

theorem Layer.placed_full (y : Layer) (serial i v : Nat) (vs : List Nat) (full : ¬ y.keyOns.length < 32) :
    ({ y with keyOnDrops := min 65535 (y.keyOnDrops + 1) } : Layer).placed serial (i + 1) vs = y.placed serial i (v :: vs) := by
  have none : 32 - y.keyOns.length = 0 := by omega
  have drops : (if vs = [] then min 65535 (y.keyOnDrops + 1) else min 65535 (min 65535 (y.keyOnDrops + 1) + vs.length)) =
      min 65535 (y.keyOnDrops + (vs.length + 1)) := by
    split
    · next h => rw [h]; rfl
    · omega
  simp [Layer.placed, none, drops]

theorem Layer.placed_new (y : Layer) (serial : Nat) (d : List (Dest × Nat)) : (y.placed serial 0 (d.map (·.2))).keyOns =
    y.keyOns ++ (d.zipIdx.map (fun x => (⟨serial, x.2, x.1.2⟩ : KeyOnItem))).take (32 - y.keyOns.length) := by
  rw [Layer.placed, List.zipIdx_map, List.map_map]
  rfl

theorem Layer.placed_drops (y : Layer) (serial : Nat) (d : List (Dest × Nat)) : (y.placed serial 0 (d.map (·.2))).keyOnDrops =
    if d.length ≤ 32 - y.keyOns.length then y.keyOnDrops else min 65535 (y.keyOnDrops + (d.length - (32 - y.keyOns.length))) := by
  rw [Layer.placed, List.length_map]

/-- The key-on items of an entry, placed: those that find a place QUEUED, the others DROPPED and counted. -/
theorem placeKeyOns_eq (serial : Nat) : ∀ (vs : List Nat) (i : Nat) (s : State), placeKeyOns serial i vs s = { s with
    layer := s.layer.placed serial i vs
    notes := { s.notes with entries := entriesPlaced serial i (32 - s.layer.keyOns.length) vs.length s.notes.entries } }
  | [], i, s => by rw [Layer.placed_none, List.length_nil, entriesPlaced_none]; rfl
  | v :: vs, i, s => by
    rw [placeKeyOns, placeKeyOns_eq serial vs (i + 1), List.length_cons, ← entriesPlaced_step]
    by_cases room : s.layer.keyOns.length < 32
    · have r : 32 - (s.layer.keyOns ++ [(⟨serial, i, v⟩ : KeyOnItem)]).length = 32 - s.layer.keyOns.length - 1 := by simp; omega
      rw [← Layer.placed_room _ serial i v vs room, if_pos (by omega : 0 < 32 - s.layer.keyOns.length), placeKeyOn, if_pos room, ← r]
      rfl
    · have r : 32 - s.layer.keyOns.length - 1 = 32 - s.layer.keyOns.length := by omega
      rw [← Layer.placed_full _ serial i v vs room, if_neg (by omega : ¬ 0 < 32 - s.layer.keyOns.length), placeKeyOn, if_neg room, r,
        ← saturate_min]
      rfl

/-! ## The overflow count, the entry, and the drop (R71, R89 to R91) -/

/-- The state after the zones beyond the fourth are counted. -/
def State.overflowed (s : State) (n : Nat) : State := if n ≤ 4 then s else countOverflow (n - 4) s

theorem overflowed_frame (s : State) (n : Nat) : SameBut [.banks] s (s.overflowed n) := by
  unfold State.overflowed
  split
  · exact .refl _ s
  · exact countOverflow_frame _ s

theorem overflowed_activeBank (s : State) (n : Nat) : (s.overflowed n).activeBank = { s.activeBank with
    overflow := if n ≤ 4 then s.activeBank.overflow else min 65535 (s.activeBank.overflow + (n - 4)) } := by
  unfold State.overflowed
  split
  · rfl
  · rw [countOverflow, State.setBank_activeBank, saturate_min]

theorem overflowed_active (s : State) (n : Nat) : (s.overflowed n).banks.active = s.banks.active := by
  unfold State.overflowed
  split
  · rfl
  · exact setBank_active _ _

theorem takeStrike_eq (l : LinkId) (c : Channel) (key v : Nat) (s : State) {zs : List Zone} {d : List (Dest × Nat)}
    (hz : zs = s.activeBank.struck l c key v) (hd : d = destinations key v (zs.take 4)) : takeStrike l c key v s =
      if d = [] then s.overflowed zs.length
      else if s.notes.entries.length < 128 then
        placeKeyOns s.notes.nextSerial 0 (d.map (·.2)) (makeEntry ⟨l, c, key, v, d⟩ (s.overflowed zs.length))
      else dropStrike ⟨l, c, key, v, d⟩ (s.overflowed zs.length) := by
  have formed : formDests key v [] (zs.take 4) = d := (formDests_eq key v (zs.take 4) []).trans hd.symm
  have notes : (s.overflowed zs.length).notes = s.notes := (overflowed_frame s _).at .notes
  have work : takeStrike l c key v s = if d.isEmpty then s.overflowed zs.length
      else if (s.overflowed zs.length).notes.entries.length < 128 then
        placeKeyOns (s.overflowed zs.length).notes.nextSerial 0 (d.map (·.2)) (makeEntry ⟨l, c, key, v, d⟩ (s.overflowed zs.length))
      else dropStrike ⟨l, c, key, v, d⟩ (s.overflowed zs.length) := by
    rw [takeStrike, matching_eq_struck, ← hz]
    dsimp only
    rw [formed]
    rfl
  rw [work, notes]
  exact if_congr List.isEmpty_iff rfl rfl

theorem dropStrike_notes (k : Strike) (s : State) : (dropStrike k s).notes = if s.notes.lastBar = some s.grid.position.bar
    then { s.notes with drops := min 65535 (s.notes.drops + 1), dropsSince := s.notes.dropsSince + 1 }
    else { s.notes with drops := min 65535 (s.notes.drops + 1), dropsSince := 0, lastBar := some s.grid.position.bar } := by
  unfold dropStrike
  dsimp only
  rw [saturate_min]
  split
  · rfl
  · rw [show (post _ _ _).notes = _ from (post_frame _ _ _).at .notes]

theorem dropStrike_posts {k : Strike} {y : State} (h : Posting 0 y s) (first : s.notes.lastBar ≠ some s.grid.position.bar) :
    Posts ⟨.noteTableFull k.channel k.key (s.notes.dropsSince + 1), false, s.grid.position, some (.link k.link)⟩ y (dropStrike k s) := by
  unfold dropStrike
  dsimp only
  rw [if_neg first]
  exact ((h.then (notesUpdate_frame s _).posting).post (.noteTableFull k.channel k.key (s.notes.dropsSince + 1)) (some (.link k.link))
    (by decide))

theorem makeEntry_notes (k : Strike) (s : State) : ∃ n, (makeEntry k s).notes = { s.notes with
    entries := (releaseScan (fun f => f.serial != s.notes.nextSerial && f.isFrom k.link k.channel k.key) s.notes.nextRelease
      (s.notes.entries ++ [s.newEntry k])).entries
    nextSerial := s.notes.nextSerial + 1, nextRelease := n } := ⟨_, releaseEntries_notes _ _⟩

theorem makeEntry_activeBank (k : Strike) (s : State) : (makeEntry k s).activeBank = s.activeBank :=
  (bankFree_activeBank _ _).trans (activeBank_congr rfl)

/-- The flags of a new entry's destinations, once its key-on items are placed. -/
theorem flagsPlaced_new (r : Nat) (d : List (Dest × Nat)) : flagsPlaced 0 r (d.map (·.2)).length (d.map (·.1)) =
    d.zipIdx.map (fun x => { x.1.1 with flag := if x.2 < r then .queued else .dropped }) := by
  refine List.ext_getElem? fun j => ?_
  rw [flagsPlaced_get, List.getElem?_map, List.getElem?_map, List.getElem?_zipIdx, List.length_map]
  cases hj : d[j]? with
  | none => rfl
  | some x =>
    have place : j < d.length := (List.getElem?_eq_some_iff.1 hj).1
    simp [place]

/-- The table after a strike has made its entry and placed its key-on items. -/
theorem strikeMade {k : Strike} (s : State) (r : Nat) {es : List Entry}
    (hes : es = entriesPlaced s.notes.nextSerial 0 r (k.dests.map (·.2)).length (makeEntry k s).notes.entries) :
    (⟨s.notes.nextSerial, k.link, k.channel, k.key, k.velocity, s.banks.active, s.now, .sounding,
      k.dests.zipIdx.map (fun x => { x.1.1 with flag := if x.2 < r then .queued else .dropped })⟩ : Entry) ∈ es ∧
    (∀ e ∈ es, e.isFrom k.link k.channel k.key = true → e.serial ≠ s.notes.nextSerial → e.releasing = true) ∧
    ∀ e ∈ s.notes.entries, e.isFrom k.link k.channel k.key = false → e.serial ≠ s.notes.nextSerial → e ∈ es := by
  obtain ⟨n, notes⟩ := makeEntry_notes k s
  rw [notes] at hes
  dsimp only at hes
  subst hes
  refine ⟨?_, fun e he source other => ?_, fun e he source other => ?_⟩
  · refine List.mem_map.2 ⟨s.newEntry k, releaseScan_stands (by simp) (.inr ?_), ?_⟩
    · simp [State.newEntry]
    · rw [if_pos (by simp [State.newEntry])]
      simp only [State.newEntry, flagsPlaced_new]
  · obtain ⟨f, hf, ds, rfl⟩ := mem_entriesPlaced he
    have named : f.isFrom k.link k.channel k.key = true := source
    have old : f.serial ≠ s.notes.nextSerial := other
    exact (releaseScan_mem hf).resolve_right fun no => by simp [named, old] at no
  · exact entriesPlaced_other (releaseScan_stands (by simp [he]) (.inr (by simp [source]))) other

/-! ## The strike -/

theorem takeEvent_strike (l : LinkId) (c : Channel) (key v : Nat) (s : State) : takeEvent l (.strike c key v) s = takeStrike l c key v s := rfl

theorem strikeTaken (s : State) (l : LinkId) (c : Channel) (key v : Nat) (zs : List Zone) (d : List (Dest × Nat)) (h : s.TakesNext l)
    (he : (s.link l).event = some (.strike c key v)) (sending : s.bus.transmission.isSome = true) (hz : zs = s.activeBank.struck l c key v)
    (hd : d = destinations key v (zs.take 4)) : ∃ t, exec .layerEngineTakeEvent s = .next t ∧
      SameBut ([.links, .layer, .notes, .banks, .seq, .store] ++ lineParts) s t ∧
      t.link l = { s.link l with event := none } ∧ (∀ l', l' ≠ l → t.link l' = s.link l') ∧ t.layer.lastServed = l ∧
      t.activeBank = { s.activeBank with overflow :=
        if zs.length ≤ 4 then s.activeBank.overflow else min 65535 (s.activeBank.overflow + (zs.length - 4)) } ∧
      (d = [] → t.notes = s.notes ∧ t.layer.keyOns = s.layer.keyOns) ∧
      (d ≠ [] → 128 ≤ s.notes.entries.length → t.layer.keyOns = s.layer.keyOns ∧
        if s.notes.lastBar = some s.grid.position.bar then
          t.notes = { s.notes with drops := min 65535 (s.notes.drops + 1), dropsSince := s.notes.dropsSince + 1 }
        else t.notes = { s.notes with
            drops := min 65535 (s.notes.drops + 1), dropsSince := 0, lastBar := some s.grid.position.bar } ∧
          Tells ⟨.noteTableFull c key (s.notes.dropsSince + 1), false, s.grid.position, some (.link l)⟩ s t) ∧
      (d ≠ [] → s.notes.entries.length < 128 → ∀ r, r = 32 - s.layer.keyOns.length →
        t.layer.keyOns = s.layer.keyOns ++ (d.zipIdx.map (fun x => (⟨s.notes.nextSerial, x.2, x.1.2⟩ : KeyOnItem))).take r ∧
        t.layer.keyOnDrops = (if d.length ≤ r then s.layer.keyOnDrops else min 65535 (s.layer.keyOnDrops + (d.length - r))) ∧
        t.notes.nextSerial = s.notes.nextSerial + 1 ∧
        (⟨s.notes.nextSerial, l, c, key, v, s.banks.active, s.now, .sounding,
          d.zipIdx.map (fun x => { x.1.1 with flag := if x.2 < r then .queued else .dropped })⟩ : Entry) ∈ t.notes.entries ∧
        (∀ e ∈ t.notes.entries, e.isFrom l c key = true → e.serial ≠ s.notes.nextSerial → e.releasing = true) ∧
        ∀ e ∈ s.notes.entries, e.isFrom l c key = false → e.serial ≠ s.notes.nextSerial → e ∈ t.notes.entries) := by
  refine ⟨_, exec_layerEngine h he, ?_⟩
  rw [takeEvent_strike]
  have struck : SameBut strikeParts (s.served l) (takeStrike l c key v (s.served l)) := takeStrike_frame l c key v (s.served l)
  have work := takeStrike_eq l c key v (s.served l) (zs := zs) hz hd
  generalize takeStrike l c key v (s.served l) = u at struck work ⊢
  obtain ⟨frame, link, others, lines⟩ := served_closed struck sending
  have counted : SameBut [.banks] (s.served l) ((s.served l).overflowed zs.length) := overflowed_frame _ _
  have yBank := overflowed_activeBank (s.served l) zs.length
  have yActive : ((s.served l).overflowed zs.length).banks.active = s.banks.active := overflowed_active (s.served l) zs.length
  generalize (s.served l).overflowed zs.length = y at counted work yBank yActive
  have yNotes : y.notes = s.notes := counted.at .notes
  have yLayer : y.layer = { s.layer with lastServed := l } := counted.at .layer
  have yNow : y.now = s.now := congrArg Timebase.count (counted.at .timebase : y.timebase = s.timebase)
  have layer : (close u).layer = u.layer := lines.at .layer
  have notes : (close u).notes = u.notes := lines.at .notes
  rw [layer, notes, activeBank_congr (lines.at .banks)]
  by_cases empty : d = []
  · rw [if_pos empty] at work
    refine ⟨frame.mono, link, others, ?_, ?_, fun _ => ?_, fun no => absurd empty no, fun no => absurd empty no⟩
    · rw [work, yLayer]
    · rw [work, yBank]; rfl
    · rw [work, yNotes, yLayer]
      exact ⟨rfl, rfl⟩
  rw [if_neg empty] at work
  by_cases room : s.notes.entries.length < 128
  · rw [if_pos (show (s.served l).notes.entries.length < 128 from room)] at work
    have made := makeEntry_frame ⟨l, c, key, v, d⟩ y
    have mLayer : (makeEntry ⟨l, c, key, v, d⟩ y).layer = { s.layer with lastServed := l } := (made.at .layer).trans yLayer
    have placed := placeKeyOns_eq s.notes.nextSerial (d.map (·.2)) 0 (makeEntry ⟨l, c, key, v, d⟩ y)
    rw [mLayer] at placed
    replace work := work.trans placed
    obtain ⟨n, mNotes⟩ := makeEntry_notes ⟨l, c, key, v, d⟩ y
    refine ⟨frame.mono, link, others, ?_, ?_, fun no => absurd no empty, fun _ full => absurd full (by omega), fun _ _ r hr => ?_⟩
    · rw [work]; rfl
    · rw [work]
      exact ((activeBank_congr rfl).trans (makeEntry_activeBank ⟨l, c, key, v, d⟩ y)).trans yBank
    · obtain ⟨new, older, stand⟩ := strikeMade (k := ⟨l, c, key, v, d⟩) y r rfl
      rw [yNotes, yActive, yNow] at new
      rw [yNotes] at older stand
      have entries : u.notes.entries = entriesPlaced s.notes.nextSerial 0 r (d.map (·.2)).length (makeEntry ⟨l, c, key, v, d⟩ y).notes.entries := by
        rw [work, hr]
      rw [entries]
      refine ⟨?_, ?_, ?_, new, older, stand⟩
      · rw [work, hr]
        exact Layer.placed_new _ _ _
      · rw [work, hr]
        exact Layer.placed_drops _ _ _
      · rw [work]
        dsimp only
        rw [mNotes, yNotes]
  · rw [if_neg (show ¬ (s.served l).notes.entries.length < 128 from room)] at work
    have dropped := dropStrike_frame ⟨l, c, key, v, d⟩ y
    have position : y.grid.position = s.grid.position := congrArg Grid.position (counted.at .grid : y.grid = s.grid)
    refine ⟨frame.mono, link, others, ?_, ?_, fun no => absurd no empty, fun _ _ => ⟨?_, ?_⟩, fun _ few => absurd few room⟩
    · rw [work, (dropped.at .layer : (dropStrike _ y).layer = _), yLayer]
    · rw [work, activeBank_congr (dropped.at .banks)]
      exact yBank
    · rw [work, (dropped.at .layer : (dropStrike _ y).layer = _), yLayer]
    · have table := dropStrike_notes ⟨l, c, key, v, d⟩ y
      rw [← work, yNotes, position] at table
      split
      · next told => rw [table, if_pos told]
      · next first =>
        refine ⟨by rw [table, if_neg first], ?_⟩
        have begun : SameBut [.links, .layer, .banks] s y :=
          ((setLink_frame s l _).chain (layerUpdate_frame _ _) (rs := [.links, .layer, .banks])).chain counted
        have told := dropStrike_posts (k := ⟨l, c, key, v, d⟩) begun.posting (by rw [yNotes, position]; exact first)
        rw [← work, yNotes, position] at told
        exact told.tells (close_ends u)

/-- Settles O34: the link in turn, its strike by its destinations and the room in the table, its controllers and bends zone by zone. -/
theorem engineTakes : Obligations.EngineTakes := by
  refine ⟨fun s none => ?_, strikeTaken, controlTaken⟩
  refine congrArg Host.Outcome.next ?_
  rw [serveLink, nextServed_none none]

end Sys2Proof.Machine
end

section
/-! PROOF. The words of a store operation in a flash whose list is not in canonical form, where O49 and O50 fail: two cells of one address, the
first of which reads FF. No step makes such a list (O4), but both statements speak of every state, and name no such premise. -/

namespace Sys2Proof.Machine

variable {s : State} {op : StoreOp} {k : Nat}

/-! ## The flash at the end of a word (R149) -/

theorem wordEnd_flash (op : StoreOp) (k : Nat) (s : State) : (wordEnd op k s).flash = (programWord op k s).flash := by
  unfold wordEnd
  dsimp only
  split
  · exact (opFault_frame ..).at .flash
  · split <;> rfl

theorem close_flash (s : State) : (close s).flash = s.flash := (close_frame s).at .flash

theorem opExpiry_flash (op : StoreOp) {f : State → State} {g : List Host.Cell → List Host.Cell} (h : ∀ x, (f x).flash = g x.flash) (s : State) :
    (opExpiry op f s).flash = g s.flash := by
  unfold opExpiry
  split
  · unfold expireAt
    split <;> exact (close_flash _).trans (h _)
  · exact (close_flash _).trans (h _)

/-- A word's end programs its four bytes into the list of cells. -/
theorem onWord_flash (ha : s.store.activity = .operating op) (hk : op.phase = .words k) :
    (onWord s).flash = programBytes s.flash (sectorBase op.sector + 4 * k) (programmedWord op.record k) := by
  have here : s.op? = some op := by rw [State.op?, ha]
  rw [onWord, here]
  dsimp only
  rw [hk]
  exact opExpiry_flash (g := fun mem => programBytes mem (sectorBase op.sector + 4 * k) (programmedWord op.record k)) op
    (wordEnd_flash op k) s

/-! ## A list with two cells of one address -/

/-- The address of the first record byte of sector 2 twice: it reads FF by its first cell, and programming FF there takes that cell away. -/
def doubledFlash : List Host.Cell := [(1028, 0xFF), (1028, 3)]

/-- The write of the record FF into sector 2, its record word in progress. -/
def recordWord (stopping : Bool) : StoreOp := ⟨.write, 2, .a, .words 1, [0xFF], stopping, some ⟨0, 60⟩⟩

/-- The byte reads FF before the word and 03 after it, where FF was programmed. -/
theorem doubled_differs : readFlash (programBytes doubledFlash (sectorBase 2 + 4 * 1) (programmedWord [0xFF] 1)) (sectorBase 2 + 4 * 1 + 0) ≠
    readFlash doubledFlash (sectorBase 2 + 4 * 1 + 0) &&& byteAt [0xFF] 0 := by decide

/-- Refutes O49: in a flash list that holds an address twice, its first cell reading FF, the word FF does not read back as FF. -/
theorem not_storePhases : ¬ Obligations.StorePhases := by
  intro holds
  set s : State := { State.reset with flash := doubledFlash, store := { Store.initial with activity := .operating (recordWord false) } }
  obtain ⟨-, words, -⟩ := holds s (recordWord false) rfl rfl (by decide)
  obtain ⟨t, run, -, programmed, -⟩ := words 1 rfl (by decide) _ rfl
  obtain rfl : onWord s = t := Host.Outcome.next.inj run
  have first := programmed 0 (by decide)
  rw [onWord_flash (s := s) rfl rfl] at first
  exact doubled_differs first

/-- Refutes O50: the same word, which SUPPLY_LOW has marked to be the last. -/
theorem not_supplyLow : ¬ Obligations.SupplyLow := by
  intro holds
  set s : State := { State.reset with flash := doubledFlash, store := { Store.initial with activity := .operating (recordWord true) } }
  obtain ⟨-, -, -, -, -, words, -⟩ := holds
  obtain ⟨t, run, -, -, -, programmed, -⟩ := words s (recordWord true) 1 rfl rfl rfl
  obtain rfl : onWord s = t := Host.Outcome.next.inj run
  have first := programmed (by decide) 0 (by decide)
  rw [onWord_flash (s := s) rfl rfl] at first
  exact doubled_differs first

end Sys2Proof.Machine
end

section
/-! PROOF. RESTART, its SILENCE, and the reset at the SILENCE's end (O42). -/

namespace Sys2Proof.Machine

variable {s t u : State} {p : Port} {x : Transmission}

/-! ## The taking of a RESTART (R142) -/

theorem restartTaken_seq (s : State) : (restartTaken s).seq = { s.seq with cue := none, settle := .idle, retention := none } := by
  obtain ⟨y, hy, e⟩ := restartTaken_eq s
  have seq : y.seq = s.seq := by
    rcases hy with rfl | rfl
    · rfl
    · exact (abandonCueFetch_frame s).at .seq
  rw [e, seq]

theorem restartTaken_resetting (s : State) : (restartTaken s).resetting = .silence := by
  obtain ⟨y, -, e⟩ := restartTaken_eq s
  rw [e]

theorem restartTaken_others (s : State) : (restartTaken s).otherFetches = s.otherFetches := by
  obtain ⟨y, hy, e⟩ := restartTaken_eq s
  have store : (restartTaken s).otherFetches = y.otherFetches := by rw [e]; rfl
  rcases hy with rfl | rfl
  · exact store
  · exact store.trans (abandonCueFetch_others s)

theorem restartTaken_store (h : s.cueIs .loading = false) : (restartTaken s).store = s.store := by
  unfold restartTaken
  cases hc : s.seq.cue with
  | none => rfl
  | some c =>
    have other : c.state ≠ .loading := fun loading => by simp [State.cueIs, hc, loading] at h
    dsimp only
    rw [if_neg other]

theorem restartTaken_count (h : s.fetchCount .cue = (s.cueIs .loading).toNat) : (restartTaken s).fetchCount .cue = 0 := by
  cases hl : s.cueIs .loading with
  | false =>
    rw [fetchCount_eq, State.fetches, restartTaken_store hl]
    exact h.trans (by rw [hl]; rfl)
  | true =>
    have abandons : (restartTaken s).store = (abandonCueFetch s).store := by
      unfold restartTaken
      cases hc : s.seq.cue with
      | none => simp [State.cueIs, hc] at hl
      | some c =>
        have loading : c.state = .loading := by simpa [State.cueIs, hc] using hl
        dsimp only
        rw [if_pos loading]
    rw [fetchCount_eq, State.fetches, abandons]
    exact (abandonCueFetch_count (by rw [h]; exact Bool.toNat_le _) .cue).trans (if_pos rfl)

/-! ## The request (R177) -/

theorem beginRestart_slotSame (s : State) : SlotSame (restartTaken s) (beginRestart s) := by
  rw [beginRestart_eq]
  split
  · exact (beginRestartSilence_frame _).slotSame
  · exact (SameBut.refl [] _).slotSame

theorem beginRestart_resetting (s : State) : (beginRestart s).resetting = .silence := by
  rw [beginRestart_eq]
  split
  · exact ((beginRestartSilence_frame _).at .resetting).trans (restartTaken_resetting s)
  · exact restartTaken_resetting s

theorem restartTaken_bus (s : State) : (restartTaken s).bus = s.bus := (restartTaken_frame s).at .bus

theorem beginRestart_busy (h : s.bus.transmission.isSome = true) : (beginRestart s).bus = s.bus := by
  rw [beginRestart_eq, if_neg (by rw [restartTaken_bus]; cases hs : s.bus.transmission <;> simp_all)]
  exact restartTaken_bus s

theorem beginRestart_idle (h : s.bus.transmission = none) : beginRestart s = beginRestartSilence (restartTaken s) := by
  rw [beginRestart_eq, if_pos (by rw [restartTaken_bus, h]; rfl)]

/-- A message's beginning, said of the bus, the setup and the count alone. -/
theorem Begins.congr {o : Option ModuleId} {m : Message} {now now' : Count} {v w : State} (h : Begins o m now v w) (hb : s.bus = v.bus)
    (hs : s.setup = v.setup) (ht : t.bus = w.bus) (hn : now = now') : Begins o m now' s t := by
  subst hn
  unfold Begins at h ⊢
  rw [hb, hs, ht]
  exact h

theorem restartRequest (p : Port) (tag : Byte) (s : State) (h : s.serves p) : ∃ t, exec (.restart p tag) s = .next t ∧
    (s.store.mode = .show → Completed p ⟨0x43, tag, []⟩ .locked [] s t) ∧
    (s.store.mode = .prep → Completed p ⟨0x43, tag, []⟩ .ok [.resetting, .seq, .store, .bus] s t ∧ t.resetting = .silence ∧
      t.seq = { s.seq with cue := none, settle := .idle, retention := none } ∧
      t.otherFetches = s.otherFetches ∧ (s.fetchCount .cue = (s.cueIs .loading).toNat → t.fetchCount .cue = 0) ∧
      (s.cueIs .loading = false → t.store = s.store) ∧
      (s.bus.transmission.isSome = true → t.bus = s.bus) ∧
      (s.bus.transmission = none → ∃ x, t.bus.transmission = some x ∧ x.target = none ∧ x.message = .silence 15 ∧
        x.forRestart = true ∧ Begins none (.silence 15) s.now s t)) := by
  set f : Frame := ⟨0x43, tag, []⟩
  set u := s.taking p f with hu
  have run : exec (.restart p tag) s = .next (finish p (requestRestart u)) := congrArg _ (arrive_known (k := .restart) h rfl)
  have mode : u.store.mode = s.store.mode := by rw [hu, taking_store]
  refine ⟨_, run, fun locked => ?_, fun prep => ?_⟩
  · rw [requestRestart, if_pos (mode.trans locked)]
    exact refused_completed
  · rw [requestRestart, if_neg (by rw [mode, prep]; decide)]
    set t := finish p (done (beginRestart u)) with ht
    have closed : SameBut _ (beginRestart u) t := finish_frame p (beginRestart u) .ok
    have slot : SlotSame (beginRestart u) t := closed.slotSame
    have taken := beginRestart_slotSame u
    have bus : t.bus = (beginRestart u).bus := closed.at .bus
    have uBus : u.bus = s.bus := taking_bus s p f
    have uCue (y : CueState) : u.cueIs y = s.cueIs y := taking_cueIs s p f y
    have uFetches : u.fetches = s.fetches := taking_fetches s p f
    refine ⟨finish_completed (beginRestart_frame u), (closed.at .resetting).trans (beginRestart_resetting u), ?_, ?_, fun one => ?_,
      fun notLoading => ?_, fun busy => ?_, fun idle => ?_⟩
    · rw [slot.seq, taken.seq, restartTaken_seq, hu, taking_seq]
    · rw [slot.otherFetches, taken.otherFetches, restartTaken_others, State.otherFetches, uFetches]
      rfl
    · rw [slot.fetchCount, taken.fetchCount]
      refine restartTaken_count ?_
      rw [uCue, fetchCount_eq, uFetches]
      exact one
    · rw [slot.store, taken.store, restartTaken_store ((uCue _).trans notLoading), hu, taking_store]
    · rw [bus, beginRestart_busy (by rw [uBus]; exact busy), uBus]
    · have silence := beginRestart_idle (s := u) (by rw [uBus]; exact idle)
      have begins : Begins none (.silence 15) (restartTaken u).now u (beginRestartSilence (restartTaken u)) :=
        beginTransmission_begins none (.silence 15) false (congrArg Bus.selection (restartTaken_bus u)) ((restartTaken_frame u).at .setup)
      rw [← silence] at begins
      refine ⟨_, by rw [bus, silence]; rfl, rfl, rfl, rfl, begins.congr uBus.symm ?_ bus ?_⟩
      · rw [hu, taking_setup]
      · exact (congrArg Timebase.count ((restartTaken_frame u).at .timebase)).trans (congrArg Timebase.count (taking_timebase s p f))

/-! ## The SILENCE behind the message in progress (R122) -/

theorem silenceFollows (s : State) (x : Transmission) (hx : s.bus.transmission = some x) (hr : x.forRestart = false)
    (hs : s.resetting = .silence) : ∃ t, exec .endOfTransmission s = .next t ∧ SameBut [.bus] (s.expired x.timer) t ∧
      Begins none (.silence 15) x.timer.due s t ∧
      t.bus = { s.bus with transmission := t.bus.transmission, selection := .all, idleTimer := none } ∧
      ∃ y, t.bus.transmission = some y ∧ y.forRestart = true := by
  set v := s.atCount x.timer.due with hv
  have seq : (endOfMessage x v).seq = v.seq := by
    rw [endOfMessage_seq, if_neg]
    rintro ⟨-, idle⟩
    rw [hv, State.atCount_resetting, hs] at idle
    cases idle
  have bus := endOfMessage_bus x v
  have ended : SameBut [.bus] v (endOfMessage x v) := by
    refine ⟨fun q hq => ?_⟩
    by_cases sequencer : q = .seq
    · subst sequencer
      exact seq
    · exact (endOfMessage_frame' x v).same q (by simp_all)
  have work : messageEnd x v = beginRestartSilence (endOfMessage x v) := by
    unfold messageEnd
    exact if_pos ((ended.at .resetting).trans hs)
  have frame : SameBut [.bus] v (messageEnd x v) := by
    rw [work]
    exact ended.then (beginRestartSilence_frame _)
  have t_bus : (expireAt x.timer (messageEnd x) s).bus = (beginRestartSilence (endOfMessage x v)).bus := by
    rw [← work]
    unfold expireAt
    split <;> rfl
  have silence : (beginRestartSilence (endOfMessage x v)).bus = { (endOfMessage x v).bus with
      selection := .all, idleTimer := none, transmission := (beginRestartSilence (endOfMessage x v)).bus.transmission } := rfl
  refine ⟨expireAt x.timer (messageEnd x) s, exec_endOfTransmission hx hr, expired_same frame, ?_, ?_, ?_⟩
  · have begins : Begins none (.silence 15) (endOfMessage x v).now s (beginRestartSilence (endOfMessage x v)) :=
      beginTransmission_begins none (.silence 15) false (by rw [bus]; rfl) (ended.at .setup)
    exact begins.congr rfl rfl t_bus (congrArg Timebase.count (ended.at .timebase))
  · rw [t_bus, silence, bus]
    rfl
  · rw [t_bus]
    exact ⟨_, rfl, rfl⟩

/-! ## The reset at the SILENCE's end (R22, R41, R53, R68, R85, R102, R122, R142, R158, R168, R181) -/

/-- What the restart's reset changes. -/
abbrev resetParts : List Part :=
  [.resetting, .grid, .follower, .tap, .click, .links, .layer, .notes, .bus, .banks, .seq, .store, .board] ++ portParts

/-- The state with every block at its reset values, before setup is fetched. -/
def resetBlocks (s : State) : State := { s with
  resetting := .setup
  grid := Grid.initial, follower := Follower.initial, tap := TapTimer.initial, click := Click.initial
  links := Vector.replicate 4 KeyLink.initial, layer := Layer.initial, notes := Notes.initial
  bus := { Bus.initial with modules := s.bus.modules.map ModuleState.restarted }
  banks := Banks.initial, seq := Sequencer.initial, store := s.store.restarted, board := restartedBoard s
  portA := s.portA.restarted, portB := s.portB.restarted }

theorem restartReset_eq (s : State) : restartReset s = requestFetch ⟨.setup, 0⟩ (resetBlocks s) := rfl

theorem resetBlocks_frame (s : State) : SameBut resetParts s (resetBlocks s) := by
  refine ⟨fun q hq => ?_⟩
  cases q <;> first | rfl | exact absurd (by decide) hq

theorem restartReset_same (s : State) : SameBut [.store] (resetBlocks s) (restartReset s) := requestFetch_frame _ _

theorem requestFetch_store (f : Fetch) (s : State) : (requestFetch f s).store = { s.store with
    activity := if s.store.activity = .idle then .fetching f else s.store.activity
    queue := if s.store.activity = .idle then s.store.queue else s.store.queue ++ [f] } := by
  unfold requestFetch
  split
  · next idle => rw [if_pos idle, if_pos idle]
  · next other => rw [if_neg other, if_neg other]

/-- The transmitters leave a port with no notice its queue. -/
theorem transmit_queue {c : ControlPort} {q : Position} {now : Count} (h : c.queue = ([], false, 0)) : (c.transmit q now).queue = ([], false, 0) := by
  have none : c.notices = [] := congrArg Prod.fst h
  unfold ControlPort.transmit
  rw [none]
  split
  · exact h
  · split
    · next other => cases other
    · exact h
    · next other => cases other
    · exact h

theorem resetPort (s : State) (q : Port) : ((resetBlocks s).port q) = (s.port q).restarted := by cases q <;> rfl

theorem restartedBoard_restarts {v : State} (hs : v.setup = s.setup) (ht : t.board = restartedBoard v) : BoardRestarted v.now s t where
  switches y := by
    have same : getAt t.board.switches y = Switch.initial := by
      rw [ht]
      exact Vector.getElem_replicate ..
    rw [same]
    exact ⟨rfl, rfl, rfl⟩
  pedals q lo hi hc := by
    have same : t.pedal q = { Pedal.initial with mode := calibratedMode (getAt v.setup.calibration q) } := by
      rw [State.pedal, ht]
      exact Vector.getElem_ofFn ..
    rw [same, hs, hc]
    rfl
  conversions := by rw [ht]; exact ⟨rfl, rfl, rfl⟩
  matrix := by rw [ht]; exact ⟨rfl, rfl, rfl, rfl, rfl, rfl⟩
  flashes := by rw [ht]; exact ⟨rfl, rfl⟩
  blink := by rw [ht]; exact ⟨rfl, rfl⟩

/-- An expiry's work is done at the timer's due value; the count alone may differ after it. -/
theorem expireAt_work (tm : Timer) (f : State → State) (s : State) : SameBut [.timebase] (f (s.atCount tm.due)) (expireAt tm f s) := by
  unfold expireAt
  split
  · exact atCount_frame ..
  · exact .refl _ _

theorem silenceEnds (s : State) (x : Transmission) (hx : s.bus.transmission = some x) (hr : x.forRestart = true) :
    ∃ t, exec .restartSilenceEnd s = .next t ∧ exec .endOfTransmission s = .next t ∧ SameBut resetParts (s.expired x.timer) t ∧
    t.resetting = .setup ∧ t.grid = Grid.initial ∧ t.follower = Follower.initial ∧ t.tap = TapTimer.initial ∧ t.click = Click.initial ∧
    (∀ l, t.link l = KeyLink.initial) ∧ t.layer = Layer.initial ∧ t.notes = Notes.initial ∧ t.banks = Banks.initial ∧
    t.seq = Sequencer.initial ∧ t.bus.transmission = none ∧ t.bus.pending = [] ∧ t.bus.realtime = [] ∧ t.bus.pass = [] ∧
    t.bus.selection = .none ∧ t.bus.idleTimer = none ∧ (∀ m c, t.bus.cell m c = none) ∧
    (∀ m, t.module m = { s.module m with timer := none, discards := 0 }) ∧ BoardRestarted x.timer.due s t ∧
    t.store = { s.store with
      mode := .prep, activeSlot := none
      activity := if s.store.activity = .idle then .fetching ⟨.setup, 0⟩ else s.store.activity
      queue := if s.store.activity = .idle then s.store.queue else s.store.queue ++ [⟨.setup, 0⟩] } ∧
    (∀ q, (t.port q).queue = ([], false, 0) ∧ (t.port q).mask = BitVec.allOnes 22 ∧ (t.port q).positions = .off ∧
      (t.port q).buffer = (s.port q).buffer ∧ (t.port q).inService = (s.port q).inService) := by
  set v := s.atCount x.timer.due with hv
  have reset := resetBlocks_frame v
  have fetch := restartReset_same v
  have lines := transmitAll_frame (restartReset v)
  have work := expireAt_work x.timer (fun y => transmitAll (restartReset y)) s
  have after : SameBut (.timebase :: .store :: lineParts) (resetBlocks v) (silenceEnd x s) :=
    ((fetch.chain lines (rs := .store :: lineParts)).chain work)
  have bus : (silenceEnd x s).bus = { Bus.initial with modules := s.bus.modules.map ModuleState.restarted } := after.at .bus
  have store : (silenceEnd x s).store = (restartReset v).store := (work.at .store).trans (lines.at .store)
  refine ⟨silenceEnd x s, ?_, ?_, expired_same ?_, after.at .resetting, after.at .grid, after.at .follower, after.at .tap, after.at .click,
    fun l => ?_, after.at .layer, after.at .notes, after.at .banks, after.at .seq, by rw [bus]; rfl, by rw [bus]; rfl, by rw [bus]; rfl,
    by rw [bus]; rfl, by rw [bus]; rfl, by rw [bus]; rfl, fun m c => ?_, fun m => ?_,
    restartedBoard_restarts (v := v) rfl (after.at .board), ?_, fun q => ?_⟩
  · refine congrArg Host.Outcome.next ?_
    rw [hx]
    exact if_pos hr
  · rw [exec, execEndOfTransmission, onTransmission, hx]
    simp [hr]
  · exact (reset.chain fetch (rs := resetParts)).chain lines
  · rw [State.link, after.at .links]
    exact Vector.getElem_replicate ..
  · rw [bus]
    exact (congrArg (fun y => getAt y c) (Vector.getElem_replicate ..)).trans (Vector.getElem_replicate ..)
  · rw [State.module, bus]
    exact Vector.getElem_map ..
  · rw [store, restartReset_eq, requestFetch_store]
    rfl
  · have service : ((silenceEnd x s).port q).service = ((s.port q).restarted).service :=
      (after.service q (by decide) (by decide)).trans (by rw [resetPort]; rfl)
    simp only [ControlPort.service, Prod.mk.injEq] at service
    obtain ⟨-, -, -, buffer, inService, mask, positions⟩ := service
    refine ⟨?_, mask, positions, buffer, inService⟩
    have begun : ((restartReset v).port q).queue = ([], false, 0) := by
      rw [fetch.queue q, resetPort]
      rfl
    refine (work.queue q).trans ?_
    rw [transmitAll_port]
    exact transmit_queue begun

/-- Settles O42: the request, the SILENCE behind a message in progress, and the reset at its end. -/
theorem restart : Obligations.Restart := ⟨restartRequest, silenceFollows, silenceEnds⟩

end Sys2Proof.Machine
end

section
/-! PROOF. Samples of the BUSY lines and of the footswitches (O53). -/

namespace Sys2Proof.Machine

variable {s t u : State} {m n : ModuleId}

/-! ## Events of one instant (log entry 5) -/

/-- The free order of several events names each of them, and nothing else. -/
theorem mem_permute {d : Nat} {l : List Instr} {e : Instr} : e ∈ permute d l ↔ e ∈ l := by
  have fold (g : Nat → Nat) : ∀ (l acc : List Instr),
      e ∈ l.foldl (fun acc i => acc.insertIdx (g acc.length % (acc.length + 1)) i) acc ↔ e ∈ acc ∨ e ∈ l := by
    intro l
    induction l with
    | nil => simp
    | cons i l ih =>
      intro acc
      have place : g acc.length % (acc.length + 1) ≤ acc.length := Nat.le_of_lt_succ (Nat.mod_lt _ (Nat.succ_pos _))
      rw [List.foldl_cons, ih, List.mem_insertIdx place, List.mem_cons]
      tauto
  match l with
  | [] => rfl
  | [x] => rfl
  | x :: y :: r => exact (fold (Config.eventPlace d) _ []).trans (by simp)

/-- What a list of events comes to: each is worked once, in some order, from the state or from it with a free value drawn. -/
theorem runFree_works (f : Instr → State → State) (l : List Instr) (s : State) :
    ∃ (y : State) (l' : List Instr), SameBut [.draws] s y ∧ (∀ e, e ∈ l' ↔ e ∈ l) ∧ runFree f l s = l'.foldl (fun t e => f e t) y := by
  unfold runFree
  split
  · exact ⟨s, l, .refl _ s, fun e => Iff.rfl, rfl⟩
  · exact ⟨s.drew, _, drew_frame s, fun e => mem_permute, rfl⟩

theorem runFree_nil (f : Instr → State → State) (s : State) : runFree f [] s = s := rfl

theorem runFree_one (f : Instr → State → State) (e : Instr) (s : State) : runFree f [e] s = f e s := rfl

/-- Where one element alone is picked, the list of those picked is that one. -/
theorem filter_allFin {k : Nat} {g : Fin k → Bool} {i : Fin k} (hi : g i = true) (others : ∀ j, j ≠ i → g j = false) :
    (allFin k).filter g = [i] := by
  have alone : (allFin k).filter g = (List.finRange k).filter (· = i) := List.filter_congr fun j _ => by
    by_cases same : j = i
    · simp [same, hi]
    · simp [same, others j same]
  rw [alone, List.filter_eq, List.count_finRange]
  rfl

/-! ## The BUSY filters (R108) -/

/-- A work leaves the BUSY filters. -/
def FiltersStand (s t : State) : Prop := ∀ n, (t.module n).busy = (s.module n).busy ∧ (t.module n).agreeing = (s.module n).agreeing

theorem FiltersStand.then (h : FiltersStand s t) (g : FiltersStand t u) : FiltersStand s u :=
  fun n => ⟨(g n).1.trans (h n).1, (g n).2.trans (h n).2⟩

theorem ModulesStand.filters (h : ModulesStand s t) : FiltersStand s t := fun n => by
  obtain ⟨d, hd⟩ := h.modules n
  rw [hd]
  exact ⟨rfl, rfl⟩

theorem enterMode_filters (m : ModuleId) (new : ModuleMode) (tm : Option Timer) (k : Option Nat) (s : State) :
    FiltersStand s (enterMode m new tm k s) := fun n => by
  by_cases h : n = m
  · subst h
    rw [enterMode_module_same]
    exact ⟨rfl, rfl⟩
  · rw [enterMode_module_other new tm k s h]
    exact ⟨rfl, rfl⟩

/-- A module's entering a state, and the settle and the look that follow it. -/
theorem entered_filters (m : ModuleId) (new : ModuleMode) (tm : Option Timer) (k : Option Nat) (s : State) :
    FiltersStand s (arbitrate (examineSettle (enterMode m new tm k s))) :=
  (enterMode_filters m new tm k s).then ((examineSettle_modulesStand _).then (arbitrate_modulesStand _)).filters

theorem busyAsserted_filters (m : ModuleId) (s : State) : FiltersStand (s.busySet m true) (busyAsserted m s) := by
  unfold busyAsserted
  dsimp only
  split
  · exact entered_filters m _ _ _ _
  · exact fun n => ⟨rfl, rfl⟩

/-- A STALLED module's return, with its resync posts. -/
theorem resynced_filters (m : ModuleId) (s : State) : FiltersStand (s.busySet m false) (s.resynced m) := fun _ => ⟨rfl, rfl⟩

theorem busyDeasserted_stalled (h : (s.module m).mode = .stalled) : busyDeasserted m s =
    arbitrate (examineSettle (enterMode m .ready none (some (s.resyncs m).length) (s.resynced m))) := by
  have posts : resyncPosts m (s.busySet m false).bus (s.busySet m false).activeBank.programs = s.resyncs m := by
    refine Eq.trans ?_ (resyncPosts_eq m s)
    rw [activeBank_congr ((busySet_frame s m false).at .banks)]
    rfl
  rw [State.resynced, ← posts, busyDeasserted, h]
  rfl

theorem busyDeasserted_filters (m : ModuleId) (s : State) : FiltersStand (s.busySet m false) (busyDeasserted m s) := by
  match mode : (s.module m).mode with
  | .loading =>
    rw [busyDeasserted, mode]
    exact entered_filters m _ _ _ _
  | .stalled =>
    rw [busyDeasserted_stalled mode]
    exact (resynced_filters m s).then (entered_filters m _ _ _ _)
  | .ready | .disabled =>
    rw [busyDeasserted, mode]
    exact fun n => ⟨rfl, rfl⟩

/-! ## The edges of a sample -/

/-- The edge a level makes on a module's line, as an event. -/
def busyEdge (a : BitVec 8) (m : ModuleId) : Instr := if a.getLsbD m.val then .moduleBusyAsserted m else .moduleBusyDeasserted m

theorem busyEdge_inj {a : BitVec 8} (h : busyEdge a m = busyEdge a n) : m = n := by
  unfold busyEdge at h
  split at h <;> split at h <;> cases h <;> rfl

/-- The work of an edge. -/
def busyEdgeWork (e : Instr) (t : State) : State :=
  match e with
  | .moduleBusyAsserted m => busyAsserted m t
  | .moduleBusyDeasserted m => busyDeasserted m t
  | _ => t

/-- The state with other modules. -/
def State.withModules (s : State) (f : ModuleId → ModuleState) : State := { s with bus := { s.bus with modules := Vector.ofFn f } }

/-- The state after the lines without an edge are counted. -/
def busyCounted (a : BitVec 8) (s : State) : State :=
  s.withModules fun m => if (s.module m).accepts (a.getLsbD m.val) then s.module m else (s.module m).sampled (a.getLsbD m.val)

theorem busySampleAll_eq (a : BitVec 8) (s : State) : busySampleAll a s = runFree busyEdgeWork
    (((allFin 8).filter (fun m => (s.module m).accepts (a.getLsbD m.val))).map (busyEdge a)) (busyCounted a s) := rfl

theorem busyCounted_module (a : BitVec 8) (s : State) (m : ModuleId) : (busyCounted a s).module m =
    if (s.module m).accepts (a.getLsbD m.val) then s.module m else (s.module m).sampled (a.getLsbD m.val) := Vector.getElem_ofFn ..

theorem accepts_iff {x : ModuleState} {b : Bool} (h : x.agreeing ≤ 2) : x.accepts b = true ↔ b ≠ x.busy ∧ x.agreeing = 2 := by
  rw [ModuleState.accepts, Bool.and_eq_true, bne_iff_ne, decide_eq_true_iff]
  exact ⟨fun h => ⟨h.1.symm, by omega⟩, fun h => ⟨h.1.symm, by omega⟩⟩

theorem busyEdgeWork_filters (a : BitVec 8) (m : ModuleId) (s : State) : FiltersStand (s.busySet m (a.getLsbD m.val)) (busyEdgeWork (busyEdge a m) s) := by
  unfold busyEdge
  cases a.getLsbD m.val with
  | true => exact busyAsserted_filters m s
  | false => exact busyDeasserted_filters m s

/-- The filters after the edges of a sample: each module with an edge has taken its line's level, the others stand. -/
theorem busyEdges_filters (a : BitVec 8) : ∀ (l : List Instr) (s : State), (∀ e ∈ l, ∃ m, e = busyEdge a m) → ∀ n,
    (busyEdge a n ∈ l → ((l.foldl (fun t e => busyEdgeWork e t) s).module n).busy = a.getLsbD n.val ∧
      ((l.foldl (fun t e => busyEdgeWork e t) s).module n).agreeing = 0) ∧
    (busyEdge a n ∉ l → ((l.foldl (fun t e => busyEdgeWork e t) s).module n).busy = (s.module n).busy ∧
      ((l.foldl (fun t e => busyEdgeWork e t) s).module n).agreeing = (s.module n).agreeing)
  | [], s, _, n => ⟨fun h => absurd h (by simp), fun _ => ⟨rfl, rfl⟩⟩
  | e :: l, s, h, n => by
    obtain ⟨m, rfl⟩ := h e List.mem_cons_self
    obtain ⟨named, others⟩ := busyEdges_filters a l (busyEdgeWork (busyEdge a m) s) (fun e he => h e (List.mem_cons_of_mem _ he)) n
    obtain ⟨busy, agreeing⟩ := busyEdgeWork_filters a m s n
    rw [List.foldl_cons]
    refine ⟨fun mem => ?_, fun out => ?_⟩
    · by_cases later : busyEdge a n ∈ l
      · exact named later
      · obtain rfl : n = m := busyEdge_inj ((List.mem_cons.1 mem).resolve_right later)
        rw [busySet_same] at busy agreeing
        exact ⟨(others later).1.trans busy, (others later).2.trans agreeing⟩
    · obtain ⟨other, later⟩ := not_or.1 (mt List.mem_cons.2 out)
      have differs : n ≠ m := fun same => other (by rw [same])
      rw [busySet_other s _ differs] at busy agreeing
      exact ⟨(others later).1.trans busy, (others later).2.trans agreeing⟩

theorem exec_busyLineSample (a : BitVec 8) (hr : s.running = true) : exec (.busyLineSample a) s = .next (transmitAll (busySampleAll a s)) :=
  congrArg Host.Outcome.next (whileRunning_running (f := fun x => transmitAll (busySampleAll a x)) hr)

theorem busyLineSampled (a : BitVec 8) (s : State) (hr : s.running = true) (few : ∀ m, (s.module m).agreeing ≤ 2) :
    ∃ t, exec (.busyLineSample a) s = .next t ∧ SameBut (.draws :: arbiterParts ++ lineParts) s t ∧
    (∀ m, (t.module m).busy = (if (s.module m).agreeing = 2 then a.getLsbD m.val else (s.module m).busy) ∧
      (t.module m).agreeing = (if a.getLsbD m.val = (s.module m).busy ∨ (s.module m).agreeing = 2 then 0 else (s.module m).agreeing + 1)) ∧
    ((∀ m, (s.module m).agreeing < 2) → SameBut (.bus :: lineParts) s t ∧ ∀ m, (t.module m).mode = (s.module m).mode) := by
  have lines := transmitAll_frame (busySampleAll a s)
  have modules (m : ModuleId) : (transmitAll (busySampleAll a s)).module m = (busySampleAll a s).module m := by
    rw [State.module, (lines.at .bus : (transmitAll _).bus = _)]
    rfl
  refine ⟨_, exec_busyLineSample a hr, ((busySampleAll_frame a s).chain lines (rs := .draws :: arbiterParts ++ lineParts)), fun m => ?_,
    fun quiet => ?_⟩
  · rw [modules]
    obtain ⟨y, l, drawn, same, run⟩ := runFree_works busyEdgeWork
      (((allFin 8).filter (fun m => (s.module m).accepts (a.getLsbD m.val))).map (busyEdge a)) (busyCounted a s)
    have edges : ∀ e ∈ l, ∃ m, e = busyEdge a m := fun e he => by
      obtain ⟨m, -, rfl⟩ := List.mem_map.1 ((same e).1 he)
      exact ⟨m, rfl⟩
    have listed : busyEdge a m ∈ l ↔ (s.module m).accepts (a.getLsbD m.val) = true := by
      rw [same, List.mem_map]
      refine ⟨fun ⟨n, hn, eq⟩ => ?_, fun h => ⟨m, List.mem_filter.2 ⟨List.mem_finRange m, h⟩, rfl⟩⟩
      rw [← busyEdge_inj eq]
      exact (List.mem_filter.1 hn).2
    have counted : y.module m = (busyCounted a s).module m := by
      rw [State.module, (drawn.at .bus : y.bus = _)]
      rfl
    obtain ⟨named, others⟩ := busyEdges_filters a l y edges m
    rw [busySampleAll_eq, run]
    rw [counted, busyCounted_module] at others
    by_cases edge : (s.module m).accepts (a.getLsbD m.val) = true
    · obtain ⟨busy, agreeing⟩ := named (listed.2 edge)
      obtain ⟨-, two⟩ := (accepts_iff (few m)).1 edge
      rw [busy, agreeing, if_pos two, if_pos (Or.inr two)]
      exact ⟨rfl, rfl⟩
    · obtain ⟨busy, agreeing⟩ := others fun mem => edge (listed.1 mem)
      rw [if_neg edge] at busy agreeing
      rw [accepts_iff (few m)] at edge
      rw [busy, agreeing, ModuleState.sampled]
      have := few m
      by_cases level : a.getLsbD m.val = (s.module m).busy
      · rw [if_pos level.symm, if_pos (Or.inl level), level]
        exact ⟨(ite_self _).symm, rfl⟩
      · have below : (s.module m).agreeing ≠ 2 := fun two => edge ⟨level, two⟩
        rw [if_neg (Ne.symm level), if_neg below, if_neg (not_or.2 ⟨level, below⟩)]
        exact ⟨rfl, rfl⟩
  · have none : (allFin 8).filter (fun m => (s.module m).accepts (a.getLsbD m.val)) = [] :=
      List.filter_eq_nil_iff.2 fun m _ edge => by
        have two := ((accepts_iff (few m)).1 edge).2
        have := quiet m
        omega
    have counted : busySampleAll a s = busyCounted a s := by rw [busySampleAll_eq, none]; rfl
    refine ⟨?_, fun m => ?_⟩
    · rw [counted]
      exact (busUpdate_frame s _).chain (transmitAll_frame _)
    · rw [modules, counted, busyCounted_module]
      split <;> rfl

/-! ## One edge alone -/

theorem exec_busyEdge (a : BitVec 8) (m : ModuleId) (hr : u.running = true) (differs : a.getLsbD m.val ≠ (u.module m).busy) :
    exec (busyEdge a m) u = .next (transmitAll (busyEdgeWork (busyEdge a m) u)) := by
  unfold busyEdge
  cases asserted : a.getLsbD m.val with
  | true =>
    rw [asserted] at differs
    exact congrArg Host.Outcome.next ((whileRunning_running hr).trans (if_neg differs.symm))
  | false =>
    rw [asserted] at differs
    exact congrArg Host.Outcome.next ((whileRunning_running hr).trans (if_pos (Bool.eq_true_of_not_eq_false differs.symm)))

theorem busyCounted_one {a : BitVec 8} (two : (s.module m).agreeing = 2) (differs : a.getLsbD m.val ≠ (s.module m).busy)
    (others : ∀ n, n ≠ m → (s.module n).agreeing < 2 ∨ a.getLsbD n.val = (s.module n).busy) :
    (allFin 8).filter (fun n => (s.module n).accepts (a.getLsbD n.val)) = [m] ∧
    busyCounted a s = s.withModules fun n => if n = m then s.module n else { s.module n with
      agreeing := if a.getLsbD n.val = (s.module n).busy then 0 else (s.module n).agreeing + 1 } := by
  have edge : (s.module m).accepts (a.getLsbD m.val) = true := (accepts_iff two.le).2 ⟨differs, two⟩
  have quiet (n : ModuleId) (hn : n ≠ m) : (s.module n).accepts (a.getLsbD n.val) = false := by
    rcases others n hn with below | same
    · exact Bool.eq_false_iff.2 fun h => absurd ((accepts_iff below.le).1 h).2 below.ne
    · rw [ModuleState.accepts, same, bne_self_eq_false, Bool.false_and]
  refine ⟨filter_allFin edge quiet, ?_⟩
  refine congrArg s.withModules (funext fun n => ?_)
  by_cases same : n = m
  · rw [same, if_pos edge, if_pos rfl]
  · rw [quiet n same, if_neg Bool.false_ne_true, if_neg same, ModuleState.sampled]
    simp only [eq_comm]

theorem busyLineSample_one {a : BitVec 8} (hr : s.running = true) (two : (s.module m).agreeing = 2) (differs : a.getLsbD m.val ≠ (s.module m).busy)
    (others : ∀ n, n ≠ m → (s.module n).agreeing < 2 ∨ a.getLsbD n.val = (s.module n).busy) :
    exec (.busyLineSample a) s = exec (busyEdge a m) (busyCounted a s) := by
  obtain ⟨alone, -⟩ := busyCounted_one two differs others
  have stands : (busyCounted a s).module m = s.module m :=
    (busyCounted_module a s m).trans (if_pos ((accepts_iff two.le).2 ⟨differs, two⟩))
  rw [exec_busyLineSample a hr, busySampleAll_eq, alone]
  exact (exec_busyEdge (u := busyCounted a s) a m hr (by rw [stands]; exact differs)).symm

/-! ## The footswitches (R159) -/

variable {x : BitVec 8} {f : SwitchId}

/-- The edge a level makes on a switch, as an event. -/
def switchEdge (x : BitVec 8) (f : SwitchId) : Instr := if x.getLsbD f.val then .footswitchPress f else .footswitchRelease f

/-- The work of an edge. -/
def switchEdgeWork (e : Instr) (t : State) : State :=
  match e with
  | .footswitchPress f => pressAccepted f t
  | .footswitchRelease f => releaseAccepted f t
  | _ => t

/-- The state with other switches. -/
def State.withSwitches (s : State) (f : SwitchId → Switch) : State := { s with board := { s.board with switches := Vector.ofFn f } }

/-- The state after the switches without an edge are counted. -/
def switchesCounted (x : BitVec 8) (s : State) : State := s.withSwitches fun f =>
  if (s.switch f).accepts s.setup.debounce (x.getLsbD f.val) then s.switch f else (s.switch f).sampled (x.getLsbD f.val)

theorem switchSample_eq (x : BitVec 8) (s : State) : switchSample x s = runFree switchEdgeWork
    (((allFin 8).filter (fun f => (s.switch f).accepts s.setup.debounce (x.getLsbD f.val))).map (switchEdge x)) (switchesCounted x s) := rfl

theorem exec_footswitchSample (x : BitVec 8) (hr : s.running = true) : exec (.footswitchSample x) s = .next (close (switchSample x s)) :=
  congrArg Host.Outcome.next (whileRunning_running (f := fun y => close (switchSample x y)) hr)

theorem sampled_counted (y : Switch) (closed : Bool) : y.sampled closed = y.counted closed := by
  unfold Switch.sampled Switch.counted
  cases y.level <;> rfl

/-- A sample that brings no edge, by its level and its count. -/
theorem not_switch_accepts {y : Switch} {k : Nat} {closed : Bool} (h : y.level = none ∨ y.level = some closed ∨ y.count + 1 < k) :
    y.accepts k closed = false := by
  unfold Switch.accepts
  cases level : y.level with
  | none => rfl
  | some l =>
    rw [level] at h
    rcases h with none | same | below
    · cases none
    · obtain rfl := Option.some.inj same
      exact Bool.and_eq_false_iff.2 (.inl (bne_self_eq_false l))
    · exact Bool.and_eq_false_iff.2 (.inr (decide_eq_false (by omega)))

theorem switch_accepts {y : Switch} {k : Nat} {closed : Bool} (level : y.level = some (!closed)) (count : k ≤ y.count + 1) : y.accepts k closed = true := by
  rw [Switch.accepts, level]
  exact Bool.and_eq_true_iff.2 ⟨bne_iff_ne.2 (Bool.not_ne_self closed), decide_eq_true count⟩

theorem footswitchSampled (x : BitVec 8) (hr : s.running = true)
    (quiet : ∀ f, (s.switch f).level = none ∨ (s.switch f).level = some (x.getLsbD f.val) ∨ (s.switch f).count + 1 < s.setup.debounce) :
    ∃ t, exec (.footswitchSample x) s = .next t ∧ Closed [.board] s t ∧ ∀ f, t.switch f = (s.switch f).counted (x.getLsbD f.val) := by
  have none : (allFin 8).filter (fun f => (s.switch f).accepts s.setup.debounce (x.getLsbD f.val)) = [] :=
    List.filter_eq_nil_iff.2 fun f _ => Bool.eq_false_iff.1 (not_switch_accepts (quiet f))
  have counted : switchSample x s = switchesCounted x s := by rw [switchSample_eq, none]; rfl
  have ends := close_ends (switchesCounted x s)
  refine ⟨_, exec_footswitchSample x hr, ?_, fun f => ?_⟩
  · rw [counted]
    exact close_closed ((boardUpdate_frame s _).mono (by decide)) rfl
  · rw [counted, State.switch, ends.board]
    refine (Vector.getElem_ofFn ..).trans ?_
    rw [not_switch_accepts (quiet f)]
    exact sampled_counted _ _

theorem exec_switchEdge (x : BitVec 8) (f : SwitchId) (hr : u.running = true) (level : (u.switch f).level = some (!x.getLsbD f.val)) :
    exec (switchEdge x f) u = .next (close (switchEdgeWork (switchEdge x f) u)) := by
  unfold switchEdge
  cases closed : x.getLsbD f.val with
  | true =>
    rw [closed] at level
    refine congrArg Host.Outcome.next ((whileRunning_running hr).trans (if_pos ?_))
    rw [level]
    nofun
  | false =>
    rw [closed] at level
    exact congrArg Host.Outcome.next ((whileRunning_running hr).trans (if_pos level))

theorem switchesCounted_one (level : (s.switch f).level = some (!x.getLsbD f.val)) (count : s.setup.debounce ≤ (s.switch f).count + 1)
    (others : ∀ g, g ≠ f → (s.switch g).level = none ∨ (s.switch g).level = some (x.getLsbD g.val) ∨ (s.switch g).count + 1 < s.setup.debounce) :
    (allFin 8).filter (fun g => (s.switch g).accepts s.setup.debounce (x.getLsbD g.val)) = [f] ∧
    switchesCounted x s = s.withSwitches fun g => if g = f then s.switch g else (s.switch g).counted (x.getLsbD g.val) := by
  have edge := switch_accepts level count
  have quiet (g : SwitchId) (hg : g ≠ f) := not_switch_accepts (others g hg)
  refine ⟨filter_allFin edge quiet, ?_⟩
  refine congrArg s.withSwitches (funext fun g => ?_)
  by_cases same : g = f
  · rw [same, if_pos edge, if_pos rfl]
  · rw [quiet g same, if_neg Bool.false_ne_true, if_neg same, sampled_counted]

theorem switchesCounted_switch (edge : (s.switch f).accepts s.setup.debounce (x.getLsbD f.val) = true) :
    (switchesCounted x s).switch f = s.switch f :=
  (Vector.getElem_ofFn ..).trans (if_pos edge)

theorem footswitchSample_one (hr : s.running = true) (level : (s.switch f).level = some (!x.getLsbD f.val))
    (count : s.setup.debounce ≤ (s.switch f).count + 1)
    (others : ∀ g, g ≠ f → (s.switch g).level = none ∨ (s.switch g).level = some (x.getLsbD g.val) ∨ (s.switch g).count + 1 < s.setup.debounce) :
    exec (.footswitchSample x) s = exec (switchEdge x f) (switchesCounted x s) := by
  obtain ⟨alone, -⟩ := switchesCounted_one level count others
  rw [exec_footswitchSample x hr, switchSample_eq, alone]
  exact (exec_switchEdge (u := switchesCounted x s) x f hr (by rw [switchesCounted_switch (switch_accepts level count), level])).symm

/-- Settles O53, each line by its filter, an edge that comes alone by the event of that edge. -/
theorem lineSamples : Obligations.LineSamples := by
  refine ⟨fun a s hr few => busyLineSampled a s hr few, fun a s u m hr two differs others hu => ?_,
    fun x s hr quiet => footswitchSampled x hr quiet, fun x s u f hr level count others hu => ?_⟩
  · obtain rfl : u = busyCounted a s := hu.trans (busyCounted_one two differs others).2.symm
    exact busyLineSample_one hr two differs others
  · obtain rfl : u = switchesCounted x s := hu.trans (switchesCounted_one level count others).2.symm
    exact footswitchSample_one hr level count others

end Sys2Proof.Machine
end

section
/-! PROOF. The conversions of the expression pedals (O54). -/

namespace Sys2Proof.Machine

variable {s t u : State}

/-! ## A conversion begins (R163) -/

/-- What an expiry changes of its own block comes to the same late or early. -/
theorem expireAt_board_eq {tm : Timer} {f : State → State} {b : Board} (h : f (s.atCount tm.due) = { s.atCount tm.due with board := b }) :
    expireAt tm f s = { s.expired tm with board := b } := by
  unfold expireAt State.expired
  rw [h]
  split <;> rfl

theorem next_pedal (p : PedalId) : p + 1 = if p = 0 then 1 else 0 := by
  revert p
  decide

theorem conversionBegun {tm : Timer} (h : s.board.adcTimer = some tm) : exec .adcConversionBegin s = .next { s.expired tm with
    board := { s.board with adcBusy := some s.board.adcNext, adcNext := if s.board.adcNext = 0 then 1 else 0, adcTimer := some ⟨tm.due, 2000⟩ } } := by
  refine congrArg Host.Outcome.next ?_
  unfold onAdcTimer
  rw [h, ← next_pedal]
  exact expireAt_board_eq rfl

/-! ## The pedal's state and output (R164) -/

section
variable (x : Pedal) (c : Nat × Nat) {raw : Nat}

theorem settle_raw (raw : Nat) : (x.settle c raw).raw = some raw := by
  unfold Pedal.settle
  dsimp only
  split_ifs <;> rfl

theorem settle_disconnected (h : 1020 ≤ raw) : x.settle c raw = { x with raw := some raw, mode := .disconnected } := if_pos h

/-- The raw value at last change as the settling of a connected pedal finds it: none where the pedal leaves DISCONNECTED. -/
def Pedal.lastChange : Option Nat := if x.mode = .disconnected then none else x.rawAtChange

theorem settle_uncalibrated (h : raw < 1020) (narrow : c.2 - c.1 < 64) :
    x.settle c raw = { x with raw := some raw, mode := .uncalibrated, output := 127, rawAtChange := x.lastChange } := by
  unfold Pedal.settle Pedal.lastChange
  rw [if_neg (Nat.not_le.2 h)]
  dsimp only
  rw [if_pos narrow]
  split <;> rfl

theorem settle_normal (h : raw < 1020) (wide : 64 ≤ c.2 - c.1) : x.settle c raw =
    if pedalCandidate c raw ≠ x.output ∧ movedEnough raw x.lastChange = true
    then { x with raw := some raw, mode := .normal, output := pedalCandidate c raw, rawAtChange := some raw }
    else { x with raw := some raw, mode := .normal, rawAtChange := x.lastChange } := by
  unfold Pedal.settle Pedal.lastChange
  rw [if_neg (Nat.not_le.2 h)]
  dsimp only
  rw [if_neg (Nat.not_lt.2 wide)]
  by_cases off : x.mode = .disconnected
  · rw [if_pos off, if_pos off]
  · rw [if_neg off, if_neg off]

theorem movedEnough_some {last : Nat} : movedEnough raw (some last) = true ↔ last + 3 ≤ raw ∨ raw + 3 ≤ last := by
  rw [movedEnough, decide_eq_true_iff, apart]
  split <;> omega

/-- A calibrated pedal whose raw value has moved follows its map. -/
theorem settle_moved (h : raw < 1020) (wide : 64 ≤ c.2 - c.1) (moved : x.mode = .disconnected ∨ x.rawAtChange = none ∨
      ∃ last, x.rawAtChange = some last ∧ (last + 3 ≤ raw ∨ raw + 3 ≤ last)) :
    (x.settle c raw).output = pedalCandidate c raw ∧
    (x.settle c raw).rawAtChange = if pedalCandidate c raw ≠ x.output then some raw else x.lastChange := by
  have enough : movedEnough raw x.lastChange = true := by
    unfold Pedal.lastChange
    split
    · rfl
    · next on =>
      rcases moved with off | none | ⟨last, hl, far⟩
      · exact absurd off on
      · rw [none]; rfl
      · rw [hl]; exact movedEnough_some.2 far
  rw [settle_normal x c h wide]
  by_cases same : pedalCandidate c raw = x.output
  · rw [if_neg fun k => k.1 same, if_neg (not_not_intro same)]
    exact ⟨same.symm, rfl⟩
  · rw [if_pos ⟨same, enough⟩, if_pos same]
    exact ⟨rfl, rfl⟩

/-- A calibrated pedal whose raw value has hardly moved keeps its output. -/
theorem settle_near (h : raw < 1020) (wide : 64 ≤ c.2 - c.1) (on : x.mode ≠ .disconnected)
    (near : ∃ last, x.rawAtChange = some last ∧ raw < last + 3 ∧ last < raw + 3) :
    (x.settle c raw).output = x.output ∧ (x.settle c raw).rawAtChange = x.rawAtChange := by
  obtain ⟨last, hl, below, above⟩ := near
  have change : x.lastChange = some last := (if_neg on).trans hl
  have still : movedEnough raw x.lastChange ≠ true := by
    rw [change, Ne, movedEnough_some]
    omega
  rw [settle_normal x c h wide, if_neg fun k => still k.2]
  exact ⟨rfl, change.trans hl.symm⟩

theorem settle_mode_normal (h : raw < 1020) (wide : 64 ≤ c.2 - c.1) : (x.settle c raw).mode = .normal := by
  rw [settle_normal x c h wide]
  split <;> rfl

end

/-! ## The level slots (R79) -/

theorem zonesOn_getElem (b : Bank) {i : Nat} {z : Zone} (hz : b.zones[i]? = some z) : b.zonesOn[i]? = some (z, b.zoneOn i) := by
  rw [Bank.zonesOn, List.getElem?_map, List.getElem?_zipIdx, hz, Option.map_some, Option.map_some, Nat.zero_add]

theorem fillFromPedal_length (p : PedalId) (s : State) : (fillFromPedal p s).layer.levels.length = s.layer.levels.length :=
  (List.length_map _).trans List.length_zipIdx

theorem fillFromPedal_slot (p : PedalId) (s : State) {i : Nat} {z : Zone} {v : Option Nat} (hz : s.activeBank.zones[i]? = some z)
    (hv : s.layer.levels[i]? = some v) : (fillFromPedal p s).layer.levels[i]? =
      some (if s.activeBank.zoneOn i = true ∧ z.pedal = some p then some ((s.pedal p).output * z.level / 127) else v) := by
  unfold fillFromPedal
  dsimp only
  rw [List.getElem?_map, List.getElem?_zipIdx, hv, Option.map_some, Option.map_some, Nat.zero_add, zonesOn_getElem _ hz]
  dsimp only
  rw [Zone.levelFor]
  simp only [Bool.and_eq_true, beq_iff_eq]

/-! ## A conversion ends -/

variable {p : PedalId} {raw : BitVec 10}

/-- The state a reading begins from: no conversion is in progress any more. -/
def State.converted (s : State) : State := { s with board := { s.board with adcBusy := none } }

/-- What a reading leaves before a change of state is told. -/
def State.pedalSet (s : State) (p : PedalId) (new : Pedal) : State :=
  if new.output = (s.pedal p).output then s.setPedal p new else fillFromPedal p (s.setPedal p new)

/-- A reading's work, by what the pedal settles to. -/
def State.pedalRead (s : State) (p : PedalId) (raw : Nat) (new : Pedal) : State :=
  if new.mode = (s.pedal p).mode then s.pedalSet p new
  else post (.pedalState p new.mode (s.pedal p).mode raw new.output) (some .pedal) (s.pedalSet p new)

theorem pedalReading_eq (p : PedalId) (raw : Nat) (s : State) :
    pedalReading p raw s = s.pedalRead p raw ((s.pedal p).settle (getAt s.setup.calibration p) raw) := rfl

theorem setPedal_same (s : State) (p : PedalId) (x : Pedal) : (s.setPedal p x).pedal p = x := Vector.getElem_set_self p.isLt

theorem setPedal_other (s : State) (x : Pedal) {q : PedalId} (h : q ≠ p) : (s.setPedal p x).pedal q = s.pedal q :=
  Vector.getElem_set_ne p.isLt q.isLt (fun e => h (Fin.ext e.symm))

theorem pedalSet_board (s : State) (p : PedalId) (new : Pedal) : (s.pedalSet p new).board = (s.setPedal p new).board := by
  unfold State.pedalSet
  split <;> rfl

theorem pedalSet_frame (s : State) (p : PedalId) (new : Pedal) : SameBut [.board, .layer] s (s.pedalSet p new) := by
  unfold State.pedalSet
  split
  · exact (setPedal_frame s p new).mono
  · exact (setPedal_frame s p new).chain (layerUpdate_frame _ _)

theorem pedalSet_levels (s : State) (p : PedalId) (new : Pedal) : (s.pedalSet p new).layer = { s.layer with levels := (s.pedalSet p new).layer.levels } ∧
    (s.pedalSet p new).layer.levels.length = s.layer.levels.length ∧
    ∀ (i : Nat) (z : Zone) (v : Option Nat), s.activeBank.zones[i]? = some z → s.layer.levels[i]? = some v →
      (s.pedalSet p new).layer.levels[i]? = some (
        if new.output ≠ (s.pedal p).output ∧ s.activeBank.zoneOn i = true ∧ z.pedal = some p then some (new.output * z.level / 127) else v) := by
  unfold State.pedalSet
  split
  · next same => exact ⟨rfl, rfl, fun i z v _ hv => by rw [if_neg fun k => k.1 same]; exact hv⟩
  · next differs =>
    have stands : (s.setPedal p new).activeBank = s.activeBank := activeBank_congr ((setPedal_frame s p new).at .banks)
    refine ⟨rfl, fillFromPedal_length p _, fun i z v hz hv => ?_⟩
    rw [fillFromPedal_slot p (s.setPedal p new) (by rw [stands]; exact hz) hv, setPedal_same, stands]
    simp only [ne_eq, differs, not_false_eq_true, true_and]

theorem pedalRead_same (p : PedalId) (raw : Nat) (new : Pedal) (s : State) : SameBut noticeParts (s.pedalSet p new) (s.pedalRead p raw new) := by
  unfold State.pedalRead
  split
  · exact .refl _ _
  · exact post_frame ..

theorem pedalRead_told {new : Pedal} (h : new.mode ≠ (s.pedal p).mode) (n : Nat) :
    Posts ⟨.pedalState p new.mode (s.pedal p).mode n new.output, false, s.grid.position, some .pedal⟩ s (s.pedalRead p n new) := by
  have set := pedalSet_frame s p new
  have told := set.posting.post (.pedalState p new.mode (s.pedal p).mode n new.output) (some .pedal)
  rw [set.at .grid] at told
  rw [State.pedalRead, if_neg h]
  exact told

theorem exec_conversionEnd (busy : s.board.adcBusy = some p) : exec (.adcConversionEnd raw) s = .next (close (s.converted.pedalRead p raw.toNat
    ((s.pedal p).settle (getAt s.setup.calibration p) raw.toNat))) := by
  refine congrArg Host.Outcome.next ?_
  rw [busy]
  rfl

/-- The close of a reading, by what the pedal settles to. -/
theorem conversionEnded (s : State) (p : PedalId) (raw : Nat) (new : Pedal) {t : State} (ht : t = close (s.converted.pedalRead p raw new)) :
    Closed [.board, .layer] s t ∧ t.board.adcBusy = none ∧ (∀ q, q ≠ p → t.pedal q = s.pedal q) ∧ t.pedal p = new ∧
    (new.mode ≠ (s.pedal p).mode → Tells ⟨.pedalState p new.mode (s.pedal p).mode raw new.output, false, s.grid.position, some .pedal⟩ s t) ∧
    (s.bus.transmission.isSome = true → t.layer = (s.converted.pedalSet p new).layer) := by
  subst ht
  have ends := close_ends (s.converted.pedalRead p raw new)
  have reading := pedalRead_same p raw new s.converted
  have frame : SameBut ([.board, .layer] ++ noticeParts) s (s.converted.pedalRead p raw new) :=
    ((boardUpdate_frame s _).chain (pedalSet_frame s.converted p new) (rs := [.board, .layer])).chain reading
  have board : (s.converted.pedalRead p raw new).board = (s.converted.setPedal p new).board := (reading.at .board).trans (pedalSet_board ..)
  have pedal (q : PedalId) : (close (s.converted.pedalRead p raw new)).pedal q = (s.converted.setPedal p new).pedal q := by
    rw [State.pedal, ends.board, board]
    rfl
  have bus : (s.converted.pedalRead p raw new).bus = s.bus := frame.at .bus
  refine ⟨close_closed frame (by rw [bus]), ?_, fun q hq => (pedal q).trans (setPedal_other s.converted new hq),
    (pedal p).trans (setPedal_same s.converted p new), fun changed => (pedalRead_told (s := s.converted) changed raw).tells ends, fun sending => ?_⟩
  · rw [ends.board, board]
    rfl
  · exact ((ends.busy (by rw [bus]; exact sending)).at .layer).trans (reading.at .layer)

/-- Settles O54, by the ranges of the raw value and of the calibration. -/
theorem pedalConversions : Obligations.PedalConversions := by
  refine ⟨fun s tm h => conversionBegun h, fun s idle raw => ?_, fun s p raw lo hi busy range => ?_⟩
  · refine congrArg Host.Outcome.next ?_
    rw [idle]
  · obtain ⟨closed, ended, others, pedal, told, slots⟩ :=
      conversionEnded s p raw.toNat ((s.pedal p).settle (lo, hi) raw.toNat) rfl
    refine ⟨_, (exec_conversionEnd busy).trans (by rw [range]), closed, ended, others, by rw [pedal, settle_raw], fun off => ?_,
      fun on narrow => ?_, fun on wide => ⟨?_, fun v hv => ?_⟩, ?_, ?_⟩
    · rw [pedal, settle_disconnected _ _ off]
      exact ⟨rfl, rfl, rfl⟩
    · rw [pedal, settle_uncalibrated _ (lo, hi) on narrow]
      exact ⟨rfl, rfl, rfl⟩
    · rw [pedal, settle_mode_normal _ (lo, hi) on wide]
    · subst hv
      rw [pedal]
      exact ⟨settle_moved _ (lo, hi) on wide, settle_near _ (lo, hi) on wide⟩
    · rw [pedal]
      exact told
    · intro sending
      rw [pedal, slots sending]
      exact pedalSet_levels s.converted p _

end Sys2Proof.Machine
end

section
/-! PROOF. What the arbiter's look leaves of the banks, of a cue that does not wait and of the fetches; and the end of the fetch of a song
(R132, R133, R143). -/

namespace Sys2Proof.Machine

variable {s t u v x z : State}

/-! ## A held cue that does not wait, and the banks -/

/-- No cue waits to begin loading. -/
def State.Unwaiting (s : State) : Prop := ∀ c, s.seq.cue = some c → c.state ≠ .waiting

/-- The cue slot, the store and the contents of the banks stand, and no bank becomes RETAINED. -/
structure SlotStands (s t : State) : Prop where
  cue : t.seq.cue = s.seq.cue
  store : t.store = s.store
  banks : t.banks = { s.banks with retained := t.banks.retained }
  freed : s.banks.retained = false → t.banks.retained = false

theorem SlotStands.refl (s : State) : SlotStands s s := ⟨rfl, rfl, rfl, id⟩

theorem SlotStands.then (h : SlotStands s t) (g : SlotStands t u) : SlotStands s u := by
  refine ⟨g.cue.trans h.cue, g.store.trans h.store, ?_, fun free => g.freed (h.freed free)⟩
  rw [g.banks, h.banks]

theorem SlotStands.unwaiting (h : SlotStands s t) (w : s.Unwaiting) : t.Unwaiting := fun c hc => w c (by rw [← h.cue]; exact hc)

theorem SameBut.slotStands {ps : List Part} (h : SameBut ps s t) (hs : Part.seq ∉ ps := by decide) (ht : Part.store ∉ ps := by decide)
    (hb : Part.banks ∉ ps := by decide) : SlotStands s t := by
  have banks : t.banks = s.banks := h.at .banks hb
  exact ⟨by rw [(h.at .seq hs : t.seq = s.seq)], h.at .store ht, by rw [banks], fun free => by rw [banks]; exact free⟩

theorem examineLoad_unwaiting (w : s.Unwaiting) : examineLoad s = s := by
  unfold examineLoad
  cases h : s.seq.cue with
  | none => rfl
  | some c => exact if_neg fun k => w c h k.1

theorem bankFree_slotStands (n : Nat) (w : s.Unwaiting) : SlotStands s (bankFree n s) := by
  unfold bankFree
  split
  · rw [examineLoad_unwaiting (by exact w)]
    exact ⟨rfl, rfl, rfl, fun _ => rfl⟩
  · exact .refl s

theorem settleTold_slotStands (s : State) : SlotStands s (settleTold s) := by
  have told := post_frame (.changeSettled s.failedModules (since s.now s.seq.takeTime / 1000)) none (settleCleared s)
  have banks := settleTold_banks s
  refine ⟨?_, (told.at .store :).trans rfl, by rw [banks], fun free => by rw [banks]; exact free⟩
  exact (congrArg Sequencer.cue (told.at .seq) : (post _ none (settleCleared s)).seq.cue = (settleCleared s).seq.cue)

theorem ArbiterWork.slotStands (h : ArbiterWork s t) (w : s.Unwaiting) : SlotStands s t := by
  cases h with
  | serve h => exact h.slotStands
  | ended n i => exact (notesUpdate_frame s _).slotStands.then (bankFree_slotStands _ w)
  | settled =>
    unfold examineSettle
    split
    · have told := settleTold_slotStands s
      rw [settle_eq, examineLoad_unwaiting (told.unwaiting w)]
      exact told
    · exact .refl s

theorem arbitrate_slotStands (w : s.Unwaiting) : SlotStands s (arbitrate s) := by
  have runs := arbitrate_works s
  generalize arbitrate s = t at runs
  induction runs with
  | refl => exact .refl s
  | tail _ h ih => exact ih.then (h.slotStands (ih.unwaiting w))

theorem Ends.slotStands (h : Ends u t) (w : u.Unwaiting) : SlotStands u t := by
  rcases h.looked with same | same
  · exact same.slotStands
  · exact (arbitrate_slotStands w).then same.slotStands

/-! ## The store, whether a cue begins to load or not -/

/-- The setlist with its position and the part mode stand, and no fetch is lost. -/
structure StoreGrows (s t : State) : Prop where
  setlist : t.store.setlist = s.store.setlist
  position : t.store.position = s.store.position
  mode : t.store.mode = s.store.mode
  fetches : ∀ f ∈ s.fetches, f ∈ t.fetches

theorem StoreGrows.refl (s : State) : StoreGrows s s := ⟨rfl, rfl, rfl, fun _ h => h⟩

theorem StoreGrows.then (h : StoreGrows s t) (g : StoreGrows t u) : StoreGrows s u :=
  ⟨g.setlist.trans h.setlist, g.position.trans h.position, g.mode.trans h.mode, fun f hf => g.fetches f (h.fetches f hf)⟩

theorem storeGrows_of_store (h : t.store = s.store) : StoreGrows s t :=
  ⟨by rw [h], by rw [h], by rw [h], fun f hf => by rw [State.fetches, h]; exact hf⟩

theorem requestFetch_grows (f : Fetch) (s : State) : StoreGrows s (requestFetch f s) := by
  refine ⟨?_, ?_, ?_, fun g hg => ?_⟩
  · unfold requestFetch; split <;> rfl
  · unfold requestFetch; split <;> rfl
  · unfold requestFetch; split <;> rfl
  · rcases requestFetch_cases f s with h | h <;> rw [h]
    · exact List.mem_append_left _ hg
    · exact List.mem_cons_of_mem _ hg

theorem emptyStandby_store (s : State) : (emptyStandby s).store = s.store := (emptyStandby_frame s).at .store

theorem examineLoad_grows (s : State) : StoreGrows s (examineLoad s) := by
  unfold examineLoad
  split
  · split
    · exact (storeGrows_of_store (by exact emptyStandby_store s)).then (requestFetch_grows _ _)
    · exact .refl s
  · exact .refl s

theorem ArbiterWork.storeGrows (h : ArbiterWork s t) : StoreGrows s t := by
  cases h with
  | serve h => exact storeGrows_of_store (h.at .store)
  | ended n i =>
    unfold endDest bankFree
    dsimp only
    split
    · exact (storeGrows_of_store (by rfl)).then (examineLoad_grows _)
    · exact storeGrows_of_store (by rfl)
  | settled =>
    unfold examineSettle
    split
    · rw [settle_eq]
      exact (storeGrows_of_store (settleTold_slotStands s).store).then (examineLoad_grows _)
    · exact .refl s

theorem Ends.storeGrows (h : Ends u t) : StoreGrows u t := by
  have look : StoreGrows u (arbitrate u) := by
    have runs := arbitrate_works u
    generalize arbitrate u = w at runs
    induction runs with
    | refl => exact .refl u
    | tail _ h ih => exact ih.then h.storeGrows
  rcases h.looked with same | same
  · exact storeGrows_of_store (same.at .store)
  · exact look.then (storeGrows_of_store (same.at .store))

/-! ## A fetch ends (R146) -/

theorem storeNext_grows (s : State) : (storeNext s).store.setlist = s.store.setlist ∧ (storeNext s).store.position = s.store.position := by
  unfold storeNext
  split <;> exact ⟨rfl, rfl⟩

theorem exec_fetchEnd {f : Fetch} (h : s.store.activity = .fetching f) : exec .fetchEnd s = .next (close (fetchEnded f s)) := by
  refine congrArg Host.Outcome.next ?_
  rw [h]

end Sys2Proof.Machine
end

section
/-! PROOF. The end of the fetch of a cue's song and of the initial song (O47). -/

namespace Sys2Proof.Machine

variable {s t u v z : State} {c : Cue} {x : Song} {k : Sector}

/-! ## A take made at once -/

theorem takeNowAt_store (hy : s.standbyBank.image = some x) : ∃ a p, (takeNowAt c s).store = { s.store with activeSlot := a, position := p } := by
  have steps : (takeSteps s.grid.transport x c.place (some c.origin) (changeRoles x s)).store =
      { s.store with activeSlot := (changeRoles x s).activeBank.source, position := c.place } :=
    (takeSteps_taken s.grid.transport x c.place (some c.origin) (changeRoles x s)).store
  refine ⟨(changeRoles x s).activeBank.source, c.place, ?_⟩
  by_cases emits : s.grid.transport.emits = true
  · obtain ⟨u, ready, ticks⟩ := takeNowAt_emits (c := c) emits hy
    rw [ticks, ((emitTick_frame true u).at .store : _ = u.store), (ready.same.at .store : u.store = _), steps]
  · rw [takeNowAt_still (by simpa using emits) hy]
    split
    · rw [((firstTick_frame true _).at .store : (firstTick true _).store = _), steps]
    · exact steps

theorem takeNowAt_keepsNotices (hy : s.standbyBank.image = some x) : KeepsNotices s (takeNowAt c s) := by
  have steps : KeepsNotices s (takeSteps s.grid.transport x c.place (some c.origin) (changeRoles x s)) :=
    (changeRoles_frame x s).keepsNotices.then (takeSteps_taken ..).posting.keeps
  by_cases emits : s.grid.transport.emits = true
  · obtain ⟨u, ready, ticks⟩ := takeNowAt_emits (c := c) emits hy
    rw [ticks]
    exact ready.posting.keeps.then (emitTick_keepsNotices true u)
  · rw [takeNowAt_still (by simpa using emits) hy]
    split
    · exact steps.then (firstTick_posting true _).keeps
    · exact steps

theorem takeNowAt_busSame (hy : s.standbyBank.image = some x) : (takeNowAt c s).bus.transmission = s.bus.transmission := by
  have steps : (takeSteps s.grid.transport x c.place (some c.origin) (changeRoles x s)).bus.transmission = s.bus.transmission := by
    rw [(takeSteps_taken ..).bus]
    rfl
  by_cases emits : s.grid.transport.emits = true
  · obtain ⟨u, ready, ticks⟩ := takeNowAt_emits (c := c) emits hy
    rw [ticks, ← ready.busSame]
    by_cases falls : u.FallsBack u.grid.position
    · exact (emitTick_fallen falls (by rw [(ready.place emits).1]; exact (takenTransport_emits (g := s.grid) emits).2)
        (by rw [ready.bank]; exact hy)).bus
    · exact (emitTick_emitted (ofTake := true) falls).bus
  · rw [takeNowAt_still (by simpa using emits) hy]
    split
    · rw [firstTick_busSame, steps]
    · exact steps

/-- The take of an ARMED cue from a state `z` that differs by what a take finds: TOOK_OVER from `u`. -/
theorem takeNowAt_tookOver (f : Finds u z) (grid : z.grid = u.grid) (image : u.standbyBank.image = some x) (fb : ¬ u.TakeFallsBack x) :
    TookOver x c.takenPlace c.origin z.now u.grid.tempo u.keptFollower u (close (takeNowAt c z)) := by
  have carries := close_carries z (takeNowAt c z)
  have found : z.standbyBank.image = some x := by rw [standbyBank_of_banks f.banks]; exact image
  by_cases emits : u.grid.transport.emits = true
  · have judged : z.grid.transport.emits = true := by rw [grid]; exact emits
    obtain ⟨w, ready, ticks⟩ := takeNowAt_emits (c := c) judged found
    rw [ticks] at carries ⊢
    rw [show u.keptFollower = u.tickedFollower Position.top from if_pos emits]
    exact (take_emits f grid emits judged ready (fun both => fb ⟨emits, both.1, both.2⟩) carries).2.1
  · rw [show u.keptFollower = u.follower from if_neg emits]
    exact (take_still f grid (by simpa using emits) image carries).2.1

/-! ## The end of a cue's fetch (R132, R133) -/

/-- The state with the fetched song in the bank that is not ACTIVE. -/
def State.loaded (s : State) (c : Cue) (x : Song) : State := s.setBank s.banks.active.other (Bank.load x c.slot)

/-- The state with the fetched song in its bank and the cue ARMED. -/
def State.armedWith (s : State) (c : Cue) (x : Song) : State :=
  { s.loaded c x with seq := { (s.loaded c x).seq with cue := some { c with state := .armed } } }

/-- The same once ARMED is told. -/
def State.armedTold (s : State) (c : Cue) (x : Song) : State := post (.armed c.slot c.boundary) (some c.origin) (s.armedWith c x)

theorem cueFetched_song (hc : s.seq.cue = some c) (hx : s.fetchedSong k = some x) : cueFetched k s = takeIfDue (s.armedTold c x) := by
  unfold cueFetched
  rw [hc]
  dsimp only
  rw [hx]
  rfl

theorem cueFetched_none (hc : s.seq.cue = some c) (hx : s.fetchedSong k = none) : cueFetched k s =
    post (.cueFailed .notValid (some c.target) (some c.slot)) (some c.origin) { s with seq := { s.seq with cue := none } } := by
  unfold cueFetched
  rw [hc]
  dsimp only
  rw [hx]

theorem loaded_standby (s : State) (c : Cue) (x : Song) : (s.loaded c x).standbyBank = Bank.load x c.slot := by
  unfold State.loaded State.standbyBank
  rw [State.setBank_active, State.setBank_bank_same]

theorem other_ne (k : BankId) : k ≠ k.other := by cases k <;> decide

theorem loaded_active (s : State) (c : Cue) (x : Song) : (s.loaded c x).activeBank = s.activeBank := by
  unfold State.loaded State.activeBank
  rw [State.setBank_active, setBank_bank_other _ _ (other_ne _)]

theorem armedWith_frame (s : State) (c : Cue) (x : Song) : SameBut [.banks, .seq] s (s.armedWith c x) :=
  (setBank_frame s _ _).chain (seqUpdate_frame _ _)

theorem armedTold_frame (s : State) (c : Cue) (x : Song) : SameBut [.banks, .seq, .noticesA, .noticesB] s (s.armedTold c x) :=
  (armedWith_frame s c x).chain (post_frame ..)

theorem armedTold_posts (s : State) (c : Cue) (x : Song) :
    Posts ⟨.armed c.slot c.boundary, false, s.grid.position, some c.origin⟩ s (s.armedTold c x) := by
  have armed := armedWith_frame s c x
  have told := armed.posting.post (.armed c.slot c.boundary) (some c.origin)
  rw [armed.at .grid] at told
  exact told

theorem armedTold_cue (s : State) (c : Cue) (x : Song) : (s.armedTold c x).seq.cue = some { c with state := .armed } :=
  (congrArg Sequencer.cue ((post_frame (.armed c.slot c.boundary) (some c.origin) (s.armedWith c x)).at .seq) :
    (s.armedTold c x).seq.cue = (s.armedWith c x).seq.cue).trans rfl

theorem armedTold_armed (s : State) (c : Cue) (x : Song) : (s.armedTold c x).armedCue = some { c with state := .armed } := by
  rw [State.armedCue, armedTold_cue]
  rfl

theorem armedTold_banks (s : State) (c : Cue) (x : Song) : (s.armedTold c x).banks = (s.loaded c x).banks :=
  ((post_frame (.armed c.slot c.boundary) (some c.origin) (s.armedWith c x)).at .banks : _ = (s.armedWith c x).banks).trans rfl

theorem armedTold_standby (s : State) (c : Cue) (x : Song) : (s.armedTold c x).standbyBank = Bank.load x c.slot :=
  (standbyBank_of_banks (armedTold_banks s c x)).trans (loaded_standby s c x)

theorem armedTold_active (s : State) (c : Cue) (x : Song) : (s.armedTold c x).activeBank = s.activeBank :=
  (activeBank_congr (armedTold_banks s c x)).trans (loaded_active s c x)

theorem takeIfDue_waits (h : s.armedCue = some c) (far : c.boundary ≠ .immediate) (emits : s.grid.transport.emits = true) : takeIfDue s = s := by
  unfold takeIfDue
  rw [h]
  exact if_neg (by simp [far, emits])

theorem takeIfDue_now (h : s.armedCue = some c) (due : c.boundary = .immediate ∨ s.grid.transport.emits = false) :
    takeIfDue s = takeNowAt c s := by
  unfold takeIfDue
  rw [h]
  exact if_pos (by rcases due with due | due <;> simp [due])

theorem takeIfDue_cases (h : s.armedCue = some c) : takeIfDue s = s ∨ takeIfDue s = takeNowAt c s := by
  unfold takeIfDue
  rw [h]
  dsimp only
  split
  · exact .inr rfl
  · exact .inl rfl

/-- What a take finds once the cue is ARMED, the store having gone on. -/
theorem armedTold_finds {y : Store} (hu : u = s.loaded c x) (hv : v = { s with store := y }) :
    Finds u (v.armedTold c x) ∧ (v.armedTold c x).grid = u.grid := by
  subst hu hv
  have told := armedTold_frame { s with store := y } c x
  have load : SameBut [.banks] s (s.loaded c x) := setBank_frame s _ _
  have grid : (({ s with store := y } : State).armedTold c x).grid = (s.loaded c x).grid := (told.at .grid :).trans (load.at .grid :).symm
  have posting : Posting 1 (s.loaded c x) (({ s with store := y } : State).armedTold c x) := by
    have armed : Posting 0 (s.loaded c x) (({ s with store := y } : State).armedWith c x) := by
      have same : SameBut [.store, .seq] (s.loaded c x) (({ s with store := y } : State).armedWith c x) := by
        refine ⟨fun q hq => ?_⟩
        unfold State.armedWith State.loaded State.setBank
        cases s.banks.active.other <;> cases q <;> first | rfl | exact absurd (by decide) hq
      exact same.posting
    exact (armed.then (post_posting _ _ _)).mono (by decide)
  refine ⟨⟨posting, by rw [grid], by rw [(told.at .follower : _ = s.follower), (load.at .follower : _ = s.follower)], ?_, ?_, ?_, ?_, ?_, ?_⟩, grid⟩
  · rw [armedTold_banks]
    unfold State.loaded State.setBank
    dsimp only
    cases s.banks.active.other <;> rfl
  · exact (told.at .notes :).trans (load.at .notes :).symm
  · exact (told.at .setup :).trans (load.at .setup :).symm
  · exact (told.at .bus :).trans (load.at .bus :).symm
  · exact (told.at .layer :).trans (load.at .layer :).symm
  · exact (told.at .board :).trans (load.at .board :).symm

theorem storeNext_some (s : State) : ∃ y, storeNext s = { s with store := y } := by
  unfold storeNext
  cases s.store.queue with
  | nil => exact ⟨_, rfl⟩
  | cons f fs => exact ⟨_, rfl⟩

theorem fetchedSong_storeNext (s : State) (k : Sector) : (storeNext s).fetchedSong k = s.fetchedSong k := by
  obtain ⟨y, hy⟩ := storeNext_some s
  rw [hy]
  rfl

/-- How the store goes on. -/
def GoesOn (x y : Store) : Prop := (x.queue = [] → y.activity = .idle) ∧ ∀ f fs, x.queue = f :: fs → y.activity = .fetching f ∧ y.queue = fs

theorem storeNext_goesOn (s : State) : GoesOn s.store (storeNext s).store := by
  unfold storeNext
  refine ⟨fun none => ?_, fun f fs more => ?_⟩
  · rw [none]
  · rw [more]
    exact ⟨rfl, rfl⟩

/-- The end of a cue's fetch, before its close. -/
theorem cueFetch_run (hf : s.store.activity = .fetching ⟨.cue, k⟩) : exec .fetchEnd s = .next (close (cueFetched k (storeNext s))) :=
  exec_fetchEnd hf

theorem GoesOn.congr {x y w : Store} (h : GoesOn x y) (a : w.activity = y.activity) (q : w.queue = y.queue) : GoesOn x w := by
  refine ⟨fun none => a.trans (h.1 none), fun f fs more => ?_⟩
  obtain ⟨activity, queue⟩ := h.2 f fs more
  exact ⟨a.trans activity, q.trans queue⟩

/-- The song of a cue's fetch is found. -/
theorem cueFetch_song (hc : s.seq.cue = some c) (hx : s.fetchedSong k = some x) (ht : t = close (cueFetched k (storeNext s))) :
    Tells ⟨.armed c.slot c.boundary, false, s.grid.position, some c.origin⟩ s t ∧
    (c.boundary ≠ .immediate → s.grid.transport.emits = true →
      SameBut ([.banks, .seq, .store] ++ arbiterParts ++ lineParts) s t ∧ t.seq.cue = some { c with state := .armed } ∧
      t.standbyBank = Bank.load x c.slot ∧ t.activeBank = s.activeBank) ∧
    (c.boundary = .immediate ∨ s.grid.transport.emits = false → ¬ s.TakeFallsBack x →
      TookOver x c.takenPlace c.origin s.now s.grid.tempo s.keptFollower (s.loaded c x) t) ∧
    (s.bus.transmission.isSome = true → GoesOn s.store t.store) := by
  subst ht
  obtain ⟨y, hy⟩ := storeNext_some s
  have on := storeNext_goesOn s
  rw [cueFetched_song (s := storeNext s) (by rw [hy]; exact hc) ((fetchedSong_storeNext s k).trans hx), hy]
  rw [hy] at on
  have told := armedTold_frame { s with store := y } c x
  have armed := armedTold_armed { s with store := y } c x
  have image : (({ s with store := y } : State).armedTold c x).standbyBank.image = some x := by rw [armedTold_standby]; rfl
  have grid : (({ s with store := y } : State).armedTold c x).grid = s.grid := told.at .grid
  have ends := close_ends (takeIfDue (({ s with store := y } : State).armedTold c x))
  have keeps : KeepsNotices (({ s with store := y } : State).armedTold c x) (takeIfDue (({ s with store := y } : State).armedTold c x)) := by
    rcases takeIfDue_cases armed with h | h <;> rw [h]
    · exact .refl _
    · exact takeNowAt_keepsNotices image
  refine ⟨((armedTold_posts { s with store := y } c x).kept keeps).tells ends, fun far emits => ?_, fun due fb => ?_, fun busy => ?_⟩
  · have waits := takeIfDue_waits armed far (by rw [grid]; exact emits)
    rw [waits] at ends ⊢
    have stands := ends.slotStands (fun d hd => by rw [armedTold_cue] at hd; rw [← Option.some.inj hd]; nofun)
    have store : SameBut [.store] s { s with store := y } := storeUpdate_frame s y
    refine ⟨(store.chain told (rs := [.banks, .seq, .store] ++ arbiterParts ++ lineParts)).chain (close_frame _), ?_, ?_, ?_⟩
    · rw [stands.cue, armedTold_cue]
    · rw [← armedTold_standby { s with store := y } c x, State.standbyBank, State.standbyBank, State.bank.eq_def, stands.banks]
      rfl
    · rw [ends.activeBank, armedTold_active]
      rfl
  · rw [takeIfDue_now armed (by rw [grid]; exact due)]
    obtain ⟨finds, same⟩ := armedTold_finds (s := s) (c := c) (x := x) (y := y) rfl rfl
    have loaded : SameBut [.banks] s (s.loaded c x) := setBank_frame s _ _
    have own : (s.loaded c x).grid = s.grid := loaded.at .grid
    have follower : (s.loaded c x).follower = s.follower := loaded.at .follower
    have setup : (s.loaded c x).setup = s.setup := loaded.at .setup
    have now : (({ s with store := y } : State).armedTold c x).now = s.now := congrArg Timebase.count (told.at .timebase)
    have took := takeNowAt_tookOver (c := { c with state := .armed }) finds same (by rw [loaded_standby]; rfl)
      (by unfold State.TakeFallsBack State.FallsBack State.TurnsFollower; rw [own, follower, setup]; exact fb)
    have kept : (s.loaded c x).keptFollower = s.keptFollower := by
      unfold State.keptFollower State.tickedFollower
      rw [own, follower, setup]
    rw [now, own, kept] at took
    exact took
  · have line : (takeIfDue (({ s with store := y } : State).armedTold c x)).bus.transmission = s.bus.transmission := by
      have before : (({ s with store := y } : State).armedTold c x).bus = s.bus := told.at .bus
      rcases takeIfDue_cases armed with h | h <;> rw [h]
      · rw [before]
      · rw [takeNowAt_busSame image, before]
    have still := ends.busy (by rw [line]; exact busy)
    have store : ∃ a p, (takeIfDue (({ s with store := y } : State).armedTold c x)).store = { y with activeSlot := a, position := p } := by
      have before : (({ s with store := y } : State).armedTold c x).store = y := told.at .store
      rcases takeIfDue_cases armed with h | h <;> rw [h]
      · exact ⟨y.activeSlot, y.position, before⟩
      · obtain ⟨a, p, taken⟩ := takeNowAt_store (c := { c with state := .armed }) image
        exact ⟨a, p, by rw [taken, before]⟩
    obtain ⟨a, p, store⟩ := store
    refine on.congr ?_ ?_ <;> rw [(still.at .store : _ = (takeIfDue _).store), store]

/-- No song is found. -/
theorem cueFetch_none (hc : s.seq.cue = some c) (hx : s.fetchedSong k = none) (ht : t = close (cueFetched k (storeNext s))) :
    SameBut ([.banks, .seq, .store] ++ arbiterParts ++ lineParts) s t ∧ t.seq.cue = none ∧
    Tells ⟨.cueFailed .notValid (some c.target) (some c.slot), false, s.grid.position, some c.origin⟩ s t ∧
    (s.bus.transmission.isSome = true → GoesOn s.store t.store) := by
  subst ht
  obtain ⟨y, hy⟩ := storeNext_some s
  have on := storeNext_goesOn s
  rw [cueFetched_none (s := storeNext s) (by rw [hy]; exact hc) ((fetchedSong_storeNext s k).trans hx), hy]
  rw [hy] at on
  obtain ⟨w, hw⟩ : ∃ w : State, w = { s with store := y, seq := { s.seq with cue := none } } := ⟨_, rfl⟩
  have emptied : SameBut [.store, .seq] s w := by
    subst hw
    exact (storeUpdate_frame s y).chain (seqUpdate_frame _ _)
  rw [show ({ ({ s with store := y } : State) with seq := { ({ s with store := y } : State).seq with cue := none } } : State) = w from hw.symm]
  have told := emptied.posting.post (.cueFailed .notValid (some c.target) (some c.slot)) (some c.origin)
  have posted := post_frame (.cueFailed .notValid (some c.target) (some c.slot)) (some c.origin) w
  have ends := close_ends (post (.cueFailed .notValid (some c.target) (some c.slot)) (some c.origin) w)
  have cue : (post (.cueFailed .notValid (some c.target) (some c.slot)) (some c.origin) w).seq.cue = none := by
    rw [posted.at .seq, hw]
  have stands := ends.slotStands (fun d hd => by rw [cue] at hd; cases hd)
  rw [emptied.at .grid] at told
  refine ⟨(emptied.chain posted (rs := [.banks, .seq, .store] ++ arbiterParts ++ lineParts)).chain (close_frame _), stands.cue.trans cue,
    told.tells ends, fun _ => ?_⟩
  rw [stands.store, posted.at .store, hw]
  exact on

/-! ## The end of the initial song's fetch (R143) -/

variable {n : Slot} {e : Nat}

/-- The state the initial take's steps start from. -/
def State.initialBegun (s : State) (x : Song) (n : Slot) : State :=
  { s.setBank .a (Bank.load x n) with
    grid := { s.grid with countdown := none, remainder := 0, correction := none }
    seq := { s.seq with phase := .switching, takeModules := moduleSet x.programs, takeTime := s.now }
    resetting := .none }

theorem initialTake_eq (x : Song) (n : Slot) (e : Nat) (s : State) :
    initialTake x n e s = takeSteps .stopped x (some e) none (s.initialBegun x n) := rfl

theorem finOf_slot (h : k.val = n.val + 2) : finOf 64 (k.val - 2) = some n := by
  have less := n.isLt
  unfold finOf
  rw [h, Nat.add_sub_cancel, dif_pos less]

theorem initialFetched_song (hr : s.resetting = .song e) (hk : k.val = n.val + 2) (hx : s.fetchedSong k = some x) :
    initialFetched k s = takeSteps .stopped x (some e) none (s.initialBegun x n) := by
  unfold initialFetched
  rw [hr]
  dsimp only
  rw [finOf_slot hk, hx]
  rfl

theorem initialFetched_none (hr : s.resetting = .song e) (hk : k.val = n.val + 2) (hx : s.fetchedSong k = none) :
    initialFetched k s = noSong (some e) (some n) s := by
  unfold initialFetched
  rw [hr]
  dsimp only
  rw [finOf_slot hk, hx]

theorem initialBegun_frame (s : State) (x : Song) (n : Slot) : SameBut [.banks, .grid, .seq, .resetting] s (s.initialBegun x n) := by
  refine ⟨fun q hq => ?_⟩; cases q <;> first | rfl | exact absurd (by decide) hq

theorem initialBegun_begins (ha : s.banks.active = .a) (hr : s.banks.retained = false) (hc : s.seq.cue = none) :
    TakeBegins .stopped x (Bank.load x n) false s.grid.tempo s (s.initialBegun x n) where
  posting := (initialBegun_frame s x n).posting.mono (by decide)
  bank := by
    show (s.setBank .a (Bank.load x n)).activeBank = _
    rw [← ha]
    exact State.setBank_activeBank _ s
  retained := hr
  tempo := rfl
  source := rfl
  follower := rfl
  bus := rfl
  layer := rfl
  board := rfl
  seq := ⟨rfl, rfl, hc⟩
  transport := .inr (takenTransport_stopped _ x)

/-- The initial song is taken in a stopped grid. -/
theorem initialFetch_song (hr : s.resetting = .song e) (hk : k.val = n.val + 2) (ha : s.banks.active = .a) (free : s.banks.retained = false)
    (hc : s.seq.cue = none) (hx : s.fetchedSong k = some x) (ht : t = close (initialFetched k (storeNext s))) :
    t.resetting = .none ∧ t.banks.active = .a ∧ t.activeBank = Bank.load x n ∧
    t.grid.transport = .stopped ∧ t.grid.position = ⟨1, 1, 0⟩ ∧ t.grid.countdown = none ∧ t.grid.ramp = none ∧
    t.grid.tempo = (if x.source = .follow then s.grid.tempo else x.tempo) ∧
    SongTaken x (some e) none (Bank.load x n) false s.now s.grid.tempo s.follower s t := by
  subst ht
  obtain ⟨y, hy⟩ := storeNext_some s
  rw [initialFetched_song (s := storeNext s) (by rw [hy]; exact hr) hk ((fetchedSong_storeNext s k).trans hx), hy]
  obtain ⟨v, hv⟩ : ∃ v : State, v = { s with store := y } := ⟨_, rfl⟩
  rw [← hv]
  have own := initialBegun_begins (s := v) (x := x) (n := n) (by rw [hv]; exact ha) (by rw [hv]; exact free) (by rw [hv]; exact hc)
  have before : TakeBegins .stopped x (Bank.load x n) false s.grid.tempo s (v.initialBegun x n) := by
    have store : SameBut [.store] s v := hv ▸ storeUpdate_frame s y
    subst hv
    exact { own with posting := (store.posting.then (initialBegun_frame _ x n).posting).mono (by decide) }
  have taken := takeSteps_taken .stopped x (some e) none (v.initialBegun x n)
  have ends := close_ends (takeSteps .stopped x (some e) none (v.initialBegun x n))
  have now : (v.initialBegun x n).now = s.now := by rw [hv]; rfl
  have grid : (v.initialBegun x n).grid = { s.grid with countdown := none, remainder := 0, correction := none } := by rw [hv]; rfl
  have song := songTaken (place := some e) (o := none) (f := s.follower) before (.refl _) ends
    (by rw [takenTransport_stopped]; simp [Transport.emits]) (fun turns => before.taken_turned turns)
    (fun turns => by rw [before.taken_kept turns])
  rw [now] at song
  have after := ends.grid.trans taken.grid
  rw [takenTransport_stopped, grid] at after
  have active : (takeSteps .stopped x (some e) none (v.initialBegun x n)).banks.active = .a := by
    rw [taken.banks]
    show (v.setBank .a _).banks.active = .a
    rw [State.setBank_active, hv]
    exact ha
  refine ⟨?_, ?_, ?_, ?_, ?_, ?_, ?_, ?_, song⟩
  · rw [ends.resetting, (taken.frame.at .resetting : _ = (v.initialBegun x n).resetting)]
    rfl
  · have seq := taken.seq
    have stands := ends.changeStands ⟨by rw [seq]; exact before.seq.2.2, by rw [seq]; exact nofun⟩
    rw [stands.active, active]
  · rw [ends.activeBank, activeBank_congr taken.banks, before.bank]
  · rw [after]
  · rw [after]
    exact takePosition_stopped x
  · rw [after]
  · rw [after]
    simp [Transport.emits]
  · rw [after]
    simp [Song.takenTempo, Transport.emits]

/-- The initial entry holds no song. -/
theorem initialFetch_none (hr : s.resetting = .song e) (hk : k.val = n.val + 2) (free : s.banks.retained = false)
    (hc : s.seq.cue = none) (hx : s.fetchedSong k = none) (ht : t = close (initialFetched k (storeNext s))) :
    t.resetting = .none ∧ t.grid = s.grid ∧ t.banks = s.banks ∧
    Tells ⟨.cueFailed .noSong (some e) (some n), false, s.grid.position, none⟩ s t := by
  subst ht
  obtain ⟨y, hy⟩ := storeNext_some s
  rw [initialFetched_none (s := storeNext s) (by rw [hy]; exact hr) hk ((fetchedSong_storeNext s k).trans hx), hy]
  obtain ⟨v, hv⟩ : ∃ v : State, v = { s with store := y, resetting := .none } := ⟨_, rfl⟩
  rw [show noSong (some e) (some n) ({ s with store := y } : State) = post (.cueFailed .noSong (some e) (some n)) none v by rw [hv]; rfl]
  have before : SameBut [.store, .resetting] s v := hv ▸ (storeUpdate_frame s y).chain (resettingUpdate_frame _ _)
  have posted := post_frame (.cueFailed .noSong (some e) (some n)) none v
  have told := before.posting.post (.cueFailed .noSong (some e) (some n)) none
  have ends := close_ends (post (.cueFailed .noSong (some e) (some n)) none v)
  have all := before.chain posted (rs := [.store, .resetting, .noticesA, .noticesB])
  have banks : (post (.cueFailed .noSong (some e) (some n)) none v).banks = s.banks := all.at .banks
  have seq : (post (.cueFailed .noSong (some e) (some n)) none v).seq = s.seq := all.at .seq
  have stands := ends.slotStands (fun d hd => by rw [seq, hc] at hd; cases hd)
  rw [before.at .grid] at told
  refine ⟨?_, ends.grid.trans (all.at .grid), ?_, told.tells ends⟩
  · rw [ends.resetting, posted.at .resetting, hv]
  · rw [stands.banks, stands.freed (by rw [banks]; exact free), banks, ← free]

end Sys2Proof.Machine
end

section
/-! PROOF. READ_SONG; the end of the fetches of READ_SONG, setup and the setlist; and with the songs' fetches O47. -/

namespace Sys2Proof.Machine

variable {s t u v : State} {p : Port} {k : Sector}

/-! ## READ_SONG (R147) -/

theorem sendNotice_reply (c : ControlPort) (n : Notice) (rest : List Notice) (x : Position) (now : Count) :
    (c.sendNotice n rest x now).reply = c.reply := by
  unfold ControlPort.sendNotice ControlPort.reportLost
  split <;> rfl

/-- Where no reply is decided the transmitter's choice decides none. -/
theorem transmit_unreplied {c : ControlPort} (h : c.reply = none) (x : Position) (now : Count) : (c.transmit x now).reply = none := by
  unfold ControlPort.transmit
  split
  · exact h
  · rw [h]
    split
    · next hr _ => cases hr
    · next hr _ => cases hr
    · rw [sendNotice_reply, h]
    · exact h

theorem slotField_ok {x : Byte} (hx : x.toNat ≤ 63) (hk : k.val = x.toNat + 2) : slotField x = .ok k := by
  have less : x.toNat < 64 := by omega
  have slot : finOf 64 x.toNat = some ⟨x.toNat, less⟩ := by unfold finOf; rw [dif_pos less]
  have sector : slotSector ⟨x.toNat, less⟩ = k := Fin.ext hk.symm
  rw [← sector]
  unfold slotField
  rw [slot]
  rfl

theorem slotField_error {x : Byte} (hx : 63 < x.toNat) : slotField x = .error 1 := by
  have slot : finOf 64 x.toNat = none := by unfold finOf; rw [dif_neg (by omega)]
  unfold slotField
  rw [slot]
  rfl

theorem readSongRequest (p : Port) (tag x : Byte) (s : State) (h : s.serves p) (quiet : (s.port p).reply = none) :
    ∃ t, exec (.readSong p tag x) s = .next t ∧
    (63 < x.toNat → Completed p ⟨0x32, tag, [x]⟩ (.badField 1) [] s t) ∧
    ∀ k : Sector, x.toNat ≤ 63 → k.val = x.toNat + 2 →
      SameBut (.store :: portParts) s t ∧ (t.port p).inService = some ⟨0x32, tag, [x]⟩ ∧ (t.port p).reply = none ∧
      t.store = (if s.store.activity = .idle then { s.store with activity := .fetching ⟨.readSong p, k⟩ }
        else { s.store with queue := s.store.queue ++ [⟨.readSong p, k⟩] }) := by
  have run : exec (.readSong p tag x) s = .next (finish p (requestRead p x (s.taking p ⟨0x32, tag, [x]⟩))) :=
    congrArg _ (arrive_known (k := .readSong) h rfl)
  refine ⟨_, run, fun high => ?_, fun k low hk => ?_⟩
  · rw [requestRead, slotField_error high]
    exact refused_completed
  · have waits : finish p (requestRead p x (s.taking p ⟨0x32, tag, [x]⟩)) =
        transmitAll (requestFetch ⟨.readSong p, k⟩ (s.taking p ⟨0x32, tag, [x]⟩)) := by
      rw [requestRead, slotField_ok low hk]
      rfl
    rw [waits]
    have fetch := requestFetch_frame ⟨.readSong p, k⟩ (s.taking p ⟨0x32, tag, [x]⟩)
    have port : (requestFetch ⟨.readSong p, k⟩ (s.taking p ⟨0x32, tag, [x]⟩)).port p = { s.port p with inService := some ⟨0x32, tag, [x]⟩ } := by
      have same : (requestFetch ⟨.readSong p, k⟩ (s.taking p ⟨0x32, tag, [x]⟩)).port p = (s.taking p ⟨0x32, tag, [x]⟩).port p := by
        unfold requestFetch
        split <;> cases p <;> rfl
      rw [same, State.taking, State.setPort_port_same]
    refine ⟨((taking_frame s p _).chain fetch (rs := .store :: portParts)).chain (transmitAll_frame _), ?_, ?_, ?_⟩
    · exact (congrArg ControlPort.inService (transmitAll_port _ p)).trans ((transmit_inService _ _ _).trans (by rw [port]))
    · exact (congrArg ControlPort.reply (transmitAll_port _ p)).trans (transmit_unreplied (by rw [port]; exact quiet) _ _)
    · refine ((transmitAll_frame _).at .store :).trans ?_
      unfold requestFetch
      rw [taking_store]
      by_cases idle : s.store.activity = .idle
      · rw [if_pos idle, idle]
      · rw [if_neg idle]
        split
        · next h => exact absurd h idle
        · rfl

/-- A port's sending side stands where a work leaves it. -/
theorem SameBut.outgoing {ps : List Part} (h : SameBut ps s t) (q : Port) (ha : Part.sendA ∉ ps := by decide) (hb : Part.sendB ∉ ps := by decide) :
    (t.port q).outgoing = (s.port q).outgoing := by
  cases q
  · exact h.same .sendA ha
  · exact h.same .sendB hb

/-- A reply that is decided for the request in service, at the close of the event that decides it. -/
theorem decideReply_close_replied {f : Frame} (r : Reply) (h : (s.port p).inService = some f) : Replied p f r s (close (decideReply p r s)) := by
  have look := arbitrate_frame (decideReply p r s)
  have service : ((arbitrate (decideReply p r s)).port p).inService = some f := by
    refine (congrArg (fun y => y.2.2.2.2.1) (look.service p (by decide) (by decide))).trans ?_
    rw [← h]
    exact decideReply_inService p p r s
  have reply : ((arbitrate (decideReply p r s)).port p).reply = some r.bytes :=
    (congrArg (fun y => y.1) (look.outgoing p)).trans (decideReply_reply p r s)
  have now : (arbitrate (decideReply p r s)).now = s.now :=
    congrArg Timebase.count ((look.at .timebase).trans ((decideReply_frame p r s).at .timebase))
  have chosen := transmit_reply _ (arbitrate (decideReply p r s)).grid.position s.now f _ reply service
  rw [close]
  refine ⟨?_, ?_⟩
  · rw [transmitAll_port, transmit_inService, service]
  · rw [transmitAll_port, now]
    exact chosen

theorem readReply_eq (s : State) (k : Sector) : s.readReply k = (match s.fetched k with | some r => .okData r | none => .emptySlot) := by
  cases found : s.fetched k <;> simp only [State.readReply, found]

theorem readSongFetched (s : State) (p : Port) (f : Frame) (k : Sector) (hf : s.store.activity = .fetching ⟨.readSong p, k⟩)
    (served : (s.port p).inService = some f) : ∃ t, exec .fetchEnd s = .next t ∧ SameBut (.store :: arbiterParts ++ lineParts) s t ∧
      Replied p f (match s.fetched k with | some r => .okData r | none => .emptySlot) s t := by
  obtain ⟨y, hy⟩ := storeNext_some s
  have run : exec .fetchEnd s = .next (close (decideReply p ((storeNext s).readReply k) (storeNext s))) := exec_fetchEnd hf
  refine ⟨_, run, ?_⟩
  rw [hy]
  have same : ({ s with store := y } : State).port p = s.port p := by cases p <;> rfl
  have reply := decideReply_close_replied (s := { s with store := y }) (({ s with store := y } : State).readReply k) (by rw [same]; exact served)
  refine ⟨((storeUpdate_frame s y).chain (decideReply_frame p _ _) (rs := .store :: lineParts)).chain (close_frame _), ?_⟩
  have means : ({ s with store := y } : State).readReply k = (match s.fetched k with | some r => .okData r | none => .emptySlot) :=
    readReply_eq { s with store := y } k
  rw [← means]
  exact ⟨reply.service, reply.reply⟩

/-! ## The setlist's reading (R143, R155) -/

theorem setlistRead_eq (s : State) (k : Sector) : s.setlistRead k = (match s.fetched k with | some r => decodeSetlist r | none => []) := by
  cases found : s.fetched k <;> simp only [State.setlistRead, found]

theorem resetStore_frame (s : State) (y : Store) (r : ResetPhase) : SameBut [.store, .resetting] s { s with store := y, resetting := r } := by
  refine ⟨fun q hq => ?_⟩; cases q <;> first | rfl | exact absurd (by decide) hq

theorem setlistFetch (s : State) (k : Sector) (es : List Slot) (e : Nat) (hf : s.store.activity = .fetching ⟨.setlist, k⟩)
    (hes : es = (match s.fetched k with | some r => decodeSetlist r | none => []))
    (he : e = (match s.store.position with | some q => if q < es.length then q else 0 | none => 0)) : ∃ t, exec .fetchEnd s = .next t ∧
      t.store.setlist = es ∧ t.grid = s.grid ∧
      (es = [] → t.resetting = .none ∧ t.store.position = none ∧
        Tells ⟨.cueFailed .noSong none none, false, s.grid.position, none⟩ s t) ∧
      ∀ n, es[e]? = some n → t.resetting = .song e ∧ t.store.position = some e ∧ ⟨.initial, slotSector n⟩ ∈ t.fetches := by
  obtain ⟨y, hy⟩ := storeNext_some s
  have place : y.position = s.store.position := by
    have next := (storeNext_grows s).2
    rw [hy] at next
    exact next
  have run : exec .fetchEnd s = .next (close (setlistFetched k (storeNext s))) := exec_fetchEnd hf
  refine ⟨_, run, ?_⟩
  have entry : initialEntry y.position es.length = e := by
    rw [place, he]
    rfl
  have read : ({ s with store := y } : State).setlistRead k = es := (setlistRead_eq { s with store := y } k).trans hes.symm
  have work := setlistFetched_eq k (storeNext s)
  rw [hy, read, setlistInUse, show initialEntry ({ s with store := y } : State).store.position es.length = e from entry] at work
  rw [hy]
  cases found : es[e]? with
  | none =>
    rw [found] at work
    rw [work]
    obtain ⟨v, hv⟩ : ∃ v : State, v = { s with store := { y with setlist := es, position := none }, resetting := .none } := ⟨_, rfl⟩
    rw [show noSong none none ({ s with store := { y with setlist := es, position := none } } : State) = post (.cueFailed .noSong none none) none v
      by rw [hv]; rfl]
    have before : SameBut [.store, .resetting] s v := hv ▸ resetStore_frame s _ _
    have posted := post_frame (.cueFailed .noSong none none) none v
    have told := before.posting.post (.cueFailed .noSong none none) none
    have ends := close_ends (post (.cueFailed .noSong none none) none v)
    have grows := (storeGrows_of_store (posted.at .store)).then ends.storeGrows
    rw [before.at .grid] at told
    refine ⟨?_, ends.grid.trans ((before.chain posted (rs := [.store, .resetting, .noticesA, .noticesB])).at .grid), fun _ => ⟨?_, ?_, told.tells ends⟩,
      fun n h => by cases h⟩
    · rw [grows.setlist, hv]
    · rw [ends.resetting, posted.at .resetting, hv]
    · rw [grows.position, hv]
  | some slot =>
    rw [found] at work
    rw [work]
    obtain ⟨v, hv⟩ : ∃ v : State, v = { s with store := { y with setlist := es, position := some e }, resetting := .song e } := ⟨_, rfl⟩
    rw [← hv]
    have before : SameBut [.store, .resetting] s v := hv ▸ resetStore_frame s _ _
    have fetch := requestFetch_frame ⟨.initial, slotSector slot⟩ v
    have ends := close_ends (requestFetch ⟨.initial, slotSector slot⟩ v)
    have grows := (requestFetch_grows ⟨.initial, slotSector slot⟩ v).then ends.storeGrows
    refine ⟨?_, ends.grid.trans ((before.chain fetch (rs := [.store, .resetting])).at .grid), fun none => ?_, fun n h => ?_⟩
    · rw [grows.setlist, hv]
    · rw [none] at found
      cases found
    · obtain rfl := Option.some.inj h
      refine ⟨?_, ?_, ends.storeGrows.fetches _ (requestFetch_mem _ v)⟩
      · rw [ends.resetting, fetch.at .resetting, hv]
      · rw [grows.position, hv]

end Sys2Proof.Machine
end

section
/-! PROOF. The end of the reading of setup (R107, R122, R155, R165), and with it O47. -/

namespace Sys2Proof.Machine

variable {s t u : State} {m n : ModuleId} {l : LinkId} {k : Nat}

/-! ## A work done for each part in turn -/

/-- Where each step of a fold changes its own part alone, a part listed once has its step's value. -/
theorem foldl_part {σ ι β : Type} [DecidableEq ι] {f : σ → ι → σ} {get : σ → ι → β} {g : ι → β → β} {I : σ → Prop}
    (keep : ∀ s i, I s → I (f s i)) (same : ∀ s i, I s → get (f s i) i = g i (get s i)) (other : ∀ s i j, j ≠ i → get (f s i) j = get s j) :
    ∀ (l : List ι) (s : σ), l.Nodup → I s → ∀ j, get (l.foldl f s) j = if j ∈ l then g j (get s j) else get s j
  | [], s, _, _, j => rfl
  | i :: l, s, once, hi, j => by
    obtain ⟨out, rest⟩ := List.nodup_cons.1 once
    rw [List.foldl_cons, foldl_part keep same other l (f s i) rest (keep s i hi) j]
    by_cases first : j = i
    · rw [first, if_neg out, same s i hi, if_pos List.mem_cons_self]
    · rw [other s i j first]
      simp only [List.mem_cons, first, false_or]

/-! ## The modules (R107, R122) -/

/-- What a reading of setup makes of a module. -/
def ModuleState.setUp (x : ModuleState) (u : Setup) (m : ModuleId) (now : Count) : ModuleState := { x with
  mode := if u.moduleMask.getLsbD m.val = false then .disabled else if x.busy then .loading else .ready
  timer := if u.moduleMask.getLsbD m.val = true ∧ x.busy = true then some ⟨now, u.stallMillis * 1000⟩ else none }

/-- A module before its BUSY level is looked at. -/
def State.moduleMasked (s : State) (m : ModuleId) : State :=
  s.setModule m { s.module m with mode := if s.setup.moduleMask.getLsbD m.val then .ready else .disabled, timer := none }

theorem setupModule_eq (s : State) (m : ModuleId) : setupModule s m =
    if s.setup.moduleMask.getLsbD m.val = true ∧ (s.module m).busy = true then
      enterMode m .loading (some ⟨s.now, s.setup.stallMillis * 1000⟩) none (s.moduleMasked m)
    else s.moduleMasked m := by
  unfold setupModule
  dsimp only
  simp only [Bool.and_eq_true]
  rfl

theorem moduleMasked_same (s : State) (m : ModuleId) : (s.moduleMasked m).module m =
    { s.module m with mode := if s.setup.moduleMask.getLsbD m.val then .ready else .disabled, timer := none } :=
  State.setModule_module_same _ _ _

theorem setupModule_same (s : State) (m : ModuleId) : (setupModule s m).module m = (s.module m).setUp s.setup m s.now := by
  have masked := moduleMasked_same s m
  rw [setupModule_eq, ModuleState.setUp]
  generalize s.setup.moduleMask.getLsbD m.val = on at masked
  split
  · next up =>
    obtain ⟨rfl, busy⟩ := up
    rw [enterMode_module_same, masked, if_neg (by decide : true ≠ false), if_pos busy]
  · next up =>
    rw [masked]
    cases on with
    | false => rfl
    | true => rw [if_neg (by decide : true ≠ false), if_neg fun busy => up ⟨rfl, busy⟩, if_pos rfl]

theorem setupModule_other (s : State) (h : n ≠ m) : (setupModule s m).module n = s.module n := by
  have masked : (s.moduleMasked m).module n = s.module n := State.setModule_module_other _ _ h
  rw [setupModule_eq]
  split
  · rw [enterMode_module_other _ _ _ _ h, masked]
  · exact masked

theorem setupModule_posting (s : State) (m : ModuleId) : Posting 1 s (setupModule s m) := by
  have masked : Posting 0 s (s.moduleMasked m) := (setModule_frame s m _).posting
  rw [setupModule_eq]
  split
  · exact (masked.then ((setModule_frame _ m _).posting.then (post_posting _ _ _))).mono (by decide)
  · exact masked.mono (by decide)

theorem setupModules_frame (l : List ModuleId) (s : State) : SameBut [.bus, .noticesA, .noticesB] s (l.foldl setupModule s) :=
  SameBut.foldl setupModule_frame l s

theorem setupModules_posting : ∀ (l : List ModuleId) (s : State), Posting l.length s (l.foldl setupModule s)
  | [], s => .refl s
  | m :: l, s => ((setupModule_posting s m).then (setupModules_posting l _)).mono (by rw [List.length_cons]; omega)

theorem setupModules_module (l : List ModuleId) (once : l.Nodup) (s : State) (m : ModuleId) :
    (l.foldl setupModule s).module m = if m ∈ l then (s.module m).setUp s.setup m s.now else s.module m := by
  refine foldl_part (I := fun t => t.setup = s.setup ∧ t.now = s.now) (get := State.module) (g := fun m x => x.setUp s.setup m s.now)
    (fun t m h => ?_) (fun t m h => ?_) (fun t m n h => setupModule_other t h) l s once ⟨rfl, rfl⟩ m
  · have frame := setupModule_frame t m
    exact ⟨(frame.at .setup).trans h.1, (congrArg Timebase.count (frame.at .timebase)).trans h.2⟩
  · rw [setupModule_same, h.1, h.2]

/-- A module that comes up BUSY is told. -/
theorem setupModule_posts (posted : Posting k s t) (few : k ≤ 8) (on : t.setup.moduleMask.getLsbD m.val = true) (busy : (t.module m).busy = true) :
    Posts ⟨.moduleState m .loading .ready none, false, t.grid.position, none⟩ s (setupModule t m) := by
  have masked : Posting 0 t (t.moduleMasked m) := (setModule_frame t m _).posting
  have mode : ((t.moduleMasked m).module m).mode = .ready := by rw [moduleMasked_same, on]; rfl
  rw [setupModule_eq, if_pos ⟨on, busy⟩, enterMode, mode]
  generalize hx : ({ (t.moduleMasked m).module m with mode := .loading, timer := some ⟨t.now, t.setup.stallMillis * 1000⟩ } : ModuleState) = x
  have loading := setModule_frame (t.moduleMasked m) m x
  have told := ((posted.then masked).then loading.posting).post (.moduleState m .loading .ready none) none few
  rw [loading.at .grid] at told
  exact told

/-- The same of each of the eight modules, within their notices. -/
theorem setupModules_told : ∀ (l : List ModuleId) (s t : State) (k : Nat), Posting k s t → k + l.length ≤ 9 → m ∈ l → l.Nodup →
    t.setup.moduleMask.getLsbD m.val = true → (t.module m).busy = true →
    Posts ⟨.moduleState m .loading .ready none, false, t.grid.position, none⟩ s (l.foldl setupModule t)
  | [], _, _, _, _, _, mem, _, _, _ => absurd mem List.not_mem_nil
  | i :: l, s, t, k, posted, few, mem, once, on, busy => by
    rw [List.length_cons] at few
    obtain ⟨out, rest⟩ := List.nodup_cons.1 once
    have frame := setupModule_frame t i
    rw [List.foldl_cons]
    by_cases first : m = i
    · subst first
      exact (setupModule_posts posted (by omega) on busy).kept (setupModules_posting l _).keeps
    · have later := setupModules_told l s (setupModule t i) (k + 1) (posted.then (setupModule_posting t i)) (by omega)
        ((List.mem_cons.1 mem).resolve_left first) rest (by rw [frame.at .setup, on]) (by rw [setupModule_other t first, busy])
      rw [frame.at .grid] at later
      exact later

/-! ## The links (R55, log entry 14) -/

/-- A link a setup disables. -/
def KeyLink.dropped (k : KeyLink) : KeyLink := { k with
  fifo := [], gap := false, event := none, running := none, collected := none, commonLeft := 0, mode := .waitStatus
  keepAlive := .neverSeen, timer := none }

theorem dropDisabled_link (s : State) (l : LinkId) : (dropDisabled s).link l = if s.linkOn l then s.link l else (s.link l).dropped := by
  have parts := foldl_part (f := fun t l => if t.linkOn l then t else
      t.setLink l { (t.link l).atGap with fifo := [], gap := false, event := none, keepAlive := .neverSeen, timer := none })
    (get := State.link) (g := fun l k => if s.linkOn l then k else k.dropped) (I := fun t => t.setup = s.setup)
    (fun t l h => by dsimp only; split <;> exact h) (fun t l h => ?_) (fun t l j h => ?_) (allFin 4) s (List.nodup_finRange 4) rfl l
  · rw [if_pos (mem_allFin l)] at parts
    exact parts
  · have on : t.linkOn l = s.linkOn l := by rw [State.linkOn, h]; rfl
    dsimp only
    rw [on]
    split
    · rfl
    · exact State.setLink_link_same _ _ _
  · dsimp only
    split
    · rfl
    · exact State.setLink_link_other _ _ h

/-! ## The end of the reading of setup -/

/-- The setup that comes of a reading of the sector. -/
def State.setupRead (s : State) (k : Sector) : Setup :=
  match s.fetched k with
  | some r => (decodeSetup r).getD Setup.default
  | none => Setup.default

theorem setupRead_eq (s : State) (k : Sector) :
    s.setupRead k = (match s.fetched k with | some r => (decodeSetup r).getD Setup.default | none => Setup.default) := by
  cases found : s.fetched k <;> simp only [State.setupRead, found]

/-- The state with the fields of setup in use, before the modules, links and pedals follow them. -/
def State.inUse (s : State) (u : Setup) : State := { s with setup := u, store := { s.store with mode := u.startMode } }

/-- The same with the modules and the links as the setup has them. -/
def State.connected (s : State) (u : Setup) : State := dropDisabled ((allFin 8).foldl setupModule (s.inUse u))

theorem applySetup_eq (u : Setup) (s : State) : applySetup u s = { s.connected u with board := { (s.connected u).board with
    pedals := Vector.ofFn (fun p => (getAt (s.connected u).board.pedals p).calibrated (getAt u.calibration p)) } } := rfl

theorem inUse_frame (s : State) (u : Setup) : SameBut [.setup, .store] s (s.inUse u) := by
  refine ⟨fun q hq => ?_⟩; cases q <;> first | rfl | exact absurd (by decide) hq

theorem connected_frame (s : State) (u : Setup) : SameBut [.bus, .noticesA, .noticesB, .links] (s.inUse u) (s.connected u) :=
  (setupModules_frame _ _).chain (dropDisabled_frame _)

/-- What the fields of setup make of the blocks, where `s` differs from the state of the reading in the store alone. -/
structure SetupApplied (u : Setup) (s t : State) : Prop where
  frame : SameBut [.setup, .store, .bus, .noticesA, .noticesB, .links, .board] s t
  setup : t.setup = u
  store : t.store = { s.store with mode := u.startMode }
  modules : ∀ m : ModuleId, t.module m = (s.module m).setUp u m s.now
  told : ∀ m : ModuleId, u.moduleMask.getLsbD m.val = true → (s.module m).busy = true →
    Posts ⟨.moduleState m .loading .ready none, false, s.grid.position, none⟩ s t
  links : ∀ l : LinkId, t.link l = if u.linkEnable.getLsbD l.val then s.link l else (s.link l).dropped
  pedals : ∀ q : PedalId, t.pedal q = (s.pedal q).calibrated (getAt u.calibration q)

theorem applySetup_applied (u : Setup) (s : State) : SetupApplied u s (applySetup u s) := by
  have use := inUse_frame s u
  have modules := setupModules_frame (allFin 8) (s.inUse u)
  have links := dropDisabled_frame ((allFin 8).foldl setupModule (s.inUse u))
  have connected := connected_frame s u
  have frame : SameBut [.setup, .store, .bus, .noticesA, .noticesB, .links, .board] s (applySetup u s) :=
    (use.chain connected (rs := [.setup, .store, .bus, .noticesA, .noticesB, .links, .board])).chain (boardUpdate_frame _ _)
  have board : SameBut [.board] (s.connected u) (applySetup u s) := boardUpdate_frame _ _
  refine ⟨frame, (board.at .setup).trans (connected.at .setup), (board.at .store).trans (connected.at .store), fun m => ?_, fun m on busy => ?_,
    fun l => ?_, fun q => ?_⟩
  · have bus : (applySetup u s).bus = ((allFin 8).foldl setupModule (s.inUse u)).bus := (board.at .bus).trans (links.at .bus)
    have moved := setupModules_module (allFin 8) (List.nodup_finRange 8) (s.inUse u) m
    rw [if_pos (mem_allFin m)] at moved
    rw [State.module, bus]
    exact moved
  · have told := setupModules_told (m := m) (allFin 8) s (s.inUse u) 0 use.posting (by decide) (mem_allFin m) (List.nodup_finRange 8) on busy
    exact (told.kept links.keepsNotices).kept board.keepsNotices
  · have same : ((allFin 8).foldl setupModule (s.inUse u)).link l = s.link l := link_congr (modules.at .links)
    have on : ((allFin 8).foldl setupModule (s.inUse u)).linkOn l = u.linkEnable.getLsbD l.val := by
      rw [State.linkOn, modules.at .setup]
      rfl
    refine (link_congr (board.at .links)).trans ((dropDisabled_link _ l).trans ?_)
    rw [same, on]
  · have before : (s.connected u).board = s.board := connected.at .board
    have set : (applySetup u s).pedal q = (getAt (s.connected u).board.pedals q).calibrated (getAt u.calibration q) := getAt_ofFn _ q
    rw [set, before]
    rfl

theorem setupFetched_eq (k : Sector) (s : State) :
    setupFetched k s = requestFetch ⟨.setlist, 1⟩ { applySetup (s.setupRead k) s with resetting := .setlist } := rfl

theorem setupFetch (s : State) (k : Sector) (u : Setup) (hf : s.store.activity = .fetching ⟨.setup, k⟩) (hu : u = s.setupRead k) :
    ∃ t, exec .fetchEnd s = .next t ∧
      t.setup = u ∧ t.resetting = .setlist ∧ t.store.mode = u.startMode ∧ t.store.setlist = s.store.setlist ∧
      ⟨.setlist, 1⟩ ∈ t.fetches ∧ t.grid = s.grid ∧ t.flash = s.flash ∧
      (∀ m : ModuleId, (t.module m).mode = ((s.module m).setUp u m s.now).mode) ∧
      (∀ m : ModuleId, (t.module m).timer = ((s.module m).setUp u m s.now).timer) ∧
      (∀ m : ModuleId, u.moduleMask.getLsbD m.val = true → (s.module m).busy = true →
        Tells ⟨.moduleState m .loading .ready none, false, s.grid.position, none⟩ s t) ∧
      (∀ l : LinkId, t.link l = if u.linkEnable.getLsbD l.val then s.link l else (s.link l).dropped) ∧
      ∀ q : PedalId, t.pedal q = (s.pedal q).calibrated (getAt u.calibration q) := by
  subst hu
  obtain ⟨y, hy⟩ := storeNext_some s
  have setlist := (storeNext_grows s).1
  have run : exec .fetchEnd s = .next (close (setupFetched k (storeNext s))) := exec_fetchEnd hf
  rw [hy] at setlist
  rw [hy, setupFetched_eq] at run
  have applied := applySetup_applied (s.setupRead k) { s with store := y }
  obtain ⟨w, hw⟩ : ∃ w : State, w = { applySetup (s.setupRead k) { s with store := y } with resetting := .setlist } := ⟨_, rfl⟩
  rw [show ({ applySetup (({ s with store := y } : State).setupRead k) { s with store := y } with resetting := .setlist } : State) = w
    from hw.symm] at run
  have phase : SameBut [.resetting] (applySetup (s.setupRead k) { s with store := y }) w := hw ▸ resettingUpdate_frame _ _
  have fetch := requestFetch_frame ⟨.setlist, 1⟩ w
  have ends := close_ends (requestFetch ⟨.setlist, 1⟩ w)
  have after := phase.chain fetch (rs := [.resetting, .store])
  have all := applied.frame.chain after (rs := [.setup, .resetting, .store, .bus, .noticesA, .noticesB, .links, .board])
  have grows := (requestFetch_grows ⟨.setlist, 1⟩ w).then ends.storeGrows
  have store : w.store = { y with mode := (s.setupRead k).startMode } := (phase.at .store).trans applied.store
  have modules (m : ModuleId) : (requestFetch ⟨.setlist, 1⟩ w).module m = (s.module m).setUp (s.setupRead k) m s.now := by
    rw [State.module, after.at .bus]
    exact applied.modules m
  refine ⟨_, run, ?_, ?_, ?_, ?_, ends.storeGrows.fetches _ (requestFetch_mem _ w), ends.grid.trans (all.at .grid), ends.flash.trans (all.at .flash),
    fun m => ?_, fun m => ?_, fun m on busy => ?_, fun l => ?_, fun q => ?_⟩
  · rw [ends.setup, after.at .setup, applied.setup]
  · rw [ends.resetting, fetch.at .resetting, hw]
  · rw [grows.mode, store]
  · rw [grows.setlist, store, ← setlist]
  · rw [ends.modulesStand.mode, modules]
  · rw [ends.modulesStand.timer, modules]
  · have told : Posts ⟨.moduleState m .loading .ready none, false, s.grid.position, none⟩ s (applySetup (s.setupRead k) { s with store := y }) :=
      applied.told m on busy
    exact (told.kept after.keepsNotices).tells ends
  · rw [ends.link, link_congr (after.at .links)]
    exact applied.links l
  · rw [State.pedal, ends.board, after.at .board]
    exact applied.pedals q

/-- Settles O47, by the kind of the fetch that ends. -/
theorem fetches : Obligations.Fetches := by
  refine ⟨readSongRequest, fun s k c hf hc loading => ?_, readSongFetched, fun s k u hf hu => ?_, setlistFetch,
    fun s k n e hf hk hr ha free hc => ?_, fun s idle => ?_⟩
  · refine ⟨_, cueFetch_run hf, fun x hx => ?_, fun hx => ?_, fun busy => ?_⟩
    · obtain ⟨told, waits, takes, -⟩ := cueFetch_song hc hx rfl
      exact ⟨told, waits, fun due fb u hu => hu ▸ takes due fb⟩
    · obtain ⟨frame, emptied, told, -⟩ := cueFetch_none hc hx rfl
      exact ⟨frame, emptied, told⟩
    · cases hx : s.fetchedSong k with
      | some x => exact (cueFetch_song hc hx rfl).2.2.2 busy
      | none => exact (cueFetch_none hc hx rfl).2.2.2 busy
  · have read : u = s.setupRead k := hu.trans (setupRead_eq s k).symm
    obtain ⟨t, run, setup, phase, mode, setlist, fetch, grid, flash, modes, timers, told, links, pedals⟩ := setupFetch s k u hf read
    refine ⟨t, run, setup, phase, mode, setlist, fetch, grid, flash, modes, timers, told, links, fun q lo hi range => ?_⟩
    rw [pedals q, range]
    rfl
  · have run : exec .fetchEnd s = .next (close (initialFetched k (storeNext s))) := exec_fetchEnd hf
    cases hx : s.fetchedSong k with
    | some x =>
      obtain ⟨phase, active, bank, transport, position, countdown, ramp, tempo, song⟩ := initialFetch_song hr hk ha free hc hx rfl
      refine ⟨_, run, phase, fun x' hx' => ?_, fun none => by cases none⟩
      obtain rfl := Option.some.inj hx'
      exact ⟨active, bank, transport, position, countdown, ramp, tempo, song⟩
    | none =>
      obtain ⟨phase, grid, banks, told⟩ := initialFetch_none hr hk free hc hx rfl
      exact ⟨_, run, phase, fun x hx' => (by cases hx'), fun _ => ⟨grid, banks, told⟩⟩
  · refine congrArg Host.Outcome.next ?_
    cases busy : s.store.activity with
    | fetching f => exact absurd busy (idle f)
    | idle | operating op => rfl

end Sys2Proof.Machine
end

section
/-! PROOF. The footswitches' actions (R161): each does what the request of its name does, and leaves the switches. -/

namespace Sys2Proof.Machine

variable {s t u x : State}

/-! ## What leaves the switches -/

/-- A work leaves the footswitches. -/
def SwitchesStand (s t : State) : Prop := t.board.switches = s.board.switches

theorem SwitchesStand.then (h : SwitchesStand s t) (g : SwitchesStand t u) : SwitchesStand s u := Eq.trans g h

theorem SwitchesStand.switch (h : SwitchesStand s t) (f : SwitchId) : t.switch f = s.switch f := congrArg (getAt · f) h

theorem SameBut.switches {ps : List Part} (h : SameBut ps s t) (hb : Part.board ∉ ps := by decide) : SwitchesStand s t :=
  congrArg Board.switches (h.at .board hb : t.board = s.board)

theorem flashTick_switches (s : State) : SwitchesStand s (flashTick s) := by
  unfold flashTick
  split <;> rfl

theorem tickReceivers_switches (ofTake ends : Bool) (s : State) : SwitchesStand s (tickReceivers ofTake ends s) := by
  have clicked : SwitchesStand s (clkoutTick (clickTick s)) := (clickTick_frame s).switches.then (clkoutTick_frame _).switches
  have stepped (y : State) : SwitchesStand y (if ofTake then y else rampStep y) := by
    split
    · rfl
    · exact (rampStep_frame y).switches
  have counted (y : State) : SwitchesStand y (if ends then correctionTick y else y) := by
    split
    · exact (correctionTick_frame y).switches
    · rfl
  exact ((clicked.then (stepped _)).then (counted _)).then
    ((flashTick_switches _).then ((positionNotice_frame .a _).switches.then (positionNotice_frame .b _).switches))

theorem firstTick_switches (ofTake : Bool) (s : State) : SwitchesStand s (firstTick ofTake s) := by
  have ready : SwitchesStand s { s with follower := { s.follower with paceTimer := none }, grid := { s.grid with remainder := 0 } } := rfl
  exact (ready.then (tickReceivers_switches ofTake false _)).then (nextInterval_frame _).switches

theorem startAt_switches (new : Transport) (p : Position) (o : Option Origin) (s : State) : SwitchesStand s (startAt new p o s) :=
  ((setPosition_frame p s).switches.then (enterTransport_frame new o _).switches).then (firstTick_switches false _)

theorem start_switches (o : Origin) (s : State) : SwitchesStand s (start o s) := by
  unfold start
  split
  · split
    · exact (enterTransport_frame _ _ s).switches
    · dsimp only
      split <;> exact startAt_switches ..
  · rfl

theorem songFallback_switches (s : State) : SwitchesStand s (songFallback s) := by
  have left : SwitchesStand s (endPending none (switchSource .internal s)) :=
    (switchSource_frame _ s).switches.then (endPending_frame _ _).switches
  unfold songFallback
  dsimp only
  refine SwitchesStand.then ?_ (followNotice_frame _ _).switches
  have begun : SwitchesStand s (if s.grid.transport = .startPending then firstTick false (endPending none (switchSource .internal s))
      else endPending none (switchSource .internal s)) := by
    split
    · exact left.then (firstTick_switches false _)
    · exact left
  split
  · exact (begun.then (fallbackTempo_frame _ _).switches).then (post_frame _ _ _).switches
  · exact (begun.then (drew_frame _).switches).then (post_frame _ _ _).switches

theorem countHoldover_switches (s : State) : SwitchesStand s (countHoldover s) := by
  have lost (y : State) : SwitchesStand y (enterLost y) := by
    have told : SwitchesStand y (followNotice .holdover (setFollower { y.follower with state := .lost, paceTimer := none } y)) :=
      (setFollower_frame _ y).switches.then (followNotice_frame _ _).switches
    unfold enterLost
    dsimp only
    split
    · exact told
    · exact told.then (songFallback_switches _)
  unfold countHoldover
  dsimp only
  split
  · exact (setFollower_frame _ s).switches.then (lost _)
  · exact (setFollower_frame _ s).switches

theorem emitTick_switches (ofTake : Bool) (s : State) : SwitchesStand s (emitTick ofTake s) := by
  have held (y : State) : SwitchesStand y (holdoverTick y) := by
    unfold holdoverTick
    split
    · exact countHoldover_switches y
    · rfl
  exact ((tickReceivers_switches ofTake true s).then (held _)).then (nextInterval_frame _).switches

theorem takeNowAt_switches (c : Cue) (s : State) : SwitchesStand s (takeNowAt c s) := by
  have work : SwitchesStand s (takeWork s.grid.transport c s) := (takeWork_frame _ c s).switches
  unfold takeNowAt
  dsimp only
  split
  · exact (work.then (gridUpdate_frame _ _).switches).then (emitTick_switches true _)
  · split
    · exact work.then (firstTick_switches true _)
    · exact work

theorem takeIfDue_switches (s : State) : SwitchesStand s (takeIfDue s) := by
  unfold takeIfDue
  split
  · split
    · exact takeNowAt_switches _ s
    · rfl
  · rfl

theorem stop_switches (o : Origin) (s : State) : SwitchesStand s (stop o s) :=
  (stopGrid_frame o s).switches.then (takeIfDue_switches _)

theorem takeNow_switches (s : State) : SwitchesStand s (takeNow s) := by
  unfold takeNow
  split
  · rfl
  · split
    · exact takeNowAt_switches _ s
    · rfl

theorem perform_switches (a : Action) (s : State) : SwitchesStand s (perform a s) := by
  cases a with
  | none => rfl
  | startStop =>
    unfold perform
    dsimp only
    split
    · exact start_switches _ s
    · exact stop_switches _ s
  | tap => exact (takeTap_frame s).switches
  | clickMute => rfl
  | zoneToggle i => exact (SameBut.ite (setZoneOn_frame i _ s) (.refl _ s)).switches
  | sustain links => exact (footSustainOn_frame links s).switches
  | setlistStep forward => exact (SameBut.ite (.refl _ s) (offerPedalCue_frame _ s)).switches
  | cueEntry entry => exact (SameBut.ite (.refl _ s) (offerPedalCue_frame _ s)).switches
  | cancelCue => exact (SameBut.ite (.refl _ s) (cancelCue_frame _ s)).switches
  | takeNow =>
    unfold perform
    dsimp only
    split
    · rfl
    · exact takeNow_switches s

/-! ## What the actions do -/

theorem inReset_atCount (s : State) (c : Count) : (s.atCount c).inReset = true ↔ s.resetting ≠ .none :=
  inReset_iff (s.atCount c)

section
variable {within : List Part → Prop}

/-- An action that is ignored. -/
theorem Carries.nothing (k : Carries within x x t) : within [] := k.still (l := []) (.refl _ x)

theorem footSustainOn_link (links : BitVec 4) (s : State) (l : LinkId) : (footSustainOn links s).link l =
    { s.link l with footSustain := links.getLsbD l.val || (s.link l).footSustain } := by
  have parts := foldl_part (f := fun t l => if links.getLsbD l.val then t.setLink l { t.link l with footSustain := true } else t)
    (get := State.link) (g := fun l k => if links.getLsbD l.val then { k with footSustain := true } else k) (I := fun _ => True)
    (fun _ _ _ => trivial) (fun t l _ => ?_) (fun t l j h => ?_) (allFin 4) s (List.nodup_finRange 4) trivial l
  · rw [if_pos (mem_allFin l)] at parts
    refine parts.trans ?_
    cases links.getLsbD l.val <;> rfl
  · dsimp only
    split
    · exact State.setLink_link_same _ _ _
    · rfl
  · dsimp only
    split
    · exact State.setLink_link_other _ _ h
    · rfl

theorem zoneToggled {i : Nat} (k : Carries within x (setZoneOn i (!x.activeBank.zoneOn i) x) t) (hi : i < x.activeBank.zones.length)
    (same : x.activeBank.enabled.length = x.activeBank.zones.length) : ZoneSet within i (!x.activeBank.zoneOn i) x t := by
  have frame := setZoneOn_frame i (!x.activeBank.zoneOn i) x
  refine zoneSet_of (k.still (frame.mono (by decide))) (by rw [same]; exact hi) k.ends.activeBank fun busy => ?_
  exact (k.ends.busy (by rw [frame.at .bus]; exact busy)).at .layer

theorem pedalCue_offered {c : Cue} (k : Carries within x (offerPedalCue (some c) x) t) (hw : c.state = .waiting) (ho : c.origin = .pedal) :
    within [.banks, .seq, .store] ∧ (x.Quiet → CueEnters within c x t) :=
  offer_done hw (fun _ _ => .inr (.inr ho)) k

end

/-- What an action does at its close, performed at the count `c`. -/
theorem performs_of (a : Action) (c : Count) (s : State) (k : Carries (fun l => Closed l s t) (s.atCount c) (perform a (s.atCount c)) t) :
    Performs c a s t := by
  cases a with
  | none => exact k.nothing
  | startStop =>
    unfold perform at k
    dsimp only at k
    refine ⟨fun stopped => ?_, fun going => ?_⟩
    · rw [if_pos (by exact stopped)] at k
      exact start_done k
    · rw [if_neg (by exact going)] at k
      exact stop_done (atCount_asked s c) k
  | tap => exact fun few => tap_done k few
  | clickMute => exact ⟨k.still (l := [.click]) ((setMute_frame _ _).mono (by decide)), k.ends.click⟩
  | zoneToggle i =>
    unfold perform at k
    dsimp only at k
    refine ⟨fun beyond => ?_, fun within same => ?_⟩
    · rw [if_neg (by exact Nat.not_lt.2 beyond)] at k
      exact k.nothing
    · rw [if_pos (by exact within)] at k
      have done := zoneToggled k within same
      exact done
  | sustain links =>
    refine ⟨k.still (l := [.links]) ((footSustainOn_frame links _).mono (by decide)), fun l => ?_⟩
    rw [k.ends.link]
    exact footSustainOn_link links (s.atCount c) l
  | setlistStep forward =>
    unfold perform at k
    dsimp only at k
    refine ⟨fun reset => ?_, fun none n hn => ⟨fun out => ?_, fun slot low found => ?_⟩⟩
    · rw [if_pos ((inReset_atCount s c).2 reset)] at k
      exact k.nothing
    all_goals rw [if_neg (fun h => (inReset_atCount s c).1 h none)] at k
    · rw [stepCue_none (s := s.atCount c) _ (by rw [hn] at out; exact out)] at k
      exact k.nothing
    · subst hn
      rw [stepCue_some (s := s.atCount c) .pedal low found] at k
      exact pedalCue_offered k rfl rfl
  | cueEntry entry =>
    unfold perform at k
    dsimp only at k
    refine ⟨fun out => ?_, fun none slot found => ?_⟩
    · split at k
      · exact k.nothing
      · next open' =>
        have beyond : s.store.setlist.length ≤ entry := out.resolve_left fun reset => open' ((inReset_atCount s c).2 reset)
        have none : (s.atCount c).entryCue entry .pedal = none := by
          unfold State.entryCue
          rw [show (s.atCount c).store.setlist[entry]? = none from List.getElem?_eq_none beyond]
        rw [none] at k
        exact k.nothing
    · have cue : (s.atCount c).entryCue entry .pedal = some (s.softCue entry slot .pedal) := by
        unfold State.entryCue
        rw [show (s.atCount c).store.setlist[entry]? = some slot from found]
        rfl
      rw [if_neg (fun h => (inReset_atCount s c).1 h none), cue] at k
      exact pedalCue_offered k rfl rfl
  | cancelCue =>
    unfold perform at k
    dsimp only at k
    refine ⟨fun out => ?_, fun none h held => ?_⟩
    · split at k
      · exact k.nothing
      · next open' =>
        have empty : s.seq.cue = none := out.resolve_left fun reset => open' ((inReset_atCount s c).2 reset)
        rw [cancelCue_none .pedal (by exact empty)] at k
        exact k.nothing
    · rw [if_neg (fun h => (inReset_atCount s c).1 h none)] at k
      exact cancel_done (x := s.atCount c) held (.inr (.inr rfl)) k
  | takeNow =>
    unfold perform at k
    dsimp only at k
    refine ⟨fun reset => ?_, fun none => ?_⟩
    · rw [if_pos ((inReset_atCount s c).2 reset)] at k
      exact k.nothing
    · rw [if_neg (fun h => (inReset_atCount s c).1 h none)] at k
      exact takeNow_done (atCount_asked s c) k

end Sys2Proof.Machine
end

section
/-! PROOF. The footswitches: presses, releases, the hold timer, and the sustain that a release lifts (O52). -/

namespace Sys2Proof.Machine

variable {s t u w : State} {f : SwitchId} {l : LinkId} {c : Channel}

/-! ## The sustained entries that a work lifts -/

/-- From `s` to `t` the SUSTAINED entries that `P` names have left that state; every other entry stands, and none becomes SUSTAINED. -/
structure Lifted (P : Entry → Prop) (s t : State) : Prop where
  gone : ∀ e ∈ t.notes.entries, P e → e.state ≠ .sustained
  stand : ∀ e ∈ s.notes.entries, e.state ≠ .sustained ∨ ¬ P e → e ∈ t.notes.entries
  held : ∀ e ∈ t.notes.entries, e.state = .sustained → e ∈ s.notes.entries

variable {P Q : Entry → Prop}

theorem Lifted.nothing (h : t.notes = s.notes) : Lifted (fun _ => False) s t :=
  ⟨fun _ _ no => no.elim, fun e he _ => by rw [h]; exact he, fun e he _ => by rw [← h]; exact he⟩

theorem Lifted.then (h : Lifted P s t) (g : Lifted Q t u) : Lifted (fun e => P e ∨ Q e) s u where
  gone e he named := by
    intro sustained
    rcases named with p | q
    · exact h.gone e (g.held e he sustained) p sustained
    · exact g.gone e he q sustained
  stand e he other := g.stand e (h.stand e he (other.imp id fun no p => no (.inl p))) (other.imp id fun no q => no (.inr q))
  held e he sustained := h.held e (g.held e he sustained) sustained

theorem Lifted.congr (h : Lifted P s t) (same : ∀ e, P e ↔ Q e) : Lifted Q s t :=
  ⟨fun e he q => h.gone e he ((same e).2 q), fun e he other => h.stand e he (other.imp id fun no p => no ((same e).1 p)), h.held⟩

/-- Works done for each of a list in turn, each on a part that the others leave. -/
theorem foldl_lifted {ι : Type} {f : State → ι → State} {P : ι → Entry → Prop} {C : ι → State → Prop}
    (lift : ∀ i t, C i t → Lifted (P i) t (f t i)) (keep : ∀ i j t, j ≠ i → C j t → C j (f t i)) :
    ∀ (l : List ι) (t : State), l.Nodup → (∀ i ∈ l, C i t) → Lifted (fun e => ∃ i ∈ l, P i e) t (l.foldl f t)
  | [], t, _, _ => (Lifted.nothing rfl).congr fun e => by simp
  | i :: l, t, once, all => by
    obtain ⟨out, rest⟩ := List.nodup_cons.1 once
    have later := foldl_lifted lift keep l (f t i) rest fun j hj =>
      keep i j t (fun same => out (same ▸ hj)) (all j (List.mem_cons_of_mem _ hj))
    rw [List.foldl_cons]
    exact ((lift i t (all i List.mem_cons_self)).then later).congr fun e => by simp

theorem sustainLift_lifted (l : LinkId) (c : Channel) (s : State) : Lifted (fun e => e.link = l ∧ e.channel = c) s (sustainLift l c s) := by
  have entries : (sustainLift l c s).notes.entries = _ :=
    congrArg Notes.entries (releaseEntries_notes (fun e => e.link == l && e.channel == c && e.state == .sustained) s)
  refine ⟨fun e mem named sustained => ?_, fun e mem other => ?_, fun e mem sustained => ?_⟩
  · rw [entries] at mem
    rcases releaseScan_mem mem with releasing | no
    · rw [Entry.releasing, sustained] at releasing
      cases releasing
    · simp [named.1, named.2, sustained] at no
  · rw [entries]
    refine releaseScan_stands mem (.inr (Bool.eq_false_iff.2 fun named => ?_))
    simp only [Bool.and_eq_true, beq_iff_eq] at named
    exact other.elim (fun no => no named.2) fun no => no named.1
  · rw [entries] at mem
    obtain ⟨y, hy, r⟩ := (releaseScan_thinned _ _ _).mem mem
    cases r with
    | stands _ => exact hy
    | moves n _ => cases sustained

/-! ## The release half of SUSTAIN (R64, R93) -/

/-- The entries that the clearing of a link's flag lifts. -/
def Lifts (k : KeyLink) (l : LinkId) (e : Entry) : Prop := k.footSustain = true ∧ e.link = l ∧ k.sustain.getLsbD e.channel.val = false

theorem clearFoot_lifted (s : State) (l : LinkId) : Lifted (Lifts (s.link l) l) s (clearFoot s l) := by
  unfold clearFoot
  by_cases set : (s.link l).footSustain = true
  · rw [if_pos set]
    have cleared : Lifted (fun _ => False) s (s.setLink l { s.link l with footSustain := false }) :=
      .nothing ((setLink_frame s l _).at .notes)
    refine (cleared.then (foldl_lifted (P := fun c e => (s.link l).sustain.getLsbD c.val = false ∧ e.link = l ∧ e.channel = c)
      (C := fun _ _ => True) (fun c t _ => ?_) (fun _ _ _ _ _ => trivial) (allFin 16) _ (List.nodup_finRange 16) fun _ _ => trivial)).congr
        fun e => ⟨?_, fun ⟨_, link, off⟩ => .inr ⟨e.channel, mem_allFin _, off, link, rfl⟩⟩
    · split
      · next on => exact (Lifted.nothing rfl).congr fun e => by simp [on]
      · next off =>
        have clear : (s.link l).sustain.getLsbD c.val = false := Bool.eq_false_iff.2 off
        exact (sustainLift_lifted l c t).congr fun e => ⟨fun named => ⟨clear, named⟩, fun named => named.2⟩
    · rintro (no | ⟨c, -, off, link, rfl⟩)
      · exact no.elim
      · exact ⟨set, link, off⟩
  · rw [if_neg set]
    exact (Lifted.nothing rfl).congr fun e => by simp [Lifts, set]

theorem clearFoot_links (s : State) (l : LinkId) : (clearFoot s l).links = (s.setLink l { s.link l with footSustain := false }).links := by
  unfold clearFoot
  split
  · have lifts := SameBut.foldl (ps := noteParts) (f := fun t c => if (s.link l).sustain.getLsbD c.val then t else sustainLift l c t)
      (fun t c => by
        split
        · exact .refl _ t
        · exact sustainLift_frame l c t) (allFin 16) (s.setLink l { s.link l with footSustain := false })
    exact lifts.at .links
  · next clear =>
    have same : ({ s.link l with footSustain := false } : KeyLink) = s.link l := by
      rw [← Bool.eq_false_iff.2 clear]
    rw [same]
    exact (Vector.set_getElem_self ..).symm

theorem clearFoot_link_same (s : State) (l : LinkId) : (clearFoot s l).link l = { s.link l with footSustain := false } := by
  rw [link_congr (clearFoot_links s l), State.setLink_link_same]

theorem clearFoot_link_other (s : State) {m : LinkId} (h : m ≠ l) : (clearFoot s l).link m = s.link m := by
  rw [link_congr (clearFoot_links s l), State.setLink_link_other _ _ h]

theorem otherSustain_iff (f : SwitchId) (l : LinkId) (s : State) : s.otherSustain f l = true ↔ FootHeld f l s := by
  unfold State.otherSustain FootHeld
  rw [List.any_eq_true]
  refine ⟨fun ⟨g, _, h⟩ => ⟨g, ?_⟩, fun ⟨g, other, names, mode⟩ => ⟨g, mem_allFin g, ?_⟩⟩
  · rw [Bool.and_eq_true, Bool.and_eq_true] at h
    obtain ⟨⟨other, names⟩, mode⟩ := h
    refine ⟨bne_iff_ne.1 other, ?_, ?_⟩
    · split at names
      · next links action => exact ⟨links, action, names⟩
      · cases names
    · split at mode
      · next down => exact .inl down
      · next held => exact .inr ⟨held, by simpa using mode⟩
      · cases mode
  · obtain ⟨links, action, names⟩ := names
    rw [Bool.and_eq_true, Bool.and_eq_true]
    refine ⟨⟨bne_iff_ne.2 other, by rw [action]; exact names⟩, ?_⟩
    rcases mode with down | ⟨held, inert⟩
    · rw [down]
    · rw [held, inert]
      rfl

/-- The step of the release half for one link. -/
def footStep (f : SwitchId) (links : BitVec 4) (s t : State) (l : LinkId) : State :=
  if links.getLsbD l.val && !s.otherSustain f l then clearFoot t l else t

theorem footSustainOff_eq (f : SwitchId) (links : BitVec 4) (s : State) : footSustainOff f links s = (allFin 4).foldl (footStep f links s) s := rfl

theorem footStep_clears (links : BitVec 4) (h : links.getLsbD l.val = true ∧ ¬ FootHeld f l s) (t : State) : footStep f links s t l = clearFoot t l := by
  have free : s.otherSustain f l = false := Bool.eq_false_iff.2 fun held => h.2 ((otherSustain_iff f l s).1 held)
  rw [footStep, h.1, free]
  rfl

theorem footStep_stays (links : BitVec 4) (h : links.getLsbD l.val = false ∨ FootHeld f l s) (t : State) : footStep f links s t l = t := by
  rw [footStep]
  rcases h with no | held
  · rw [no]
    rfl
  · rw [(otherSustain_iff f l s).2 held, Bool.not_true, Bool.and_false]
    rfl

theorem footStep_cases (f : SwitchId) (links : BitVec 4) (l : LinkId) (s : State) :
    (links.getLsbD l.val = true ∧ ¬ FootHeld f l s) ∨ (links.getLsbD l.val = false ∨ FootHeld f l s) := by
  by_cases held : FootHeld f l s
  · exact .inr (.inr held)
  · cases on : links.getLsbD l.val with
    | true => exact .inl ⟨rfl, held⟩
    | false => exact .inr (.inl rfl)

theorem footStep_link_other (links : BitVec 4) (t : State) {m : LinkId} (h : m ≠ l) : (footStep f links s t l).link m = t.link m := by
  unfold footStep
  split
  · exact clearFoot_link_other t h
  · rfl

theorem footSustainOff_link (f : SwitchId) (links : BitVec 4) (s : State) (l : LinkId) :
    (links.getLsbD l.val = true ∧ ¬ FootHeld f l s → (footSustainOff f links s).link l = { s.link l with footSustain := false }) ∧
    (links.getLsbD l.val = false ∨ FootHeld f l s → (footSustainOff f links s).link l = s.link l) := by
  have parts := foldl_part (f := footStep f links s) (get := State.link)
    (g := fun l k => if links.getLsbD l.val && !s.otherSustain f l then { k with footSustain := false } else k) (I := fun _ => True)
    (fun _ _ _ => trivial) (fun t l _ => ?_) (fun t l j h => footStep_link_other links t h) (allFin 4) s (List.nodup_finRange 4) trivial l
  · rw [if_pos (mem_allFin l)] at parts
    rw [footSustainOff_eq, parts]
    refine ⟨fun ⟨on, free⟩ => if_pos ?_, fun h => if_neg ?_⟩
    · rw [on, Bool.true_and, Bool.not_eq_true', Bool.eq_false_iff]
      exact fun held => free ((otherSustain_iff f l s).1 held)
    · rcases h with no | held
      · rw [no]
        exact Bool.false_ne_true
      · rw [(otherSustain_iff f l s).2 held, Bool.not_true, Bool.and_false]
        exact Bool.false_ne_true
  · unfold footStep
    split
    · exact clearFoot_link_same t l
    · rfl

/-- The entries that a release half lifts. -/
theorem footSustainOff_lifted (f : SwitchId) (links : BitVec 4) (s : State) : Lifted
    (fun e => links.getLsbD e.link.val = true ∧ ¬ FootHeld f e.link s ∧ Lifts (s.link e.link) e.link e) s (footSustainOff f links s) := by
  refine (foldl_lifted (f := footStep f links s) (P := fun l e => links.getLsbD l.val = true ∧ ¬ FootHeld f l s ∧ Lifts (s.link l) l e)
    (C := fun l t => t.link l = s.link l) (fun l t h => ?_) (fun l m t other h => (footStep_link_other links t other).trans h)
    (allFin 4) s (List.nodup_finRange 4) fun _ _ => rfl).congr fun e => ⟨?_, fun named => ⟨e.link, mem_allFin _, named⟩⟩
  · rcases footStep_cases f links l s with clears | stays
    · rw [footStep_clears links clears, ← h]
      exact (clearFoot_lifted t l).congr fun e => by simp [clears.1, clears.2]
    · rw [footStep_stays links stays]
      refine (Lifted.nothing rfl).congr fun e => ⟨False.elim, fun named => ?_⟩
      rcases stays with no | held
      · rw [no] at named
        exact absurd named.1 Bool.false_ne_true
      · exact named.2.1 held
  · rintro ⟨l, -, on, free, set, rfl, off⟩
    exact ⟨on, free, set, rfl, off⟩

/-- The release half of SUSTAIN at its close. -/
theorem footLifts (f : SwitchId) (links : BitVec 4) (u : State) : FootLifts f links u (close (footSustainOff f links u)) := by
  have frame : SameBut ([.links, .notes, .banks, .seq, .store] ++ noticeParts) u (footSustainOff f links u) :=
    (footSustainOff_frame f links u).mono
  have bus : (footSustainOff f links u).bus = u.bus := frame.at .bus
  have ends := close_ends (footSustainOff f links u)
  refine ⟨close_closed frame (by rw [bus]), fun l => ?_, fun sending => ?_⟩
  · rw [ends.link]
    exact footSustainOff_link f links u l
  · have lifted := footSustainOff_lifted f links u
    have notes : (close (footSustainOff f links u)).notes = (footSustainOff f links u).notes :=
      (ends.busy (by rw [bus]; exact sending)).at .notes
    rw [notes]
    refine ⟨fun e he on free set off => lifted.gone e he ⟨on, free, set, rfl, off⟩, fun e he other => lifted.stand e he ?_⟩
    rcases other with state | off | held | clear | on
    · exact .inl state
    · exact .inr fun named => by rw [off] at named; exact absurd named.1 Bool.false_ne_true
    · exact .inr fun named => named.2.1 held
    · exact .inr fun named => by rw [Lifts, clear] at named; exact absurd named.2.2.1 Bool.false_ne_true
    · exact .inr fun named => by rw [Lifts, on] at named; exact absurd named.2.2.2.2.symm Bool.false_ne_true

/-! ## The switches' events (R159, R160) -/

theorem close_switches (h : SwitchesStand u w) (g : SwitchId) : (close w).switch g = u.switch g := by
  have board : SwitchesStand w (close w) := congrArg Board.switches (close_ends w).board
  exact (h.then board).switch g

/-- An action performed at an event of this instant. -/
theorem performs_close (a : Action) (u : State) : Performs u.now a u (close (perform a u)) :=
  performs_of a u.now u (close_carries u (perform a u))

theorem footswitchPressed (f : SwitchId) (s u : State) (a h : Action) (hr : s.running = true) (level : (s.switch f).level ≠ some true)
    (acts : getAt s.setup.switches f = (a, h)) (hu : u = s.setSwitch f { s.switch f with
      raw := true, level := some true, count := 0, mode := .down, hold := some ⟨s.now, s.setup.holdMillis * 1000⟩ }) :
    ∃ t, exec (.footswitchPress f) s = .next t ∧ (∀ g, t.switch g = u.switch g) ∧
      (h ≠ .none → Closed [] u t) ∧ (h = .none → Performs s.now a u t) := by
  have run : exec (.footswitchPress f) s = .next (close (pressAccepted f s)) :=
    congrArg Host.Outcome.next ((whileRunning_running hr).trans (if_pos level))
  have work : pressAccepted f s = if h = .none then perform a u else u := by
    unfold pressAccepted
    rw [acts, hu]
    rfl
  have now : u.now = s.now := by rw [hu]; rfl
  refine ⟨_, run, ?_, fun held => ?_, fun none => ?_⟩
  · rw [work]
    refine close_switches ?_
    split
    · exact perform_switches a u
    · rfl
  · rw [work, if_neg held]
    exact close_closed (.refl _ u) rfl
  · rw [work, if_pos none, ← now]
    exact performs_close a u

theorem footswitchReleased (f : SwitchId) (s u : State) (a h : Action) (hr : s.running = true) (level : (s.switch f).level = some true)
    (acts : getAt s.setup.switches f = (a, h)) (hu : u = s.setSwitch f { s.switch f with
      raw := false, level := some false, count := 0, mode := .up, hold := none, inert := false }) :
    ∃ t, exec (.footswitchRelease f) s = .next t ∧ (∀ g, t.switch g = u.switch g) ∧
      ((s.switch f).inert = true ∨ h ≠ .none ∧ (s.switch f).mode ≠ .down → Closed [] u t) ∧
      ((s.switch f).inert = false → h ≠ .none → (s.switch f).mode = .down → Performs s.now a u t) ∧
      ((s.switch f).inert = false → h = .none →
        (∀ links, a = .sustain links → FootLifts f links u t) ∧ ((∀ links, a ≠ .sustain links) → Closed [] u t)) := by
  have run : exec (.footswitchRelease f) s = .next (close (releaseAccepted f s)) :=
    congrArg Host.Outcome.next ((whileRunning_running hr).trans (if_pos level))
  have work : releaseAccepted f s = if (s.switch f).inert = true then u else if h = .none then releaseHalf f a u
      else if (s.switch f).mode = .down then perform a u else u := by
    unfold releaseAccepted
    rw [acts, ← hu]
    dsimp only
    cases (s.switch f).mode <;> rfl
  have now : u.now = s.now := by rw [hu]; rfl
  have still : Closed [] u (close u) := close_closed (.refl _ u) rfl
  have half : SwitchesStand u (releaseHalf f a u) := by
    unfold releaseHalf
    split
    · exact (footSustainOff_frame f _ u).switches
    · rfl
  refine ⟨_, run, ?_, fun nothing => ?_, fun live held down => ?_, fun live none => ⟨fun links sustains => ?_, fun other => ?_⟩⟩
  · rw [work]
    refine close_switches ?_
    split
    · rfl
    · split
      · exact half
      · split
        · exact perform_switches a u
        · rfl
  · rw [work]
    rcases nothing with inert | ⟨held, mode⟩
    · rw [if_pos inert]
      exact still
    · rw [if_neg held, if_neg mode, ite_self]
      exact still
  · rw [work, if_neg (by rw [live]; exact Bool.false_ne_true), if_neg held, if_pos down, ← now]
    exact performs_close a u
  · rw [work, if_neg (by rw [live]; exact Bool.false_ne_true), if_pos none, sustains]
    exact footLifts f links u
  · have nothing : releaseHalf f a u = u := by
      unfold releaseHalf
      split
      · next links => exact absurd rfl (other links)
      · rfl
    rw [work, if_neg (by rw [live]; exact Bool.false_ne_true), if_pos none, nothing]
    exact still

/-- An action performed at the expiry of a timer, late or early. -/
theorem performs_expired (a : Action) (tm : Timer) (s : State) :
    Performs tm.due a (s.expired tm) (expireAt tm (fun y => close (perform a y)) s) := by
  have k := expired_carries tm (perform a) s
  have same : (s.expired tm).atCount tm.due = s.atCount tm.due := by
    unfold State.expired
    split <;> rfl
  rw [← same] at k
  exact performs_of a tm.due (s.expired tm) k

theorem holdTimerExpired (f : SwitchId) (s u : State) (a h : Action) (tm : Timer) (down : (s.switch f).mode = .down) (hold : (s.switch f).hold = some tm)
    (acts : getAt s.setup.switches f = (a, h)) (hu : u = (s.expired tm).setSwitch f { s.switch f with mode := .held, hold := none }) :
    ∃ t, exec (.holdTimerExpiry f) s = .next t ∧ (∀ g, t.switch g = u.switch g) ∧ Performs tm.due h u t := by
  obtain ⟨v, hv⟩ : ∃ v : State, v = s.setSwitch f { s.switch f with mode := .held, hold := none } := ⟨_, rfl⟩
  have work (y : State) (c : Count) (hy : y = s.atCount c) : holdExpired f y = perform h (v.atCount c) := by
    unfold holdExpired
    rw [hy, show (s.atCount c).setup = s.setup from rfl, acts, hv]
    rfl
  have later : expireAt tm (fun x => close (holdExpired f x)) s = expireAt tm (fun x => close (perform h x)) v := by
    unfold expireAt
    dsimp only
    rw [work _ tm.due rfl, show v.now = s.now by rw [hv]; rfl]
  have run : exec (.holdTimerExpiry f) s = .next (expireAt tm (fun x => close (perform h x)) v) := by
    refine congrArg Host.Outcome.next (Eq.trans ?_ later)
    unfold onHoldTimer
    rw [down, hold]
  have found : u = v.expired tm := by
    rw [hu, hv]
    unfold State.expired
    rw [show (s.setSwitch f _).now = s.now from rfl]
    split <;> rfl
  refine ⟨_, run, fun g => ?_, ?_⟩
  · have board : SwitchesStand (perform h (v.atCount tm.due)) (close (perform h (v.atCount tm.due))) := congrArg Board.switches (close_ends _).board
    have stands : SwitchesStand v (expireAt tm (fun x => close (perform h x)) v) := by
      have at' := expireAt_at_board tm (fun x => close (perform h x)) v
      exact (congrArg Board.switches at').trans ((perform_switches h (v.atCount tm.due)).then board)
    rw [stands.switch g, found]
    unfold State.expired
    split <;> rfl
  · rw [found]
    exact performs_expired h tm v

/-- Settles O52, by the switch's event. -/
theorem footswitches : Obligations.Footswitches := ⟨footswitchPressed, footswitchReleased, holdTimerExpired⟩

end Sys2Proof.Machine
end

section
/-! PROOF. The blocks and the arbiter do not look at the ports' buffers: each commutes with `State.withBuffers`, which puts
other requests in them. -/

namespace Sys2Proof.Machine

/-- The same state with other requests waiting in the two ports' buffers. -/
def State.withBuffers (s : State) (fa fb : List Frame) : State :=
  { s with portA := { s.portA with buffer := fa }, portB := { s.portB with buffer := fb } }

variable {fa fb : List Frame} {s : State}

/-! ## What is read -/

@[simp] theorem withBuffers_timebase : (s.withBuffers fa fb).timebase = s.timebase := rfl
@[simp] theorem withBuffers_setup : (s.withBuffers fa fb).setup = s.setup := rfl
@[simp] theorem withBuffers_resetting : (s.withBuffers fa fb).resetting = s.resetting := rfl
@[simp] theorem withBuffers_grid : (s.withBuffers fa fb).grid = s.grid := rfl
@[simp] theorem withBuffers_follower : (s.withBuffers fa fb).follower = s.follower := rfl
@[simp] theorem withBuffers_tap : (s.withBuffers fa fb).tap = s.tap := rfl
@[simp] theorem withBuffers_click : (s.withBuffers fa fb).click = s.click := rfl
@[simp] theorem withBuffers_links : (s.withBuffers fa fb).links = s.links := rfl
@[simp] theorem withBuffers_layer : (s.withBuffers fa fb).layer = s.layer := rfl
@[simp] theorem withBuffers_notes : (s.withBuffers fa fb).notes = s.notes := rfl
@[simp] theorem withBuffers_bus : (s.withBuffers fa fb).bus = s.bus := rfl
@[simp] theorem withBuffers_banks : (s.withBuffers fa fb).banks = s.banks := rfl
@[simp] theorem withBuffers_seq : (s.withBuffers fa fb).seq = s.seq := rfl
@[simp] theorem withBuffers_store : (s.withBuffers fa fb).store = s.store := rfl
@[simp] theorem withBuffers_flash : (s.withBuffers fa fb).flash = s.flash := rfl
@[simp] theorem withBuffers_board : (s.withBuffers fa fb).board = s.board := rfl
@[simp] theorem withBuffers_draws : (s.withBuffers fa fb).draws = s.draws := rfl
@[simp] theorem withBuffers_pending : (s.withBuffers fa fb).pending = s.pending := rfl

/-- A state formed from one with other requests waiting, its ports left as they are. -/
@[simp] theorem mk_withBuffers (a b c d e f g h i j k l m n o q r x) : State.mk a b c d e f g h i j k l m n o q
    (s.withBuffers fa fb).portA (s.withBuffers fa fb).portB r x =
      (State.mk a b c d e f g h i j k l m n o q s.portA s.portB r x).withBuffers fa fb := rfl

@[simp] theorem now_withBuffers : (s.withBuffers fa fb).now = s.now := rfl
@[simp] theorem timer_withBuffers (d : Nat) : (s.withBuffers fa fb).timer d = s.timer d := rfl
@[simp] theorem inReset_withBuffers : (s.withBuffers fa fb).inReset = s.inReset := rfl
@[simp] theorem module_withBuffers (m : ModuleId) : (s.withBuffers fa fb).module m = s.module m := rfl
@[simp] theorem bank_withBuffers : (s.withBuffers fa fb).bank = s.bank := rfl
@[simp] theorem activeBank_withBuffers : (s.withBuffers fa fb).activeBank = s.activeBank := rfl
@[simp] theorem standbyBank_withBuffers : (s.withBuffers fa fb).standbyBank = s.standbyBank := rfl
@[simp] theorem mayLoad_withBuffers : (s.withBuffers fa fb).mayLoad = s.mayLoad := rfl
@[simp] theorem settled_withBuffers : (s.withBuffers fa fb).settled = s.settled := rfl
@[simp] theorem failedModules_withBuffers : (s.withBuffers fa fb).failedModules = s.failedModules := rfl
@[simp] theorem busWork_withBuffers : (s.withBuffers fa fb).busWork = s.busWork := rfl
@[simp] theorem otherReferences_withBuffers : (s.withBuffers fa fb).otherReferences = s.otherReferences := rfl
@[simp] theorem itemDest_withBuffers (k : KeyOnItem) : (s.withBuffers fa fb).itemDest k = s.itemDest k := rfl
@[simp] theorem realtimeItem_verdict_withBuffers : RealtimeItem.verdict (s.withBuffers fa fb) = RealtimeItem.verdict s := rfl
@[simp] theorem keyOnItem_verdict_withBuffers : KeyOnItem.verdict (s.withBuffers fa fb) = KeyOnItem.verdict s := rfl
@[simp] theorem notice_withBuffers (b : NoticeBody) (o : Option Origin) : (s.withBuffers fa fb).notice b o = s.notice b o := rfl

/-! ## Notices (R178) -/

theorem port_withBuffers (p : Port) :
    (s.withBuffers fa fb).port p = { s.port p with buffer := match p with | .a => fa | .b => fb } := by
  cases p <;> rfl

theorem post_buffer (c : ControlPort) (n : Notice) (fs : List Frame) :
    ({ c with buffer := fs } : ControlPort).post n = { c.post n with buffer := fs } := by
  unfold ControlPort.post ControlPort.admits
  dsimp only
  split_ifs <;> rfl

@[simp] theorem postTo_withBuffers (p : Port) (b : NoticeBody) (o : Option Origin) :
    postTo p b o (s.withBuffers fa fb) = (postTo p b o s).withBuffers fa fb := by
  cases p <;> simp only [postTo, State.setPort, port_withBuffers, notice_withBuffers, post_buffer] <;> rfl

@[simp] theorem post_withBuffers (b : NoticeBody) (o : Option Origin) :
    post b o (s.withBuffers fa fb) = (post b o s).withBuffers fa fb := by
  simp [post]

/-! ## The store, the cue slot and the settle (R131, R139, R146) -/

@[simp] theorem requestFetch_withBuffers (f : Fetch) : requestFetch f (s.withBuffers fa fb) = (requestFetch f s).withBuffers fa fb := by
  unfold requestFetch
  split <;> simp_all

@[simp] theorem storeNext_withBuffers : storeNext (s.withBuffers fa fb) = (storeNext s).withBuffers fa fb := by
  unfold storeNext
  split <;> simp_all

@[simp] theorem setBank_withBuffers (k : BankId) (x : Bank) : (s.withBuffers fa fb).setBank k x = (s.setBank k x).withBuffers fa fb := by
  unfold State.setBank
  split <;> simp

@[simp] theorem emptyStandby_withBuffers : emptyStandby (s.withBuffers fa fb) = (emptyStandby s).withBuffers fa fb := by
  simp [emptyStandby]

@[simp] theorem examineLoad_withBuffers : examineLoad (s.withBuffers fa fb) = (examineLoad s).withBuffers fa fb := by
  cases found : s.seq.cue with
  | none => simp [examineLoad, found]
  | some c => by_cases h : c.state = .waiting ∧ s.mayLoad = true <;> simp [examineLoad, found, h]

@[simp] theorem bankFree_withBuffers (before : Nat) : bankFree before (s.withBuffers fa fb) = (bankFree before s).withBuffers fa fb := by
  unfold bankFree
  rw [withBuffers_banks, withBuffers_notes]
  split_ifs <;> simp

@[simp] theorem settle_withBuffers : settle (s.withBuffers fa fb) = (settle s).withBuffers fa fb := by
  simp [settle]

@[simp] theorem examineSettle_withBuffers : examineSettle (s.withBuffers fa fb) = (examineSettle s).withBuffers fa fb := by
  unfold examineSettle
  split <;> simp_all

/-! ## The arbiter (R111) -/

@[simp] theorem setModule_withBuffers (m : ModuleId) (x : ModuleState) :
    (s.withBuffers fa fb).setModule m x = (s.setModule m x).withBuffers fa fb := rfl

@[simp] theorem discard_withBuffers (m : ModuleId) : (s.withBuffers fa fb).discard m = (s.discard m).withBuffers fa fb := rfl

theorem foldl_withBuffers {α : Type} {f : State → α → State} (same : ∀ s x, f (s.withBuffers fa fb) x = (f s x).withBuffers fa fb)
    (l : List α) (s : State) : l.foldl f (s.withBuffers fa fb) = (l.foldl f s).withBuffers fa fb := by
  induction l generalizing s with
  | nil => rfl
  | cons x l ih => rw [List.foldl_cons, List.foldl_cons, same, ih]

@[simp] theorem discardAll_withBuffers (ms : List ModuleId) :
    discardAll ms (s.withBuffers fa fb) = (discardAll ms s).withBuffers fa fb := foldl_withBuffers (fun _ _ => rfl) ms s

@[simp] theorem serveRealtime_withBuffers : serveRealtime (s.withBuffers fa fb) = (serveRealtime s).map (·.withBuffers fa fb) id := by
  rcases found : (scanQueue (RealtimeItem.verdict s) s.bus.realtime).pick with _ | _ | _ <;> simp [serveRealtime, found]

@[simp] theorem endDest_withBuffers (serial i : Nat) : endDest serial i (s.withBuffers fa fb) = (endDest serial i s).withBuffers fa fb := by
  simp [endDest]

@[simp] theorem flagDest_withBuffers (serial i : Nat) (flag : KeyOnFlag) :
    flagDest serial i flag (s.withBuffers fa fb) = (flagDest serial i flag s).withBuffers fa fb := rfl

@[simp] theorem cancelKeyOn_withBuffers (c : Candidate) : cancelKeyOn c (s.withBuffers fa fb) = (cancelKeyOn c s).withBuffers fa fb := by
  simp [cancelKeyOn]

@[simp] theorem decideCandidate_withBuffers (c : Candidate) :
    decideCandidate c (s.withBuffers fa fb) = (decideCandidate c s).map (·.withBuffers fa fb) id := by
  cases found : findDest c.serial c.dest s.notes.entries with
  | none => simp [decideCandidate, found]
  | some d =>
    cases flag : d.flag with
    | queued => simp [decideCandidate, found, flag]
    | dropped => simp [decideCandidate, found, flag]
    | sent =>
      simp only [decideCandidate, withBuffers_notes, module_withBuffers, endDest_withBuffers, found, flag]
      split_ifs
      · rfl
      · rfl
      · cases (s.module d.module).mode <;> rfl

@[simp] theorem serveKeyOffs_withBuffers (cs : List Candidate) (s : State) :
    serveKeyOffs cs (s.withBuffers fa fb) = (serveKeyOffs cs s).map (·.withBuffers fa fb) id := by
  induction cs generalizing s with
  | nil => rfl
  | cons c cs ih => rcases found : decideCandidate c s with ⟨s', _ | k⟩ <;> simp [serveKeyOffs, found, ih]

@[simp] theorem dropKeyOn_withBuffers (k : KeyOnItem) : dropKeyOn (s.withBuffers fa fb) k = (dropKeyOn s k).withBuffers fa fb := by
  unfold dropKeyOn
  split <;> simp_all

@[simp] theorem serveKeyOns_withBuffers : serveKeyOns (s.withBuffers fa fb) = (serveKeyOns s).map (·.withBuffers fa fb) id := by
  have dropped (l : List KeyOnItem) (t : State) : l.foldl dropKeyOn (t.withBuffers fa fb) = (l.foldl dropKeyOn t).withBuffers fa fb :=
    foldl_withBuffers (fun _ _ => dropKeyOn_withBuffers _) l t
  rcases found : (scanQueue (KeyOnItem.verdict s) s.layer.keyOns).pick with _ | k
  · simp [serveKeyOns, found, dropped]
  · cases dest : s.itemDest k <;> simp [serveKeyOns, found, dest, dropped]

@[simp] theorem serveControls_withBuffers : serveControls (s.withBuffers fa fb) = (serveControls s).map (·.withBuffers fa fb) id := by
  cases found : (scanQueue (fun c : ControlItem => (s.module c.module).mode.waitVerdict) s.layer.controls).pick <;>
    simp [serveControls, found]

@[simp] theorem serveLevels_withBuffers : serveLevels (s.withBuffers fa fb) = (serveLevels s).map (·.withBuffers fa fb) id := by
  rcases found : (scanLevels (fun m => (s.module m).mode) s.activeBank.zones s.layer.levels).pick with _ | ⟨z, v⟩ <;>
    simp [serveLevels, found]

/-- Of two collections tried in turn neither looks at the buffers. -/
theorem orElseServe_withBuffers {r : State × Option Choice} {f : State → State × Option Choice}
    (same : ∀ s, f (s.withBuffers fa fb) = (f s).map (·.withBuffers fa fb) id) :
    orElseServe (r.map (·.withBuffers fa fb) id) f = (orElseServe r f).map (·.withBuffers fa fb) id := by
  obtain ⟨s, _ | k⟩ := r
  · exact same s
  · rfl

@[simp] theorem serveLive_withBuffers : serveLive (s.withBuffers fa fb) = (serveLive s).map (·.withBuffers fa fb) id := by
  simp only [serveLive, withBuffers_notes, serveKeyOffs_withBuffers]
  refine orElseServe_withBuffers fun s1 => ?_
  rw [serveKeyOns_withBuffers]
  refine orElseServe_withBuffers fun s2 => ?_
  rw [serveControls_withBuffers]
  exact orElseServe_withBuffers fun _ => serveLevels_withBuffers

@[simp] theorem recordProgram_withBuffers (m : ModuleId) (msg : Message) :
    recordProgram m msg (s.withBuffers fa fb) = (recordProgram m msg s).withBuffers fa fb := by
  unfold recordProgram
  split <;> simp

@[simp] theorem servePass_withBuffers : servePass (s.withBuffers fa fb) = (servePass s).map (·.withBuffers fa fb) id := by
  cases found : (scanQueue (fun i : Addressed => (s.module i.module).mode.waitVerdict) s.bus.pass).pick <;>
    simp [servePass, found]

@[simp] theorem serveChange_withBuffers : serveChange (s.withBuffers fa fb) = (serveChange s).map (·.withBuffers fa fb) id := by
  cases found : (scanPending (fun m => (s.module m).mode) s.bus.pending).2 <;> simp [serveChange, found]

@[simp] theorem choose_withBuffers : choose (s.withBuffers fa fb) = (choose s).map (·.withBuffers fa fb) id := by
  simp only [choose, serveRealtime_withBuffers]
  refine orElseServe_withBuffers fun s1 => ?_
  have thenOther (first second third : State → State × Option Choice)
      (h1 : first (s1.withBuffers fa fb) = (first s1).map (·.withBuffers fa fb) id)
      (h2 : ∀ t, second (t.withBuffers fa fb) = (second t).map (·.withBuffers fa fb) id)
      (h3 : ∀ t, third (t.withBuffers fa fb) = (third t).map (·.withBuffers fa fb) id) :
      orElseServe (first (s1.withBuffers fa fb)) (fun s2 => orElseServe (second s2) third) =
        (orElseServe (first s1) (fun s2 => orElseServe (second s2) third)).map (·.withBuffers fa fb) id := by
    rw [h1]
    exact orElseServe_withBuffers fun t => by rw [h2]; exact orElseServe_withBuffers h3
  have live (t : State) := serveLive_withBuffers (fa := fa) (fb := fb) (s := t)
  have pass (t : State) := servePass_withBuffers (fa := fa) (fb := fb) (s := t)
  have change (t : State) := serveChange_withBuffers (fa := fa) (fb := fb) (s := t)
  rw [withBuffers_setup]
  split
  · exact thenOther _ _ _ (live s1) pass change
  · exact thenOther _ _ _ (change s1) live pass
  · exact thenOther _ _ _ (change s1) pass live
  · exact thenOther _ _ _ (pass s1) live change
  · exact thenOther _ _ _ (pass s1) change live
  · exact thenOther _ _ _ (live s1) change pass

@[simp] theorem beginTransmission_withBuffers (target : Option ModuleId) (message : Message) (fromTake forRestart : Bool) :
    beginTransmission target message fromTake forRestart (s.withBuffers fa fb) =
      (beginTransmission target message fromTake forRestart s).withBuffers fa fb := rfl

@[simp] theorem choices_withBuffers (fuel : Nat) : choices fuel (s.withBuffers fa fb) = (choices fuel s).withBuffers fa fb := by
  induction fuel generalizing s with
  | zero => rfl
  | succ fuel ih =>
    rcases found : choose s with ⟨s', _ | c⟩
    · by_cases h : s'.busWork < s.busWork <;> simp [choices, found, h, ih]
    · by_cases h : c.takeLeft = true <;> simp [choices, found, h]

@[simp] theorem arbitrate_withBuffers : arbitrate (s.withBuffers fa fb) = (arbitrate s).withBuffers fa fb := by
  unfold arbitrate
  split <;> simp_all

end Sys2Proof.Machine
end

section
/-! PROOF. The grid, the Follower and the takes do not look at the ports' buffers. -/

namespace Sys2Proof.Machine

variable {fa fb : List Frame} {s : State}

/-! ## A tick (R9) -/

@[simp] theorem nextInterval_withBuffers : nextInterval (s.withBuffers fa fb) = (nextInterval s).withBuffers fa fb := rfl

@[simp] theorem setTempo_withBuffers (t : Nat) : setTempo t (s.withBuffers fa fb) = (setTempo t s).withBuffers fa fb := by
  unfold setTempo
  split <;> simp_all

@[simp] theorem clkoutTick_withBuffers : clkoutTick (s.withBuffers fa fb) = (clkoutTick s).withBuffers fa fb := by
  unfold clkoutTick
  split <;> simp_all

@[simp] theorem tickClick_withBuffers : (s.withBuffers fa fb).tickClick = s.tickClick := rfl

@[simp] theorem offerClick_withBuffers (k : ClickLine) : offerClick k (s.withBuffers fa fb) = (offerClick k s).withBuffers fa fb := by
  cases found : s.setup.clickModule with
  | none => simp [offerClick, found]
  | some m => by_cases h : s.bus.realtime.length < 8 <;> simp [offerClick, found, h]

@[simp] theorem pulseLine_withBuffers (k : ClickLine) : pulseLine k (s.withBuffers fa fb) = (pulseLine k s).withBuffers fa fb := by
  unfold pulseLine
  split <;> simp

@[simp] theorem clickTick_withBuffers : clickTick (s.withBuffers fa fb) = (clickTick s).withBuffers fa fb := by
  unfold clickTick
  split <;> simp_all

@[simp] theorem rampStep_withBuffers : rampStep (s.withBuffers fa fb) = (rampStep s).withBuffers fa fb := by
  cases found : s.grid.ramp with
  | none => simp [rampStep, found]
  | some r => by_cases h : s.grid.position.isBeat = true <;> simp [rampStep, found, h]

@[simp] theorem correctionTick_withBuffers : correctionTick (s.withBuffers fa fb) = (correctionTick s).withBuffers fa fb := by
  cases found : s.grid.correction with
  | none => simp [correctionTick, found]
  | some c =>
    simp only [correctionTick, withBuffers_grid, found]
    split_ifs <;> simp

@[simp] theorem positionNotice_withBuffers (p : Port) :
    positionNotice p (s.withBuffers fa fb) = (positionNotice p s).withBuffers fa fb := by
  have positions : ((s.withBuffers fa fb).port p).positions = (s.port p).positions := by rw [port_withBuffers]
  simp only [positionNotice, positions, withBuffers_grid, postTo_withBuffers]
  split_ifs <;> rfl

@[simp] theorem flashTick_withBuffers : flashTick (s.withBuffers fa fb) = (flashTick s).withBuffers fa fb := by
  unfold flashTick
  rw [withBuffers_grid]
  split_ifs <;> rfl

@[simp] theorem tickReceivers_withBuffers (ofTake endsInterval : Bool) :
    tickReceivers ofTake endsInterval (s.withBuffers fa fb) = (tickReceivers ofTake endsInterval s).withBuffers fa fb := by
  cases ofTake <;> cases endsInterval <;> simp [tickReceivers]

@[simp] theorem firstTick_withBuffers (ofTake : Bool) :
    firstTick ofTake (s.withBuffers fa fb) = (firstTick ofTake s).withBuffers fa fb := by
  simp [firstTick]

/-! ## Transport, position and source (R11 to R17) -/

@[simp] theorem enterTransport_withBuffers (new : Transport) (o : Option Origin) :
    enterTransport new o (s.withBuffers fa fb) = (enterTransport new o s).withBuffers fa fb := by
  simp [enterTransport]

@[simp] theorem setPosition_withBuffers (p : Position) : setPosition p (s.withBuffers fa fb) = (setPosition p s).withBuffers fa fb := rfl

@[simp] theorem startAt_withBuffers (new : Transport) (p : Position) (o : Option Origin) :
    startAt new p o (s.withBuffers fa fb) = (startAt new p o s).withBuffers fa fb := by
  simp [startAt]

@[simp] theorem start_withBuffers (o : Origin) : start o (s.withBuffers fa fb) = (start o s).withBuffers fa fb := by
  cases found : s.grid.transport with
  | stopped =>
    simp only [start, withBuffers_grid, found, activeBank_withBuffers, enterTransport_withBuffers, startAt_withBuffers]
    split_ifs <;> rfl
  | startPending => simp [start, found]
  | countIn => simp [start, found]
  | running => simp [start, found]

@[simp] theorem setFollower_withBuffers (f : Follower) : setFollower f (s.withBuffers fa fb) = (setFollower f s).withBuffers fa fb := rfl

@[simp] theorem followNotice_withBuffers (prev : FollowState) :
    followNotice prev (s.withBuffers fa fb) = (followNotice prev s).withBuffers fa fb := by
  simp [followNotice]

@[simp] theorem endPending_withBuffers (o : Option Origin) : endPending o (s.withBuffers fa fb) = (endPending o s).withBuffers fa fb := by
  by_cases h : s.grid.transport = .startPending ∧ s.grid.source ≠ .follow <;> simp [endPending, h]

@[simp] theorem switchSource_withBuffers (new : TempoSource) :
    switchSource new (s.withBuffers fa fb) = (switchSource new s).withBuffers fa fb := rfl

@[simp] theorem changeSource_withBuffers (new : TempoSource) :
    changeSource new (s.withBuffers fa fb) = (changeSource new s).withBuffers fa fb := by
  simp only [changeSource, switchSource_withBuffers, withBuffers_follower, followNotice_withBuffers]
  split_ifs <;> rfl

@[simp] theorem setSource_withBuffers (new : TempoSource) (o : Origin) :
    setSource new o (s.withBuffers fa fb) = (setSource new o s).withBuffers fa fb := by
  simp only [setSource, withBuffers_grid, changeSource_withBuffers, endPending_withBuffers, firstTick_withBuffers]
  split_ifs <;> rfl

@[simp] theorem stopTempo_withBuffers : (s.withBuffers fa fb).stopTempo = s.stopTempo := rfl

@[simp] theorem stopGrid_withBuffers (o : Origin) : stopGrid o (s.withBuffers fa fb) = (stopGrid o s).withBuffers fa fb := by
  unfold stopGrid
  split <;> simp_all

@[simp] theorem applyTempo_withBuffers (value : Nat) : applyTempo value (s.withBuffers fa fb) = (applyTempo value s).withBuffers fa fb := by
  unfold applyTempo
  split <;> simp_all

/-! ## Marks and taps (R26 to R35, R39) -/

@[simp] theorem correctPhase_withBuffers (e : Int) : correctPhase e (s.withBuffers fa fb) = (correctPhase e s).withBuffers fa fb := by
  by_cases h : clampError e = 0 <;> simp [correctPhase, h]

@[simp] theorem realign_withBuffers (e : Int) (b : Nat) (o : Option Origin) :
    realign e b o (s.withBuffers fa fb) = (realign e b o s).withBuffers fa fb := by
  simp only [realign, withBuffers_grid, setPosition_withBuffers, post_withBuffers]
  split_ifs <;> rfl

@[simp] theorem startAtMark_withBuffers : startAtMark (s.withBuffers fa fb) = (startAtMark s).withBuffers fa fb := by
  unfold startAtMark
  rw [startAt_withBuffers, withBuffers_grid]

@[simp] theorem drew_withBuffers : (s.withBuffers fa fb).drew = (s.drew).withBuffers fa fb := rfl

@[simp] theorem markWork_withBuffers (e : Int) (b : Nat) (o : Option Origin) :
    markWork e b o (s.withBuffers fa fb) = (markWork e b o s).withBuffers fa fb := by
  simp only [markWork, withBuffers_grid, withBuffers_draws, drew_withBuffers, correctPhase_withBuffers, startAtMark_withBuffers,
    realign_withBuffers]
  split_ifs <;> rfl

@[simp] theorem lock_withBuffers (intervals : List Nat) (b : Nat) (o : Option Origin) :
    lock intervals b o (s.withBuffers fa fb) = (lock intervals b o s).withBuffers fa fb := by
  simp [lock]

@[simp] theorem markSeeking_withBuffers (b : Nat) (o : Option Origin) :
    markSeeking b o (s.withBuffers fa fb) = (markSeeking b o s).withBuffers fa fb := by
  cases found : s.follower.reference with
  | none => simp [markSeeking, found]
  | some ref =>
    cases last : s.follower.intervals.getLast? <;>
      simp only [markSeeking, withBuffers_follower, withBuffers_setup, now_withBuffers, setFollower_withBuffers, lock_withBuffers, found,
        last] <;>
      split_ifs <;> rfl

@[simp] theorem seekFromMark_withBuffers (prev : FollowState) :
    seekFromMark prev (s.withBuffers fa fb) = (seekFromMark prev s).withBuffers fa fb := by
  simp [seekFromMark]

@[simp] theorem markOutlier_withBuffers : markOutlier (s.withBuffers fa fb) = (markOutlier s).withBuffers fa fb := by
  unfold markOutlier
  split <;> simp_all

@[simp] theorem markAccepted_withBuffers (i : Nat) (e : Int) (b : Nat) (o : Option Origin) :
    markAccepted i e b o (s.withBuffers fa fb) = (markAccepted i e b o s).withBuffers fa fb := by
  simp [markAccepted]

@[simp] theorem markLocked_withBuffers (b : Nat) (o : Option Origin) :
    markLocked b o (s.withBuffers fa fb) = (markLocked b o s).withBuffers fa fb := by
  cases found : s.follower.reference with
  | none => simp [markLocked, found]
  | some ref =>
    simp only [markLocked, withBuffers_follower, found, markOutlier_withBuffers, markAccepted_withBuffers]
    rw [withBuffers_setup, withBuffers_grid, now_withBuffers]
    split_ifs <;> rfl

@[simp] theorem markHoldover_withBuffers (b : Nat) (o : Option Origin) :
    markHoldover b o (s.withBuffers fa fb) = (markHoldover b o s).withBuffers fa fb := by
  by_cases h : -24 ≤ phaseError s.grid.phase ∧ phaseError s.grid.phase ≤ 24 <;> simp [markHoldover, h]

@[simp] theorem takeMark_withBuffers (b : Nat) (o : Option Origin) :
    takeMark b o (s.withBuffers fa fb) = (takeMark b o s).withBuffers fa fb := by
  unfold takeMark
  split <;> simp_all

@[simp] theorem applyTap_withBuffers (t : Nat) : applyTap t (s.withBuffers fa fb) = (applyTap t s).withBuffers fa fb := by
  by_cases h : s.grid.source = .tap <;> by_cases k : s.grid.transport = .running <;> simp [applyTap, h, k]

@[simp] theorem takeTap_withBuffers : takeTap (s.withBuffers fa fb) = (takeTap s).withBuffers fa fb := by
  cases found : s.tap.last with
  | none => simp [takeTap, found]
  | some last =>
    by_cases far : 2000000 < since s.now last <;> by_cases near : since s.now last < 200000 <;>
      by_cases several : 2 ≤ (appendInterval s.tap.intervals (since s.now last)).length <;>
      simp [takeTap, found, far, near, several]

/-! ## Holdover beats (R34, R35) -/

@[simp] theorem fallbackTempo_withBuffers (tempo : Nat) :
    fallbackTempo tempo (s.withBuffers fa fb) = (fallbackTempo tempo s).withBuffers fa fb := by
  unfold fallbackTempo
  split <;> simp_all

@[simp] theorem songFallback_withBuffers : songFallback (s.withBuffers fa fb) = (songFallback s).withBuffers fa fb := by
  by_cases h : s.grid.transport = .startPending <;> cases found : s.activeBank.image <;> simp [songFallback, h, found]

@[simp] theorem enterLost_withBuffers : enterLost (s.withBuffers fa fb) = (enterLost s).withBuffers fa fb := by
  unfold enterLost
  split <;> simp_all

@[simp] theorem countHoldover_withBuffers : countHoldover (s.withBuffers fa fb) = (countHoldover s).withBuffers fa fb := by
  by_cases h : s.setup.holdoverBeats ≤ s.follower.holdoverBeats + 1 <;> simp [countHoldover, h]

@[simp] theorem holdoverTick_withBuffers : holdoverTick (s.withBuffers fa fb) = (holdoverTick s).withBuffers fa fb := by
  by_cases h : s.follower.state = .holdover ∧ s.grid.position.isBeat = true <;> simp [holdoverTick, h]

@[simp] theorem emitTick_withBuffers (ofTake : Bool) : emitTick ofTake (s.withBuffers fa fb) = (emitTick ofTake s).withBuffers fa fb := by
  simp [emitTick]

/-! ## Takes (R133 to R138) -/

@[simp] theorem armedCue_withBuffers : (s.withBuffers fa fb).armedCue = s.armedCue := rfl
@[simp] theorem pedal_withBuffers (p : PedalId) : (s.withBuffers fa fb).pedal p = s.pedal p := rfl
@[simp] theorem entryLevel_withBuffers (z : Zone) : (s.withBuffers fa fb).entryLevel z = s.entryLevel z := rfl
@[simp] theorem formedLevels_withBuffers (b : Bank) : (s.withBuffers fa fb).formedLevels b = s.formedLevels b := rfl
@[simp] theorem reformLevels_withBuffers : reformLevels (s.withBuffers fa fb) = (reformLevels s).withBuffers fa fb := rfl

@[simp] theorem takePattern_withBuffers (song : Song) :
    takePattern song (s.withBuffers fa fb) = (takePattern song s).withBuffers fa fb := rfl

@[simp] theorem takeTempo_withBuffers (judged : Transport) (song : Song) :
    takeTempo judged song (s.withBuffers fa fb) = (takeTempo judged song s).withBuffers fa fb := by
  cases found : song.source with
  | internal =>
    simp only [takeTempo, found, setTempo_withBuffers]
    split_ifs <;> rfl
  | tap => simp [takeTempo, found]
  | follow => simp [takeTempo, found]

@[simp] theorem takeSource_withBuffers (judged : Transport) (song : Song) :
    takeSource judged song (s.withBuffers fa fb) = (takeSource judged song s).withBuffers fa fb := by
  by_cases h : song.source = s.grid.source <;> simp [takeSource, h]

@[simp] theorem takeGrid_withBuffers (judged : Transport) (song : Song) :
    takeGrid judged song (s.withBuffers fa fb) = (takeGrid judged song s).withBuffers fa fb := by
  by_cases h : takeTransport judged song = s.grid.transport <;> simp [takeGrid, h]

@[simp] theorem takePosts_withBuffers (song : Song) (place : Option Nat) (o : Option Origin) :
    takePosts song place o (s.withBuffers fa fb) = (takePosts song place o s).withBuffers fa fb := by
  simp [takePosts]

@[simp] theorem takeSteps_withBuffers (judged : Transport) (song : Song) (place : Option Nat) (o : Option Origin) :
    takeSteps judged song place o (s.withBuffers fa fb) = (takeSteps judged song place o s).withBuffers fa fb := by
  simp [takeSteps]

@[simp] theorem changeRoles_withBuffers (song : Song) :
    changeRoles song (s.withBuffers fa fb) = (changeRoles song s).withBuffers fa fb := rfl

@[simp] theorem takeWork_withBuffers (judged : Transport) (c : Cue) :
    takeWork judged c (s.withBuffers fa fb) = (takeWork judged c s).withBuffers fa fb := by
  unfold takeWork
  split <;> simp_all

@[simp] theorem takeNowAt_withBuffers (c : Cue) : takeNowAt c (s.withBuffers fa fb) = (takeNowAt c s).withBuffers fa fb := by
  simp only [takeNowAt, withBuffers_grid, takeWork_withBuffers]
  split_ifs <;> simp

@[simp] theorem takeIfDue_withBuffers : takeIfDue (s.withBuffers fa fb) = (takeIfDue s).withBuffers fa fb := by
  cases found : s.armedCue with
  | none => simp [takeIfDue, found]
  | some c =>
    simp only [takeIfDue, armedCue_withBuffers, found, withBuffers_grid, takeNowAt_withBuffers]
    split_ifs <;> rfl

@[simp] theorem stop_withBuffers (o : Origin) : stop o (s.withBuffers fa fb) = (stop o s).withBuffers fa fb := by
  simp [stop]

@[simp] theorem takeNow_withBuffers : takeNow (s.withBuffers fa fb) = (takeNow s).withBuffers fa fb := by
  cases found : s.seq.cue with
  | none => simp [takeNow, found]
  | some c => by_cases h : c.state = .armed <;> simp [takeNow, found, h]

end Sys2Proof.Machine
end

section
/-! PROOF. No request but GET_STATUS looks at the ports' buffers. -/

namespace Sys2Proof.Machine

variable {fa fb : List Frame} {s : State}

/-! ## What is read -/

@[simp] theorem resolve_withBuffers (kind : TargetKind) (target : Nat) :
    (s.withBuffers fa fb).resolve kind target = s.resolve kind target := rfl

@[simp] theorem cueFields_withBuffers (p : Port) (kind target boundary : Byte) (bar : Nat) (firmness : Byte) :
    (s.withBuffers fa fb).cueFields p kind target boundary bar firmness = s.cueFields p kind target boundary bar firmness := rfl

@[simp] theorem stepTarget_withBuffers (forward : Bool) : (s.withBuffers fa fb).stepTarget forward = s.stepTarget forward := rfl
@[simp] theorem entryCue_withBuffers (entry : Nat) (o : Origin) : (s.withBuffers fa fb).entryCue entry o = s.entryCue entry o := rfl
@[simp] theorem stepCue_withBuffers (forward : Bool) (o : Origin) : (s.withBuffers fa fb).stepCue forward o = s.stepCue forward o := rfl

@[simp] theorem editFields_withBuffers (bank index : Byte) (record : List Byte) :
    (s.withBuffers fa fb).editFields bank index record = s.editFields bank index record := rfl

@[simp] theorem loadingOrArmed_withBuffers : (s.withBuffers fa fb).loadingOrArmed = s.loadingOrArmed := rfl

/-! ## Requests by their parts -/

@[simp] theorem refuse_withBuffers (r : Reply) : refuse (s.withBuffers fa fb) r = (refuse s r).map (·.withBuffers fa fb) id := rfl
@[simp] theorem done_withBuffers : done (s.withBuffers fa fb) = (done s).map (·.withBuffers fa fb) id := rfl

@[simp] theorem offered_map (r : State × Bool) :
    offered (r.map (·.withBuffers fa fb) id) = (offered r).map (·.withBuffers fa fb) id := rfl

/-- A checked request runs the same checks, so what it goes on with decides. -/
theorem checked_withBuffers {α : Type} {c : Checked α} {f g : α → Served} (same : ∀ x, f x = (g x).map (·.withBuffers fa fb) id) :
    checked c (s.withBuffers fa fb) f = (checked c s g).map (·.withBuffers fa fb) id := by
  cases c with
  | error n => rfl
  | ok x => exact same x

/-! ## Grid, Follower and click -/

@[simp] theorem requestStart_withBuffers (p : Port) :
    requestStart p (s.withBuffers fa fb) = (requestStart p s).map (·.withBuffers fa fb) id := by
  simp [requestStart]

@[simp] theorem requestStop_withBuffers (p : Port) :
    requestStop p (s.withBuffers fa fb) = (requestStop p s).map (·.withBuffers fa fb) id := by
  simp [requestStop]

@[simp] theorem requestSetTempo_withBuffers (value : Nat) :
    requestSetTempo value (s.withBuffers fa fb) = (requestSetTempo value s).map (·.withBuffers fa fb) id := by
  unfold requestSetTempo
  split <;> simp_all

@[simp] theorem requestSetSource_withBuffers (p : Port) (value : Byte) :
    requestSetSource p value (s.withBuffers fa fb) = (requestSetSource p value s).map (·.withBuffers fa fb) id :=
  checked_withBuffers fun new => by simp

@[simp] theorem requestTap_withBuffers : requestTap (s.withBuffers fa fb) = (requestTap s).map (·.withBuffers fa fb) id := by
  simp [requestTap]

@[simp] theorem requestMark_withBuffers (p : Port) (beat : Byte) :
    requestMark p beat (s.withBuffers fa fb) = (requestMark p beat s).map (·.withBuffers fa fb) id := by
  simp only [requestMark, withBuffers_grid, withBuffers_setup, takeMark_withBuffers, arbitrate_withBuffers, refuse_withBuffers,
    done_withBuffers]
  split_ifs <;> rfl

@[simp] theorem setMute_withBuffers (on : Bool) : setMute on (s.withBuffers fa fb) = (setMute on s).withBuffers fa fb := rfl

@[simp] theorem requestMute_withBuffers (value : Byte) :
    requestMute value (s.withBuffers fa fb) = (requestMute value s).map (·.withBuffers fa fb) id :=
  checked_withBuffers fun on => by simp

@[simp] theorem requestTakeNow_withBuffers : requestTakeNow (s.withBuffers fa fb) = (requestTakeNow s).map (·.withBuffers fa fb) id := by
  simp [requestTakeNow]

/-! ## Cues (R127 to R130, R157) -/

@[simp] theorem abandonCueFetch_withBuffers : abandonCueFetch (s.withBuffers fa fb) = (abandonCueFetch s).withBuffers fa fb := by
  cases found : s.store.activity with
  | idle => simp [abandonCueFetch, found]
  | operating op => simp [abandonCueFetch, found]
  | fetching f => by_cases h : f.forCue = true <;> simp [abandonCueFetch, found, h]

@[simp] theorem displaceCue_withBuffers (c : Cue) (o : Origin) (replaced : Bool) :
    displaceCue c o replaced (s.withBuffers fa fb) = (displaceCue c o replaced s).withBuffers fa fb := by
  unfold displaceCue
  split <;> simp

@[simp] theorem acceptCue_withBuffers (c : Cue) : acceptCue c (s.withBuffers fa fb) = (acceptCue c s).withBuffers fa fb := by
  simp [acceptCue]

@[simp] theorem offerCue_withBuffers (c : Cue) : offerCue c (s.withBuffers fa fb) = (offerCue c s).map (·.withBuffers fa fb) id := by
  cases found : s.seq.cue with
  | none => simp [offerCue, found]
  | some held =>
    simp only [offerCue, withBuffers_seq, found, displaceCue_withBuffers, acceptCue_withBuffers, post_withBuffers]
    split_ifs
    · rfl
    · cases c.origin <;> rfl

@[simp] theorem cancelCue_withBuffers (o : Origin) : cancelCue o (s.withBuffers fa fb) = (cancelCue o s).map (·.withBuffers fa fb) id := by
  cases found : s.seq.cue with
  | none => simp [cancelCue, found]
  | some held => by_cases h : held.yieldsTo o = true <;> simp [cancelCue, found, h]

@[simp] theorem requestCue_withBuffers (p : Port) (kind target boundary : Byte) (bar : Nat) (firmness : Byte) :
    requestCue p kind target boundary bar firmness (s.withBuffers fa fb) =
      (requestCue p kind target boundary bar firmness s).map (·.withBuffers fa fb) id :=
  checked_withBuffers fun c => by simp

@[simp] theorem requestCancel_withBuffers (p : Port) :
    requestCancel p (s.withBuffers fa fb) = (requestCancel p s).map (·.withBuffers fa fb) id := by
  simp [requestCancel]

@[simp] theorem requestStep_withBuffers (p : Port) (direction : Byte) :
    requestStep p direction (s.withBuffers fa fb) = (requestStep p direction s).map (·.withBuffers fa fb) id :=
  checked_withBuffers fun forward => by cases found : s.stepCue forward (.port p) <;> simp [found]

/-! ## Zones, panic and PASS -/

@[simp] theorem editActive_withBuffers (i : Nat) (z : Zone) :
    editActive i z (s.withBuffers fa fb) = (editActive i z s).withBuffers fa fb := by
  simp [editActive]

@[simp] theorem editStandby_withBuffers (i : Nat) (z : Zone) :
    editStandby i z (s.withBuffers fa fb) = (editStandby i z s).withBuffers fa fb := by
  simp [editStandby]

@[simp] theorem requestEdit_withBuffers (bank index : Byte) (record : List Byte) :
    requestEdit bank index record (s.withBuffers fa fb) = (requestEdit bank index record s).map (·.withBuffers fa fb) id :=
  checked_withBuffers fun (active, i, z) => by
    simp only [activeBank_withBuffers, standbyBank_withBuffers, loadingOrArmed_withBuffers, withBuffers_banks, refuse_withBuffers,
      editActive_withBuffers, editStandby_withBuffers, arbitrate_withBuffers, done_withBuffers]
    split_ifs <;> rfl

@[simp] theorem setLevel_withBuffers (i : Nat) (v : Option Nat) :
    setLevel i v (s.withBuffers fa fb) = (setLevel i v s).withBuffers fa fb := rfl

@[simp] theorem setZoneOn_withBuffers (i : Nat) (on : Bool) :
    setZoneOn i on (s.withBuffers fa fb) = (setZoneOn i on s).withBuffers fa fb := by
  by_cases h : s.activeBank.zoneOn i = on
  · simp [setZoneOn, h]
  · cases on
    · simp [setZoneOn, h]
    · cases found : s.activeBank.zones[i]? with
      | none => simp [setZoneOn, h, found]
      | some z => cases level : s.entryLevel z <;> simp [setZoneOn, h, found, level]

@[simp] theorem requestToggle_withBuffers (index setting : Byte) :
    requestToggle index setting (s.withBuffers fa fb) = (requestToggle index setting s).map (·.withBuffers fa fb) id := by
  unfold requestToggle
  rw [activeBank_withBuffers]
  split_ifs
  · rfl
  · exact checked_withBuffers fun on => by simp

@[simp] theorem placeSilence_withBuffers : placeSilence (s.withBuffers fa fb) = (placeSilence s).withBuffers fa fb := by
  unfold placeSilence
  rw [withBuffers_bus]
  split_ifs <;> simp

@[simp] theorem panicNotes_withBuffers : panicNotes (s.withBuffers fa fb) = (panicNotes s).withBuffers fa fb := by
  unfold panicNotes
  split <;> simp_all

@[simp] theorem panicAll_withBuffers : panicAll (s.withBuffers fa fb) = (panicAll s).withBuffers fa fb := by
  simp [panicAll]

@[simp] theorem requestPanic_withBuffers : requestPanic (s.withBuffers fa fb) = (requestPanic s).map (·.withBuffers fa fb) id := by
  simp [requestPanic]

@[simp] theorem requestPass_withBuffers (module kind channel : Byte) (v1 : Nat) (v2 : Byte) :
    requestPass module kind channel v1 v2 (s.withBuffers fa fb) = (requestPass module kind channel v1 v2 s).map (·.withBuffers fa fb) id :=
  checked_withBuffers fun item => by by_cases h : s.bus.pass.length < 16 <;> simp [h]

/-! ## The store and the ports' own requests -/

@[simp] theorem setOp_withBuffers (op : StoreOp) : setOp op (s.withBuffers fa fb) = (setOp op s).withBuffers fa fb := rfl

@[simp] theorem beginOp_withBuffers (kind : OpKind) (sector : Sector) (p : Port) (record : List Byte) :
    beginOp kind sector p record (s.withBuffers fa fb) = (beginOp kind sector p record s).withBuffers fa fb := rfl

@[simp] theorem storeRequest_withBuffers (kind : OpKind) (p : Port) (fields : Checked (Sector × List Byte)) :
    storeRequest kind p fields (s.withBuffers fa fb) = (storeRequest kind p fields s).map (·.withBuffers fa fb) id := by
  unfold storeRequest
  rw [withBuffers_store]
  split_ifs
  · rfl
  · rfl
  · rfl
  · exact checked_withBuffers fun (sector, record) => by simp

@[simp] theorem requestRead_withBuffers (p : Port) (slot : Byte) :
    requestRead p slot (s.withBuffers fa fb) = (requestRead p slot s).map (·.withBuffers fa fb) id :=
  checked_withBuffers fun k => by simp

@[simp] theorem requestMode_withBuffers (p : Port) (mode : Byte) :
    requestMode p mode (s.withBuffers fa fb) = (requestMode p mode s).map (·.withBuffers fa fb) id :=
  checked_withBuffers fun new => by
    rw [withBuffers_store]
    split_ifs
    · rfl
    · rfl
    · simp

@[simp] theorem requestMask_withBuffers (p : Port) (fields : List Byte) :
    requestMask p fields (s.withBuffers fa fb) = (requestMask p fields s).map (·.withBuffers fa fb) id :=
  checked_withBuffers fun xs => by cases p <;> rfl

@[simp] theorem requestPositions_withBuffers (p : Port) (setting : Byte) :
    requestPositions p setting (s.withBuffers fa fb) = (requestPositions p setting s).map (·.withBuffers fa fb) id :=
  checked_withBuffers fun x => by cases p <;> rfl

@[simp] theorem beginRestartSilence_withBuffers :
    beginRestartSilence (s.withBuffers fa fb) = (beginRestartSilence s).withBuffers fa fb := rfl

@[simp] theorem beginRestart_withBuffers : beginRestart (s.withBuffers fa fb) = (beginRestart s).withBuffers fa fb := by
  cases found : s.seq.cue with
  | none => by_cases idle : s.bus.transmission = none <;> simp [beginRestart, found, idle]
  | some c =>
    by_cases loading : c.state = .loading
    · by_cases idle : (abandonCueFetch s).bus.transmission = none <;> simp [beginRestart, found, loading, idle]
    · by_cases idle : s.bus.transmission = none <;> simp [beginRestart, found, loading, idle]

@[simp] theorem requestRestart_withBuffers : requestRestart (s.withBuffers fa fb) = (requestRestart s).map (·.withBuffers fa fb) id := by
  unfold requestRestart
  split <;> simp_all

/-! ## A request by its kind -/

/-- Every request but GET_STATUS is decided without a look at the buffers. -/
theorem handle_withBuffers {k : RequestKind} (other : k ≠ .getStatus) (p : Port) (d : List Byte) :
    handle k p d (s.withBuffers fa fb) = (handle k p d s).map (·.withBuffers fa fb) id := by
  cases k with
  | getStatus => exact absurd rfl other
  | _ => simp [handle]

theorem code_of_ofByte {b : Byte} {k : RequestKind} (h : RequestKind.ofByte b = some k) : b = k.code := by
  have listed : ∀ b : Byte, (RequestKind.ofByte b).all (fun k => b == k.code) = true := by decide
  simpa [h] using listed b

theorem decideRequest_withBuffers {f : Frame} (other : f.kind ≠ 0x40) (p : Port) :
    decideRequest p f (s.withBuffers fa fb) = (decideRequest p f s).map (·.withBuffers fa fb) id := by
  cases listed : RequestKind.ofByte f.kind with
  | none => simp [decideRequest, listed]
  | some k =>
    have ruled : k ≠ .getStatus := fun h => other (code_of_ofByte (h ▸ listed))
    simp only [decideRequest, listed, inReset_withBuffers, refuse_withBuffers, handle_withBuffers ruled]
    split_ifs <;> rfl

end Sys2Proof.Machine
end

section
/-! PROOF. What a free transmitter sends, and the front of a notice queue while a request is decided. -/

namespace Sys2Proof.Machine

variable {s t v : State} {p : Port} {c : ControlPort} {n : Notice} {rest : List Notice} {x : Position} {now : Count}

/-! ## What the free transmitter sends (R174) -/

theorem transmit_notice (free : c.sending = none) (waiting : c.notices = n :: rest) (turn : c.reply = none ∨ c.lastSent = some .reply) :
    c.transmit x now = c.sendNotice n rest x now := by
  unfold ControlPort.transmit
  rw [free, waiting]
  cases reply : c.reply with
  | none => rfl
  | some r =>
    have last : c.lastSent = some .reply := turn.resolve_left (by rw [reply]; exact nofun)
    exact if_pos last

theorem transmit_answer {r : List Byte} (free : c.sending = none) (reply : c.reply = some r) (turn : c.lastSent ≠ some .reply) :
    c.transmit x now = c.sendReply r now := by
  unfold ControlPort.transmit
  rw [free, reply]
  cases c.notices with
  | nil => rfl
  | cons n rest => exact if_neg turn

theorem transmit_nothing (free : c.sending = none) (reply : c.reply = none) (empty : c.notices = []) : c.transmit x now = c := by
  unfold ControlPort.transmit
  rw [free, reply, empty]

theorem sendNotice_sending (c : ControlPort) (n : Notice) (rest : List Notice) (x : Position) (now : Count) :
    (c.sendNotice n rest x now).sending = some ⟨.notice, frameBytes 0x81 0 n.bytes, ⟨now, (6 + n.bytes.length) * 10⟩⟩ := by
  unfold ControlPort.sendNotice ControlPort.reportLost
  split <;> rfl

theorem sendNotice_notices (kept : c.overflow = false) : (c.sendNotice n rest x now).notices = rest := by
  unfold ControlPort.sendNotice ControlPort.reportLost ControlPort.begin
  simp [kept]

/-! ## The front of a notice queue -/

/-- The front notice is `n`, or an URGENT one that has come ahead of it (R178). -/
def ControlPort.Leads (n : Notice) (c : ControlPort) : Prop :=
  ∃ m rest, c.notices = m :: rest ∧ (m = n ∨ n.urgent = false ∧ m.urgent = true)

theorem ControlPort.Leads.congr {d : ControlPort} (h : c.Leads n) (e : d.notices = c.notices) : d.Leads n := by
  obtain ⟨m, rest, front, ahead⟩ := h
  exact ⟨m, rest, e.trans front, ahead⟩

theorem ControlPort.Leads.post (h : c.Leads n) (b : Notice) : (c.post b).Leads n := by
  obtain ⟨m, rest, front, ahead⟩ := h
  unfold ControlPort.post placeNotice
  split
  · exact ⟨m, rest, front, ahead⟩
  · split
    · rw [front]
      split
      · next urgent =>
        cases first : m.urgent with
        | true => exact ⟨m, _, by simp [first]; rfl, ahead⟩
        | false =>
          refine ⟨b, _, by simp [first]; rfl, ?_⟩
          rcases ahead with rfl | ⟨-, hm⟩
          · exact .inr ⟨first, urgent⟩
          · rw [first] at hm; cases hm
      · exact ⟨m, _, rfl, ahead⟩
    · exact ⟨m, rest, front, ahead⟩

/-- A work of a block posts a notice, or leaves the notice queues alone. -/
theorem Block.posts_or_kept (h : Block Retimed s t) :
    (∃ q b o, t = postTo q b o s) ∨ ∀ q : Port, (t.port q).queue = (s.port q).queue := by
  cases h with
  | grid h => exact .inr fun q => h.frame.queue q
  | quiet h => exact .inr fun q => h.queue q
  | tell p b o => exact .inl ⟨p, b, o, rfl⟩
  | layer x => exact .inr fun q => (layerUpdate_frame s x).queue q
  | bus x => exact .inr fun q => (busUpdate_frame s x).queue q
  | links x => exact .inr fun q => (linksUpdate_frame s x).queue q
  | release w => exact .inr fun q => (releaseEntries_frame w s).queue q
  | sustain l c k => exact .inr fun q => (noteRelease_frame l c k true s).queue q
  | flag n i f => exact .inr fun q => (flagDest_frame n i f s).queue q
  | ended n i => exact .inr fun q => (endDest_frame n i s).queue q
  | make k => exact .inr fun q => (makeEntry_frame k s).queue q
  | counts x => exact .inr fun q => (notesUpdate_frame s x).queue q
  | panic => exact .inr fun q => (panicNotes_frame s).queue q
  | bank k x => exact .inr fun q => (setBank_frame s k x).queue q
  | roles x => exact .inr fun q => (changeRoles_frame x s).queue q
  | load => exact .inr fun q => (examineLoad_frame s).queue q
  | displace c => exact .inr fun q => (cueLeft_frame c s).queue q
  | offer c => exact .inr fun q => (seqUpdate_frame s _).queue q
  | seq x => exact .inr fun q => (seqUpdate_frame s x).queue q
  | store x => exact .inr fun q => (storeUpdate_frame s x).queue q
  | opNext => exact .inr fun q => (storeNext_frame s).queue q
  | opSet op new => exact .inr fun q => (setOp_frame new s).queue q
  | opBegin op => exact .inr fun q => (setOp_frame op s).queue q
  | flash x => exact .inr fun q => (flashUpdate_frame s x).queue q
  | restart => exact .inr fun q => (restartTaken_frame s).queue q

theorem leads_of_queue {d : ControlPort} (e : d.queue = c.queue) (h : c.Leads n) : d.Leads n := h.congr (congrArg (·.1) e)

theorem postTo_leads (q : Port) (b : NoticeBody) (o : Option Origin) (h : (s.port p).Leads n) : ((postTo q b o s).port p).Leads n := by
  unfold postTo
  by_cases hq : p = q
  · subst hq; rw [State.setPort_port_same]; exact h.post _
  · rw [State.setPort_port_other s _ hq]; exact h

theorem Block.leads (w : Block Retimed s t) (h : (s.port p).Leads n) : (t.port p).Leads n := by
  rcases w.posts_or_kept with ⟨q, b, o, rfl⟩ | kept
  · exact postTo_leads q b o h
  · exact leads_of_queue (kept p) h

/-- What a request posts comes behind the front notice, or ahead of it by its urgency. -/
theorem decideRequest_leads (q : Port) (f : Frame) (h : (s.port p).Leads n) : ((decideRequest q f s).1.port p).Leads n := by
  unfold decideRequest
  split
  · exact h
  · next k _ =>
    split
    · next hl =>
      split
      · exact h
      · next busy =>
        by_cases hm : k = .setNoticeMask
        · subst hm; exact leads_of_queue ((requestMask_frame q _ s).queue p) h
        by_cases hp : k = .setPositionNotices
        · subst hp; exact leads_of_queue ((requestPositions_frame q _ s).queue p) h
        by_cases hs : k = .readSong
        · subst hs
          have frame : SameBut [.store] s (requestRead q (byteAt f.payload 0) s).1 :=
            checked_frame _ s _ fun _ => requestFetch_frame _ s
          exact leads_of_queue (frame.queue p) h
        by_cases hg : k = .getStatus
        · subst hg; exact h
        have hr : s.inReset = false := by
          cases h : s.inReset with
          | false => rfl
          | true => exact absurd (by rw [h]; simpa using hg) busy
        exact Runs.keeps (fun _ _ w => w.keeps fun _ _ => Block.leads) (handle_runs q hr hl hm hp hs) h
    · exact h

end Sys2Proof.Machine
end

section
/-! PROOF. The end of a frame on a port's transmit line: O58. -/

namespace Sys2Proof.Machine

variable {s t u v : State} {p : Port} {f : Frame} {n : Notice} {rest : List Notice} {fr : PortFrame}

/-! ## What the decision on a request leaves of its port -/

/-- The setting of a port's mask or position notices, or another request: no port's buffer or request in service changes. -/
theorem checked_ports {α β : Type} {g : ControlPort → β} (c : Checked α) (s : State) (k : α → Served) (q : Port)
    (h : ∀ x, g ((k x).1.port q) = g (s.port q)) : g ((checked c s k).1.port q) = g (s.port q) := by
  cases c with
  | error m => rfl
  | ok x => exact h x

/-- The receiving side's requests: the one in service and those that wait. -/
def ControlPort.requests (c : ControlPort) : Option Frame × List Frame := (c.inService, c.buffer)

theorem requests_of_service {c d : ControlPort} (h : d.service = c.service) : d.requests = c.requests :=
  congrArg (fun y => (y.2.2.2.2.1, y.2.2.2.1)) h

theorem decideRequest_requests (p q : Port) (f : Frame) (s : State) :
    ((decideRequest p f s).1.port q).requests = (s.port q).requests := by
  unfold decideRequest
  split
  · rfl
  · next k _ =>
    split
    · split
      · rfl
      · by_cases hm : k = .setNoticeMask
        · subst hm
          exact checked_ports (g := ControlPort.requests) _ s _ q fun xs => by cases p <;> cases q <;> rfl
        by_cases hp : k = .setPositionNotices
        · subst hp
          exact checked_ports (g := ControlPort.requests) _ s _ q fun x => by cases p <;> cases q <;> rfl
        exact requests_of_service ((handle_frame k p _ s hm hp).service q (by decide) (by decide))
    · rfl

theorem decideRequest_outgoing (p q : Port) (f : Frame) (s : State) :
    ((decideRequest p f s).1.port q).outgoing = (s.port q).outgoing := (decideRequest_frame p f s).outgoing q

theorem decideRequest_now (p : Port) (f : Frame) (s : State) : (decideRequest p f s).1.now = s.now :=
  congrArg (·.count) ((decideRequest_frame p f s).same .timebase (by decide))

/-- Every request but READ_SONG has its reply at once. -/
theorem decideRequest_replies (h : f.kind ≠ 0x32) (p : Port) (s : State) : ∃ r, (decideRequest p f s).2 = some r := by
  unfold decideRequest
  split
  · exact ⟨_, rfl⟩
  · next k listed =>
    split
    · split
      · exact ⟨_, rfl⟩
      · have other : k ≠ .readSong := fun e => h (code_of_ofByte (e ▸ listed))
        exact Option.isSome_iff_exists.1 (handle_replies other p _ s)
    · exact ⟨_, rfl⟩

/-- The answered port: the reply alone has been set. -/
theorem answered_port (p : Port) (r : Served) :
    ∃ reply, (answered p r).port p = { r.1.port p with reply := reply } ∧ ∀ y, r.2 = some y → reply = some y.bytes := by
  obtain ⟨u, _ | y⟩ := r
  · exact ⟨(u.port p).reply, rfl, nofun⟩
  · exact ⟨some y.bytes, State.setPort_port_same .., fun z h => by cases h; rfl⟩

theorem answered_requests (p q : Port) (r : Served) : ((answered p r).port q).requests = (r.1.port q).requests := by
  obtain ⟨u, _ | y⟩ := r
  · rfl
  · cases p <;> cases q <;> rfl

theorem answered_now (p : Port) (r : Served) : (answered p r).now = r.1.now := by
  obtain ⟨u, _ | y⟩ := r
  · rfl
  · cases p <;> rfl

theorem finish_requests (p q : Port) (r : Served) : ((finish p r).port q).requests = (r.1.port q).requests :=
  (requests_of_service (transmitAll_service q _)).trans (answered_requests p q r)

theorem finish_now (p : Port) (r : Served) : (finish p r).now = r.1.now :=
  (congrArg (·.count) ((transmitAll_frame _).same .timebase (by decide))).trans (answered_now p r)

/-! ## The next request, with the others waiting behind it (R172, R173) -/

@[simp] theorem decideReply_withBuffers {fa fb : List Frame} (p : Port) (r : Reply) :
    decideReply p r (s.withBuffers fa fb) = (decideReply p r s).withBuffers fa fb := by cases p <;> rfl

theorem transmit_buffer (c : ControlPort) (fs : List Frame) (x : Position) (now : Count) :
    ({ c with buffer := fs } : ControlPort).transmit x now = { c.transmit x now with buffer := fs } := by
  obtain ⟨phase, assembly, gapTimer, buffer, inService, reply, last, notices, mask, positions, overflow, lost, sending⟩ := c
  cases sending with
  | some _ => rfl
  | none =>
    unfold ControlPort.transmit ControlPort.sendNotice ControlPort.sendReply ControlPort.reportLost ControlPort.begin
    dsimp only
    cases reply <;> cases notices <;> dsimp only <;> split_ifs <;> rfl

theorem transmitAll_withBuffers {fa fb : List Frame} : transmitAll (s.withBuffers fa fb) = (transmitAll s).withBuffers fa fb := by
  have line (c : ControlPort) (fs : List Frame) := transmit_buffer c fs s.grid.position s.now
  show ({ s with portA := _, portB := _ } : State) = { s with portA := _, portB := _ }
  exact congrArg₂ (fun a b => ({ s with portA := a, portB := b } : State)) (line s.portA fa) (line s.portB fb)

theorem finish_withBuffers {fa fb : List Frame} (p : Port) (r : Served) :
    finish p (r.map (·.withBuffers fa fb) id) = (finish p r).withBuffers fa fb := by
  obtain ⟨u, _ | y⟩ := r
  · exact transmitAll_withBuffers
  · exact (congrArg transmitAll (decideReply_withBuffers p y)).trans transmitAll_withBuffers

/-- The buffer of one port alone. -/
theorem setPort_buffer (s : State) (p : Port) (fs : List Frame) : s.setPort p { s.port p with buffer := fs } =
    s.withBuffers (if p = .a then fs else s.portA.buffer) (if p = .a then s.portB.buffer else fs) := by
  cases p <;> rfl

/-- A request but GET_STATUS does the same with requests waiting behind it. -/
theorem finish_buffered (other : f.kind ≠ 0x40) (p : Port) (fs : List Frame) (s : State) :
    finish p (decideRequest p f (s.setPort p { s.port p with buffer := fs })) =
      (finish p (decideRequest p f s)).setPort p { (finish p (decideRequest p f s)).port p with buffer := fs } := by
  have stands (q : Port) : ((finish p (decideRequest p f s)).port q).buffer = (s.port q).buffer :=
    congrArg (·.2) ((finish_requests p q _).trans (decideRequest_requests p q f s))
  rw [setPort_buffer, setPort_buffer, decideRequest_withBuffers other, finish_withBuffers]
  rw [show (finish p (decideRequest p f s)).portA.buffer = s.portA.buffer from stands .a,
    show (finish p (decideRequest p f s)).portB.buffer = s.portB.buffer from stands .b]

/-! ## The end of a frame (R173, R174) -/

theorem exec_frameTransmitted (h : (s.port p).sending = some fr) :
    exec (.portFrameTransmitted p) s = .next (expireAt fr.timer (frameSent p fr) s) := by
  have onTimer : onFrameTimer p s = expireAt fr.timer (frameSent p fr) s := by
    unfold onFrameTimer
    rw [h]
  rw [← onTimer]
  rfl

theorem expireAt_port (tm : Timer) (g : State → State) (s : State) (q : Port) :
    (expireAt tm g s).port q = (g (s.atCount tm.due)).port q := by
  unfold expireAt
  split
  · cases q <;> rfl
  · rfl

/-- An expiry whose work leaves the count ends at the instant of the expiry. -/
theorem expireAt_atCount {tm : Timer} {g : State → State} (h : (g (s.atCount tm.due)).now = tm.due) :
    expireAt tm g s = (g (s.atCount tm.due)).atCount (s.expired tm).now := by
  unfold expireAt State.expired
  split
  · rfl
  · have same (u : State) : u = u.atCount u.now := rfl
    exact (same _).trans (congrArg (State.atCount _) h)

theorem frameSent_notice (h : fr.sort = .notice) : frameSent p fr s = transmitAll (s.setPort p { s.port p with sending := none }) := by
  unfold frameSent
  rw [h]

theorem frameSent_reply (h : fr.sort = .reply) :
    frameSent p fr s = transmitAll (serve p (s.setPort p { s.port p with sending := none, inService := none })) := by
  unfold frameSent
  rw [h]

theorem frameSent_idle (h : fr.sort = .reply) (empty : (s.port p).buffer = []) :
    frameSent p fr s = transmitAll (s.setPort p { s.port p with sending := none, inService := none }) := by
  rw [frameSent_reply h, serve_idle (.inr (by rw [State.setPort_port_same]; exact empty))]

/-- The state in which the next request has left the buffer for service. -/
def State.nextTaken (s : State) (p : Port) (f : Frame) (fs : List Frame) : State :=
  s.setPort p { s.port p with sending := none, inService := some f, buffer := fs }

theorem frameSent_next {fs : List Frame} (h : fr.sort = .reply) (waiting : (s.port p).buffer = f :: fs) :
    frameSent p fr s = finish p (decideRequest p f (s.nextTaken p f fs)) := by
  rw [frameSent_reply h,
    serve_front (f := f) (rest := fs) (by rw [State.setPort_port_same]) (by rw [State.setPort_port_same]; exact waiting), State.setPort_port_same, setPort_setPort]
  rfl

theorem nextTaken_port (fs : List Frame) :
    (s.nextTaken p f fs).port p = { s.port p with sending := none, inService := some f, buffer := fs } := State.setPort_port_same ..

theorem nextTaken_now (fs : List Frame) : (s.nextTaken p f fs).now = s.now := congrArg (·.count) (State.setPort_timebase ..)

/-- The port once its next request is decided and the transmitters have chosen. -/
theorem served_port (p : Port) (f : Frame) (v : State) : ∃ reply, (∀ y, (decideRequest p f v).2 = some y → reply = some y.bytes) ∧
    ((finish p (decideRequest p f v)).port p) = ({ (decideRequest p f v).1.port p with reply := reply } : ControlPort).transmit
      (answered p (decideRequest p f v)).grid.position v.now := by
  obtain ⟨reply, port, decided⟩ := answered_port p (decideRequest p f v)
  refine ⟨reply, decided, ?_⟩
  rw [← port, ← decideRequest_now p f v, ← answered_now p (decideRequest p f v)]
  exact transmitAll_port _ p

/-- Where the last frame sent was a reply and a notice waits, a notice goes first and the next request's reply waits. -/
theorem served_sends (free : (v.port p).sending = none) (last : (v.port p).lastSent = some .reply)
    (waiting : (v.port p).notices = n :: rest) : (f.kind ≠ 0x32 → ((finish p (decideRequest p f v)).port p).reply.isSome = true) ∧
      ∃ m : Notice, (m = n ∨ n.urgent = false ∧ m.urgent = true) ∧ ((finish p (decideRequest p f v)).port p).sending =
        some ⟨.notice, frameBytes 0x81 0 m.bytes, ⟨v.now, (6 + m.bytes.length) * 10⟩⟩ := by
  obtain ⟨reply, decided, port⟩ := served_port p f v
  obtain ⟨m, rest', front, ahead⟩ := decideRequest_leads (p := p) p f ⟨n, rest, waiting, .inl rfl⟩
  have outgoing := decideRequest_outgoing p p f v
  simp only [ControlPort.outgoing, Prod.mk.injEq] at outgoing
  obtain ⟨-, lastSame, sendingSame⟩ := outgoing
  rw [transmit_notice (c := { (decideRequest p f v).1.port p with reply := reply }) (sendingSame.trans free) front
    (.inr (lastSame.trans last))] at port
  rw [port]
  refine ⟨fun other => ?_, m, ahead, sendNotice_sending _ _ _ _ _⟩
  obtain ⟨y, hy⟩ := decideRequest_replies other p v
  rw [sendNotice_reply, decided y hy]
  rfl

/-- A request of no kind of the table posts nothing, and the front notice goes first. -/
theorem served_unknown (unknown : requestKinds.contains f.kind.toNat = false) (free : (v.port p).sending = none)
    (last : (v.port p).lastSent = some .reply) (waiting : (v.port p).notices = n :: rest) (kept : (v.port p).overflow = false) :
    ((finish p (decideRequest p f v)).port p).reply = some Reply.unknownKind.bytes ∧
      ((finish p (decideRequest p f v)).port p).notices = rest ∧ ((finish p (decideRequest p f v)).port p).sending =
        some ⟨.notice, frameBytes 0x81 0 n.bytes, ⟨v.now, (6 + n.bytes.length) * 10⟩⟩ := by
  obtain ⟨reply, decided, port⟩ := served_port p f v
  have refused : decideRequest p f v = refuse v .unknownKind := decideRequest_unknown unknown
  rw [refused] at decided port ⊢
  have sent := port.trans (transmit_notice (c := { v.port p with reply := reply }) free waiting (.inr last))
  rw [sent, sendNotice_reply, decided _ rfl]
  exact ⟨rfl, sendNotice_notices kept, sendNotice_sending _ _ _ _ _⟩

/-- A port whose frame has ended with nothing else to do: the front notice goes out. -/
theorem idle_sends (c : ControlPort) (free : c.sending = none) (turn : c.reply = none ∨ c.lastSent = some .reply)
    (waiting : c.notices = n :: rest) (kept : c.overflow = false) (s : State) : ((transmitAll (s.setPort p c)).port p).notices = rest ∧
      ((transmitAll (s.setPort p c)).port p).reply = c.reply ∧ ((transmitAll (s.setPort p c)).port p).sending =
        some ⟨.notice, frameBytes 0x81 0 n.bytes, ⟨s.now, (6 + n.bytes.length) * 10⟩⟩ := by
  have now : (s.setPort p c).now = s.now := congrArg (·.count) (State.setPort_timebase ..)
  rw [transmitAll_port, State.setPort_port_same, transmit_notice free waiting turn, now]
  exact ⟨sendNotice_notices kept, sendNotice_reply _ _ _ _ _, sendNotice_sending _ _ _ _ _⟩

/-! ## The obligation, at the instant of the expiry -/

theorem notice_ends (h : fr.sort = .notice) : SameBut lineParts s (frameSent p fr s) := by
  rw [frameSent_notice h]
  have freed : SameBut lineParts s (s.setPort p { s.port p with sending := none }) := setPort_line_frame _ _ _ rfl
  exact freed.then (transmitAll_frame _)

theorem reply_ends (h : fr.sort = .reply) (empty : (s.port p).buffer = []) : SameBut portParts s (frameSent p fr s) ∧
    ((frameSent p fr s).port p).service = ({ s.port p with inService := none } : ControlPort).service := by
  rw [frameSent_idle h empty]
  exact setPort_transmitted _ s

theorem reply_ends_quiet (h : fr.sort = .reply) (empty : (s.port p).buffer = []) (answer : (s.port p).reply = none)
    (quiet : (s.port p).notices = []) : ((frameSent p fr s).port p).sending = none := by
  rw [frameSent_idle h empty, transmitAll_port, State.setPort_port_same]
  exact congrArg (·.sending) (transmit_nothing (c := { s.port p with sending := none, inService := none }) rfl answer quiet)

/-- The next request is in service, and the others wait. -/
theorem next_taken {fs : List Frame} (h : fr.sort = .reply) (waiting : (s.port p).buffer = f :: fs) :
    ((frameSent p fr s).port p).requests = (some f, fs) := by
  rw [frameSent_next h waiting, finish_requests, decideRequest_requests, nextTaken_port]
  rfl

theorem next_now {fs : List Frame} (h : fr.sort = .reply) (waiting : (s.port p).buffer = f :: fs) : (frameSent p fr s).now = s.now := by
  rw [frameSent_next h waiting, finish_now, decideRequest_now, nextTaken_now]

/-- The next request does what its arrival at a port that serves nothing does. -/
theorem next_arrives {fs : List Frame} (h : fr.sort = .reply) (waiting : (s.port p).buffer = f :: fs) (run : s.running = true)
    (bound : f.payload.length ≤ 336) (other : f.kind ≠ 0x40) :
    ∃ u, exec (.unknownKindRequest p f.tag f.kind f.payload)
        (s.setPort p { s.port p with sending := none, inService := none, buffer := [] }) = .next u ∧
      frameSent p fr s = u.setPort p { u.port p with buffer := fs } := by
  refine ⟨_, rfl, ?_⟩
  have running : (s.setPort p { s.port p with sending := none, inService := none, buffer := [] }).running = true := by cases p <;> exact run
  rw [arrive_offers running bound, transmitAll_offerFrame (by rw [State.setPort_port_same]) (by rw [State.setPort_port_same]), State.taking,
    setPort_setPort, State.setPort_port_same, frameSent_next h waiting, ← finish_buffered other, setPort_setPort, State.setPort_port_same]
  rfl

theorem next_sends {fs : List Frame} (h : fr.sort = .reply) (waiting : (s.port p).buffer = f :: fs)
    (last : (s.port p).lastSent = some .reply) (front : (s.port p).notices = n :: rest) : (f.kind ≠ 0x32 → ((frameSent p fr s).port p).reply.isSome = true) ∧
      ∃ m : Notice, (m = n ∨ n.urgent = false ∧ m.urgent = true) ∧ ((frameSent p fr s).port p).sending =
        some ⟨.notice, frameBytes 0x81 0 m.bytes, ⟨s.now, (6 + m.bytes.length) * 10⟩⟩ := by
  rw [frameSent_next h waiting, ← nextTaken_now (s := s) (p := p) (f := f) fs]
  exact served_sends (by rw [nextTaken_port]) (by rw [nextTaken_port]; exact last) (by rw [nextTaken_port]; exact front)

theorem next_unknown {fs : List Frame} (h : fr.sort = .reply) (waiting : (s.port p).buffer = f :: fs)
    (last : (s.port p).lastSent = some .reply) (front : (s.port p).notices = n :: rest) (kept : (s.port p).overflow = false)
    (unknown : requestKinds.contains f.kind.toNat = false) : ((frameSent p fr s).port p).reply = some Reply.unknownKind.bytes ∧
      ((frameSent p fr s).port p).notices = rest ∧ ((frameSent p fr s).port p).sending =
        some ⟨.notice, frameBytes 0x81 0 n.bytes, ⟨s.now, (6 + n.bytes.length) * 10⟩⟩ := by
  rw [frameSent_next h waiting, ← nextTaken_now (s := s) (p := p) (f := f) fs]
  exact served_unknown unknown (by rw [nextTaken_port]) (by rw [nextTaken_port]; exact last) (by rw [nextTaken_port]; exact front)
    (by rw [nextTaken_port]; exact kept)

/-- After a notice the decided reply goes out. -/
theorem answer_sent {r : List Byte} (h : fr.sort = .notice) (answer : (s.port p).reply = some r) (serves : (s.port p).inService = some f)
    (last : (s.port p).lastSent = some .notice) : ((frameSent p fr s).port p).reply = none ∧ ((frameSent p fr s).port p).sending =
      some ⟨.reply, frameBytes 0x80 f.tag r, ⟨s.now, (6 + r.length) * 10⟩⟩ := by
  have now : (s.setPort p { s.port p with sending := none }).now = s.now := congrArg (·.count) (State.setPort_timebase ..)
  rw [frameSent_notice h, transmitAll_port, State.setPort_port_same,
    transmit_answer (c := { s.port p with sending := none }) rfl answer (by rw [last]; exact nofun), now]
  unfold ControlPort.sendReply
  dsimp only
  rw [serves]
  exact ⟨rfl, rfl⟩

/-- Settles O58: the frame's end by its sort, with the next request behind a reply. -/
theorem frameTransmitted : Obligations.FrameTransmitted := by
  intro p s fr sending
  refine ⟨_, exec_frameTransmitted sending, fun notice => expired_same (notice_ends notice), fun reply empty => ?_,
    fun reply empty answer quiet => ?_, fun f fs reply waiting => ?_, fun n rest reply empty turn front kept => ?_,
    fun n rest f fs reply waiting last front => ?_, fun n rest f fs reply waiting last front kept unknown => ?_,
    fun n rest notice answer front kept => ?_, fun r f notice answer serves last => ?_⟩
  · obtain ⟨frame, service⟩ := reply_ends (s := s.atCount fr.timer.due) (p := p) reply empty
    exact ⟨expired_same frame, (congrArg ControlPort.service (expireAt_port ..)).trans service⟩
  · rw [expireAt_port]
    exact reply_ends_quiet reply empty answer quiet
  · have taken := next_taken (s := s.atCount fr.timer.due) (p := p) reply waiting
    rw [← expireAt_port] at taken
    refine ⟨congrArg (·.1) taken, congrArg (·.2) taken, fun run bound other => ?_⟩
    obtain ⟨u, arrived, same⟩ := next_arrives (s := s.atCount fr.timer.due) (p := p) reply waiting run bound other
    refine ⟨u, arrived, ?_⟩
    rw [expireAt_atCount (next_now (s := s.atCount fr.timer.due) (p := p) reply waiting), same]
  · rw [expireAt_port, frameSent_idle (s := s.atCount fr.timer.due) reply empty]
    exact idle_sends { (s.atCount fr.timer.due).port p with sending := none, inService := none } rfl turn front kept
      (s.atCount fr.timer.due)
  · rw [expireAt_port]
    exact next_sends (s := s.atCount fr.timer.due) reply waiting last front
  · rw [expireAt_port]
    exact next_unknown (s := s.atCount fr.timer.due) reply waiting last front kept unknown
  · rw [expireAt_port, frameSent_notice (s := s.atCount fr.timer.due) notice]
    have sent := idle_sends (p := p) { (s.atCount fr.timer.due).port p with sending := none } rfl (.inl answer) front kept
      (s.atCount fr.timer.due)
    exact ⟨sent.1, sent.2.2⟩
  · rw [expireAt_port]
    exact answer_sent (s := s.atCount fr.timer.due) notice answer serves last

end Sys2Proof.Machine
end
